-- ==== Sys2Proof/Word.lean ====
section
/-! DEFINITION. The word types of the device and the type of a sparse store. -/

namespace Sys2Proof

/-- One byte. -/
abbrev Byte := BitVec 8

/-- A 32-bit word: a register word (R9), a Nollek general register (R297). -/
abbrev W32 := BitVec 32

/-- A 64-bit word: a map entry (R174), a register pair (R27), a Nollek 64-bit CSR (R323). -/
abbrev W64 := BitVec 64

/-- A sparse store: pairs of key and value, the keys strictly rising. What an unlisted key holds is said where the
store is read. -/
abbrev SMap (α : Type) := List (Nat × α)

end Sys2Proof
end

