-- ==== Sys2Proof/Syntax.lean ====
section
/-! DEFINITION. The commands of the block, one constructor for each row of the command table, and the operands they
carry: what the outside world supplies with a command or an event. -/

namespace Sys2Proof

/-- A received datagram (R48, R548): its addresses, the header fields of R50 and the payload bytes. -/
structure PduIn where
  /-- Host port 0 to 15, or 16 for the management port (R44, R549). -/
  port : Nat := 0
  /-- Sub-interface it arrived on (R44). -/
  subif : Nat := 0
  /-- Local address entry of R548. -/
  entry : Nat := 0
  /-- Classified instance (R48), or `VIM_MGMT.INSTANCE` on the management port (R549). -/
  inst : Nat := 0
  /-- Source MAC address (R47). -/
  srcMac : Nat := 0
  /-- Source IP address in 128-bit form (R48). -/
  srcIp : Nat := 0
  /-- Source UDP port (R48). -/
  srcUdp : Nat := 0
  /-- Destination IP address in 128-bit form: the local address (R47). -/
  dstIp : Nat := 0
  /-- VERSION (R50). -/
  version : Nat := 0x13
  /-- TYPE (R52). -/
  type : Nat := 0
  /-- FLAGS (R50). -/
  flags : Nat := 0
  /-- DST_CONN (R50). -/
  dstConn : Nat := 0
  /-- SRC_CONN (R50). -/
  srcConn : Nat := 0
  /-- PSN (R50). -/
  psn : W32 := 0
  /-- ACK_PSN (R50). -/
  ackPsn : W32 := 0
  /-- SACK (R50). -/
  sack : W64 := 0
  /-- TAG (R50). -/
  tag : Nat := 0
  /-- Payload bytes (R53). -/
  payload : List Byte := []
  deriving DecidableEq, Repr

/-- A Pasesar datagram awaiting classification (R48): its addresses and the UDP payload. -/
structure Datagram where
  /-- Sub-interface it arrived on (R44). -/
  subif : Nat := 0
  /-- Local address entry of R548. -/
  entry : Nat := 0
  /-- Source MAC address (R47). -/
  srcMac : Nat := 0
  /-- Source IP address in 128-bit form (R48). -/
  srcIp : Nat := 0
  /-- Source UDP port (R48). -/
  srcUdp : Nat := 0
  /-- Destination IP address in 128-bit form (R47). -/
  dstIp : Nat := 0
  /-- UDP payload: the 32-byte header and the PDU's payload (R50). -/
  data : List Byte := []
  deriving DecidableEq, Repr

/-- A received Ethernet frame as the checks of R78 see it. -/
structure FrameIn where
  /-- Host port 0 to 15, or 16 for the management port (R44, R549). -/
  port : Nat := 0
  /-- Sub-interface (R44). -/
  subif : Nat := 0
  /-- The frame check sequence is right (R78 reason 0). -/
  fcsOk : Bool := true
  /-- Frame length in bytes, FCS included (R45). -/
  len : Nat := 64
  /-- Destination MAC address (R548); bit 40 is the group bit. -/
  dstMac : Nat := 0
  /-- Source MAC address (R47). -/
  srcMac : Nat := 0
  /-- VLAN ID of its one 802.1Q tag, if any (R45). -/
  vlan : Option Nat := none
  /-- It carries more than one tag (R45). -/
  extraTags : Bool := false
  /-- It carries an IPv4 or IPv6 packet (R548). -/
  ip : Bool := true
  /-- The IP header is valid (R78 reason 2). -/
  ipOk : Bool := true
  /-- The packet is an IP fragment (R548). -/
  fragment : Bool := false
  /-- The IP protocol is UDP (R548). -/
  udp : Bool := true
  /-- Source IP address in 128-bit form (R48). -/
  srcIp : Nat := 0
  /-- Destination IP address in 128-bit form (R548). -/
  dstIp : Nat := 0
  /-- Source UDP port (R48). -/
  srcUdp : Nat := 0
  /-- Destination UDP port (R548). -/
  dstUdp : Nat := 0
  /-- The UDP checksum is right and not 0 (R78 reason 3). -/
  sumOk : Bool := true
  /-- UDP payload (R50). -/
  data : List Byte := []
  deriving DecidableEq, Repr

/-- A `CMD` PDU: its header, the transfer descriptor of R53 and the command body of R80. The opcode is the command's
row. -/
structure CmdIn where
  /-- Header and addresses; its payload is left empty. -/
  pdu : PduIn := {}
  /-- OUT_LEN (R53). -/
  outLen : Nat := 0
  /-- IN_LEN (R53). -/
  inLen : Nat := 0
  /-- BUF_KEY (R53). -/
  bufKey : Nat := 0
  /-- XFLAGS (R53). -/
  xflags : Nat := 0
  /-- BUF_OFFSET (R53). -/
  bufOffset : Nat := 0
  /-- Bytes by which the body falls short of its 16 fixed bytes (R81). -/
  bodyCut : Nat := 0
  /-- The reserved bytes of the descriptor and of the body as one number (R53, R81). -/
  reserved : Nat := 0
  /-- CFLAGS (R80). -/
  cflags : Nat := 0
  /-- COUNT (R80). -/
  count : Nat := 0
  /-- LBA (R80). -/
  lba : Nat := 0
  /-- PARAMS (R80). -/
  params : List Byte := []
  deriving DecidableEq, Repr

/-- A PDU waiting for lower PSNs before it is handed to the command engine (R65). -/
inductive HeldPdu where
  /-- A `CMD` with its opcode. -/
  | cmd (op : Nat) (c : CmdIn)
  /-- An `ABORT` with its TARGET_TAG and source MAC. -/
  | abort (target mac : Nat)
  /-- A `CLOSE` with its source MAC. -/
  | close (mac : Nat)
  deriving DecidableEq, Repr

/-- A guard of a Nollek instruction (R299): predicate number and inversion. -/
structure Guard where
  /-- Predicate register 0 to 7 (R299). -/
  psel : Fin 8 := 0
  /-- The guard is inverted (R299). -/
  neg : Bool := false
  deriving DecidableEq, Repr

/-- A general register number (R297). -/
abbrev GReg := Fin 32

/-- A predicate register number (R297). -/
abbrev PReg := Fin 8

/-- A byte lane's result of DRAM training (R377, R391). -/
structure LaneIn where
  /-- Read eye, 1/128 UI. -/
  rdEye : Nat := 64
  /-- Write eye, 1/128 UI. -/
  wrEye : Nat := 64
  /-- Read delay set, 1/64 UI. -/
  rdDly : Nat := 0
  /-- Write delay set, 1/64 UI. -/
  wrDly : Nat := 0
  deriving DecidableEq, Repr

/-- A DIMM as start-up finds it (R371, R372), with its training result (R377). -/
structure DimmIn where
  /-- A DIMM answers with a good SPD. -/
  present : Bool := false
  /-- The SPD lists nothing outside R371 beside what the fields below say. -/
  supported : Bool := false
  /-- Capacity, GiB. -/
  cap : Nat := 0
  /-- Ranks, 1 or 2. -/
  ranks : Nat := 1
  /-- x4 devices, else x8. -/
  x4 : Bool := true
  /-- Device density, Gb. -/
  density : Nat := 16
  /-- Highest supported data rate, MT/s. -/
  rate : Nat := 4800
  /-- Lanes 0 to 9. -/
  lanes : List LaneIn := []
  deriving DecidableEq, Repr

/-- What a DRAM burst holds, as far as R389 tells requesters apart: the spec does not lay these stores out. -/
inductive DramObj where
  /-- Nothing R389 names. -/
  | plain
  /-- Map segment, by key instance × 65,536 + segment, and the item number plus 1 of the read that looked it up (0: none). -/
  | mapSegment (seg reader : Nat)
  /-- A record of the protected write cache, by CADDR. -/
  | cacheRec (caddr : Nat)
  /-- A connection context. -/
  | conn (c : Nat)
  /-- An instance context. -/
  | inst (i : Nat)
  /-- The image or data that a scan loads through DP4, by its item. -/
  | scan (n : Nat)
  deriving DecidableEq, Repr


/-- What firmware found of a die when it brought its channel up (R168, R182). -/
structure DieIn where
  /-- The die answers. -/
  answers : Bool := true
  /-- Its erase blocks. -/
  blocks : Nat := 0
  /-- Those of them that are bad. -/
  bad : List Nat := []
  /-- Payload bytes of a block. -/
  blkBytes : Nat := 0
  /-- Payload bytes of a block in SLC mode. -/
  slcBytes : Nat := 0
  /-- Its part of the map-checkpoint region, bytes. -/
  ckptBytes : Nat := 0
  deriving DecidableEq, Repr

/-- Who presents an operation to the allocator (R215, R216). -/
structure BufReq where
  /-- The unit, by its agent ID: its allocator port follows. -/
  unit : Nat := 1073
  /-- The requester ID that the operation carries. -/
  r : Nat := 0
  /-- The item it works for; 0 none. -/
  item : Nat := 0
  /-- It is presented in the same allocator cycle as the operation before it. -/
  same : Bool := false
  /-- The SRAM reports an uncorrectable error in the first 8 bytes of the buffer taken (R214). -/
  bad : Bool := false
  deriving DecidableEq, Repr

/-- Where a new skein lies (R185): the spec leaves the choice of slot and block to the device. -/
structure Place where
  /-- Flash group. -/
  group : Nat := 0
  /-- Die slot. -/
  slot : Nat := 0
  /-- Erase block. -/
  block : Nat := 0
  /-- First page of the program unit. -/
  page : Nat := 0
  /-- The unit is the last of its blocks. -/
  last : Bool := false
  deriving DecidableEq, Repr

/-- The end of one LDPC decode (R190). -/
structure DecodeIn where
  /-- Item the codeword belongs to, or number of the background reading. -/
  item : Nat := 0
  /-- It belongs to background reading. -/
  bg : Bool := false
  /-- Grain of its frame. -/
  grain : Nat := 0
  /-- Its number in the frame. -/
  cw : Nat := 0
  /-- Die the codeword was sensed on: the frame's own, or a skein member's. -/
  die : Nat := 0
  /-- The decode corrected the codeword. -/
  ok : Bool := true
  /-- Bits corrected. -/
  bits : Nat := 0
  /-- post(cw): time booked from the grain's decode to the `RESP`, ns. -/
  post : Nat := 0
  /-- A rebuild cannot take what it needs from the reserve in time (R131). -/
  short : Bool := false
  deriving DecidableEq, Repr

/-- One demand of a work plan (R134): an amount of a resource over a span of slots, counted from the present slot of the
calendar the command is booked on. The spec leaves the plan to the device. -/
structure Demand where
  /-- Resource of R125. -/
  res : Nat := 0
  /-- Amount, in the units of R125; a level for resource 2,267. -/
  amt : Nat := 0
  /-- First slot. -/
  first : Nat := 0
  /-- Last slot. -/
  last : Nat := 0
  /-- It books the later programming of a write's data, on the coarse calendar (R133). -/
  late : Bool := false
  deriving DecidableEq, Repr

/-- A mirror record as a knot link carries it (R438). -/
structure MirrorIn where
  /-- Instance. -/
  inst : Nat
  /-- Grain. -/
  grain : Nat
  /-- Blocks it carries. -/
  mask : Nat
  /-- Blocks its frame was made with. -/
  made : Nat
  /-- ASN of the write. -/
  asn : Nat
  /-- Stored frame. -/
  frame : List Byte
  deriving DecidableEq, Repr

/-- What the sensors and power monitors read at a sample (R446, R447). -/
structure ThermIn where
  /-- Readings of TS00 to TS63 in 1/16 °C; none where the sensor reports a conversion error. -/
  temps : List (Option Int) := []
  /-- Mean power of PD00 to PD23 over the sample, mW. -/
  pmon : List Nat := []
  deriving DecidableEq, Repr

/-- A part as its owner receives it (R429, R436), or the abort of one (R155). -/
structure PartIn where
  /-- The receiving device, by its knot link. -/
  peer : Nat := 0
  /-- The receiving device's number of the command. -/
  tag : Nat := 0
  /-- It aborts the parts of that number. -/
  abort : Bool := false
  /-- Opcode. -/
  op : Nat := 0
  /-- Instance. -/
  inst : Nat := 0
  /-- First block. -/
  lba : Nat := 0
  /-- Blocks. -/
  count : Nat := 0
  /-- ASN of the command. -/
  asn : Nat := 0
  /-- Time that remains to the working deadline, us; 0xFFFFFFFF without one. -/
  us : Nat := 0xFFFFFFFF
  /-- CFLAGS. -/
  cflags : Nat := 0
  /-- PARAMS. -/
  params : List Byte := []
  /-- Staged data of a `WRITE`, or the image a `SCAN` runs. -/
  data : List Byte := []
  deriving DecidableEq, Repr

/-- The end of a part as it comes back (R429). -/
structure PartEnd where
  /-- The command. -/
  item : Nat := 0
  /-- The owner, by its knot link. -/
  peer : Nat := 0
  /-- First block of the part. -/
  lba : Nat := 0
  /-- Blocks of the part. -/
  count : Nat := 0
  /-- Status. -/
  status : Nat := 0
  /-- RESULT of the part. -/
  result : List Byte := []
  /-- Block data or result records. -/
  data : List Byte := []
  deriving DecidableEq, Repr

/-- The commands of the block: one constructor for each row of the command table. -/
inductive Instr where
  /-- `REGISTER_WRITE` (R6): A write to a register field that has no row of its own acts as its access code states. -/
  | registerWrite (req off width : Nat) (v : BitVec 32) (parity : Bool)
  /-- `ERR_CLR` (R29): Writing 1 to BLK_CTRL.ERR_CLR sets the block's ERR_CNT and its saturating counters to 0. -/
  | errClr (page req : Nat)
  /-- `IRQ_FORCE` (R29): A write to IRQ_FORCE sets the named IRQ_STAT bits as a hardware event would. -/
  | irqForce (page req : Nat) (bits : BitVec 32)
  /-- `BEGIN` (R33): TXN_CTRL BEGIN opens a configuration transaction, or is refused if one exists. -/
  | begin (req : Nat)
  /-- `COMMIT` (R37): TXN_CTRL COMMIT by the owner starts the admission hold and sends apply requests, or enters PROGRAMMING for fuse-backed fields. -/
  | commit (req : Nat)
  /-- `ROLLBACK` (R41): TXN_CTRL ROLLBACK by the owner discards every shadow and returns the transaction to IDLE. -/
  | rollback (req : Nat)
  /-- `BLOCK_APPLY` (R37): A block reaching its safe point copies its committed shadows to the active values and reports. -/
  | blockApply (page : Nat)
  /-- `HOLD_DEADLINE` (R38): At 2 µs after COMMIT with a prompt-apply report missing, the hold ends and RESULT becomes INCOMPLETE. -/
  | holdDeadline
  /-- `TXN_TIMEOUT` (R41): An OPEN transaction without owner access for TXN_TIMEOUT ms is rolled back with TIMED_OUT. -/
  | txnTimeout
  /-- `FUSE_SLOT_PROGRAMMED` (R43): Programming of a settings-group slot ends and its CRC is verified, moving to the next slot, group or commit. -/
  | fuseSlotProgrammed (ok : Bool)
  /-- `FRAME_RECEIVE` (R78): A received Ethernet frame is checked in order and dropped, queued to firmware or passed on as Pasesar traffic. -/
  | frameReceive (f : FrameIn) (taken : Nat)
  /-- `CLASSIFICATION` (R48): A queued datagram's key is searched in SB0's classifier region to find its instance or drop it. -/
  | classification (badPrio badAssoc : Bool)
  /-- `HELLO` (R56): A HELLO creates a connection with agreed parameters, is resent HELLO_ACK, or is refused with CLOSE. -/
  | hello (p : PduIn)
  /-- `CLOSE` (R58): A received CLOSE moves the connection to CLOSING, or frees it once both CLOSE PDUs are acknowledged. -/
  | close (p : PduIn)
  /-- `KEEPALIVE` (R70): A received KEEPALIVE resets the connection's keepalive timer. -/
  | keepalive (p : PduIn)
  /-- `ACK` (R54): A received ACK advances the acknowledgement state and applies its ring release records. -/
  | ack (p : PduIn)
  /-- `NAK` (R68): A received NAK makes the device retransmit the named PDU at once. -/
  | nak (p : PduIn)
  /-- `DATA_OUT` (R72): A DATA_OUT places write data inside an outstanding grant, or ends the command with LENGTH_MISMATCH. -/
  | dataOut (p : PduIn)
  /-- `ABORT` (R100): An ABORT is answered COMPLETED, NOT_FOUND or NOT_ABORTABLE, or marks its target aborted. -/
  | abort (p : PduIn)
  /-- `SEND_XFER_RDY` (R71): The device sends the next XFER_RDY grant once fewer than two are outstanding and staging buffers are held. -/
  | sendXferRdy (item : Nat)
  /-- `DATA_IN_SEND` (R74): The device sends a command's output as DATA_IN PDUs, within IN_LEN or ring room. -/
  | dataInSend (item len : Nat)
  /-- `FRAME_TRANSMIT` (R117): The MAC transmits, or without link discards at wire pace, the next frame of a sub-interface. -/
  | frameTransmit (port sub : Nat)
  /-- `RETRANSMIT_TIMEOUT` (R69): Retransmission timer expiry resends the oldest unacknowledged PDU, doubling the timeout, or fails the connection. -/
  | retransmitTimeout (conn : Nat)
  /-- `KEEPALIVE_SEND` (R70): A connection with nothing sent for KEEPALIVE_MS sends a KEEPALIVE. -/
  | keepaliveSend (conn : Nat)
  /-- `KEEPALIVE_TIMEOUT` (R59): Nothing received for 3 × KEEPALIVE_MS fails the connection with CLOSE KEEPALIVE. -/
  | keepaliveTimeout (conn : Nat)
  /-- `DELAYED_ACK` (R67): ACK_DELAY_US after an unacknowledged sequenced PDU, the device sends a separate ACK. -/
  | delayedAck (conn : Nat)
  /-- `HELLO_RCVD_TIMEOUT` (R55): A connection in HELLO_RCVD for 1 s without a sequenced PDU or ACK is freed silently. -/
  | helloRcvdTimeout (conn : Nat)
  /-- `DATA_TIMEOUT` (R73): DATA_TIMEOUT_US without completion of write data ends the command with LENGTH_MISMATCH. -/
  | dataTimeout (item : Nat)
  /-- `SEND_CLOSE_NORMAL` (R58): When no command remains on a closing connection, the device sends its own CLOSE NORMAL. -/
  | sendCloseNormal (conn : Nat)
  /-- `LINK_CHANGE` (R79): A host sub-interface gains or loses link and FEC lock. -/
  | linkChange (port sub : Nat) (up : Bool)
  /-- `READ` (R90): A READ command is checked at receipt and offered for admission to read COUNT blocks. -/
  | read (c : CmdIn)
  /-- `WRITE` (R94): A WRITE command is checked and offered for admission to write COUNT blocks. -/
  | write (c : CmdIn)
  /-- `WRITE_ZEROES` (R175): WRITE_ZEROES sets whole grains UNMAPPED and writes zero frames for partial grains. -/
  | writeZeroes (c : CmdIn)
  /-- `DEALLOCATE` (R175): DEALLOCATE makes blocks read as zeroes and frees their flash. -/
  | deallocate (c : CmdIn)
  /-- `FLUSH` (R108): FLUSH covers lower-ASN queued and running commands and, with MEDIA, the instance's cached writes. -/
  | flush (c : CmdIn)
  /-- `SCAN` (R366): SCAN runs a loaded filter program over an extent and streams the results. -/
  | scan (c : CmdIn)
  /-- `LOAD_PROGRAM` (R340): LOAD_PROGRAM checks a filter image and returns a program handle or a load error code. -/
  | loadProgram (c : CmdIn)
  /-- `UNLOAD_PROGRAM` (R341): UNLOAD_PROGRAM removes a program handle from future scans. -/
  | unloadProgram (c : CmdIn)
  /-- `SEARCH` (R283): SEARCH looks up up to 8 keys in the instance's search region. -/
  | search (c : CmdIn)
  /-- `TABLE_UPDATE` (R286): TABLE_UPDATE writes or invalidates search or classifier entries record by record. -/
  | tableUpdate (c : CmdIn)
  /-- `DIGEST` (R266): DIGEST computes a SHA-2 or HMAC digest over COUNT blocks. -/
  | digest (c : CmdIn)
  /-- `COMPARE_DIGEST` (R267): COMPARE_DIGEST compares the blocks' digest with an expected value and returns a compare word. -/
  | compareDigest (c : CmdIn)
  /-- `SEAL_RECORD` (R412): SEAL_RECORD has the SRD seal a record digest and optionally lock blocks. -/
  | sealRecord (c : CmdIn)
  /-- `VERIFY_SEAL` (R414): VERIFY_SEAL has the SRD check a token's MAC. -/
  | verifySeal (c : CmdIn)
  /-- `GET_SEAL_CHECKPOINT` (R415): GET_SEAL_CHECKPOINT returns a checkpoint, a token or key information from the SRD. -/
  | getSealCheckpoint (c : CmdIn)
  /-- `IDENTIFY` (R84): IDENTIFY returns 4,096 B describing the part and instance. -/
  | identify (c : CmdIn)
  /-- `GET_LOG` (R91): GET_LOG returns a log page from a byte offset, optionally clearing returned entries. -/
  | getLog (c : CmdIn)
  /-- `SET_FEATURE` (R85): SET_FEATURE sets a connection feature such as ASYNC_MASK or DEFERRED_EVENT. -/
  | setFeature (c : CmdIn)
  /-- `GET_FEATURE` (R85): GET_FEATURE returns a connection feature's value. -/
  | getFeature (c : CmdIn)
  /-- `CREATE_INSTANCE` (R149): CREATE_INSTANCE creates an instance with its key, context, region and settings, or refuses. -/
  | createInstance (c : CmdIn)
  /-- `DELETE_INSTANCE` (R160): DELETE_INSTANCE ends an instance's work, destroys its key and frees its number. -/
  | deleteInstance (c : CmdIn)
  /-- `RESET_INSTANCE` (R109): RESET_INSTANCE stops admission for an instance and ends its items under the fates of R106. -/
  | resetInstance (c : CmdIn)
  /-- `SET_QUOTA` (R152): SET_QUOTA changes selected quotas, bindings and capacity of an instance. -/
  | setQuota (c : CmdIn)
  /-- `MIGRATION_LOG_STOP` (R161): MIGRATION_LOG STOP ends logging and discards the log. -/
  | migrationLogStop (c : CmdIn)
  /-- `MIGRATION_LOG_START` (R161): MIGRATION_LOG START begins logging in LIST or BITMAP mode. -/
  | migrationLogStart (c : CmdIn)
  /-- `MIGRATION_LOG_READ` (R162): MIGRATION_LOG READ returns the log without changing it. -/
  | migrationLogRead (c : CmdIn)
  /-- `MIGRATION_LOG_READ_CLEAR` (R163): MIGRATION_LOG READ_CLEAR returns a snapshot of the log and empties it. -/
  | migrationLogReadClear (c : CmdIn)
  /-- `FW_DOWNLOAD` (R497): FW_DOWNLOAD stages bytes of a firmware image in DRAM. -/
  | fwDownload (c : CmdIn)
  /-- `FW_ACTIVATE` (R498): FW_ACTIVATE verifies, programs and starts a staged or reverted image. -/
  | fwActivate (c : CmdIn)
  /-- `REG_READ` (R86): REG_READ performs register reads as requester 0x18. -/
  | regRead (c : CmdIn)
  /-- `REG_WRITE` (R86): REG_WRITE performs register writes as requester 0x18. -/
  | regWrite (c : CmdIn)
  /-- `DEVICE_RESET` (R110): DEVICE_RESET stops admission, ends all items and programs cached writes before the reset. -/
  | deviceReset (c : CmdIn)
  /-- `ADMISSION_DECISION` (R134): Cadence computes a command's deadline and books its plan, committing ACCEPT or BUSY. -/
  | admissionDecision (plans : List (List Demand)) (late : Bool) (ns : Nat)
  /-- `BEST_EFFORT_START` (R137): A queued best-effort command starts once capacity under R131 allows. -/
  | bestEffortStart (item : Nat)
  /-- `CALENDAR_SLOT_ADVANCE` (R126): As time passes, a coarse slot entering the fine horizon spreads its bookings and standing reservations. -/
  | calendarSlotAdvance (us : Nat)
  /-- `COMMAND_COMPLETE` (R99): A command's RESP is committed to egress, fixing its status at its completion point. -/
  | commandComplete (item : Nat)
  /-- `ABORT_COMPLETE` (R102): Once an aborted target holds no engine work, hitch or grant, ABORT_RESP ABORTED is committed. -/
  | abortComplete (item : Nat)
  /-- `DEADLINE_WATCHDOG` (R138): The watchdog at deadline less 4 µs commits RESP DEADLINE_FAULT and squashes remaining work. -/
  | deadlineWatchdog (item unit : Nat)
  /-- `FLUSH_COMPLETE` (R108): FLUSH's RESP is committed when every covered command has completed and covered data is programmed. -/
  | flushComplete (item : Nat)
  /-- `INSTANCE_RESET_COMPLETE` (R157): When an instance's items, hitches and wipes are clear, RESET_INSTANCE completes and the instance returns to ACTIVE. -/
  | instanceResetComplete (inst : Nat)
  /-- `INSTANCE_DELETE_COMPLETE` (R160): When deletion's conditions hold, DELETE_INSTANCE completes and the number becomes FREE. -/
  | instanceDeleteComplete (inst : Nat)
  /-- `DEVICE_RESET_EFFECT` (R110): After RESP and up to 2 ms of retransmission, unacknowledged outcomes are journalled and the reset takes effect. -/
  | deviceResetEffect
  /-- `ACTIVATION_GRACE_EXPIRY` (R111): 5 ms after FW_ACTIVATE acceptance, unfinished firmware-dependent items end with FW_ACTIVATION. -/
  | activationGraceExpiry
  /-- `DIE_DISPATCH` (R195): A free die starts the next queued operation in priority order. -/
  | dieDispatch (die : Nat)
  /-- `SENSE_COMPLETE` (R189): A flash sense completes and its codewords are transferred for decoding. -/
  | senseComplete (die : Nat)
  /-- `CODEWORD_DECODE` (R190): An LDPC decode ends; a failure chooses retry, rebuild or fail. -/
  | codewordDecode (d : DecodeIn)
  /-- `SUSPEND_COMPLETE` (R193): A program or erase suspension completes and queued senses proceed. -/
  | suspendComplete (die : Nat)
  /-- `PROGRAM_COMPLETE` (R200): A program operation passes status; once the whole skein passes, cache records swap to FLASH. -/
  | programComplete (die : Nat)
  /-- `PROGRAM_FAILURE` (R201): A failed program reprograms cached frames, retires the block and reads back its earlier units. -/
  | programFailure (die : Nat) (place : Place)
  /-- `ERASE_COMPLETE` (R177): An erase passes status and its block becomes free. -/
  | eraseComplete (die : Nat)
  /-- `ERASE_FAILURE` (R202): An erase failure retires the block. -/
  | eraseFailure (die : Nat)
  /-- `DIE_TIMEOUT` (R202): A die silent for twice TBERS_US is marked failed. -/
  | dieTimeout (die : Nat)
  /-- `CHANNEL_TRAINING_DONE` (R168): Flash channel training after an enabling commit ends with DONE or FAIL. -/
  | channelTrainingDone (ch : Nat) (fail : Bool) (eye : Nat) (dies : List DieIn)
  /-- `MAP_UPDATE` (R176): The mapping engine applies a map-entry compare-and-swap at a block commit, relocation or drain. -/
  | mapUpdate (item key : Nat) (old new : BitVec 64)
  /-- `MAP_SEGMENT_REBUILD` (R181): A map segment lost to a DRAM error is rebuilt from checkpoint and delta log. -/
  | mapSegmentRebuild (seg : Nat)
  /-- `MAP_CHECKPOINT` (R180): Background work writes a checkpoint of a changed map segment. -/
  | mapCheckpoint (seg : Nat)
  /-- `CACHE_DRAIN` (R199): Background work merges and packs cached frames into program units. -/
  | cacheDrain (place : Place)
  /-- `GARBAGE_COLLECTION` (R208): Garbage collection relocates the valid data of the emptiest block and erases it. -/
  | garbageCollection (g : Nat) (place : Place)
  /-- `WEAR_LEVELLING` (R208): Wear levelling moves data from least-erased to most-erased blocks. -/
  | wearLevelling (g : Nat) (place : Place)
  /-- `SCRUB` (R208): Scrub reads a closed block and queues it for refresh if needed. -/
  | scrub (die block : Nat)
  /-- `CALIBRATION` (R208): Calibration searches a block group's read thresholds. -/
  | calibration (die block thresh : Nat)
  /-- `REFRESH` (R191): A queued grain is refreshed to another skein. -/
  | refresh (keys : List Nat) (place : Place)
  /-- `DIE_REBUILD` (R188): Valid data of a failed die is rebuilt into other skeins. -/
  | dieRebuild (keys : List Nat)
  /-- `BACKGROUND_REREAD` (R192): A failed grain is retried with the full ladder and rebuild, then refreshed or set LOST. -/
  | backgroundReread (key : Nat)
  /-- `ALLOC` (R219): ALLOC takes a buffer from a pool or fall-back pool, or returns QUOTA or EMPTY. -/
  | alloc (q : BufReq) (p : Nat) (booked fb chain : Bool)
  /-- `CELL` (R226): CELL appends a new pool-0 cell after a chain's tail. -/
  | cell (q : BufReq) (t : Nat)
  /-- `HITCH` (R223): HITCH places a new holder in a buffer's lowest empty hitch slot. -/
  | hitch (q : BufReq) (h b : Nat)
  /-- `FREE` (R224): FREE empties a holder's hitch and returns the buffer when the last slot empties. -/
  | free (q : BufReq) (h : Nat)
  /-- `FREE_LIST_REBUILD` (R214): A corrupt free list is rebuilt from the holder records and the pool is usable again. -/
  | freeListRebuild (p : Nat)
  /-- `ENGINE_DISPATCH` (R249): An idle compression or decompression engine takes the first eligible frame. -/
  | engineDispatch (grp : Nat)
  /-- `FRAME_COMPRESSED` (R243): A compression engine finishes a frame and self-checks it before release. -/
  | frameCompressed (e : Nat) (cand : List Byte) (poison : Bool)
  /-- `FRAME_DECODED` (R244): A decompression engine finishes a frame and applies its checks. -/
  | frameDecoded (e : Nat) (arrived : Option (List Byte)) (poison : Bool)
  /-- `FWQ_TAIL` (R251): A write to FWQ_TAIL hands new descriptors to a firmware queue. -/
  | fwqTail (grp req v : Nat)
  /-- `FWQ_DESCRIPTOR_START` (R251): A group starts the next firmware-queue descriptor and checks it. -/
  | fwqDescriptorStart (grp : Nat)
  /-- `FWQ_DESCRIPTOR_DONE` (R251): A descriptor's work ends and its STATUS and RESULT_LEN are written back. -/
  | fwqDescriptorDone (grp idx : Nat)
  /-- `LOAD` (R260): KS_CMD LOAD computes a key slot's HMAC states from the staged key. -/
  | load (slot req : Nat)
  /-- `ERASE` (R260): KS_CMD ERASE zeroes a key slot. -/
  | erase (slot req : Nat)
  /-- `LOCK` (R260): KS_CMD LOCK locks a key slot until the next PD10 reset. -/
  | lock (slot req : Nat)
  /-- `DIGEST_BLOCK_END` (R259): A digest engine ends a block and takes the next eligible context. -/
  | digestBlockEnd (e : Nat) (upA upB : Bool)
  /-- `SEARCH_RESULT` (R278): A bank's search result is ready 12 cycles after its slot. -/
  | searchResult (b : Nat) (badPrio badAssoc : Bool)
  /-- `UPDATE_RECORD_SLOT` (R290): A TABLE_UPDATE record is written in its reserved slot, rejected or missed. -/
  | updateRecordSlot (item : Nat) (delivered : Bool)
  /-- `REGION_SWEEP` (R280): A region sweep invalidates one entry per unbooked slot. -/
  | regionSweep (b : Nat)
  /-- `ENTRY_PARITY_CHECK` (R295): Periodic checking of an entry corrects or invalidates it. -/
  | entryParityCheck (b idx err : Nat)
  /-- `FW_SEARCH` (R293): FW_CMD SEARCH searches a bank with the staged key and mask. -/
  | fwSearch (bank : Nat) (global : Bool)
  /-- `FW_WRITE` (R293): FW_CMD WRITE writes an entry from the staging registers. -/
  | fwWrite (bank index : Nat)
  /-- `FW_INVALIDATE` (R293): FW_CMD INVALIDATE sets an entry to VALID 0. -/
  | fwInvalidate (bank index : Nat)
  /-- `ADD` (R304): ADD writes gA + gB. -/
  | add (core : Nat) (g : Guard) (d a b : GReg)
  /-- `SUB` (R304): SUB writes gA − gB. -/
  | sub (core : Nat) (g : Guard) (d a b : GReg)
  /-- `ADDS` (R304): ADDS writes a saturated sum. -/
  | adds (core : Nat) (g : Guard) (d a b : GReg)
  /-- `SUBS` (R304): SUBS writes a saturated difference. -/
  | subs (core : Nat) (g : Guard) (d a b : GReg)
  /-- `AND` (R304): AND writes gA AND gB. -/
  | and (core : Nat) (g : Guard) (d a b : GReg)
  /-- `OR` (R304): OR writes gA OR gB. -/
  | or (core : Nat) (g : Guard) (d a b : GReg)
  /-- `XOR` (R304): XOR writes gA XOR gB. -/
  | xor (core : Nat) (g : Guard) (d a b : GReg)
  /-- `ANDN` (R304): ANDN writes gA AND NOT gB. -/
  | andn (core : Nat) (g : Guard) (d a b : GReg)
  /-- `SHL` (R307): SHL shifts left by gB[7:0]. -/
  | shl (core : Nat) (g : Guard) (d a b : GReg)
  /-- `SHR` (R307): SHR shifts right logically by gB[7:0]. -/
  | shr (core : Nat) (g : Guard) (d a b : GReg)
  /-- `SAR` (R307): SAR shifts right arithmetically by gB[7:0]. -/
  | sar (core : Nat) (g : Guard) (d a b : GReg)
  /-- `ROT` (R307): ROT rotates right by gB[7:0] mod 32. -/
  | rot (core : Nat) (g : Guard) (d a b : GReg)
  /-- `MIN` (R304): MIN writes the signed minimum. -/
  | min (core : Nat) (g : Guard) (d a b : GReg)
  /-- `MAX` (R304): MAX writes the signed maximum. -/
  | max (core : Nat) (g : Guard) (d a b : GReg)
  /-- `MINU` (R304): MINU writes the unsigned minimum. -/
  | minu (core : Nat) (g : Guard) (d a b : GReg)
  /-- `MAXU` (R304): MAXU writes the unsigned maximum. -/
  | maxu (core : Nat) (g : Guard) (d a b : GReg)
  /-- `NEG` (R305): NEG writes 0 − gA. -/
  | neg (core : Nat) (g : Guard) (d a : GReg)
  /-- `NEGS` (R305): NEGS writes a saturated negation. -/
  | negs (core : Nat) (g : Guard) (d a : GReg)
  /-- `ABS` (R305): ABS writes the absolute value. -/
  | abs (core : Nat) (g : Guard) (d a : GReg)
  /-- `CLZ` (R304): CLZ writes the count of leading zeros. -/
  | clz (core : Nat) (g : Guard) (d a : GReg)
  /-- `POPC` (R304): POPC writes the number of bits set. -/
  | popc (core : Nat) (g : Guard) (d a : GReg)
  /-- `BSWAP` (R304): BSWAP reverses the bytes of gA. -/
  | bswap (core : Nat) (g : Guard) (d a : GReg)
  /-- `SEXTB` (R304): SEXTB sign-extends bits [7:0]. -/
  | sextb (core : Nat) (g : Guard) (d a : GReg)
  /-- `SEXTH` (R304): SEXTH sign-extends bits [15:0]. -/
  | sexth (core : Nat) (g : Guard) (d a : GReg)
  /-- `ZEXTH` (R304): ZEXTH zero-extends bits [15:0]. -/
  | zexth (core : Nat) (g : Guard) (d a : GReg)
  /-- `MUL` (R304): MUL writes the low word of the product. -/
  | mul (core : Nat) (g : Guard) (d a b : GReg)
  /-- `MULH` (R304): MULH writes the high word of the signed product. -/
  | mulh (core : Nat) (g : Guard) (d a b : GReg)
  /-- `MULHU` (R304): MULHU writes the high word of the unsigned product. -/
  | mulhu (core : Nat) (g : Guard) (d a b : GReg)
  /-- `MAC` (R304): MAC adds gA × gB to gD. -/
  | mac (core : Nat) (g : Guard) (d a b : GReg)
  /-- `DIV` (R305): DIV writes the signed quotient. -/
  | div (core : Nat) (g : Guard) (d a b : GReg)
  /-- `DIVU` (R305): DIVU writes the unsigned quotient. -/
  | divu (core : Nat) (g : Guard) (d a b : GReg)
  /-- `REM` (R305): REM writes the signed remainder. -/
  | rem (core : Nat) (g : Guard) (d a b : GReg)
  /-- `REMU` (R305): REMU writes the unsigned remainder. -/
  | remu (core : Nat) (g : Guard) (d a b : GReg)
  /-- `ADDI` (R303): ADDI adds a sign-extended immediate. -/
  | addi (core : Nat) (g : Guard) (d a : GReg) (imm : BitVec 12)
  /-- `ANDI` (R303): ANDI ANDs a zero-extended immediate. -/
  | andi (core : Nat) (g : Guard) (d a : GReg) (imm : BitVec 12)
  /-- `ORI` (R303): ORI ORs a zero-extended immediate. -/
  | ori (core : Nat) (g : Guard) (d a : GReg) (imm : BitVec 12)
  /-- `XORI` (R303): XORI XORs a zero-extended immediate. -/
  | xori (core : Nat) (g : Guard) (d a : GReg) (imm : BitVec 12)
  /-- `SHLI` (R303): SHLI shifts left by an immediate amount. -/
  | shli (core : Nat) (g : Guard) (d a : GReg) (n : Fin 32)
  /-- `SHRI` (R303): SHRI shifts right logically by an immediate amount. -/
  | shri (core : Nat) (g : Guard) (d a : GReg) (n : Fin 32)
  /-- `SARI` (R303): SARI shifts right arithmetically by an immediate amount. -/
  | sari (core : Nat) (g : Guard) (d a : GReg) (n : Fin 32)
  /-- `ROTI` (R303): ROTI rotates right by an immediate amount. -/
  | roti (core : Nat) (g : Guard) (d a : GReg) (n : Fin 32)
  /-- `CMP` (R308): CMP sets a predicate from a register comparison. -/
  | cmp (core : Nat) (g : Guard) (d : PReg) (c : Fin 8) (a b : GReg)
  /-- `CMPI` (R308): CMPI sets a predicate from an immediate comparison. -/
  | cmpi (core : Nat) (g : Guard) (d : PReg) (c : Fin 4) (a : GReg) (imm : BitVec 12)
  /-- `PAND` (R309): PAND ANDs two predicates. -/
  | pand (core : Nat) (g : Guard) (d a b : PReg)
  /-- `POR` (R309): POR ORs two predicates. -/
  | por (core : Nat) (g : Guard) (d a b : PReg)
  /-- `PXOR` (R309): PXOR XORs two predicates. -/
  | pxor (core : Nat) (g : Guard) (d a b : PReg)
  /-- `PANDN` (R309): PANDN ANDs a predicate with an inverted one. -/
  | pandn (core : Nat) (g : Guard) (d a b : PReg)
  /-- `PNOT` (R309): PNOT inverts a predicate. -/
  | pnot (core : Nat) (g : Guard) (d a : PReg)
  /-- `PSETG` (R309): PSETG sets a predicate if gA is not 0. -/
  | psetg (core : Nat) (g : Guard) (d : PReg) (a : GReg)
  /-- `PGET` (R309): PGET copies the predicates into gD. -/
  | pget (core : Nat) (g : Guard) (d : GReg)
  /-- `PPUT` (R309): PPUT sets p1 to p7 from gA. -/
  | pput (core : Nat) (g : Guard) (a : GReg)
  /-- `MOVL` (R303): MOVL loads a zero-extended 16-bit immediate. -/
  | movl (core : Nat) (g : Guard) (d : GReg) (imm : BitVec 16)
  /-- `MOVH` (R303): MOVH sets the upper half of gD. -/
  | movh (core : Nat) (g : Guard) (d : GReg) (imm : BitVec 16)
  /-- `LB` (R298): LB loads a sign-extended byte. -/
  | lb (core : Nat) (g : Guard) (d a : GReg) (imm : BitVec 12)
  /-- `LBU` (R298): LBU loads a zero-extended byte. -/
  | lbu (core : Nat) (g : Guard) (d a : GReg) (imm : BitVec 12)
  /-- `LH` (R298): LH loads a sign-extended half-word. -/
  | lh (core : Nat) (g : Guard) (d a : GReg) (imm : BitVec 12)
  /-- `LHU` (R298): LHU loads a zero-extended half-word. -/
  | lhu (core : Nat) (g : Guard) (d a : GReg) (imm : BitVec 12)
  /-- `LW` (R298): LW loads a word. -/
  | lw (core : Nat) (g : Guard) (d a : GReg) (imm : BitVec 12)
  /-- `LDX` (R310): LDX performs an indexed or post-increment load. -/
  | ldx (core : Nat) (g : Guard) (d a b : GReg) (width : Fin 5) (mode : Fin 4)
  /-- `SB` (R298): SB stores a byte. -/
  | sb (core : Nat) (g : Guard) (d a : GReg) (imm : BitVec 12)
  /-- `SH` (R298): SH stores a half-word. -/
  | sh (core : Nat) (g : Guard) (d a : GReg) (imm : BitVec 12)
  /-- `SW` (R298): SW stores a word. -/
  | sw (core : Nat) (g : Guard) (d a : GReg) (imm : BitVec 12)
  /-- `STX` (R310): STX performs an indexed or post-increment store. -/
  | stx (core : Nat) (g : Guard) (d a b : GReg) (width : Fin 3) (mode : Fin 4)
  /-- `BR` (R311): BR branches PC-relative. -/
  | br (core : Nat) (g : Guard) (off : BitVec 22)
  /-- `CALL` (R312): CALL pushes the return address and branches. -/
  | call (core : Nat) (g : Guard) (off : BitVec 22)
  /-- `JR` (R313): JR jumps to gA. -/
  | jr (core : Nat) (g : Guard) (a : GReg)
  /-- `CALLR` (R313): CALLR pushes the return address and jumps to gA. -/
  | callr (core : Nat) (g : Guard) (a : GReg)
  /-- `RET` (R313): RET pops the return address into PC. -/
  | ret (core : Nat) (g : Guard)
  /-- `LOOP` (R314): LOOP starts a hardware loop with a register count. -/
  | loop (core : Nat) (g : Guard) (n : Fin 4) (a : GReg) (off : BitVec 12)
  /-- `LOOPI` (R314): LOOPI starts a hardware loop with an immediate count. -/
  | loopi (core : Nat) (g : Guard) (n : Fin 4) (k : BitVec 8) (off : BitVec 12)
  /-- `REPI` (R319): REPI repeats the next instruction an immediate number of times. -/
  | repi (core : Nat) (g : Guard) (n : BitVec 16)
  /-- `REP` (R319): REP repeats the next instruction gA[15:0] times. -/
  | rep (core : Nat) (g : Guard) (a : GReg)
  /-- `LCLR` (R317): LCLR clears the selected loop counts. -/
  | lclr (core : Nat) (g : Guard) (mask : BitVec 4)
  /-- `PUSH` (R312): PUSH stores gD below g31. -/
  | push (core : Nat) (g : Guard) (d : GReg)
  /-- `POP` (R312): POP loads gD from the stack. -/
  | pop (core : Nat) (g : Guard) (d : GReg)
  /-- `LSAVE` (R318): LSAVE pushes the loop registers and clears the loop counts. -/
  | lsave (core : Nat) (g : Guard)
  /-- `LREST` (R318): LREST pops the loop registers. -/
  | lrest (core : Nat) (g : Guard)
  /-- `NOP` (R328): NOP does nothing. -/
  | nop (core : Nat) (g : Guard)
  /-- `HALT` (R354): HALT ends the stream core's job. -/
  | halt (core : Nat) (g : Guard)
  /-- `TRAP` (R330): TRAP raises the TRAP exception. -/
  | trap (core : Nat) (g : Guard)
  /-- `ERET` (R330): ERET restores PSTAT and returns to EPC, resuming any repetition. -/
  | eret (core : Nat) (g : Guard)
  /-- `WFI` (R331): WFI makes the control core wait for an enabled interrupt line. -/
  | wfi (core : Nat) (g : Guard)
  /-- `WFI_WAKE` (R331): An enabled interrupt line going high completes a waiting WFI. -/
  | wfiWake (core cycles : Nat)
  /-- `FENCE` (R336): FENCE completes and publishes earlier memory accesses and discards fetched instructions. -/
  | fence (core : Nat) (g : Guard)
  /-- `TLBINV` (R333): TLBINV drops cached translations. -/
  | tlbinv (core : Nat) (g : Guard) (a : GReg)
  /-- `CSRR` (R323): CSRR reads a CSR into gD. -/
  | csrr (core : Nat) (g : Guard) (d : GReg) (n : BitVec 12)
  /-- `CSRW` (R323): CSRW writes gA into a CSR. -/
  | csrw (core : Nat) (g : Guard) (a : GReg) (n : BitVec 12)
  /-- `CAS` (R335): CAS atomically compares and swaps a word. -/
  | cas (core : Nat) (g : Guard) (d a b : GReg)
  /-- `RNEXT` (R353): RNEXT makes the next delivered record current. -/
  | rnext (core : Nat) (g : Guard) (d : GReg)
  /-- `RPUT` (R353): RPUT puts a result record into the cluster's collector FIFO. -/
  | rput (core : Nat) (g : Guard) (a b : GReg)
  /-- `FLDX` (R353): FLDX reads an extracted field of the current record. -/
  | fldx (core : Nat) (g : Guard) (d : GReg) (b : Fin 32)
  /-- `TAPR` (R353): TAPR reads the current record's length, SHORT bit and tap bits. -/
  | tapr (core : Nat) (g : Guard) (d : GReg)
  /-- `CUSTOM` (R322): CUSTOM runs the micro-operations of a decode-table slot. -/
  | custom (core : Nat) (g : Guard) (slot : Fin 32) (d a b : GReg)
  /-- `INTERRUPT_TAKEN` (R331): A control core takes an enabled external interrupt between instructions. -/
  | interruptTaken (core : Nat)
  /-- `TIMER_INTERRUPT` (R331): CYCLE reaching TCMP raises the timer interrupt line. -/
  | timerInterrupt (core cycles : Nat)
  /-- `BUDGET_EXHAUSTED` (R356): A job reaching a budget, clock or output limit raises BUDGET. -/
  | budgetExhausted (core stall : Nat)
  /-- `RUN_START` (R348): A cluster starting a run wipes if needed and loads the program. -/
  | runStart (item cluster : Nat)
  /-- `JOB_START` (R352): A decoded grain starts a job on the lowest idle core of the scan. -/
  | jobStart (item : Nat)
  /-- `CLOSING_JOB_START` (R354): When all grain jobs have ended, each core that ran one starts a closing job. -/
  | closingJobStart (core : Nat)
  /-- `RING_STALL` (R368): At deadline less 20 µs with output waiting for ring room, the scan stops with RING_STALL. -/
  | ringStall (item : Nat)
  /-- `COLLECTOR_GRANT` (R364): The result collector grants the next FIFO whose head record can go. -/
  | collectorGrant
  /-- `DRAM_READ` (R382): A DRAM read request is queued, ordered and served. -/
  | dramRead (port a ecc : Nat) (obj : DramObj) (slots : Nat)
  /-- `DRAM_WRITE` (R382): A DRAM write request is queued, merged and written. -/
  | dramWrite (port a : Nat) (data : List Byte) (ecc slots : Nat)
  /-- `REFRESH_TICK` (R383): A tREFI tick raises a rank's refresh debt and may force a refresh. -/
  | refreshTick (ch rank : Nat)
  /-- `SELF_REFRESH_ENTRY` (R385): An idle rank with SR_EN enters DRAIN towards self-refresh. -/
  | selfRefreshEntry (ch rank : Nat)
  /-- `SR_DRAIN_COMPLETE` (R385): A draining rank issues the self-refresh command. -/
  | srDrainComplete (ch rank : Nat)
  /-- `ALERT` (R386): The DIMM's ALERT_n going low stops issue and starts recovery. -/
  | alert (ch : Nat)
  /-- `ALERT_RECOVERY_END` (R386): ALERT_n returning high replays the retry buffer, or faults the channel after three failures. -/
  | alertRecoveryEnd (ch : Nat) (met : Bool) (recs : List Nat)
  /-- `DRIFT_TRACKING` (R378): Every TRACK_MS a rank's drift measurement adjusts write delays. -/
  | driftTracking (ch rank : Nat) (dly : List Nat)
  /-- `DRAM_SCRUB` (R390): Background reads of every DRAM burst each SCRUB_H. -/
  | dramScrub (a ecc : Nat) (obj : DramObj)
  /-- `DRAM_TRAINING` (R377): Channel training ends, passing or failing, and the population is chosen. -/
  | dramTraining (dimms : List DimmIn)
  /-- `SRD_POWER_ON` (R393): The SRD's own power-on reset starts the island. -/
  | srdPowerOn
  /-- `TAMPER_SAMPLE` (R395): Every 1 ms the SRD samples the jumper and tamper loops. -/
  | tamperSample (sealN t0 t1 : Bool) (dt : Nat)
  /-- `PPS_EDGE` (R398): A PPS edge steers or steps the time base and may return it to DISCIPLINED. -/
  | ppsEdge (good ref : Bool) (err : Int) (dt : Nat)
  /-- `REFERENCE_LOSS` (R397): Loss of the 10 MHz input puts the time base in HOLDOVER. -/
  | referenceLoss (dt : Nat)
  /-- `PPS_TIMEOUT` (R397): No PPS edge for 3 s puts the time base in HOLDOVER. -/
  | ppsTimeout (dt : Nat)
  /-- `MB_IN_POST` (R419): MB_IN_POST sends the staged inbound message to the SRD. -/
  | mbInPost (req item : Nat)
  /-- `MB_OUT_POP` (R419): MB_OUT_POP removes the head outbound message. -/
  | mbOutPop
  /-- `SRD_SEAL` (R404): The SRD commits a seal token and any lock, or refuses with a reason. -/
  | srdSeal (dt : Nat)
  /-- `SRD_VERIFY` (R414): The SRD checks a token's MAC and posts a compare word. -/
  | srdVerify
  /-- `SRD_GET` (R415): The SRD returns a checkpoint, token or key information. -/
  | srdGet
  /-- `HOUR_CHECKPOINT` (R406): At each TAI hour boundary the SRD signs a checkpoint for every chain. -/
  | hourCheckpoint (dt : Nat)
  /-- `LOCK_EXPIRY` (R408): An expired lock entry is removed and LOCK_CLEAR posted. -/
  | lockExpiry (idx dt : Nat)
  /-- `MAILBOX_RESET` (R409): A mailbox reset notice empties the lock copy and starts a lock replay. -/
  | mailboxReset
  /-- `LOCK_SET` (R407): The mapping engine takes a LOCK_SET message into its lock copy. -/
  | lockSet
  /-- `LOCK_CLEAR` (R408): The mapping engine removes a lock on LOCK_CLEAR. -/
  | lockClear
  /-- `REPLAY_END` (R409): REPLAY_END lets the mapping engine commit writing commands again. -/
  | replayEnd
  /-- `STATUS_POST` (R411): Every second or on a change, the SRD posts a STATUS message. -/
  | statusPost (dt : Nat)
  /-- `STATUS_MESSAGE` (R411): Page hardware latches a STATUS message into SRD registers. -/
  | statusMessage
  /-- `STATUS` (R417): Console STATUS reports the status fields. -/
  | status (dt : Nat)
  /-- `IDENT` (R417): Console IDENT reports the key information. -/
  | ident
  /-- `NONCE` (R417): Console NONCE issues a 32 B nonce. -/
  | nonce
  /-- `NONCE_LAPSE` (R417): An unused nonce lapses after 60 s. -/
  | nonceLapse
  /-- `TIME_SET` (R417): Authorised TIME_SET sets time at the next PPS edge. -/
  | timeSet (utc : Nat) (leap : Int) (ok : Bool)
  /-- `LEAP_SET` (R417): Authorised LEAP_SET schedules a new LEAP offset. -/
  | leapSet (utc : Nat) (leap : Int) (ok : Bool)
  /-- `LEAP_APPLY` (R417): At the scheduled UTC second the new LEAP takes effect. -/
  | leapApply (dt : Nat)
  /-- `VERIFY_ENTER` (R418): VERIFY_ENTER burns a seal-break bit and enters verification mode. -/
  | verifyEnter (bad : Nat) (ok : Bool)
  /-- `VERIFY_EXIT` (R418): VERIFY_EXIT restarts the SRD core, clears TAMPER and signs checkpoints. -/
  | verifyExit (dt : Nat) (ok : Bool)
  /-- `FW_LOAD` (R417): Console FW_LOAD loads a signed SRD firmware image. -/
  | fwLoad (image : List Byte) (version : Nat) (imgOk ok : Bool)
  /-- `KEYGEN` (R401): Console KEYGEN generates new SRD keys. -/
  | keygen (ok : Bool)
  /-- `PROVISION` (R400): Console PROVISION programs the SRD fuses and first keys. -/
  | provision (id : Nat) (auth : List Byte) (ok : Bool)
  /-- `KNOT_SIGNAL_DETECT` (R423): A peer's signal on a PEER-class link starts training. -/
  | knotSignalDetect (link : Nat)
  /-- `LANE_LOCK` (R424): All 8 lanes lock and the link enters IDENT. -/
  | laneLock (link : Nat) (peerHalf : Bool)
  /-- `LANE_LOCK_TIMEOUT` (R424): Failure to lock within 20 ms retrains at half rate or fails the link. -/
  | laneLockTimeout (link : Nat)
  /-- `KNOT_IDENT` (R425): The peer's identity is checked, bringing the link UP or MISMATCH. -/
  | knotIdent (link ver id sig : Nat) (home : Option Nat) (buddy : Bool)
  /-- `FLIT_RECEIVE` (R426): A received flit is checked and taken, or replayed on CRC failure. -/
  | flitReceive (link seq : Nat) (crcOk : Bool) (idle : Option (Nat × Nat)) (latNs : Nat)
  /-- `IDLE_FLIT` (R426): An idle UP link sends an idle flit every 0.5 µs. -/
  | idleFlit (link : Nat)
  /-- `RETRAIN` (R423): KL_CTRL RETRAIN takes the link DOWN and retrains it. -/
  | retrain (link : Nat)
  /-- `EVICT` (R443): KN_CTRL EVICT gives up a lost peer's blocks for good. -/
  | evict (device : Nat)
  /-- `ASN_REQUEST` (R433): The home checks hazards and grants or refuses an ASN. -/
  | asnRequest (peer item op inst lba count : Nat)
  /-- `ASN_GRANT` (R433): A received ASN grant lets the receiver commit ACCEPT. -/
  | asnGrant (item asn reason : Nat)
  /-- `ASN_GRANT_TIMEOUT` (R433): No grant by 1.9 µs gives BUSY OVERLOAD and cancels the request. -/
  | asnGrantTimeout (item : Nat)
  /-- `ASN_CANCEL` (R433): The home marks a cancelled ASN as never accepted. -/
  | asnCancel (inst asn : Nat)
  /-- `PART_RECEIVE` (R429): An owner takes a forwarded part and runs it to its working deadline. -/
  | partReceive (p : PartIn)
  /-- `PART_RESULT` (R429): A part's result returns to the receiving device. -/
  | partResult (r : PartEnd)
  /-- `WRITE_COMPLETE_REPORT` (R434): The home learns a knot write's parts are all held. -/
  | writeCompleteReport (inst asn : Nat)
  /-- `SUPERSEDED_RECORD_EXPIRY` (R435): 10 µs after supersession, a cache record stops being kept readable. -/
  | supersededRecordExpiry
  /-- `MIRROR_RECORD` (R438): A buddy writes a received mirror record and reports it held. -/
  | mirrorRecord (peer caddr : Nat) (r : MirrorIn) (back : Bool)
  /-- `MIRROR_HELD` (R438): The owner's write meets R16 when the buddy reports the record held. -/
  | mirrorHeld (item credit : Nat)
  /-- `MIRROR_RELEASE` (R438): The owner releases a mirror copy when the record is freed. -/
  | mirrorRelease (caddr : Nat) (owner : Bool)
  /-- `PEER_TIMEOUT` (R441): A link silent for PEER_TIMEOUT_US makes the peer lost. -/
  | peerTimeout (link : Nat)
  /-- `THERMAL_SAMPLE` (R452): Each 50 µs sample updates the model, checks sensors and moves the step. -/
  | thermalSample (x : ThermIn)
  /-- `RISE_COMPLETE` (R453): When every unit reports the higher capacities, the raised step takes effect. -/
  | riseComplete
  /-- `ANALOGUE_TRIP` (R457): The 118 °C comparator drives THERMTRIP_N and cuts main domains. -/
  | analogueTrip
  /-- `PWR_GOOD_RISE` (R471): PWR_GOOD rising asserts the main reset and starts power-up. -/
  | pwrGoodRise (id boot : Nat) (test : Bool)
  /-- `POWER_UP_STAGE` (R471): Each timed power-up stage switches on its domains, ending with CC0 released. -/
  | powerUpStage
  /-- `PWR_GOOD_FALL` (R479): PWR_GOOD falling cuts main domains, invalidating an unfinished dump. -/
  | pwrGoodFall
  /-- `PFAIL` (R473): PFAIL_N held low 0.2 µs starts the power-fail sequence. -/
  | pfail
  /-- `FREEZE` (R475): At W after the fail, every unit stops and the journal is written. -/
  | freeze
  /-- `DUMP_START` (R477): The dump engine begins dumping the protected region. -/
  | dumpStart
  /-- `DUMP_DONE` (R477): The closing record passes status and the remaining domains go off. -/
  | dumpDone
  /-- `PFAIL_RESTART` (R479): PFAIL_N high for 10 ms with PWR_GOOD high starts a main reset. -/
  | pfailRestart
  /-- `SYS_RESET_N` (R470): A SYS_RESET_N edge requests a main reset or acts as a PFAIL. -/
  | sysResetN (level : Bool)
  /-- `DOM_REQ` (R463): A DOM_REQ write requests domain states, held until conditions hold. -/
  | domReq (req word : Nat) (v : BitVec 32)
  /-- `DOMAIN_OFF` (R464): A held request's condition is met and the domain goes off or to retention. -/
  | domainOff (d : Nat)
  /-- `DOMAIN_ON` (R464): A domain's switch-on completes with its blocks reset. -/
  | domainOn (d : Nat)
  /-- `CLOCK_CHECK` (R468): Every 10 µs REFCLK is checked, starting a clock-fail sequence. -/
  | clockCheck (ppm : Option Int)
  /-- `AON_CLK_LOSS` (R468): AON_CLK stopping switches PD00 to its internal oscillator. -/
  | aonClkLoss
  /-- `CORE_RESET` (R481): A CORE_RESET write resets the named control cores. -/
  | coreReset (req : Nat) (mask : BitVec 32)
  /-- `CORE_HOLD` (R481): A CORE_HOLD write holds or releases control cores. -/
  | coreHold (req : Nat) (mask : BitVec 32)
  /-- `AON_POR` (R469): VDD_AON rising resets every block outside PD01. -/
  | aonPor
  /-- `FUSE_LOAD` (R484): Fuse load ends and fuse-backed fields take their values. -/
  | fuseLoad
  /-- `BOOT_STAGE` (R502): A BOOT_STAT.STAGE write records the stage and at READY posts held records. -/
  | bootStage (req stage : Nat)
  /-- `START_WATCHDOG_EXPIRY` (R489): No READY in time resets the cores and falls back to the other image. -/
  | startWatchdogExpiry
  /-- `SCRAP_ERASE` (R496): The boot ROM erases every flash block at the first start in SCRAP. -/
  | scrapErase
  /-- `ASYNC_EVENT_SEND` (R503): An ASYNC_EVENT is sent to eligible connections, coalesced per 1 ms. -/
  | asyncEventSend (conn code : Nat)
  /-- `SNAP` (R513): HIST_CTRL SNAP copies and zeroes the live histograms. -/
  | snap
  /-- `BACKGROUND_WINDOW` (R510): Each 100 ms window checks the background share and periodic deadlines. -/
  | backgroundWindow (got : List (Nat × Nat)) (late : Nat)
  /-- `TAP_RESET` (R531): A JTAG TAP reset loads IDCODE. -/
  | tapReset
  /-- `TAP_INSTRUCTION` (R531): A new JTAG instruction takes effect, gated by TEST_EN. -/
  | tapInstruction (code : Nat)
  /-- `REGACC` (R532): REGACC Update-DR starts a register access as requester 0x19. -/
  | regacc (write : Bool) (off : Nat) (data : BitVec 32)
  /-- `UP_LINK_FAILURE` (R423): An UP knot link loses lane lock and returns to DOWN, so its peer is lost under R441. -/
  | upLinkFailure (link : Nat)
  /-- `AON_CLK_RETURN` (R468): AON_CLK returns; AON_OK reads 1 again and the REFCLK check resumes. -/
  | aonClkReturn
  /-- `SELF_REFRESH_EXIT` (R385): tXS after the exit command, a rank leaves EXIT with a debt of 0 and serves its waiting requests. -/
  | selfRefreshExit (ch rank : Nat)
  /-- `VDD_AON_LOSS` (R456): VDD_AON falls below its power-on-reset threshold, releasing THERMTRIP_N and leaving only the SRD powered. -/
  | vddAonLoss
  /-- `VDD_SRD_LOSS` (R393): VDD_SRD is lost: the SRD stops, the isolation ring clamps its four signals and its time state restarts UNSET at the next power-on. -/
  | vddSrdLoss
  /-- `ILLEGAL_INSTRUCTION` (R300): A core executes a word whose major opcode or FUNC is not assigned in its profile and raises ILLEGAL. -/
  | illegalInstruction (core : Nat) (w : BitVec 32)
  /-- `UNKNOWN_OPCODE` (R87): A received CMD whose opcode is unknown, or absent from the connection's version, receives RESP with INVALID_OPCODE. -/
  | unknownOpcode (op : Nat) (c : CmdIn)
  deriving DecidableEq, Repr

end Sys2Proof
end

