-- ==== Sys2Proof/Config.lean ====
section
/-! DEFINITION. What the spec leaves open: fixed values it does not state and results it does not define. Each is a
constant without a body, so that nothing can be proved of its value; each is named in the assumption log. -/

namespace Sys2Proof.Config

open Sys2Proof

/-- `BLK_CAPS` of a page: fixed, and stated by no chapter (R29). -/
opaque blkCaps : Nat → W32

/-- `BLK_ID.VERSION` of a page other than TOP: fixed, and stated by no chapter (R29). -/
opaque blkVersion : Nat → Nat

/-- Bytes of the boot ROM (R18): stated nowhere. -/
opaque bootRom : Nat → Byte

/-- A free number for the n-th value the spec leaves open. -/
opaque freeNat : Nat → Nat

/-- Draw n of the device's random source (R149, R387): a number of 256 bits. -/
opaque randomDraw : Nat → Nat

/-- Draw n of the SRD's own random source (R401, R417): a number of 256 bits. -/
opaque srdDraw : Nat → Nat

/-- The 32-byte header of a migration log read, as a number (R162): mode, entry count and `OVERFLOW` lie in it, where is stated
nowhere. -/
opaque migHeader : Nat → Nat → Bool → Nat

/-- CODE, UNIT and DETAIL, as one number, with which an engine page reports a DMA access to the register space at an address (R25): stated
nowhere. -/
opaque dmaError : Nat → Nat → Nat

/-- The device key (R172) under each life-cycle code it is wrapped with (R496), as a number of 512 bits. -/
opaque deviceKey : Nat → Nat

/-- STATUS of the n-th descriptor of a group's ring whose source is poisoned in DRAM (R244, R389): stated nowhere. -/
opaque poisonStatus : Nat → Nat → Nat

/-- Bytes of an entry of the map-delta log (R180): stated nowhere. -/
opaque deltaBytes : Nat

end Sys2Proof.Config
end

