-- ==== Sys2Proof/Machine/State.lean ====
section
/-! DEFINITION. The state of the FV9410 as plain data, the fault and refusal reasons, and the state after reset. Every
field's docstring names the rule of the spec that gives it and its width; the default of a field is its value in
`State.reset`. Stores of type `SMap` list only what differs from the default said at the field. -/

namespace Sys2Proof.Machine

open Sys2Proof

/-- Connection states of R55 (`FAILED` is left at once, so it is never held). -/
inductive ConnState where
  | helloRcvd | established | closing
  deriving DecidableEq, Repr

/-- Item states of R105. -/
inductive ItemState where
  | deciding | dataPhase | queued | running | reported
  deriving DecidableEq, Repr

/-- Instance states of R146. -/
inductive InstState where
  | free | creating | active | resetting | deleting
  deriving DecidableEq, Repr

/-- Stages of one grain's reading work: looked up, its codewords sensed, decoded or rebuilt (R189 to R191), decompressed (R244),
ended. -/
inductive GwSt where
  | lookup | sense | frame | done | failed
  deriving DecidableEq, Repr

/-- Whom a sense or a frame works for: a command's item, background reading, or the frame of a merge or a long frame (R192, R199,
R201, R208). -/
inductive Who where
  | item (n : Nat) | bg (n : Nat) | unit (n : Nat)
  deriving DecidableEq, Repr

/-- Kinds of background reading: a failed grain (R192, R245), an earlier unit of a failed block (R201), a failed die's data (R188), the base
of a merge (R199), a scrub (R208). -/
inductive BgKind where
  | reread | readback | rebuild | merge | scrub
  deriving DecidableEq, Repr

/-- Die operations of R195. -/
inductive DieOpKind where
  | sense | program | erase
  deriving DecidableEq, Repr

/-- Erase-block states (R177, R199, R201, R202). -/
inductive BlkSt where
  | free | opened | closed | retired | pendingErase
  deriving DecidableEq, Repr

/-- DRAM rank phases of R385. -/
inductive RankPhase where
  | active | drain | selfRefresh | exiting
  deriving DecidableEq, Repr

/-- An entry of log page 0x01 (R92). -/
structure DeferredEnt where
  /-- SEQ (R92). -/
  seq : Nat
  /-- STATUS (R92). -/
  status : Nat
  /-- ORIGIN (R92). -/
  origin : Nat
  /-- BLOCKS (R92). -/
  blocks : Nat
  /-- FIRST_LBA (R92). -/
  firstLba : Nat
  /-- ASN (R92). -/
  asn : Nat
  deriving DecidableEq, Repr

/-- An entry of log page 0x02 (R92). -/
structure OutcomeEnt where
  /-- TAG (R92). -/
  tag : Nat
  /-- Connection ID (R92). -/
  conn : Nat
  /-- STATUS (R92). -/
  status : Nat
  /-- ASN, or 0 (R92). -/
  asn : Nat
  /-- IN_BYTES (R92). -/
  inBytes : Nat
  /-- The entry's own number on its page, from 1 (R91). -/
  id : Nat := 0
  deriving DecidableEq, Repr

/-- An entry of log page 0x03, the in-flight journal (R505). -/
structure JournalEnt where
  /-- TAG (R505). -/
  tag : Nat
  /-- Connection ID before the restart (R505). -/
  conn : Nat
  /-- STATUS (R505, R506). -/
  status : Nat
  /-- ASN, or 0 (R505). -/
  asn : Nat
  /-- IN_BYTES before the restart (R505). -/
  inBytes : Nat
  /-- OPCODE (R505). -/
  opcode : Nat
  /-- JFLAGS (R505). -/
  jflags : Nat
  /-- RESTART bits [15:0] (R505). -/
  restart : Nat
  /-- LBA field of the command (R505). -/
  lba : Nat
  /-- The entry's own number on its page, from 1 (R505). -/
  id : Nat := 0
  deriving DecidableEq, Repr

/-- A range record of `MIGRATION_LOG` `START` (R161). -/
structure MigRange where
  /-- BUF_KEY (R161). -/
  key : Nat
  /-- BASE (R161). -/
  base : Nat
  /-- LENGTH (R161). -/
  len : Nat
  deriving DecidableEq, Repr

/-- A list entry of the migration log (R162). -/
structure MigEnt where
  /-- BUF_KEY (R162). -/
  key : Nat
  /-- PAGES (R162). -/
  pages : Nat
  /-- PAGE_ADDR (R162). -/
  addr : Nat
  deriving DecidableEq, Repr

/-- What the allocator returns (R217, R219, R227). -/
inductive AllocRes where
  | none | waiting | ok | quota | empty | handle (h : Nat) | rejected (code : Nat)
  deriving DecidableEq, Repr

/-- A message on a knot link (R425, R426, R429, R433, R434, R438). -/
inductive KnotMsg where
  /-- The power-limit step and home an idle flit carries. -/
  | idle (step home : Nat)
  /-- A request for an ASN. -/
  | asnReq (item op inst lba count : Nat)
  /-- A grant. -/
  | grant (item asn : Nat)
  /-- A refusal with its `BUSY` reason. -/
  | refused (item reason : Nat)
  /-- The cancellation of a request. -/
  | cancel (item inst : Nat)
  /-- A grant returned unused. -/
  | unused (inst asn : Nat)
  /-- A forwarded part, with the write data it carries. -/
  | part (item op inst lba count asn us cflags : Nat) (params data : List Byte)
  /-- The abort of a forwarded part. -/
  | abort (item : Nat)
  /-- The end of a part. -/
  | result (tag lba count status : Nat) (result data : List Byte)
  /-- The report that a writing command is complete. -/
  | complete (inst asn : Nat)
  /-- A mirror record, by the owner's CADDR. -/
  | mirror (caddr inst grain mask made asn : Nat) (frame : List Byte)
  /-- The report that a mirror record is held, and the room left. -/
  | held (caddr credit : Nat)
  /-- The release of a mirror record. -/
  | release (caddr : Nat)
  deriving DecidableEq, Repr

/-- The response the last register or memory access of one requester met. -/
structure BusResp where
  /-- The access was performed; false: an error response (1 bit; R9). -/
  ok : Bool := true
  /-- Error code of R86, 0 when performed (7 bits; R86). -/
  code : Nat := 0
  /-- The value a read returned (32 bits; R6). -/
  value : W32 := 0
  deriving DecidableEq, Repr

/-- Configuration transactions beyond the CFG page (the page itself is in regs). -/
structure CfgSt where
  /-- Apply requests held: the page of each block that has not applied, and the ID its request carries (pages; R37). -/
  reqs : SMap Nat := []
  /-- Pages of prompt-apply blocks of the present commit that have not reported (pages; R37). -/
  await : List Nat := []
  /-- Committed shadow values that their blocks have not applied (words; R37). -/
  comVal : SMap W32 := []
  /-- Bits of each word that hold a committed shadow (words; R37). -/
  comMask : SMap W32 := []
  /-- The admission hold is in force (1 bit; R37). -/
  hold : Bool := false
  /-- Settings groups still to program in PROGRAMMING, the first under way (group indices; R43). -/
  prog : List Nat := []
  deriving DecidableEq, Repr

/-- A sequenced PDU sent and not acknowledged, or waiting inside the window. -/
structure TxPdu where
  /-- Its packet sequence number (32 bits; R64). -/
  psn : W32 := 0
  /-- PDU type code (8 bits; R52). -/
  type : Nat := 0
  /-- FLAGS without ACKV, which is filled at sending (16 bits; R50). -/
  flags : Nat := 0
  /-- Command tag (32 bits; R50). -/
  tag : Nat := 0
  /-- Payload bytes (up to MAX_PAYLOAD; R53). -/
  payload : List Byte := []
  /-- The item whose report this is, plus 1; 0 none (item number; R105). -/
  item : Nat := 0
  /-- Times sent (count; R59). -/
  tries : Nat := 1
  /-- It goes to the head of the egress queue (1 bit; R138). -/
  front : Bool := false
  /-- Its data is offered to the migration log (not for `MIGRATION_LOG` itself) (1 bit; R163). -/
  logged : Bool := true
  deriving DecidableEq, Repr

/-- One connection context. -/
structure Conn where
  /-- HELLO_RCVD, ESTABLISHED, CLOSING (2 bits; R55). -/
  state : ConnState := .helloRcvd
  /-- Host port of the HELLO; 16 is the management port (0 to 16; R49). -/
  port : Nat := 0
  /-- Sub-interface of the HELLO (0 to 3; R44). -/
  subif : Nat := 0
  /-- Local address entry at which the HELLO arrived (0 to 7; R47). -/
  entry : Nat := 0
  /-- Local address at which the HELLO arrived (128 bits; R47). -/
  localIp : Nat := 0
  /-- Instance latched at the HELLO (10 bits; R57). -/
  inst : Nat := 0
  /-- Source IP recorded at the HELLO (128 bits; R49). -/
  helloIp : Nat := 0
  /-- Source UDP port recorded at the HELLO (16 bits; R49). -/
  helloUdp : Nat := 0
  /-- Source MAC of the last valid PDU (48 bits; R47). -/
  lastMac : Nat := 0
  /-- Initiator's connection ID (SRC_CONN) (16 bits; R50). -/
  peerConn : Nat := 0
  /-- Selected version (8 bits; R62). -/
  version : Nat := 0x10
  /-- INIT_PSN of the HELLO (32 bits; R56). -/
  helloPsn : W32 := 0
  /-- PSN of the device's first sequenced PDU (32 bits; R64). -/
  initPsn : W32 := 0
  /-- Agreed MAX_PAYLOAD (16 bits; R57). -/
  maxPayload : Nat := 1024
  /-- Granted MAX_CMDS (13 bits; R57). -/
  maxCmds : Nat := 0
  /-- Agreed KEEPALIVE_MS (16 bits; R57). -/
  keepaliveMs : Nat := 0
  /-- Latched RTO_US (14 bits; R57). -/
  rtoUs : Nat := 200
  /-- Latched ACK_DELAY_US (8 bits; R57). -/
  ackDelayUs : Nat := 10
  /-- Latched RETRY_MAX (4 bits; R57). -/
  retryMax : Nat := 8
  /-- Latched DATA_TIMEOUT_US (16 bits; R57). -/
  dataTimeoutUs : Nat := 2000
  /-- Every PSN up to it has been received (32 bits; R65). -/
  ackPsn : W32 := 0
  /-- Bit n: PSN ackPsn+1+n received (64 bits; R65). -/
  sack : W64 := 0
  /-- CMD, ABORT and CLOSE waiting for lower PSNs (at most 64; R65). -/
  held : List (W32 × HeldPdu) := []
  /-- The peer's last ACK_PSN (32 bits; R64). -/
  peerAck : W32 := 0
  /-- The peer's last SACK (64 bits; R65). -/
  peerSack : W64 := 0
  /-- PSN of the next sequenced PDU (32 bits; R64). -/
  nextPsn : W32 := 0
  /-- Sequenced PDUs sent and not acknowledged, oldest first (at most 64; R69). -/
  unacked : List TxPdu := []
  /-- PDUs committed with a PSN and waiting for room in the window of 64, oldest first (queue; R64). -/
  waiting : List TxPdu := []
  /-- Present retransmission timeout (18 bits; R69). -/
  rtoCur : Nat := 200
  /-- A sequenced PDU has arrived whose acknowledgement nothing has carried (1 bit; R67). -/
  ackDue : Bool := false
  /-- PSN last named in a NAK (32 bits; R68). -/
  nakPsn : Option W32 := none
  /-- Instant of that NAK (us; R68). -/
  nakUs : Nat := 0
  /-- Instant of the last PDU received (us; R59). -/
  rxUs : Nat := 0
  /-- Instant of the last PDU sent (us; R70). -/
  txUs : Nat := 0
  /-- Instant the retransmission timer was last started (us; R69). -/
  rtoFrom : Nat := 0
  /-- Instant of the first arrival ackDue stands for (us; R67). -/
  ackFrom : Nat := 0
  /-- Instant of the HELLO_ACK (us; R55). -/
  openUs : Nat := 0
  /-- The initiator's CLOSE has been taken (1 bit; R58). -/
  closeRcvd : Bool := false
  /-- The device's CLOSE has been sent (1 bit; R58). -/
  closeSent : Bool := false
  /-- The device's CLOSE has been acknowledged (1 bit; R55). -/
  closeAcked : Bool := false
  /-- Feature 0x0001 ASYNC_MASK (64 bits; R85). -/
  asyncMask : W64 := 0
  /-- Feature 0x0002 DEFERRED_EVENT (64 bits; R85). -/
  deferredEvent : W64 := 0
  /-- ASYNC_EVENTs not yet sent, at most one a code (coalesced) (code, DETAIL; R503). -/
  evPending : List (Nat × List Byte) := []
  deriving DecidableEq, Repr

/-- A frame in an egress queue. -/
structure EgFrame where
  /-- DST_CONN field (16 bits; R50). -/
  conn : Nat := 0
  /-- SRC_CONN field (16 bits; R50). -/
  src : Nat := 0
  /-- VERSION field (8 bits; R62). -/
  version : Nat := 0
  /-- TYPE (8 bits; R52). -/
  type : Nat := 0
  /-- FLAGS (16 bits; R50). -/
  flags : Nat := 0
  /-- PSN (32 bits; R64). -/
  psn : W32 := 0
  /-- ACK_PSN (32 bits; R67). -/
  ackPsn : W32 := 0
  /-- SACK (64 bits; R67). -/
  sack : W64 := 0
  /-- TAG (32 bits; R50). -/
  tag : Nat := 0
  /-- Payload (bytes; R53). -/
  payload : List Byte := []
  /-- Destination MAC (48 bits; R47). -/
  dstMac : Nat := 0
  /-- Destination IP (128 bits; R47). -/
  dstIp : Nat := 0
  /-- Destination UDP port (16 bits; R47). -/
  dstUdp : Nat := 0
  /-- Source IP: the local address of the connection or of the PDU answered (128 bits; R47). -/
  srcIp : Nat := 0
  /-- Local address entry of its datagram or connection (3 bits; R45). -/
  entry : Nat := 0
  /-- Source MAC, filled in as it leaves (48 bits; R47). -/
  srcMac : Nat := 0
  /-- Source UDP port, filled in as it leaves (16 bits; R47). -/
  srcUdp : Nat := 0
  /-- VLAN ID of its tag, with priority 0, filled in as it leaves (12 bits; R45). -/
  vlan : Option Nat := none
  /-- UDP checksum, filled in as it leaves (16 bits; R47). -/
  sum : Nat := 0
  /-- Item whose RESP it first carries, plus 1; 0 none (item number; R116). -/
  item : Nat := 0
  deriving DecidableEq, Repr

/-- The Pasesar transport. -/
structure HostSt where
  /-- Connection contexts by connection ID (65,536 contexts; R60). -/
  conns : SMap Conn := []
  /-- Frames in each port's firmware queue (16: management port) (up to 256 a port; R46). -/
  fwq : SMap Nat := []
  /-- Datagrams awaiting classification, by port (up to 512 a port; R282). -/
  clsq : SMap (List Datagram) := []
  /-- Port whose classification search SB0 served last (0 to 15; R282). -/
  clsLast : Nat := 15
  /-- Classified PDUs handed to the transport and not yet taken by their row (queue; R48). -/
  delivered : List PduIn := []
  /-- Frames at the management port that wait for ENABLE of its page (queue; R551). -/
  mgmtq : List FrameIn := []
  /-- Egress queue of sub-interface s of HPn at 4n+s; 64 is the management port (queues; R125). -/
  egress : SMap (List EgFrame) := []
  /-- The frame that left the MAC last (one a sub-interface; R116). -/
  onWire : SMap EgFrame := []
  /-- Last NO_CONNECTION answer by source (IP x 65,536 + UDP port) (us + 1; R60). -/
  noConn : SMap Nat := []
  deriving DecidableEq, Repr

/-- A cached frame a grain's reading takes blocks from. -/
structure FrameSrc where
  /-- Blocks it carries (4 bits; R196). -/
  mask : Nat := 0
  /-- Blocks its frame was made with (4 bits; R198). -/
  made : Nat := 0
  /-- Stored frame (up to 16,448; R196). -/
  frame : List Byte := []
  /-- Its DRAM bytes are poisoned (1 bit; R389). -/
  poison : Bool := false
  deriving DecidableEq, Repr

/-- A block's data staged by a writer of lower ASN, for a reader. -/
structure Staged where
  /-- Block of the grain (0 to 3; R94). -/
  block : Nat := 0
  /-- The writer's ASN (64; R94). -/
  asn : Nat := 0
  /-- The block's bytes (4,096 B; R94). -/
  data : List Byte := []
  /-- The writer has written the block (1; R94). -/
  sure : Bool := false
  deriving DecidableEq, Repr

/-- The reading of one codeword position on one die. -/
structure SenseOf where
  /-- Senses of the present reading still to complete (0 to 3; R189). -/
  left : Nat := 1
  /-- Ladder entries tried (0 to 16; R190). -/
  tried : Nat := 0
  deriving DecidableEq, Repr

/-- One codeword of a frame, until it is corrected. -/
structure Cw where
  /-- Readings under way: its own die's, or those of a rebuild's members (by die; R190). -/
  reads : SMap SenseOf := []
  /-- It is being rebuilt (1 bit; R191). -/
  rebuilding : Bool := false
  /-- Members that are erasures (dies; R187). -/
  bad : List Nat := []
  deriving DecidableEq, Repr

/-- One grain of a reading, draining or scanning piece of work. -/
structure GrainWork where
  /-- Grain of the instance (grain number; R174). -/
  grain : Nat := 0
  /-- Owning instance (11 bits; R174). -/
  inst : Nat := 0
  /-- Blocks of the grain the work takes (reading) or writes (writing) (4 bits; R197). -/
  mask : Nat := 15
  /-- FLASH map entry its base is read from; 0 none (64 bits; R177). -/
  entry : W64 := 0
  /-- Cache records it takes blocks from, newest first (at most 4; R197). -/
  frames : List FrameSrc := []
  /-- Staged data of writers of lower ASN; of one block the highest ASN counts (blocks; R94). -/
  overlay : List Staged := []
  /-- Blocks whose newest visible writer was still in its data phase when the look-up was made (block, item; R95). -/
  waits : List (Nat × Nat) := []
  /-- The look-up has been made (1 bit; R94). -/
  taken : Bool := false
  /-- Blocks lost (4 bits; R114). -/
  lost : Nat := 0
  /-- Stage of the grain's work (4 bits; R14). -/
  st : GwSt := .lookup
  /-- The codewords of its frame that are still to be corrected, by number in the frame (codewords; R190). -/
  cws : SMap Cw := []
  /-- A codeword of its frame has needed a retry or a rebuild (1 bit; R190). -/
  again : Bool := false
  /-- A codeword of its frame has been rebuilt from the skein (1 bit; R191). -/
  rebuilt : Bool := false
  /-- Members that were erasures in its rebuilds (dies; R187). -/
  bads : List Nat := []
  /-- It counts in its block's reads (1 bit; R177). -/
  reading : Bool := false
  /-- Status it failed with; 0 none (16 bits; R89). -/
  err : Nat := 0
  /-- Integrity detail (8 bits; R244). -/
  detail : Nat := 0
  /-- Its first failing block (0 to 3; R90). -/
  bad : Nat := 0
  /-- Decoded bytes of the grain (reading) or the stored frame (writing) (up to 16,448; R197). -/
  data : List Byte := []
  deriving DecidableEq, Repr

/-- One command in the command engine. -/
structure Item where
  /-- Its connection (16 bits; R80). -/
  conn : Nat := 0
  /-- Port it arrived on (0 to 16; R142). -/
  port : Nat := 0
  /-- Initiator's tag (32 bits; R50). -/
  tag : Nat := 0
  /-- OPCODE (8 bits; R80). -/
  op : Nat := 0
  /-- Instance of the connection (10 bits; R93). -/
  inst : Nat := 0
  /-- CFLAGS (8 bits; R80). -/
  cflags : Nat := 0
  /-- COUNT (32 bits; R80). -/
  count : Nat := 0
  /-- LBA (64 bits; R80). -/
  lba : Nat := 0
  /-- PARAMS (up to 464; R80). -/
  params : List Byte := []
  /-- OUT_LEN (32 bits; R53). -/
  outLen : Nat := 0
  /-- IN_LEN (32 bits; R53). -/
  inLen : Nat := 0
  /-- BUF_KEY (32 bits; R53). -/
  bufKey : Nat := 0
  /-- BUF_OFFSET (64 bits; R53). -/
  bufOffset : Nat := 0
  /-- XFLAGS RING (1 bit; R53). -/
  ring : Bool := false
  /-- State of R105 (3 bits; R105). -/
  state : ItemState := .deciding
  /-- Acceptance sequence number; 0 none (64 bits; R93). -/
  asn : Nat := 0
  /-- Accepted with a deadline (1 bit; R115). -/
  promised : Bool := false
  /-- Service class 0 to 3 (2 bits; R82). -/
  cls : Nat := 0
  /-- DEADLINE_US (32 bits; R116). -/
  deadlineUs : Nat := 0
  /-- Instant the deadline clock started (us; R116). -/
  startUs : Nat := 0
  /-- The deadline clock runs (1 bit; R116). -/
  clockOn : Bool := false
  /-- Write data received, by offset (unlisted: 0) (OUT_LEN bytes; R72). -/
  wdata : SMap Byte := []
  /-- Byte ranges received, disjoint and rising (offset, length; R73). -/
  got : List (Nat × Nat) := []
  /-- Outstanding grants (offset, length) (at most 2; R71). -/
  grants : List (Nat × Nat) := []
  /-- Bytes granted so far (32 bits; R71). -/
  granted : Nat := 0
  /-- Latest XFER_RDY or DATA_OUT (us; R73). -/
  stagedUs : Nat := 0
  /-- Output produced and not yet sent (bytes; R74). -/
  out : List Byte := []
  /-- No more output will be produced (1 bit; R74). -/
  outDone : Bool := false
  /-- DATA_IN bytes sent (64 bits; R53). -/
  sent : Nat := 0
  /-- Ring bytes released (64 bits; R75). -/
  released : Nat := 0
  /-- Its work has ended and status, result are fixed (1 bit; R99). -/
  finished : Bool := false
  /-- Its RESP refused it before acceptance (1; R87). -/
  refused : Bool := false
  /-- Status (16 bits; R89). -/
  status : Nat := 0
  /-- RESULT (up to 240; R53). -/
  result : List Byte := []
  /-- Marked aborted (1 bit; R101). -/
  aborted : Bool := false
  /-- Its connection failed: its outcome goes to log page 0x02 (1 bit; R59). -/
  lost : Bool := false
  /-- ABORTs waiting for this target's ABORT_RESP or decision (count; R100). -/
  aborters : Nat := 0
  /-- Items a FLUSH, reset or deletion covers (item numbers; R108). -/
  covers : List Nat := []
  /-- ASNs of the writing commands among them (ASNs; R108). -/
  coverAsns : List Nat := []
  /-- Cache records a FLUSH with MEDIA covers (record addresses; R108). -/
  coverRecs : List Nat := []
  /-- Stored bytes of the frames made of its data (bytes; R133). -/
  frameBytes : Nat := 0
  /-- EXCLUDED of a FLUSH (32 bits; R108). -/
  excluded : Nat := 0
  /-- Log entries its GET_LOG returned (entries; R91). -/
  logIds : List Nat := []
  /-- Instance a management command names (10 bits; R160). -/
  target : Nat := 0
  /-- Grains of its work (grains; R197). -/
  grains : List GrainWork := []
  /-- Records, keys, entries or grains done (count; R290). -/
  pos : Nat := 0
  /-- Configuration transaction that firmware runs for it; 0 none (ID; R149). -/
  txn : Nat := 0
  /-- Blocks it wrote (LBAs; R94). -/
  wrote : List Nat := []
  /-- Forwarded parts not ended (count; R429). -/
  parts : Nat := 0
  /-- A part's owner was lost (1 bit; R441). -/
  lostPart : Bool := false
  /-- Mirror records not yet reported held (count; R438). -/
  mirrorWait : Nat := 0
  /-- Key slot whose USERS it counts in; 64 none (0 to 64; R262). -/
  keySlot : Nat := 64
  /-- First locked LBA met at a block commit, plus 1; 0 none (64 bits; R88). -/
  firstFail : Nat := 0
  /-- Blocks a writer of higher ASN has written while it was outstanding (LBAs; R96). -/
  beaten : List Nat := []
  /-- Grains of its work handed on in order (grains; R197). -/
  givenTo : Nat := 0
  deriving DecidableEq, Repr

/-- The command engine. -/
structure CmdSt where
  /-- Items by item number (131,072 in flight; R134). -/
  items : SMap Item := []
  /-- Next item number (the model's own numbering) (count; R105). -/
  next : Nat := 1
  /-- Items awaiting the Cadence decision, in order of receipt (queue; R132). -/
  decideQ : List Nat := []
  /-- Best-effort items queued, in ASN order (queue; R137). -/
  bestQ : List Nat := []
  /-- A DEVICE_RESET stops admission (1 bit; R110). -/
  resetting : Bool := false
  /-- FW_ACTIVATE under way: its item number plus 1 (item + 1; R111). -/
  activating : Nat := 0
  /-- Instant at which the activation is due to end (us; R111). -/
  actEndUs : Nat := 0
  /-- Admission stopped by a power fail or latched shutdown (1 bit; R474). -/
  stopped : Bool := false
  deriving DecidableEq, Repr

/-- One amount booked in one slot. -/
structure Booking where
  /-- The command that holds it (item number; R127). -/
  item : Nat := 0
  /-- Resource index (0 to 2,267; R125). -/
  res : Nat := 0
  /-- On the coarse calendar (1 bit; R126). -/
  coarse : Bool := false
  /-- Absolute slot number (us, or ms if coarse; R126). -/
  slot : Nat := 0
  /-- Amount (units of R125; R126). -/
  amt : Nat := 0
  /-- Floor step it was checked against (4 bits; R139). -/
  step : Nat := 0
  /-- Carved from the pending-write pool (1 bit; R133). -/
  pool : Bool := false
  /-- For the later programming of its data (1 bit; R133). -/
  late : Bool := false
  deriving DecidableEq, Repr

/-- A standing reservation of a command whose deadline lies beyond the coarse horizon. -/
structure Standing where
  /-- The command (item number; R126). -/
  item : Nat := 0
  /-- Resource index (resource; R126). -/
  res : Nat := 0
  /-- Amount in every coarse slot (units; R126). -/
  amt : Nat := 0
  /-- Last coarse slot it reaches (ms; R126). -/
  lastMs : Nat := 0
  /-- Floor step it was checked against (4 bits; R139). -/
  step : Nat := 15
  deriving DecidableEq, Repr

/-- Cadence. -/
structure CadSt where
  /-- RESERVE_PCT under which pool 2 is still booked after a commit lowered it; 0 none (8 bits; R220). -/
  heldPct : Nat := 0
  /-- Present fine slot (absolute) (us; R126). -/
  nowUs : Nat := 0
  /-- Fine and coarse bookings (calendars; R126). -/
  bookings : List Booking := []
  /-- Standing reservations beyond the coarse horizon (list; R126). -/
  standing : List Standing := []
  deriving DecidableEq, Repr

/-- One virtual instance. -/
structure InstSt where
  /-- FREE, CREATING, ACTIVE, RESETTING, DELETING (3 bits; R146). -/
  state : InstState := .free
  /-- Logical blocks (64 bits; R147). -/
  capacity : Nat := 0
  /-- PORT_MASK (16 bits; R147). -/
  portMask : Nat := 0
  /-- SEAL, LONG_FRAMES, DEFLATE, MIRROR (8 bits; R147). -/
  iflags : Nat := 0
  /-- COMP_LEVEL (3 bits; R147). -/
  compLevel : Nat := 0
  /-- SEARCH_BANK (2 bits; R147). -/
  bank : Nat := 0
  /-- First segment of its region (4 bits; R280). -/
  segStart : Nat := 0
  /-- SEARCH_SEGS (5 bits; R147). -/
  segs : Nat := 0
  /-- CONN_QUOTA (17 bits; R147). -/
  connQuota : Nat := 0
  /-- CMD_QUOTA (18 bits; R147). -/
  cmdQuota : Nat := 0
  /-- BUF_MIN_KIB (32 bits; R147). -/
  bufMin : Nat := 0
  /-- BUF_MAX_KIB (32 bits; R147). -/
  bufMax : Nat := 0
  /-- KEY_SLOTS (64 bits; R147). -/
  keySlots : W64 := 0
  /-- Media key, by the number of the random draw that made it; 0 none (wrapped-key number; R149). -/
  key : Nat := 0
  /-- Acceptance sequence counter (64 bits; R93). -/
  asn : Nat := 0
  /-- Log page 0x01 (up to 256; R91). -/
  deferred : List DeferredEnt := []
  /-- SEQ of the newest page 0x01 entry (64 bits; R92). -/
  defSeq : Nat := 0
  /-- Overflow count of page 0x01 (32 bits; R91). -/
  defOvf : Nat := 0
  /-- Log page 0x02 (up to 4,096; R91). -/
  outcomes : List OutcomeEnt := []
  /-- Entries recorded on page 0x02 so far (count; R91). -/
  outSeq : Nat := 0
  /-- Overflow count of page 0x02 (32 bits; R91). -/
  outOvf : Nat := 0
  /-- Log page 0x03 (entries; R505). -/
  journal : List JournalEnt := []
  /-- Entries placed on page 0x03 so far (count; R505). -/
  jSeq : Nat := 0
  /-- Overflow count of page 0x03 (32 bits; R504). -/
  jOvf : Nat := 0
  /-- RESTART of the newest restart (64 bits; R505). -/
  jRestart : Nat := 0
  /-- CAUSE of the newest restart (8 bits; R505). -/
  jCause : Nat := 0
  /-- UNKNOWN flag of page 0x03 (1 bit; R505). -/
  jUnknown : Bool := false
  /-- 0 off, 1 LIST, 2 BITMAP (2 bits; R161). -/
  migMode : Nat := 0
  /-- LIST_ENTRIES (21 bits; R161). -/
  migCap : Nat := 0
  /-- Ranges of BITMAP mode (up to 16; R161). -/
  migRanges : List MigRange := []
  /-- Bitmap bits, range index x 2^18 + page (bit per page; R162). -/
  migBits : SMap Bool := []
  /-- List entries, oldest first (list; R162). -/
  migList : List MigEnt := []
  /-- OVERFLOW (1 bit; R162). -/
  migOvf : Bool := false
  /-- RESET_INSTANCE and DELETE_INSTANCE accepted, in order (item numbers; R159). -/
  resetQ : List Nat := []
  /-- Next program handle (32 bits; R340). -/
  nextHandle : Nat := 1
  /-- Context lost to a poisoned DRAM read (1 bit; R389). -/
  ctxBad : Bool := false
  /-- CLOSE of R109 sent for the reset under way (1 bit; R157). -/
  closeSent : Bool := false
  /-- Configuration transaction that releases its share and quotas at deletion; 0 none (ID; R160). -/
  txn : Nat := 0
  /-- Blocks lost, not rewritten since (LBAs; R114). -/
  lostBlocks : List Nat := []
  deriving DecidableEq, Repr

/-- One record of the protected write cache. -/
structure CacheRec where
  /-- Owning instance (10 bits; R196). -/
  inst : Nat := 0
  /-- Grain (grain number; R196). -/
  grain : Nat := 0
  /-- Blocks it carries (4 bits; R196). -/
  mask : Nat := 0
  /-- Blocks its frame was made with (4 bits; R198). -/
  made : Nat := 0
  /-- The stored frame, header included (up to 16,448; R196). -/
  frame : List Byte := []
  /-- Previous map entry of the grain (64 bits; R196). -/
  prev : W64 := 0
  /-- ASN of the write (64 bits; R196). -/
  asn : Nat := 0
  /-- Its number in order of arrival (count; R199). -/
  arr : Nat := 0
  /-- Its frame is in a skein being programmed (1 bit; R200). -/
  programming : Bool := false
  /-- Instant it was superseded plus 1, when a knot keeps it readable; 0 not (us + 1; R435). -/
  superAt : Nat := 0
  /-- Data lost to an uncorrectable DRAM read (1 bit; R389). -/
  poison : Bool := false
  deriving DecidableEq, Repr

/-- An operation queued for a die. -/
structure DieOp where
  /-- Sense, program, erase (3 bits; R195). -/
  kind : DieOpKind := .sense
  /-- Order class of R195 (1 to 4; R195). -/
  cls : Nat := 4
  /-- Order within the class: booked slot, t_end or ASN; in class 4 the rank of the background work (slot or t_end; R195). -/
  key : Nat := 0
  /-- FLASH map entry it reads, or block of an erase (64 bits; R174). -/
  loc : W64 := 0
  /-- What a sense serves (1; R190). -/
  who : Option Who := none
  /-- Grain it serves (grain; R190). -/
  grain : Nat := 0
  /-- Instance it serves (11 bits; R190). -/
  inst : Nat := 0
  /-- Codeword of the frame it reads again or rebuilds; none the whole frame (codeword; R190). -/
  cw : Option Nat := none
  /-- Ladder entry it uses plus 1; 0 the thresholds of its block group (0 to 16; R189). -/
  ladder : Nat := 0
  /-- It was queued when the suspension under way completed, and is served in it (1 bit; R193). -/
  now : Bool := false
  /-- Skein of a program (skein number; R185). -/
  skein : Nat := 0
  deriving DecidableEq, Repr

/-- One flash die. -/
structure Die where
  /-- Operation under way (1; R193). -/
  op : Option DieOp := none
  /-- Program or erase suspended (1; R193). -/
  susp : Option DieOp := none
  /-- Suspensions of the operation so far (8 bits; R193). -/
  suspN : Nat := 0
  /-- Instant of its last start or resume (us; R193). -/
  resumeUs : Nat := 0
  /-- Instant its program or erase started (us; R194). -/
  startUs : Nat := 0
  /-- Read thresholds its last first sense used (thresholds; R189). -/
  thresh : Nat := 0
  /-- Feature address last written with Set Features for a retry (8 bits; R189). -/
  featAddr : Nat := 0
  /-- Parameters last written there (24 bits; R189). -/
  featVal : Nat := 0
  /-- A suspension has been issued and has not completed (1 bit; R193). -/
  suspending : Bool := false
  /-- Waiting operations (queue; R195). -/
  queue : List DieOp := []
  /-- Erase blocks, as firmware found them (count; R182). -/
  blocks : Nat := 0
  /-- Payload bytes of a block (bytes; R182). -/
  blkBytes : Nat := 0
  /-- Payload bytes of a block in SLC mode (bytes; R203). -/
  slcBytes : Nat := 0
  /-- Its part of the map-checkpoint region (bytes; R182). -/
  ckptBytes : Nat := 0
  /-- Blocks kept erased for a dump (blocks; R203). -/
  reserve : List Nat := []
  /-- Reserve blocks that hold a dump, until they are erased again (blocks; R203). -/
  dumped : List Nat := []
  deriving DecidableEq, Repr

/-- One erase block. -/
structure Blk where
  /-- Free, open, closed, retired, pending erase (3 bits; R208). -/
  st : BlkSt := .free
  /-- Erase count (count; R208). -/
  erases : Nat := 0
  /-- Reads that looked up an entry in it and have not finished their senses (count; R177). -/
  reads : Nat := 0
  /-- Instant it was closed (us; R208). -/
  closedAt : Nat := 0
  /-- First-sense thresholds calibration stored (thresholds; R208). -/
  thresh : Nat := 0
  /-- Instant of its last scrub (us; R208). -/
  scrubbed : Nat := 0
  /-- Instant its block group was last sampled (us; R208). -/
  calAt : Nat := 0
  /-- Pages programmed or being programmed since its erase (pages; R185). -/
  next : Nat := 0
  deriving DecidableEq, Repr

/-- One frame a skein carries. -/
structure Move where
  /-- Grain of the frame, or the four of a long frame (map keys; R199). -/
  keys : List Nat := []
  /-- The entries the copy was computed from (map entries; R176). -/
  olds : List W64 := []
  /-- FLASH entry of the copy (SUB 0) (64 bits; R174). -/
  new : W64 := 0
  /-- Stored frame, encrypted (up to 65,568; R172). -/
  frame : List Byte := []
  /-- Newest ASN among the writes it holds (64 bits; R92). -/
  asn : Nat := 0
  deriving DecidableEq, Repr

/-- One skein. -/
structure Skein where
  /-- Flash group (2 bits; R185). -/
  group : Nat := 0
  /-- Die slot of its members (4 bits; R185). -/
  slot : Nat := 0
  /-- Block of its members (14 bits; R185). -/
  block : Nat := 0
  /-- First page of its program units (12 bits; R185). -/
  page : Nat := 0
  /-- Program units it takes on each member: 1, or as many as a frame longer than a unit continues over (count; R174). -/
  span : Nat := 1
  /-- Channels it has a member on (channels; R188). -/
  members : List Nat := []
  /-- Members that have not passed program status (channels; R200). -/
  left : List Nat := []
  /-- Members that carry data, in the order of the syndrome (channels; R186). -/
  data : List Nat := []
  /-- Members that carry parity (channels; R186). -/
  pchans : List Nat := []
  /-- Parity mode recorded in its members' metadata (1 bit; R186). -/
  parity2 : Bool := false
  /-- Content of its parity members (units; R186). -/
  par : List (List Byte) := []
  /-- Members whose program has failed (channels; R200). -/
  failed : List Nat := []
  /-- Members whose block has been erased since (channels; R177). -/
  gone : List Nat := []
  /-- Frames it carries until every member has passed (frames; R200). -/
  moves : List Move := []
  /-- Its units are the last of their blocks (1 bit; R208). -/
  last : Bool := false
  deriving DecidableEq, Repr

/-- Background reading of one stored frame. -/
structure BgWork where
  /-- Why it is read (3 bits; R192). -/
  kind : BgKind := .reread
  /-- Grains it is read for (map keys; R192). -/
  keys : List Nat := []
  /-- Frame of the drain that awaits it (merge only) (number; R199). -/
  unit : Nat := 0
  /-- The reading itself (work; R189). -/
  gw : GrainWork := {}
  deriving DecidableEq, Repr

/-- A frame the drain makes: a grain, or the four of a long frame. -/
structure MergeUnit where
  /-- Its grains (map keys; R199). -/
  keys : List Nat := []
  /-- The entries it is made from (map entries; R176). -/
  olds : List W64 := []
  /-- Flash copies read for it, by map key (grains; R199). -/
  bases : SMap (List Byte) := []
  /-- Grains whose flash copy is still being read (map keys; R199). -/
  await : List Nat := []
  /-- Original bytes of a frame that waits for or is on a compression engine (up to 65,536; R199). -/
  data : List Byte := []
  /-- The frame made (up to 65,568; R199). -/
  frame : List Byte := []
  /-- Newest ASN among the writes it holds (64 bits; R92). -/
  asn : Nat := 0
  /-- Its number in order of arrival, once made (count; R199). -/
  arr : Nat := 0
  deriving DecidableEq, Repr

/-- One entry of the map-delta log. -/
structure Delta where
  /-- Grain whose entry changed (map key; R180). -/
  key : Nat := 0
  /-- Its new value (64 bits; R180). -/
  entry : W64 := 0
  deriving DecidableEq, Repr

/-- One retention lock. -/
structure LockEnt where
  /-- Instance (10 bits; R407). -/
  inst : Nat := 0
  /-- First LBA (64 bits; R407). -/
  lba : Nat := 0
  /-- Block count (32 bits; R407). -/
  count : Nat := 0
  /-- Expiry, whole TAI seconds (64 bits; R407). -/
  expiry : Nat := 0
  deriving DecidableEq, Repr

/-- A map entry of a knot grain as it stood before a write. -/
structure PrevEntry where
  /-- Grain (map key; R435). -/
  key : Nat := 0
  /-- ASN of the write (64 bits; R435). -/
  asn : Nat := 0
  /-- Entry before it (64 bits; R435). -/
  entry : W64 := 0
  /-- Instant of the write (us; R435). -/
  us : Nat := 0
  deriving DecidableEq, Repr

/-- Flash back end and mapping engine. -/
structure FlashSt where
  /-- Grain map, key instance x 2^34 + grain (unlisted: UNMAPPED) (8 B a grain; R174). -/
  map : SMap W64 := []
  /-- Stored frames on the media, encrypted, by FLASH map entry (media; R172). -/
  frames : SMap (List Byte) := []
  /-- Cache records by CADDR (cache; R196). -/
  recs : SMap CacheRec := []
  /-- Offset after the newest cache record, where room is sought first, 64 B units (36 bits; R174). -/
  nextRec : Nat := 0
  /-- Cache records and merged frames made so far (count; R199). -/
  arrivals : Nat := 0
  /-- Cache in use (bytes; R205). -/
  cacheUsed : Nat := 0
  /-- Dies by number (2,048; R165). -/
  dies : SMap Die := []
  /-- Erase blocks, key die x 2^14 + block (blocks; R177). -/
  blks : SMap Blk := []
  /-- Skeins by number (skeins; R185). -/
  skeins : SMap Skein := []
  /-- Number of the next skein (count; R186). -/
  nextSkein : Nat := 0
  /-- Flash group whose turn it is to take a skein of the drain (2 bits; R199). -/
  turn : Nat := 0
  /-- Volume last addressed on each chip enable plus 1, by 4 times the channel plus the chip enable; 0 none (VOLUME + 1; R166). -/
  vols : SMap Nat := []
  /-- Background reading under way (work; R192). -/
  bg : SMap BgWork := []
  /-- Number of the next background reading (count; R192). -/
  nextBg : Nat := 0
  /-- Frames the drain makes (frames; R199). -/
  units : SMap MergeUnit := []
  /-- Number of the next such frame (count; R199). -/
  nextUnit : Nat := 0
  /-- Groups below GC_LOW_PM (4 bits; R206). -/
  lowG : Nat := 0
  /-- Groups below GC_CRIT_PM (4 bits; R206). -/
  critG : Nat := 0
  /-- Background work given to each kind of a group, by 4 times the group plus the kind (0 collection, 1 wear levelling, 2 scrub, 3 calibration); 16 media, 17 checkpoints, 18 DRAM scrub (R509) (count; R207). -/
  bgUsed : SMap Nat := []
  /-- Time background work has been given on each die in the present 100 ms window (ns; R510). -/
  bgNs : SMap Nat := []
  /-- Sum of LEN by segment (instance x 2^16 + segment) (64 B units; R179). -/
  segLen : SMap Nat := []
  /-- Segments lost to a DRAM error, not yet rebuilt (bit; R181). -/
  segLost : SMap Bool := []
  /-- Segments changed since their checkpoint (bit; R180). -/
  segDirty : SMap Bool := []
  /-- Checkpoints rank with repair: the map-delta log has filled 75 % of its part and not fallen below 50 % (1 bit; R511). -/
  ckptHigh : Bool := false
  /-- Map checkpoints on the media, encrypted under the device key, by segment (by segment; R180). -/
  ckpt : SMap (List Byte) := []
  /-- Map-delta log, newest first (log; R180). -/
  delta : List Delta := []
  /-- Grains queued for refresh (map keys; R191). -/
  refreshQ : List Nat := []
  /-- Grains queued for background re-read (map keys; R192). -/
  rereadQ : List Nat := []
  /-- Frames of blocks with a failed or abandoned program, to be read back (FLASH entries; R201). -/
  readbackQ : List W64 := []
  /-- Grains of failed dies to be rebuilt (map keys; R188). -/
  rebuildQ : List Nat := []
  /-- Writes refused below GC_CRIT_PM (1 bit; R206). -/
  gcRefuse : Bool := false
  /-- The mapping engine's copy of the retention locks (4,096; R407). -/
  locks : SMap LockEnt := []
  /-- Newest ASN among the writes a stored frame holds, by its FLASH entry (64 bits; R92). -/
  asnOf : SMap Nat := []
  /-- ASN of the newest write of each block, at 4 times its map key plus its number (by block; R112). -/
  lastAsn : SMap Nat := []
  /-- Cache bytes reserved at acceptance, by item (bytes; R205). -/
  resv : SMap Nat := []
  /-- Superseded cache records of knot instances that stay readable, by CADDR (cache; R435). -/
  kept : SMap CacheRec := []
  /-- Map entries of knot grains before writes of the last 10 us (list; R435). -/
  prevs : List PrevEntry := []
  deriving DecidableEq, Repr

/-- The holder record of one buffer. -/
structure BufRec where
  /-- Hitch slots 0 to 3: requester ID plus 1, 0 empty (unlisted: empty) (4 slots; R223). -/
  slots : List Nat := []
  /-- Item each slot is held for, 0 none (4 slots; R224). -/
  works : List Nat := []
  /-- Requester charged, plus 1; 0 none (ID + 1; R218). -/
  charge : Nat := 0
  /-- HEAD of a chain (1 bit; R226). -/
  head : Bool := false
  /-- Head cell of the chain it lies in (28 bits; R226). -/
  headIdx : Nat := 0
  /-- A cell held by its chain (1 bit; R226). -/
  chained : Bool := false
  /-- Cells of the chain (head only) (0 to 65,536; R226). -/
  cells : Nat := 0
  /-- Held under a booked allocation (1 bit; R220). -/
  booked : Bool := false
  deriving DecidableEq, Repr

/-- One staging buffer of an item. -/
structure StageBuf where
  /-- The item (count; R15). -/
  item : Nat := 0
  /-- Its number among the item's staging buffers: the grain of a reading command, counted from the first (count; R15). -/
  nth : Nat := 0
  /-- Bytes of the staging buffers before it: where its data begins in that of a writing command (bytes; R15). -/
  off : Nat := 0
  /-- The buffer (32 bits; R212). -/
  handle : Nat := 0
  deriving DecidableEq, Repr

/-- The buffer pool manager. -/
structure BufSt where
  /-- By handle (POOL x 2^28 + INDEX) (holder records; R223). -/
  recs : SMap BufRec := []
  /-- Handle at the head of each pool's free list, plus 1 (unlisted: as built, INDEX 0, or NIL in an empty pool) (handles; R213). -/
  head : SMap Nat := []
  /-- Buffer SRAM bytes unlike those of the lists as built and zeroes elsewhere (192 MiB; R213). -/
  sram : SMap Byte := []
  /-- Layouts committed since reset, newest first; the reset layout lies below them (counts; R211). -/
  laid : List (List Nat) := []
  /-- Last result returned to each unit, by its agent ID (results; R217). -/
  results : SMap AllocRes := []
  /-- Buffers freed in the present allocator cycle, the last first (handles; R222). -/
  cyc : List Nat := []
  /-- Allocator port of the cycle's last operation plus 1; 0 none (5 bits; R222). -/
  cycPort : Nat := 0
  /-- Buffers that items hold as staging (list; R15). -/
  stage : List StageBuf := []
  /-- Staging buffers an item has been given, and their bytes, by item (counts; R15). -/
  staged : SMap (Nat × Nat) := []
  /-- Items whose host port met QUOTA, EMPTY or a wait for its staging buffers (1 bit; R217). -/
  stalled : SMap Bool := []
  deriving DecidableEq, Repr

/-- One frame of an engine's work. -/
structure FrameWork where
  /-- Order class of R249 (1 to 5; R249). -/
  prio : Nat := 0
  /-- Order within the class (slot, t_end or ASN; R249). -/
  key : Nat := 0
  /-- What it serves (1; R245). -/
  who : Option Who := none
  /-- Instance (11 bits; R231). -/
  inst : Nat := 0
  /-- Grain (grain; R230). -/
  grain : Nat := 0
  /-- Blocks it carries (compression) (4 bits; R230). -/
  mask : Nat := 0
  /-- ASN of the write (64 bits; R196). -/
  asn : Nat := 0
  /-- Original bytes (compression) or stored frame (decompression) (bytes; R229). -/
  data : List Byte := []
  /-- Level (0 to 4; R231). -/
  level : Nat := 0
  /-- DEFLATE format (1 bit; R231). -/
  deflate : Bool := false
  /-- Firmware-queue descriptor it works for (index; R251). -/
  desc : Option Nat := none
  /-- Input reported uncorrectable (1 bit; R244). -/
  poison : Bool := false
  deriving DecidableEq, Repr

/-- Compression and decompression groups. -/
structure EngSt where
  /-- Frame on each compression engine (24; R249). -/
  ceRun : SMap FrameWork := []
  /-- Frame on each decompression engine (96; R249). -/
  deRun : SMap FrameWork := []
  /-- Descriptors started, by group (0 CE, 1 DE, 2 HE): next index (index; R251). -/
  fwqStarted : SMap Nat := []
  /-- Descriptors whose work has ended and that are not written back, group x 4,096 + index (status, length; R251). -/
  fwqEnded : SMap (Nat × Nat) := []
  /-- Key slot whose USERS a started digest descriptor counts in, group x 4,096 + index (slot + 1; R262). -/
  fwqSlot : SMap Nat := []
  /-- Descriptors written back and not passed by FWQ_HEAD, group x 4,096 + index (bit; R251). -/
  fwqBack : SMap Bool := []
  deriving DecidableEq, Repr

/-- One digest context. -/
structure DigCtx where
  /-- ALG of R253 (8 bits; R257). -/
  alg : Nat := 0
  /-- Chaining state (8 words; R257). -/
  state : List Nat := []
  /-- 0 the message, 1 its padding has been appended, 2 the outer pass of an HMAC (0 to 2; R254). -/
  pass : Nat := 0
  /-- Partial block (up to 127; R257). -/
  part : List Byte := []
  /-- Length absorbed (bytes; R257). -/
  len : Nat := 0
  /-- Latched outer state of an HMAC (8 words; R257). -/
  outer : List Nat := []
  /-- Expected digest of a compare (up to 64; R257). -/
  expected : List Byte := []
  /-- A compare (1 bit; R257). -/
  cmp : Bool := false
  /-- Owner: command plus 1; 0 firmware (item + 1; R257). -/
  item : Nat := 0
  /-- Owner: firmware descriptor (index; R269). -/
  desc : Nat := 0
  /-- Booked message (1 bit; R258). -/
  booked : Bool := false
  /-- Order within its class (slot or ASN; R259). -/
  rank : Nat := 0
  /-- Data ready and not absorbed, in ascending byte order (bytes; R256). -/
  ready : List Byte := []
  /-- No more data will come (1 bit; R259). -/
  final : Bool := false
  /-- Engine it is on plus 1; 0 none (0 to 8; R259). -/
  engine : Nat := 0
  /-- Message length (bytes; R254). -/
  total : Nat := 0
  deriving DecidableEq, Repr

/-- The unreadable part of a key slot. -/
structure KeyState where
  /-- Chaining state after K0 xor ipad (8 words; R260). -/
  inner : List Nat := []
  /-- Chaining state after K0 xor opad (8 words; R260). -/
  outer : List Nat := []
  deriving DecidableEq, Repr

/-- Digest group and key slots. -/
structure DigSt where
  /-- Contexts (512; R257). -/
  ctxs : SMap DigCtx := []
  /-- Key slots' chaining states (64; R260). -/
  keys : SMap KeyState := []
  /-- KS_DATA staging registers (write-only) (32 words; R270). -/
  staged : SMap W32 := []
  /-- Key operations (`KS_CMD` code, slot) that wait for ENABLE of the key-slot block (queue; R551). -/
  ksWait : List (Nat × Nat) := []
  /-- The next firmware-queue descriptor has been counted as waiting for a context (1 bit; R258). -/
  fwWaited : Bool := false
  deriving DecidableEq, Repr

/-- One ternary entry. -/
structure SrchEntry where
  /-- VALID (1 bit; R272). -/
  valid : Bool := false
  /-- KEY (160 bits; R272). -/
  key : Nat := 0
  /-- MASK (160 bits; R272). -/
  mask : Nat := 0
  /-- PRIO (16 bits; R272). -/
  prio : Nat := 0
  /-- ASSOC (32 bits; R272). -/
  assoc : Nat := 0
  deriving DecidableEq, Repr

/-- One search result. -/
structure SrchResult where
  /-- HIT (1 bit; R275). -/
  hit : Bool := false
  /-- MULTI (1 bit; R275). -/
  multi : Bool := false
  /-- TIE (1 bit; R275). -/
  tie : Bool := false
  /-- ERROR (1 bit; R275). -/
  err : Bool := false
  /-- Winner's index within the bank (16 bits; R275). -/
  index : Nat := 0
  /-- Winner's ASSOC (32 bits; R275). -/
  assoc : Nat := 0
  /-- Winner's PRIO (16 bits; R275). -/
  prio : Nat := 0
  /-- MATCHES (17 bits; R275). -/
  nMatch : Nat := 0
  deriving DecidableEq, Repr

/-- Operations of a bank in the present 1 us window. -/
structure SlotUse where
  /-- All of them (0 to 1000; R294). -/
  ops : Nat := 0
  /-- Booked searches among them (0 to 1000; R277). -/
  booked : Nat := 0
  /-- Update records in reserved slots among them (0 to 500; R288). -/
  upd : Nat := 0
  deriving DecidableEq, Repr

/-- Associative search unit. -/
structure SrchSt where
  /-- Entries by global index (262,144; R271). -/
  entries : SMap SrchEntry := []
  /-- Results not yet ready: bank, owner (item + 1, 0 for FW_CMD) and result (queue; R278). -/
  pipe : List (Nat × Nat × SrchResult) := []
  /-- TABLE_UPDATE commands with complete data, in order of completion (item numbers; R288). -/
  updQ : List Nat := []
  /-- Region sweeps of a bank: next global index and entries left (first, left; R280). -/
  sweeps : List (Nat × Nat) := []
  /-- Classifier entries to be invalidated where they still name the instance and one of the ports (entry, instance, ports; R160). -/
  clsSweeps : List (Nat × Nat × Nat) := []
  /-- Bank latched by the pending FW_CMD (2 bits; R293). -/
  fwBank : Nat := 0
  /-- Operation latched by the pending FW_CMD; 0 none (2 bits; R293). -/
  fwOp : Nat := 0
  /-- INDEX latched (16 bits; R293). -/
  fwIndex : Nat := 0
  /-- GLOBAL latched (1 bit; R293). -/
  fwGlobal : Bool := false
  /-- Staging registers latched (key, mask, priority, associated data) (entry; R293). -/
  fwEntry : SrchEntry := {}
  /-- FW_SEGEN latched (16 bits; R293). -/
  fwSegEn : Nat := 0
  /-- The pending search has had its slot (1 bit; R293). -/
  fwSearched : Bool := false
  /-- Operations of each bank in the present window: the cap in force (250 to 1000; R294). -/
  cap : Nat := 1000
  /-- What the banks have performed in the present window (4; R277). -/
  used : SMap SlotUse := []
  deriving DecidableEq, Repr

/-- A record the front end cut from a grain. -/
structure Record where
  /-- Offset in the grain (14 bits; R344). -/
  off : Nat := 0
  /-- Length (15 bits; R344). -/
  len : Nat := 0
  /-- Field values (16; R345). -/
  fields : List W64 := []
  /-- SHORT (1 bit; R345). -/
  short : Bool := false
  /-- Tap bits (8 bits; R346). -/
  taps : Nat := 0
  deriving DecidableEq, Repr

/-- A stream core's job. -/
structure Job where
  /-- Scan it belongs to (item number; R351). -/
  item : Nat := 0
  /-- Grain index within the extent (32 bits; R352). -/
  grain : Nat := 0
  /-- Closing job (1 bit; R354). -/
  closing : Bool := false
  /-- Decoded bytes of the grain (16,384; R352). -/
  window : List Byte := []
  /-- Records not yet returned by RNEXT (list; R353). -/
  recs : List Record := []
  /-- Current record (1; R353). -/
  cur : Option Record := none
  /-- Records returned so far (count; R356). -/
  r : Nat := 0
  /-- Output bytes put (bytes; R356). -/
  outB : Nat := 0
  /-- Cluster clock cycles counted (cycles; R356). -/
  clock : Nat := 0
  deriving DecidableEq, Repr

/-- One Nollek core. -/
structure Core where
  /-- G1 to g31 by number (31 x 32 bits; R297). -/
  g : SMap W32 := []
  /-- P7 to p0; p0 reads 1 (8 bits; R297). -/
  p : BitVec 8 := 1
  /-- LS0 to LS3 (4 x 32 bits; R297). -/
  ls : SMap W32 := []
  /-- LE0 to LE3 (4 x 32 bits; R297). -/
  le : SMap W32 := []
  /-- LC0 to LC3 (4 x 32 bits; R297). -/
  lc : SMap W32 := []
  /-- RCNT (16 bits; R297). -/
  rcnt : BitVec 16 := 0
  /-- AFLAGS.V (1 bit; R297). -/
  v : Bool := false
  /-- AFLAGS.DZ (1 bit; R297). -/
  dz : Bool := false
  /-- AFLAGS.DZT (1 bit; R297). -/
  dzt : Bool := false
  /-- PC (32 bits; R297). -/
  pc : W32 := 0
  /-- The instruction at PC is governed and RCNT repetitions remain (1 bit; R319). -/
  repeating : Bool := false
  /-- CYCLE (64 bits; R323). -/
  cycle : W64 := 0
  /-- BUDGET (64 bits; R323). -/
  budget : W64 := 0
  /-- SLO (32 bits; R323). -/
  slo : W32 := 0
  /-- SHI (32 bits; R323). -/
  shi : W32 := 0
  /-- PSTAT (6 bits; R323). -/
  pstat : BitVec 6 := 0x10
  /-- ESAVE.PSTAT (6 bits; R323). -/
  esave : BitVec 6 := 0
  /-- ESAVE.RACT (1 bit; R323). -/
  ract : Bool := false
  /-- EPC (32 bits; R323). -/
  epc : W32 := 0
  /-- ECAUSE.INT (1 bit; R323). -/
  ecauseInt : Bool := false
  /-- ECAUSE.CODE (8 bits; R323). -/
  ecause : BitVec 8 := 0
  /-- EADDR (32 bits; R323). -/
  eaddr : W32 := 0
  /-- EVEC (32 bits; R323). -/
  evec : W32 := 0
  /-- SCRATCH (32 bits; R323). -/
  scratch : W32 := 0
  /-- PTBR_HI and PTBR_LO (44 bits; R323). -/
  ptbr : W64 := 0
  /-- TCMP_HI and TCMP_LO (64 bits; R323). -/
  tcmp : W64 := 0xFFFFFFFFFFFFFFFF
  /-- Holding registers of CSR pairs: value plus presence (see pairHas) (CSR pairs; R27). -/
  pairHi : SMap W32 := []
  /-- Cached translations by virtual page: level-1 and level-2 entry (cache; R333). -/
  tlb : SMap (W64 × W64) := []
  /-- A WFI waits (1 bit; R331). -/
  waiting : Bool := false
  /-- The core is out of reset (control) or runs a job (stream) (1 bit; R337). -/
  running : Bool := false
  /-- Instruction memory (stream core) (64 KiB; R21). -/
  imem : SMap Byte := []
  /-- Data memory (stream core), by offset (128 KiB; R21). -/
  dmem : SMap Byte := []
  /-- Its job (stream core) (1; R351). -/
  job : Option Job := none
  /-- Scan of its last job plus 1 (item + 1; R354). -/
  ranJob : Nat := 0
  /-- Instance of its last job since its last wipe, plus 1 (inst + 1; R348). -/
  lastInst : Nat := 0
  /-- Recorded fault code (8 bits; R327). -/
  faultCode : Nat := 0
  /-- Recorded PC (32 bits; R327). -/
  faultPc : W32 := 0
  /-- Recorded EADDR (32 bits; R327). -/
  faultAddr : W32 := 0
  deriving DecidableEq, Repr

/-- One entry of a collector FIFO. -/
structure ColRec where
  /-- Scan (item number; R363). -/
  item : Nat := 0
  /-- Core number 12 x cluster + core (8 bits; R367). -/
  core : Nat := 0
  /-- From a closing job (1 bit; R367). -/
  closing : Bool := false
  /-- Grain index (32 bits; R367). -/
  grain : Nat := 0
  /-- The record (1 to 1,024; R363). -/
  bytes : List Byte := []
  deriving DecidableEq, Repr

/-- One stream cluster. -/
structure Cluster where
  /-- Scan it runs plus 1; 0 none (item + 1; R348). -/
  run : Nat := 0
  /-- Decode table (32 slots; R359). -/
  decode : SMap W64 := []
  /-- Microcode store (1,024; R359). -/
  ucode : SMap W64 := []
  /-- UCODE_LEN of the loaded program (0 to 1,024; R359). -/
  ucLen : Nat := 0
  /-- Collector FIFO, oldest first (64; R363). -/
  fifo : List ColRec := []
  deriving DecidableEq, Repr

/-- One loaded filter program. -/
structure Program where
  /-- Instance (10 bits; R340). -/
  inst : Nat := 0
  /-- The image (bytes; R338). -/
  image : List Byte := []
  /-- UNLOAD_PROGRAM has completed (1 bit; R341). -/
  unloaded : Bool := false
  deriving DecidableEq, Repr

/-- The run of one SCAN. -/
structure ScanSt where
  /-- Program (instance x 2^32 + handle) (handle key; R366). -/
  prog : Nat := 0
  /-- Clusters it holds (clusters; R347). -/
  clusters : List Nat := []
  /-- Next grain to enter decode (count; R351). -/
  nextGrain : Nat := 0
  /-- Grains whose job has ended (grain indices; R368). -/
  ended : List Nat := []
  /-- Records delivered (count; R357). -/
  delivered : Nat := 0
  /-- RECORDS_CUT (count; R346). -/
  cut : Nat := 0
  /-- SKIPPED (count; R344). -/
  skipped : Nat := 0
  /-- BAD_GRAINS (count; R344). -/
  badGrains : Nat := 0
  /-- RESULT_RECORDS (count; R369). -/
  results : Nat := 0
  /-- Stopped early (1 bit; R368). -/
  stopped : Bool := false
  /-- OUT_FLAGS (2 bits; R369). -/
  flags : Nat := 0
  /-- FAULT_GRAIN (32 bits; R369). -/
  faultGrain : Nat := 0xFFFFFFFF
  /-- FAULT_PC (32 bits; R369). -/
  faultPc : Nat := 0
  /-- FAULT_CODE (8 bits; R369). -/
  faultCode : Nat := 0
  /-- FAULT_CORE (8 bits; R369). -/
  faultCore : Nat := 0
  /-- Status of a stop (16 bits; R355). -/
  status : Nat := 0
  /-- Decoded grains waiting for an idle core: grain index, bytes (grains; R351). -/
  ready : List (Nat × List Byte) := []
  /-- Cores that still have to run their closing job (cores; R354). -/
  closingLeft : List Nat := []
  /-- Closing jobs have begun (1 bit; R354). -/
  closingBegun : Bool := false
  /-- Records moved to egress: grain index and the output position after its last byte (records; R368). -/
  marks : List (Nat × Nat) := []
  deriving DecidableEq, Repr

/-- Stream clusters and result collector. -/
structure ScanUnit where
  /-- By number (16; R348). -/
  clusters : SMap Cluster := []
  /-- Loaded programs, key instance x 2^32 + handle (256; R340). -/
  progs : SMap Program := []
  /-- By item number (scans; R354). -/
  scans : SMap ScanSt := []
  deriving DecidableEq, Repr

/-- One request in a DRAM queue. -/
structure DReq where
  /-- DRAM port (0 to 10; R379). -/
  port : Nat := 0
  /-- Burst of the physical address (address / 64; R382). -/
  burst : Nat := 0
  /-- A read's data at its arrival (64; R382). -/
  data : List Byte := []
  /-- A read's burst was poisoned at its arrival (1 bit; R388). -/
  poison : Bool := false
  /-- A write that covers the whole burst (1 bit; R382). -/
  whole : Bool := false
  /-- A read's error: 0 none, 1 correctable, 2 uncorrectable (0 to 2; R388). -/
  ecc : Nat := 0
  /-- Rank (1 bit; R376). -/
  rank : Nat := 0
  /-- What a read's burst holds for its requester (tag; R389). -/
  obj : DramObj := .plain
  /-- A write (1 bit; R382). -/
  wr : Bool := false
  /-- Time of its arrival at the channel (us; R380). -/
  since : Nat := 0
  /-- A read that waits for the merge of a queued write of its burst (1 bit; R382). -/
  taken : Bool := false
  /-- A write moved to the head of its queue (1 bit; R382). -/
  head : Bool := false
  deriving DecidableEq, Repr

/-- The last data a DRAM port received. -/
structure DOut where
  /-- The burst (64; R388). -/
  data : List Byte := []
  /-- Marked poisoned (1 bit; R388). -/
  poison : Bool := false
  /-- Error response: no installed DRAM at the address (1 bit; R19). -/
  err : Bool := false
  deriving DecidableEq, Repr

/-- One DRAM rank. -/
structure Rank where
  /-- ACTIVE, DRAIN, SELF_REFRESH, EXIT (2 bits; R385). -/
  phase : RankPhase := .active
  /-- Refresh debt (0 to 8; R383). -/
  debt : Nat := 0
  /-- Time of its last request plus 1; 0 none (us; R385). -/
  reqUs : Nat := 0
  deriving DecidableEq, Repr

/-- One DRAM channel. -/
structure Chan where
  /-- Read queue, oldest first (128; R382). -/
  rq : List DReq := []
  /-- Write queue, oldest first (64; R382). -/
  wq : List DReq := []
  /-- Ranks (2; R383). -/
  ranks : SMap Rank := []
  /-- Bursts of the last 32 commands issued, newest first (32; R386). -/
  retry : List Nat := []
  /-- ALERT_n low, recovery under way (1 bit; R386). -/
  alert : Bool := false
  /-- Replay attempts of the present recovery that met an alert (0 to 3; R386). -/
  replays : Nat := 0
  /-- Open row + 1 by rank, subchannel, bank group and bank (rows; R380). -/
  openRow : SMap Nat := []
  deriving DecidableEq, Repr

/-- DRAM. -/
structure DramSt where
  /-- Contents by physical address (unlisted: 0, as zeroed at the start) (512 GiB; R18). -/
  bytes : SMap Byte := []
  /-- Poisoned bursts (bit a burst; R388). -/
  poison : SMap Bool := []
  /-- Channels (8; R382). -/
  chans : SMap Chan := []
  /-- Device width of the population (x4, else x8) (1 bit; R376). -/
  x4 : Bool := true
  /-- Next burst of the scrub in progress (burst; R390). -/
  scrubNext : Nat := 0
  /-- End of the last scrub of the installed DRAM; 0 none (us + 1; R390). -/
  scrubDone : Nat := 0
  /-- Last burst returned to each DRAM port (ports; R388). -/
  out : SMap DOut := []
  /-- Objects whose poisoned bursts the present command has returned ([] between commands) (tags; R389). -/
  hit : List DramObj := []
  deriving DecidableEq, Repr

/-- One seal chain. -/
structure Chain where
  /-- SHA-256 of its newest token; [] none (32; R402). -/
  head : List Byte := []
  /-- SEQ of its newest token (64 bits; R405). -/
  headSeq : Nat := 0
  /-- Newest tokens, newest first (8; R403). -/
  tokens : List (List Byte) := []
  /-- Tokens since its previous checkpoint (32 bits; R405). -/
  since : Nat := 0
  /-- Checkpoint number (32 bits; R405). -/
  cpNum : Nat := 0
  /-- Newest checkpoint (224; R406). -/
  cp : List Byte := []
  /-- TIME of its newest token (64 bits; R403). -/
  lastTime : Nat := 0
  deriving DecidableEq, Repr

/-- One outbound mailbox message. -/
structure OutMsg where
  /-- TYPE (8 bits; R411). -/
  type : Nat := 0
  /-- SSTAT (8 bits; R413). -/
  sstat : Nat := 0
  /-- INSTANCE (16 bits; R410). -/
  inst : Nat := 0
  /-- REQ_ID (32 bits; R410). -/
  req : Nat := 0
  /-- LBA (64 bits; R410). -/
  lba : Nat := 0
  /-- COUNT (32 bits; R410). -/
  count : Nat := 0
  /-- LOCK_INDEX (16 bits; R410). -/
  lock : Nat := 0
  /-- DATA (up to 224; R410). -/
  data : List Byte := []
  deriving DecidableEq, Repr

/-- Sealed record domain. -/
structure SrdSt where
  /-- VDD_SRD present (1 bit; R393). -/
  powered : Bool := true
  /-- UNSET, DISCIPLINED, HOLDOVER (2 bits; R396). -/
  tstate : Nat := 0
  /-- TAI (64 bits, ns; R396). -/
  time : Nat := 0
  /-- LEAP (TAI - UTC) (s; R396). -/
  leap : Int := 0
  /-- Holdover time counted (ns; R397). -/
  holdoverNs : Nat := 0
  /-- Consecutive good PPS edges (count; R398). -/
  goodPps : Nat := 0
  /-- 10 MHz input present (1 bit; R397). -/
  tenMhz : Bool := false
  /-- PPS edges arrive (1 bit; R417). -/
  ppsPresent : Bool := false
  /-- Monotonic counter (64 bits; R399). -/
  counter : Nat := 0
  /-- TAMPER_CNT in the store (32 bits; R395). -/
  tamperCnt : Nat := 0
  /-- TAMPER flag (1 bit; R395). -/
  tamper : Bool := false
  /-- Consecutive high samples of each loop (capped at 2) (2 loops; R395). -/
  loopHigh : SMap Nat := []
  /-- Consecutive low samples of each loop (capped at 2) (2 loops; R395). -/
  loopLow : SMap Nat := []
  /-- The opening of the loop has been counted (2 loops; R395). -/
  loopCounted : SMap Bool := []
  /-- Jumper fitted (1 bit; R395). -/
  jumper : Bool := false
  /-- Level (fitted) last sampled (1 bit; R395). -/
  jumpLevel : Bool := false
  /-- Samples of that level in a row (capped at 1,000) (ms; R395). -/
  jumpRun : Nat := 0
  /-- Verification mode (1 bit; R418). -/
  verify : Bool := false
  /-- Bits of SEAL_BREAK programmed (0 to 256; R400). -/
  sealBreak : Nat := 0
  /-- SRD fuses programmed (1 bit; R400). -/
  provisioned : Bool := false
  /-- SRD_ID (64 bits; R400). -/
  srdId : Nat := 0
  /-- AUTH_DIGEST (48; R400). -/
  authDigest : List Byte := []
  /-- STORE_WRAP, by the number of the random draw that made it plus 1; 0 unprogrammed (draw number; R400). -/
  storeWrap : Nat := 0
  /-- Seal key by SEAL_BREAK: draw number plus 1; 0 none held (keys; R401). -/
  sealKeys : SMap Nat := []
  /-- Newest signing key: draw number plus 1; 0 none (draw number; R401). -/
  signKey : Nat := 0
  /-- SRD firmware version (32 bits; R405). -/
  swVersion : Nat := 0
  /-- SRD firmware image in the store (bytes; R418). -/
  image : List Byte := []
  /-- SW_DIGEST (32; R405). -/
  swDigest : List Byte := []
  /-- Chains by instance number (1,024; R403). -/
  chains : SMap Chain := []
  /-- Lock entries by index (4,096; R407). -/
  locks : SMap LockEnt := []
  /-- Inbound messages with arrival stamp (us), oldest first (16; R410). -/
  inbox : List (List Byte × Nat) := []
  /-- Outbound messages, oldest first (16; R410). -/
  outbox : List OutMsg := []
  /-- Lock, replay and STATUS messages waiting for an outbound slot (queue; R408). -/
  outWait : List OutMsg := []
  /-- IN_DATA staging registers (write-only) (40 words; R419). -/
  staged : SMap W32 := []
  /-- Nonce issued and not used or lapsed (32 B; R417). -/
  nonce : Option (List Byte) := none
  /-- TIME_SET awaiting the next PPS edge (utc, leap; R417). -/
  pendTime : Option (Nat × Int) := none
  /-- LEAP_SET scheduled (utc, leap; R417). -/
  pendLeap : Option (Nat × Int) := none
  /-- Latest TIME of any issued token or checkpoint (ns; R417). -/
  maxIssued : Nat := 0
  /-- TAI hour of the last hour checkpoints (hour; R406). -/
  lastHour : Nat := 0
  /-- Draws made from the SRD's random source (count; R401). -/
  draws : Nat := 0
  /-- Life-cycle indication (7 before fuse load) (3 bits; R393). -/
  lcSeen : Nat := 7
  /-- Last console answer (data of STATUS, IDENT, NONCE) (bytes; R417). -/
  answer : List Byte := []
  /-- Command waiting for the response with a REQ_ID: its item, and the instant its request was posted (items; R416). -/
  waitCmd : SMap (Nat × Nat) := []
  /-- REQ_ID firmware chose last (32 bits; R410). -/
  reqId : Nat := 0
  deriving DecidableEq, Repr

/-- One knot link beyond its page. -/
structure LinkSt where
  /-- The peer's signal is detected (1 bit; R423). -/
  sig : Bool := false
  /-- Training at 28.125 Gbit/s (1 bit; R424). -/
  half : Bool := false
  /-- Next flit sequence number expected (flit number; R426). -/
  rxSeq : Nat := 0
  /-- Next flit sequence number to send (flit number; R426). -/
  txSeq : Nat := 0
  /-- A replay from the sender's buffer has been asked for (1 bit; R426). -/
  replay : Bool := false
  /-- The peer's power-limit step, from its idle flits (4 bits; R430). -/
  peerStep : Nat := 0
  /-- Instant of the last flit delivered (us; R436). -/
  lastFlit : Nat := 0
  /-- Idle flits sent (count; R426). -/
  idleSent : Nat := 0
  /-- The peer has been a member (so its loss is a loss) (1 bit; R422). -/
  peerKnown : Bool := false
  deriving DecidableEq, Repr

/-- One part forwarded by a peer and run here. -/
structure PartSt where
  /-- Receiving device (3 bits; R429). -/
  peer : Nat := 0
  /-- Command (8 bits; R429). -/
  op : Nat := 0
  /-- Instance (10 bits; R429). -/
  inst : Nat := 0
  /-- First block (64 bits; R429). -/
  lba : Nat := 0
  /-- Blocks (32 bits; R429). -/
  count : Nat := 0
  /-- ASN of the command (64 bits; R435). -/
  asn : Nat := 0
  /-- Working deadline (us; R436). -/
  deadlineUs : Nat := 0
  /-- The receiver's number of the part (32 bits; R429). -/
  tag : Nat := 0
  /-- The model's item that runs it (item; R429). -/
  item : Nat := 0
  /-- Ended (1 bit; R429). -/
  ended : Bool := false
  deriving DecidableEq, Repr

/-- One ASN request awaiting the home's grant. -/
structure AsnReq where
  /-- Command (item; R433). -/
  item : Nat := 0
  /-- Instance (10 bits; R433). -/
  inst : Nat := 0
  /-- Cancelled after 1.9 us (1 bit; R433). -/
  cancelled : Bool := false
  deriving DecidableEq, Repr

/-- One mirror record held for the buddy. -/
structure MirRec where
  /-- Instance (10 bits; R438). -/
  inst : Nat := 0
  /-- Grain (grain; R438). -/
  grain : Nat := 0
  /-- Block mask (4 bits; R438). -/
  mask : Nat := 0
  /-- Blocks its frame was made with (4 bits; R438). -/
  made : Nat := 0
  /-- ASN (64 bits; R438). -/
  asn : Nat := 0
  /-- Stored frame (bytes; R438). -/
  frame : List Byte := []
  deriving DecidableEq, Repr

/-- Knot. -/
structure KnotSt where
  /-- Links (8; R423). -/
  links : SMap LinkSt := []
  /-- ASN requests sent to the home (list; R433). -/
  asnReqs : List AsnReq := []
  /-- At the home: ASNs of writing commands not reported complete (inst, ASN, LBA, blocks; R434). -/
  granted : List (Nat × Nat × Nat × Nat) := []
  /-- At the home: ASNs cancelled, never used again (inst, ASN; R433). -/
  skipped : List (Nat × Nat) := []
  /-- Parts received (list; R429). -/
  parts : List PartSt := []
  /-- Parts forwarded and not ended (item, peer; R429). -/
  fwd : List (Nat × Nat) := []
  /-- Mirror records held for the buddy, by the owner's CADDR (region; R438). -/
  mirror : SMap MirRec := []
  /-- Room in the buddy's mirror region last returned (bytes; R438). -/
  credit : Nat := 0
  /-- Devices evicted (8 bits; R443). -/
  evicted : Nat := 0
  /-- Highest ASN seen by knot instance (64 bits; R442). -/
  maxAsn : SMap Nat := []
  /-- A home has been learnt (1 bit; R422). -/
  homeKnown : Bool := false
  /-- Messages handed to each link and not yet followed by an idle flit (flits; R426). -/
  out : SMap (List KnotMsg) := []
  deriving DecidableEq, Repr

/-- One temperature sensor. -/
structure Sensor where
  /-- OFF (10^-6 degC; R447). -/
  off : Int := 0
  /-- Last reading (1/16 degC; R446). -/
  temp : Int := 0
  /-- The last sample met a conversion error (1 bit; R448). -/
  conv : Bool := false
  /-- Disagreements in a row (0 to 3; R448). -/
  count : Nat := 0
  /-- Last_ok (1/16 degC; R448). -/
  lastOk : Int := 0
  /-- Failed (1 bit; R448). -/
  failed : Bool := false
  deriving DecidableEq, Repr

/-- Thermal and power-limit unit. -/
structure ThermSt where
  /-- Sensors (64; R446). -/
  sensors : SMap Sensor := []
  /-- Rise of each region (10^-6 degC; R447). -/
  rise : SMap Int := []
  /-- Samples since the reset that covers THERM (settled from 20,000) (count; R447). -/
  samples : Nat := 0
  /-- Region clamp recorded (5 regions; R450). -/
  clamped : SMap Bool := []
  /-- Monitor sums of the last samples, newest first (20 sums, mW; R451). -/
  pHist : List Nat := []
  /-- Up (us; R452). -/
  upUs : Nat := 0
  /-- A rise is under way (1 bit; R453). -/
  rising : Bool := false
  /-- Calendar time of the last sample (the model's: it tells whether the calendar has moved since) (us; R452). -/
  lastUs : Nat := 0
  /-- THERMTRIP_N level (true: released) (1 bit; R456). -/
  tripN : Bool := true
  /-- Latched shutdown or trip (1 bit; R456). -/
  latched : Bool := false
  deriving DecidableEq, Repr

/-- Sequencer. -/
structure PwrSt where
  /-- VDD_AON present (1 bit; R469). -/
  supplyAon : Bool := true
  /-- PWR_GOOD (1 bit; R461). -/
  pwrGood : Bool := true
  /-- PFAIL_N (true: high) (1 bit; R473). -/
  pfailN : Bool := true
  /-- SYS_RESET_N (true: high) (1 bit; R470). -/
  sysResetN : Bool := true
  /-- Power-up: next row of the sequence; 0 none under way (0 to 11; R471). -/
  seq : Nat := 0
  /-- A power-fail sequence has started and domains stay off until a main reset (1 bit; R473). -/
  pf : Bool := false
  /-- Freeze reached (1 bit; R475). -/
  frozen : Bool := false
  /-- Status journal entries take (POWER_FAIL or THERMAL_SHUTDOWN) (16 bits; R476). -/
  pfStatus : Nat := 0
  /-- PWR_GOOD fell before DONE (1 bit; R479). -/
  dumpBad : Bool := false
  /-- A main reset waits for the end of the sequence and SYS_RESET_N high (1 bit; R470). -/
  mainWait : Bool := false
  /-- Instant at which PFAIL_N last fell (us; R470). -/
  pfUs : Nat := 0
  /-- AON_CLK has stopped (1 bit; R468). -/
  aonLost : Bool := false
  /-- Domains switching (domains; R464). -/
  switching : List Nat := []
  /-- The present start follows a warm reset: DRAM was kept (1 bit; R490). -/
  warmStart : Bool := false
  /-- The replay step of the present start is over (1 bit; R488). -/
  started : Bool := true
  /-- The waiting main reset comes from SYS_RESET_N (1 bit; R481). -/
  sysCause : Bool := false
  deriving DecidableEq, Repr

/-- A directory record of the system area. -/
structure DirRec where
  /-- Generation number (count; R485). -/
  gen : Nat := 0
  /-- Active slot: 0 A, 1 B (1 bit; R485). -/
  active : Nat := 0
  /-- Slot A: 0 empty, 1 valid, 2 failed (2 bits; R485). -/
  stA : Nat := 0
  /-- Slot B (2 bits; R485). -/
  stB : Nat := 0
  /-- Life-cycle code of the last start (4 bits; R485). -/
  lc : Nat := 0
  deriving DecidableEq, Repr

/-- A dump on the media. -/
structure Dump where
  /-- Dump sequence number (64 bits; R492). -/
  seq : Nat := 0
  /-- PF_STAT.CAUSE (8 bits; R492). -/
  cause : Nat := 0
  /-- Life-cycle code (4 bits; R492). -/
  lc : Nat := 0
  /-- Journal by instance (entries; R504). -/
  journal : List (Nat × JournalEnt) := []
  /-- Entries beyond the journal's capacity, by instance (counts; R504). -/
  jOver : SMap Nat := []
  /-- Map-delta log (log; R477). -/
  delta : List Delta := []
  /-- Cache records by CADDR (cache; R477). -/
  recs : List (Nat × CacheRec) := []
  /-- Mirror region (region; R477). -/
  mirror : List (Nat × MirRec) := []
  /-- Closing record passed program status (1 bit; R477). -/
  valid : Bool := false
  deriving DecidableEq, Repr

/-- Fuses, boot and firmware images. -/
structure OtpSt where
  /-- Fuse slots by group x 5 + slot (unlisted: unprogrammed); PORT_AUTH slot 0 as R144 says it leaves the factory (slot bits; R483). -/
  fuses : SMap Nat := [(20, 0x1B9CB5B30000FFFF55555555)]
  /-- Bits of the SVN counter programmed (0 to 256; R483). -/
  svnBits : Nat := 0
  /-- KNOT_ID pins (3 bits; R482). -/
  strapId : Nat := 0
  /-- BOOT_SRC pins (2 bits; R482). -/
  strapBoot : Nat := 0
  /-- TEST_EN pin (1 bit; R533). -/
  pinTest : Bool := false
  /-- TEST_EN as latched (1 bit; R533). -/
  testEn : Bool := false
  /-- Newest directory record (record; R485). -/
  dir : DirRec := {}
  /-- Image slot A (image; R485). -/
  slotA : List Byte := []
  /-- Image slot B (image; R485). -/
  slotB : List Byte := []
  /-- Staged image (32 MiB; R497). -/
  stage : SMap Byte := []
  /-- Bytes staged (bytes; R497). -/
  stageLen : Nat := 0
  /-- FW_ACTIVATE that was accepted, plus 1 (item + 1; R498). -/
  actItem : Nat := 0
  /-- Slot that ran before the activation (1 bit; R498). -/
  actOld : Nat := 0
  /-- Raise the SVN counter at READY (1 bit; R498). -/
  commitSvn : Bool := false
  /-- Start watchdog armed (1 bit; R489). -/
  wdArmed : Bool := false
  /-- Instant at which the start watchdog expires (instant, us; R489). -/
  wdEndUs : Nat := 0
  /-- The other slot has been tried since the last good start (1 bit; R489). -/
  fellBack : Bool := false
  /-- Draws made from the device's random source (count; R149). -/
  draws : Nat := 0
  /-- Dump on the media (record; R492). -/
  dump : Option Dump := none
  /-- Open-run record's run number; 0 none (count; R507). -/
  runNum : Nat := 0
  /-- A valid open-run record without its closing record (1 bit; R507). -/
  openRun : Bool := false
  /-- Journal left in DRAM by a device reset (entries; R504). -/
  warmJournal : List (Nat × JournalEnt) := []
  /-- Entries beyond its capacity, by instance (counts; R504). -/
  warmOver : SMap Nat := []
  /-- Life-cycle code of the last start (4 bits; R496). -/
  lastLc : Nat := 0
  /-- Every flash block has been erased in SCRAP (1 bit; R496). -/
  scrapDone : Bool := false
  deriving DecidableEq, Repr

/-- An event-log record waiting to be written. -/
structure EvRec where
  /-- CODE (16 bits; R501). -/
  code : Nat := 0
  /-- SEVERITY (2 bits; R501). -/
  sev : Nat := 0
  /-- UNIT (8 bits; R501). -/
  unit : Nat := 0
  /-- PAGE (12 bits; R501). -/
  page : Nat := 0
  /-- DETAIL (64 bits; R501). -/
  detail : Nat := 0
  /-- TIME at the fault (64 bits; R501). -/
  time : Nat := 0
  deriving DecidableEq, Repr

/-- Telemetry and background scheduler. -/
structure TelSt where
  /-- Live histograms: class x 32 + bin, plus 128 for the instance set (counts; R512). -/
  live : SMap Nat := []
  /-- Records of codes 0x0045, 0x0050, 0x0051 held until READY and EN (records; R502). -/
  heldEv : List EvRec := []
  /-- Records that wait for ENABLE of the telemetry block (records; R551). -/
  waitEv : List EvRec := []
  /-- A SNAP waits for ENABLE of the telemetry block (1 bit; R551). -/
  snapWait : Bool := false
  /-- Last ASYNC_EVENT by connection x 64 + code (us + 1; R503). -/
  asyncLast : SMap Nat := []
  /-- Start of the present 100 ms window of the background scheduler (us; R510). -/
  winUs : Nat := 0
  /-- Instant of the last main reset (TIME counts from it) (us; R514). -/
  resetUs : Nat := 0
  /-- STAGE has reached READY since the last reset (1 bit; R502). -/
  ready : Bool := false
  deriving DecidableEq, Repr

/-- JTAG TAP. -/
structure JtagSt where
  /-- Instruction register (IDCODE after a TAP reset) (6 bits; R531). -/
  ir : Nat := 2
  /-- The instruction takes the pins from the device (1 bit; R533). -/
  drive : Bool := false
  /-- DONE (1 bit; R532). -/
  done : Bool := false
  /-- ERROR (1 bit; R532). -/
  err : Bool := false
  /-- DATA (32 bits; R532). -/
  data : W32 := 0
  deriving DecidableEq, Repr

/-- the whole block: everything the spec gives the machine, and the queue of waiting commands. -/
structure State where
  /-- Every register word unlike its reset value, key page x 1,024 + word; KN_PLACE of instance i at pseudo-page 0x1000 + ... (4,096 pages; R29). -/
  regs : SMap W32 := []
  /-- Shadow values (words; R34). -/
  shVal : SMap W32 := []
  /-- Bits of each word that hold a shadow (words; R34). -/
  shMask : SMap W32 := []
  /-- Holding registers of 64-bit pairs, by requester x 2^22 + key of the high word (words; R27). -/
  pairHi : SMap W32 := []
  /-- Last response by requester identity (requesters; R25). -/
  resp : SMap BusResp := []
  /-- Configuration transactions (struct; R32). -/
  cfg : CfgSt := {}
  /-- Transport (struct; R44). -/
  host : HostSt := {}
  /-- Command engine (struct; R80). -/
  cmd : CmdSt := {}
  /-- Cadence (struct; R125). -/
  cad : CadSt := {}
  /-- Virtual instances (1,024; R146). -/
  insts : SMap InstSt := []
  /-- Flash back end (struct; R165). -/
  flash : FlashSt := {}
  /-- Buffer pools (struct; R209). -/
  buf : BufSt := {}
  /-- Compression and decompression (struct; R249). -/
  eng : EngSt := {}
  /-- Digests (struct; R257). -/
  dig : DigSt := {}
  /-- Search (struct; R271). -/
  srch : SrchSt := {}
  /-- Stream core SCcc.k at 12 x cc + k; control core CCn at 256 + n (216; R297). -/
  cores : SMap Core := []
  /-- Bytes control cores have stored that engine DMA does not see yet, by physical address: the core and the byte (bytes; R336). -/
  ctlStores : SMap (Nat × Byte) := []
  /-- Scans (struct; R338). -/
  scan : ScanUnit := {}
  /-- DRAM (struct; R371). -/
  dram : DramSt := {}
  /-- Sealed record domain (struct; R392). -/
  srd : SrdSt := {}
  /-- Knot (struct; R420). -/
  knot : KnotSt := {}
  /-- Thermal unit (struct; R446). -/
  therm : ThermSt := {}
  /-- Sequencer (struct; R469). -/
  pwr : PwrSt := {}
  /-- Fuses and boot (struct; R482). -/
  otp : OtpSt := {}
  /-- Telemetry (struct; R501). -/
  tel : TelSt := {}
  /-- TAP (struct; R531). -/
  jtag : JtagSt := {}
  /-- THE MODEL'S OWN: counter of free values read (not the spec's) (count; R11). -/
  freeCtr : Nat := 0
  /-- The queue of waiting commands (the block model's own) (queue; R11). -/
  pending : List Instr := []
  deriving DecidableEq, Repr

/-- The reasons a command could stop the block. No meaning of this model stops with one: every command of the table
has an effect in the spec, and a command whose precondition does not hold leaves the state as it is. -/
inductive Fault where
  /-- Raised by nothing in this model: kept because the host's interface asks for the type. Safe. -/
  | none
  deriving DecidableEq, Repr

/-- The reasons a command has no meaning. -/
inductive Refusal where
  /-- Raised by an arm of `exec` whose command has no meaning yet; by no meaning. Safe. -/
  | notModelled (mnemonic : String)
  deriving DecidableEq, Repr

/-- The control cores at a reset that covers them (R337): PC at the first word of the boot ROM, the CSRs at the resets of R323. -/
def ctlCores : SMap Core := (List.range 24).map fun n => (256 + n, { pc := 0xFFF00000, shi := 0xFFFFFFFF })

/-- The block right after reset: every store empty, every register at its reset value, the control cores at theirs and not yet
running, the queue empty. -/
def State.reset : State := { cores := ctlCores }

end Sys2Proof.Machine
end

