-- ==== Sys2Proof/Machine/Ops.lean ====
section
/-! DEFINITION. The operations every meaning is built from: sparse stores, bit fields, byte orders, saturating
arithmetic, CRC-32C. None of them knows a subsystem. -/

namespace Sys2Proof

/-- The value listed for a key, if any. -/
def SMap.find {α : Type} : SMap α → Nat → Option α
  | [], _ => none
  | (k', v) :: m, k => if k' = k then some v else SMap.find m k

/-- The value a key holds, `d` where it is not listed. -/
def SMap.getD {α : Type} (d : α) (m : SMap α) (k : Nat) : α := (SMap.find m k).getD d

/-- List a value for a key, at its place in the order; an earlier value goes. -/
def SMap.put {α : Type} : SMap α → Nat → α → SMap α
  | [], k, v => [(k, v)]
  | (k', v') :: m, k, v =>
    if k < k' then (k, v) :: (k', v') :: m
    else if k = k' then (k, v) :: m
    else (k', v') :: SMap.put m k v

/-- Unlist a key. -/
def SMap.del {α : Type} (m : SMap α) (k : Nat) : SMap α := m.filter fun e => decide (e.1 ≠ k)

/-- Write a key of a store whose unlisted keys hold `d`: writing `d` unlists the key. -/
def SMap.setD {α : Type} [DecidableEq α] (d : α) (m : SMap α) (k : Nat) (v : α) : SMap α :=
  if v = d then SMap.del m k else SMap.put m k v

/-- Change what a key holds. -/
def SMap.updD {α : Type} [DecidableEq α] (d : α) (m : SMap α) (k : Nat) (f : α → α) : SMap α :=
  SMap.setD d m k (f (SMap.getD d m k))

/-- Change a listed value; an unlisted key stays unlisted. -/
def SMap.modify {α : Type} (m : SMap α) (k : Nat) (f : α → α) : SMap α :=
  m.map fun p => if p.1 = k then (p.1, f p.2) else p

/-- Unlist every key for which `p` holds. -/
def SMap.dropIf {α : Type} (p : Nat → Bool) (m : SMap α) : SMap α := m.filter fun e => !p e.1

/-- The canonical form of a store whose unlisted key `k` holds `d k`: keys strictly rising, and no listed value equal to what
its key would hold unlisted. -/
def SMap.wf {α : Type} [DecidableEq α] (d : Nat → α) (m : SMap α) : Bool :=
  decide (m.Pairwise fun a b => a.1 < b.1) && m.all fun e => decide (e.2 ≠ d e.1)

namespace Machine

/-! ### Bit fields (R4) -/

/-- Bits [hi:lo] of a number. -/
def nbits (v hi lo : Nat) : Nat := v / 2 ^ lo % 2 ^ (hi + 1 - lo)

/-- Bit n of a number. -/
def nbit (v n : Nat) : Bool := v.testBit n

/-- A number with bits [hi:lo] replaced. -/
def nsetBits (v hi lo x : Nat) : Nat :=
  v - nbits v hi lo * 2 ^ lo + x % 2 ^ (hi + 1 - lo) * 2 ^ lo

/-- Bits [hi:lo] of a word. -/
def fget (w : W32) (hi lo : Nat) : Nat := nbits w.toNat hi lo

/-- A word with bits [hi:lo] replaced. -/
def fset (w : W32) (hi lo x : Nat) : W32 := BitVec.ofNat 32 (nsetBits w.toNat hi lo x)

/-- A Boolean as 0 or 1. -/
def b2n (b : Bool) : Nat := if b then 1 else 0

/-- Saturating addition at 2^n − 1. -/
def satAdd (n a b : Nat) : Nat := min (a + b) (2 ^ n - 1)

/-- Division rounded up. -/
def cdiv (a b : Nat) : Nat := (a + b - 1) / b

/-! ### Byte orders (R5) -/

/-- A number as n bytes, most significant first. -/
def beBytes : Nat → Nat → List Byte
  | 0, _ => []
  | n + 1, v => BitVec.ofNat 8 (v / 256 ^ n) :: beBytes n v

/-- A number as n bytes, least significant first. -/
def leBytes : Nat → Nat → List Byte
  | 0, _ => []
  | n + 1, v => BitVec.ofNat 8 v :: leBytes n (v / 256)

/-- The number bytes spell, most significant first. -/
def ofBe (l : List Byte) : Nat := l.foldl (fun a b => a * 256 + b.toNat) 0

/-- The number bytes spell, least significant first. -/
def ofLe : List Byte → Nat
  | [] => 0
  | b :: l => b.toNat + 256 * ofLe l

/-- `n` bytes from offset `o`; bytes beyond the end are 0. -/
def cut (l : List Byte) (o n : Nat) : List Byte :=
  let t := (l.drop o).take n
  t ++ List.replicate (n - t.length) 0

/-- The big-endian field of `n` bytes at offset `o`. -/
def be (l : List Byte) (o n : Nat) : Nat := ofBe (cut l o n)

/-- The little-endian field of `n` bytes at offset `o`. -/
def le (l : List Byte) (o n : Nat) : Nat := ofLe (cut l o n)

/-- `n` zero bytes. -/
def zeros (n : Nat) : List Byte := List.replicate n 0

/-- Bytes padded with zero bytes to a length, or cut to it. -/
def padTo (n : Nat) (l : List Byte) : List Byte := cut l 0 n

/-- The bytes of a sparse byte store from an address. -/
def readBytes (m : SMap Byte) : Nat → Nat → List Byte
  | _, 0 => []
  | a, n + 1 => SMap.getD 0 m a :: readBytes m (a + 1) n

/-- Write bytes into a sparse byte store from an address. -/
def writeBytes (m : SMap Byte) : Nat → List Byte → SMap Byte
  | _, [] => m
  | a, b :: l => writeBytes (SMap.setD 0 m a b) (a + 1) l

/-! ### CRC-32C (R233): reflected polynomial 0x82F63B78, initial value and final inversion of all ones -/

/-- One bit of the CRC. -/
def crcBit (c : Nat) : Nat := if c % 2 = 1 then (c / 2) ^^^ 0x82F63B78 else c / 2

/-- One byte of the CRC. -/
def crcByte (c : Nat) (b : Byte) : Nat :=
  crcBit (crcBit (crcBit (crcBit (crcBit (crcBit (crcBit (crcBit (c ^^^ b.toNat))))))))

/-- The CRC-32C of bytes. -/
def crc32c (l : List Byte) : Nat := l.foldl crcByte 0xFFFFFFFF ^^^ 0xFFFFFFFF

/-! ### Lists -/

/-- The first element for which `p` holds, and the list without it. -/
def takeFirst {α : Type} (p : α → Bool) : List α → Option α × List α
  | [] => (none, [])
  | x :: l =>
    if p x then (some x, l)
    else
      let r := takeFirst p l
      (r.1, x :: r.2)

/-- Insert before the first element that `after` says comes later. -/
def insertBy {α : Type} (after : α → α → Bool) (x : α) : List α → List α
  | [] => [x]
  | y :: l => if after y x then x :: y :: l else y :: insertBy after x l

end Machine
end Sys2Proof
end

