-- ==== Sys2Proof/Machine/RegTable.lean ====
section
/-! DEFINITION. The register tables of the spec: which field lies where, its access code (R6), its reset value and the
encodings its description does not mark reserved (R10). The rows follow the tables of the chapters field by field. -/

namespace Sys2Proof.Machine

/-- Access codes of R6 (the spec's tables use no `W1S`). -/
inductive Acc where
  | rw | ro | wo | w1c | tx | otp
  deriving DecidableEq, Repr

/-- The encodings a field's description allows (R10). -/
inductive Legal where
  | any
  | range (lo hi : Nat)
  | steps (lo hi step : Nat)
  | oneOf (l : List Nat)
  deriving DecidableEq, Repr

/-- Whether a field value is allowed. -/
def Legal.ok : Legal → Nat → Bool
  | .any, _ => true
  | .range lo hi, v => decide (lo ≤ v) && decide (v ≤ hi)
  | .steps lo hi st, v => decide (lo ≤ v) && decide (v ≤ hi) && decide (v % st = 0)
  | .oneOf l, v => l.contains v

/-- One row of a register table: a field at offset `off + i × s1 + j × s2` for `i < n1` and `j < n2`. -/
structure RegRow where
  /-- Field name. -/
  name : String
  /-- First offset. -/
  off : Nat
  /-- Repeats in the first index. -/
  n1 : Nat := 1
  /-- Stride of the first index, bytes. -/
  s1 : Nat := 4
  /-- Repeats in the second index. -/
  n2 : Nat := 1
  /-- Stride of the second index, bytes. -/
  s2 : Nat := 4
  /-- Highest bit. -/
  hi : Nat
  /-- Lowest bit. -/
  lo : Nat
  /-- Access code. -/
  acc : Acc
  /-- Reset value. -/
  reset : Nat := 0
  /-- Allowed encodings. -/
  legal : Legal := .any
  /-- A counter, set to 0 by `BLK_CTRL.ERR_CLR`. -/
  cnt : Bool := false
  /-- Present on the first page of the range only. -/
  first : Bool := false
  deriving DecidableEq, Repr

/-- Whether a row lies at an offset. -/
def RegRow.covers (r : RegRow) (off : Nat) : Bool :=
  decide (r.off ≤ off) &&
    (let d := off - r.off
     let i := if r.n1 = 1 then 0 else d / r.s1
     let e := d - i * r.s1
     decide (i < r.n1) && decide (e % r.s2 = 0) && decide (e / r.s2 < r.n2))

/-- The blocks of the page assignment table (R23). -/
inductive PageBlk where
  | irq | cfg | hp | cad | vim | fc | fgrp | buf | ce | de | he | ks | sb | srch | sc | dec | dc | dramc | srd | kl | therm | pwr | clk | rst | otp | tel | bg
  | top | mgmt | cadShare | cadRest | bufMax | bufMin | bufUse | bufRest | debug
  deriving DecidableEq, Repr

/-- Register rows of IRQ (R31). -/
def irqRows : List RegRow := [
  { name := "PEND", off := 0x040, hi := 31, lo := 0, acc := .ro, n1 := 16, s1 := 0x4 },
  { name := "EN", off := 0x080, hi := 31, lo := 0, acc := .rw, n1 := 16, s1 := 0x4 },
  { name := "CORE_MASK", off := 0x0C0, hi := 23, lo := 0, acc := .rw },
  { name := "VALID", off := 0x0C4, hi := 31, lo := 31, acc := .ro },
  { name := "PAGE", off := 0x0C4, hi := 8, lo := 0, acc := .ro }]

/-- Register rows of CFG (R32). -/
def cfgRows : List RegRow := [
  { name := "OP", off := 0x040, hi := 1, lo := 0, acc := .wo },
  { name := "ID", off := 0x044, hi := 31, lo := 16, acc := .ro },
  { name := "OWNER", off := 0x044, hi := 15, lo := 8, acc := .ro, reset := 0xFF },
  { name := "RESULT", off := 0x044, hi := 7, lo := 4, acc := .ro },
  { name := "STATE", off := 0x044, hi := 1, lo := 0, acc := .ro },
  { name := "TIMEOUT", off := 0x048, hi := 13, lo := 0, acc := .rw, reset := 0x64, legal := .range 1 10000 },
  { name := "REQUESTER", off := 0x04C, hi := 7, lo := 0, acc := .ro },
  { name := "CONFLICTS", off := 0x050, hi := 31, lo := 0, acc := .ro, cnt := true }]

/-- Register rows of HP (R79). -/
def hpRows : List RegRow := [
  { name := "AN_EN", off := 0x040, hi := 8, lo := 8, acc := .tx, reset := 1 },
  { name := "FEC25", off := 0x040, hi := 3, lo := 2, acc := .tx, reset := 1, legal := .range 0 1 },
  { name := "MODE", off := 0x040, hi := 1, lo := 0, acc := .tx },
  { name := "UDP_PORT", off := 0x044, hi := 15, lo := 0, acc := .tx, reset := 0x2DD2 },
  { name := "RETRY_MAX", off := 0x048, hi := 31, lo := 28, acc := .rw, reset := 8, legal := .range 1 15 },
  { name := "ACK_DELAY_US", off := 0x048, hi := 23, lo := 16, acc := .rw, reset := 0xA, legal := .range 1 255 },
  { name := "RTO_US", off := 0x048, hi := 15, lo := 0, acc := .rw, reset := 0xC8, legal := .range 50 10000 },
  { name := "KEEPALIVE_MAX_MS", off := 0x04C, hi := 31, lo := 16, acc := .rw, reset := 0x3E8, legal := .range 100 60000 },
  { name := "DATA_TIMEOUT_US", off := 0x04C, hi := 15, lo := 0, acc := .rw, reset := 0x7D0, legal := .range 100 60000 },
  { name := "MAX_PAYLOAD", off := 0x050, hi := 13, lo := 0, acc := .rw, reset := 0x2000, legal := .steps 1024 8192 256 },
  { name := "LINK_UP", off := 0x054, hi := 3, lo := 0, acc := .ro },
  { name := "ADDR", off := 0x080, hi := 31, lo := 0, acc := .tx, n1 := 8, s1 := 0x20, n2 := 4, s2 := 4 },
  { name := "VALID", off := 0x090, hi := 31, lo := 31, acc := .tx, n1 := 8, s1 := 0x20 },
  { name := "VLAN_ID", off := 0x090, hi := 27, lo := 16, acc := .tx, n1 := 8, s1 := 0x20 },
  { name := "VLAN_EN", off := 0x090, hi := 15, lo := 15, acc := .tx, n1 := 8, s1 := 0x20 },
  { name := "SUBIF", off := 0x090, hi := 1, lo := 0, acc := .tx, n1 := 8, s1 := 0x20 },
  { name := "MAC_LO", off := 0x180, hi := 31, lo := 0, acc := .tx, n1 := 4, s1 := 0x8 },
  { name := "MAC_HI", off := 0x184, hi := 15, lo := 0, acc := .tx, n1 := 4, s1 := 0x8 },
  { name := "DROP_CNT", off := 0x200, hi := 31, lo := 0, acc := .ro, n1 := 15, s1 := 0x4, cnt := true }]

/-- Register rows of CAD (R141). -/
def cadRows : List RegRow := [
  { name := "RESERVE_PCT", off := 0x040, hi := 7, lo := 0, acc := .tx, reset := 8, legal := .range 3 30 },
  { name := "C1_RATE_MBPS", off := 0x044, hi := 15, lo := 0, acc := .tx, reset := 0x7D0, legal := .range 500 50000 },
  { name := "FLUSH_RATE_MBPS", off := 0x048, hi := 15, lo := 0, acc := .tx, reset := 0x2710, legal := .range 1000 50000 },
  { name := "DRAIN_ALL_GBPS", off := 0x04C, hi := 7, lo := 0, acc := .tx, reset := 0x64, legal := .range 10 200 },
  { name := "C1_MIB", off := 0x050, hi := 31, lo := 16, acc := .tx, reset := 0x40, legal := .range 8 512 },
  { name := "C0_KIB", off := 0x050, hi := 15, lo := 0, acc := .tx, reset := 0x800, legal := .range 256 16384 },
  { name := "DRAIN_WINDOW_MS", off := 0x054, hi := 15, lo := 0, acc := .tx, reset := 0x3E8, legal := .range 100 8000 },
  { name := "SINCE_DESCENT_US", off := 0x058, hi := 18, lo := 8, acc := .ro, reset := 0x7D0 },
  { name := "STEP", off := 0x058, hi := 3, lo := 0, acc := .ro },
  { name := "DECISION_MAX_NS", off := 0x05C, hi := 15, lo := 0, acc := .ro, cnt := true },
  { name := "ACCEPT_LO", off := 0x060, hi := 31, lo := 0, acc := .ro },
  { name := "ACCEPT_HI", off := 0x064, hi := 31, lo := 0, acc := .ro },
  { name := "BE_QUEUED", off := 0x068, hi := 17, lo := 0, acc := .ro },
  { name := "FAULT_CNT", off := 0x06C, hi := 31, lo := 0, acc := .ro, cnt := true },
  { name := "COARSE", off := 0x070, hi := 31, lo := 31, acc := .rw },
  { name := "SLOT", off := 0x070, hi := 28, lo := 16, acc := .rw },
  { name := "RESOURCE", off := 0x070, hi := 11, lo := 0, acc := .rw },
  { name := "BOOKED", off := 0x074, hi := 31, lo := 0, acc := .ro },
  { name := "CAP", off := 0x078, hi := 31, lo := 0, acc := .ro },
  { name := "BUSY_CNT", off := 0x084, hi := 31, lo := 0, acc := .ro, n1 := 8, s1 := 0x4, cnt := true }]

/-- Register rows of VIM (R164). -/
def vimRows : List RegRow := [
  { name := "PA_MAP0", off := 0x040, hi := 1, lo := 0, acc := .tx, reset := 1, legal := .range 0 2 },
  { name := "PA_MAP1", off := 0x040, hi := 3, lo := 2, acc := .tx, reset := 1, legal := .range 0 2 },
  { name := "PA_MAP2", off := 0x040, hi := 5, lo := 4, acc := .tx, reset := 1, legal := .range 0 2 },
  { name := "PA_MAP3", off := 0x040, hi := 7, lo := 6, acc := .tx, reset := 1, legal := .range 0 2 },
  { name := "PA_MAP4", off := 0x040, hi := 9, lo := 8, acc := .tx, reset := 1, legal := .range 0 2 },
  { name := "PA_MAP5", off := 0x040, hi := 11, lo := 10, acc := .tx, reset := 1, legal := .range 0 2 },
  { name := "PA_MAP6", off := 0x040, hi := 13, lo := 12, acc := .tx, reset := 1, legal := .range 0 2 },
  { name := "PA_MAP7", off := 0x040, hi := 15, lo := 14, acc := .tx, reset := 1, legal := .range 0 2 },
  { name := "PA_MAP8", off := 0x040, hi := 17, lo := 16, acc := .tx, reset := 1, legal := .range 0 2 },
  { name := "PA_MAP9", off := 0x040, hi := 19, lo := 18, acc := .tx, reset := 1, legal := .range 0 2 },
  { name := "PA_MAP10", off := 0x040, hi := 21, lo := 20, acc := .tx, reset := 1, legal := .range 0 2 },
  { name := "PA_MAP11", off := 0x040, hi := 23, lo := 22, acc := .tx, reset := 1, legal := .range 0 2 },
  { name := "PA_MAP12", off := 0x040, hi := 25, lo := 24, acc := .tx, reset := 1, legal := .range 0 2 },
  { name := "PA_MAP13", off := 0x040, hi := 27, lo := 26, acc := .tx, reset := 1, legal := .range 0 2 },
  { name := "PA_MAP14", off := 0x040, hi := 29, lo := 28, acc := .tx, reset := 1, legal := .range 0 2 },
  { name := "PA_MAP15", off := 0x040, hi := 31, lo := 30, acc := .tx, reset := 1, legal := .range 0 2 },
  { name := "PA_MAP16", off := 0x044, hi := 1, lo := 0, acc := .tx, reset := 3, legal := .oneOf [0, 3] },
  { name := "PA_MAP17", off := 0x044, hi := 3, lo := 2, acc := .tx, reset := 3, legal := .oneOf [0, 3] },
  { name := "PA_MAP18", off := 0x044, hi := 5, lo := 4, acc := .tx, reset := 3, legal := .oneOf [0, 3] },
  { name := "PA_MAP19", off := 0x044, hi := 7, lo := 6, acc := .tx, reset := 3, legal := .oneOf [0, 3] },
  { name := "PA_MAP20", off := 0x044, hi := 9, lo := 8, acc := .tx, reset := 3, legal := .oneOf [0, 3] },
  { name := "PA_MAP21", off := 0x044, hi := 11, lo := 10, acc := .tx, reset := 3, legal := .oneOf [0, 3] },
  { name := "PA_MAP22", off := 0x044, hi := 13, lo := 12, acc := .tx, reset := 3, legal := .oneOf [0, 3] },
  { name := "PA_MAP23", off := 0x044, hi := 15, lo := 14, acc := .tx, reset := 3, legal := .oneOf [0, 3] },
  { name := "INSTANCE", off := 0x048, hi := 9, lo := 0, acc := .rw },
  { name := "SEL", off := 0x04C, hi := 9, lo := 0, acc := .rw },
  { name := "STATE", off := 0x050, hi := 31, lo := 29, acc := .ro },
  { name := "OUTSTANDING", off := 0x050, hi := 17, lo := 0, acc := .ro },
  { name := "PORT_MASK", off := 0x054, hi := 15, lo := 0, acc := .ro },
  { name := "HITCHES", off := 0x058, hi := 17, lo := 0, acc := .ro },
  { name := "WIPE_PENDING", off := 0x05C, hi := 7, lo := 0, acc := .ro },
  { name := "IN_USE", off := 0x060, hi := 10, lo := 0, acc := .ro }]

/-- Register rows of FC (R208). -/
def fcRows : List RegRow := [
  { name := "RATE_MTS", off := 0x040, hi := 27, lo := 16, acc := .tx },
  { name := "IFACE", off := 0x040, hi := 9, lo := 8, acc := .tx },
  { name := "TPROG_US", off := 0x044, hi := 31, lo := 16, acc := .tx },
  { name := "TR_NS", off := 0x044, hi := 15, lo := 0, acc := .tx },
  { name := "TBERS_US", off := 0x048, hi := 31, lo := 16, acc := .tx },
  { name := "TSUS_NS", off := 0x048, hi := 15, lo := 0, acc := .tx },
  { name := "PRG_SUSP_MAX", off := 0x04C, hi := 31, lo := 24, acc := .tx },
  { name := "ERS_SUSP_MAX", off := 0x04C, hi := 23, lo := 16, acc := .tx },
  { name := "MIN_RESUME_US", off := 0x04C, hi := 15, lo := 0, acc := .tx, reset := 0x28, legal := .range 1 1000 },
  { name := "FEAT_ADDR", off := 0x050, hi := 23, lo := 16, acc := .tx },
  { name := "LADDER_LEN", off := 0x050, hi := 4, lo := 0, acc := .tx, legal := .range 0 16 },
  { name := "PAGES_PER_PROG", off := 0x054, hi := 15, lo := 8, acc := .tx, reset := 1, legal := .range 1 4 },
  { name := "PLANES", off := 0x054, hi := 1, lo := 0, acc := .tx, legal := .range 0 2 },
  { name := "DONE", off := 0x058, hi := 31, lo := 31, acc := .ro },
  { name := "FAIL", off := 0x058, hi := 30, lo := 30, acc := .ro },
  { name := "EYE_PS", off := 0x058, hi := 15, lo := 0, acc := .ro },
  { name := "TPROG_SLC_US", off := 0x05C, hi := 15, lo := 0, acc := .tx },
  { name := "VALID", off := 0x080, hi := 31, lo := 31, acc := .tx, n1 := 16, s1 := 0x4 },
  { name := "STATE", off := 0x080, hi := 25, lo := 24, acc := .ro, n1 := 16, s1 := 0x4 },
  { name := "CE", off := 0x080, hi := 9, lo := 8, acc := .tx, n1 := 16, s1 := 0x4 },
  { name := "VOLUME", off := 0x080, hi := 7, lo := 4, acc := .tx, n1 := 16, s1 := 0x4 },
  { name := "LUN", off := 0x080, hi := 2, lo := 0, acc := .tx, n1 := 16, s1 := 0x4 },
  { name := "SOFT", off := 0x0C0, hi := 31, lo := 31, acc := .tx, n1 := 16, s1 := 0x4 },
  { name := "FEAT_VAL", off := 0x0C0, hi := 23, lo := 0, acc := .tx, n1 := 16, s1 := 0x4 },
  { name := "HARD_FAIL_CNT", off := 0x100, hi := 31, lo := 0, acc := .ro, cnt := true },
  { name := "RETRY_CNT", off := 0x104, hi := 31, lo := 0, acc := .ro, cnt := true },
  { name := "REBUILD_CNT", off := 0x108, hi := 31, lo := 0, acc := .ro, cnt := true },
  { name := "UNCORR_CNT", off := 0x10C, hi := 31, lo := 0, acc := .ro, cnt := true },
  { name := "SUSPEND_CNT", off := 0x110, hi := 31, lo := 0, acc := .ro, cnt := true },
  { name := "PRG_FAIL_CNT", off := 0x114, hi := 31, lo := 0, acc := .ro, cnt := true },
  { name := "ERS_FAIL_CNT", off := 0x118, hi := 31, lo := 0, acc := .ro, cnt := true },
  { name := "TIMEOUT_CNT", off := 0x11C, hi := 31, lo := 0, acc := .ro, cnt := true }]

/-- Register rows of FGRP (R208). -/
def fgrpRows : List RegRow := [
  { name := "PARITY", off := 0x040, hi := 0, lo := 0, acc := .tx },
  { name := "OP_PCT", off := 0x044, hi := 7, lo := 0, acc := .tx, reset := 7, legal := .range 4 50 },
  { name := "GC_W", off := 0x048, hi := 31, lo := 24, acc := .tx, reset := 0x32 },
  { name := "WL_W", off := 0x048, hi := 23, lo := 16, acc := .tx, reset := 0xA },
  { name := "SCRUB_W", off := 0x048, hi := 15, lo := 8, acc := .tx, reset := 0x19 },
  { name := "CAL_W", off := 0x048, hi := 7, lo := 0, acc := .tx, reset := 0xF },
  { name := "GC_LOW_PM", off := 0x04C, hi := 15, lo := 8, acc := .tx, reset := 0x14 },
  { name := "GC_CRIT_PM", off := 0x04C, hi := 7, lo := 0, acc := .tx, reset := 5 },
  { name := "WL_DELTA", off := 0x050, hi := 31, lo := 16, acc := .tx, reset := 0x12C },
  { name := "SCRUB_DAYS", off := 0x050, hi := 15, lo := 8, acc := .tx, reset := 7, legal := .range 1 90 },
  { name := "CAL_INTERVAL_MIN", off := 0x050, hi := 7, lo := 0, acc := .tx, reset := 0x3C, legal := .range 10 240 },
  { name := "REFRESH_BITS", off := 0x054, hi := 15, lo := 0, acc := .tx, reset := 0x60 },
  { name := "USER_LO", off := 0x058, hi := 31, lo := 0, acc := .ro },
  { name := "USER_HI", off := 0x05C, hi := 31, lo := 0, acc := .ro },
  { name := "FREE_BLOCKS", off := 0x060, hi := 31, lo := 0, acc := .ro },
  { name := "FAILED", off := 0x064, hi := 25, lo := 16, acc := .ro },
  { name := "GOOD", off := 0x064, hi := 9, lo := 0, acc := .ro },
  { name := "CACHE_MIB", off := 0x0C0, hi := 12, lo := 0, acc := .tx, reset := 0x800, legal := .steps 64 4096 64, first := true },
  { name := "CACHE_EFF_MIB", off := 0x0C4, hi := 28, lo := 16, acc := .ro, first := true },
  { name := "CACHE_USED_MIB", off := 0x0C4, hi := 12, lo := 0, acc := .ro, first := true },
  { name := "DUMP_MAX_MIB", off := 0x0C8, hi := 12, lo := 0, acc := .ro, first := true }]

/-- Register rows of BUF (R228). -/
def bufRows : List RegRow := [
  { name := "COUNT0", off := 0x040, hi := 27, lo := 0, acc := .tx, reset := 0x20000 },
  { name := "COUNT1", off := 0x044, hi := 27, lo := 0, acc := .tx, reset := 0x4000 },
  { name := "COUNT2", off := 0x048, hi := 27, lo := 0, acc := .tx, reset := 0x1000 },
  { name := "COUNT3", off := 0x04C, hi := 27, lo := 0, acc := .tx, reset := 0x200 },
  { name := "COUNT4", off := 0x050, hi := 27, lo := 0, acc := .tx, reset := 0x80 },
  { name := "FREE0", off := 0x060, hi := 27, lo := 0, acc := .ro, reset := 0x20000 },
  { name := "FREE1", off := 0x064, hi := 27, lo := 0, acc := .ro, reset := 0x4000 },
  { name := "FREE2", off := 0x068, hi := 27, lo := 0, acc := .ro, reset := 0x1000 },
  { name := "FREE3", off := 0x06C, hi := 27, lo := 0, acc := .ro, reset := 0x200 },
  { name := "FREE4", off := 0x070, hi := 27, lo := 0, acc := .ro, reset := 0x80 },
  { name := "LOW0", off := 0x080, hi := 27, lo := 0, acc := .ro, reset := 0x20000 },
  { name := "LOW1", off := 0x084, hi := 27, lo := 0, acc := .ro, reset := 0x4000 },
  { name := "LOW2", off := 0x088, hi := 27, lo := 0, acc := .ro, reset := 0x1000 },
  { name := "LOW3", off := 0x08C, hi := 27, lo := 0, acc := .ro, reset := 0x200 },
  { name := "LOW4", off := 0x090, hi := 27, lo := 0, acc := .ro, reset := 0x80 },
  { name := "MIN_LIMIT_PCT", off := 0x0A0, hi := 7, lo := 0, acc := .tx, reset := 0x32, legal := .range 10 90 },
  { name := "OUT_MIN", off := 0x0A4, hi := 19, lo := 0, acc := .ro },
  { name := "UNB2", off := 0x0A8, hi := 27, lo := 0, acc := .ro },
  { name := "CAP2", off := 0x0AC, hi := 27, lo := 0, acc := .ro, reset := 0x147 },
  { name := "REBUILD", off := 0x0B0, hi := 4, lo := 0, acc := .ro },
  { name := "MISUSE_CNT", off := 0x0C0, hi := 31, lo := 0, acc := .ro, n1 := 8, s1 := 0x4, cnt := true },
  { name := "MISUSE_HANDLE", off := 0x0E0, hi := 31, lo := 0, acc := .ro },
  { name := "FB_CNT", off := 0x0E4, hi := 31, lo := 0, acc := .ro, cnt := true },
  { name := "EMPTY_CNT", off := 0x0E8, hi := 31, lo := 0, acc := .ro, cnt := true },
  { name := "QUOTA_CNT", off := 0x0EC, hi := 31, lo := 0, acc := .ro, cnt := true }]

/-- Register rows of CE (R252). -/
def ceRows : List RegRow := [
  { name := "BUSY", off := 0x040, hi := 31, lo := 31, acc := .ro },
  { name := "PRIO", off := 0x040, hi := 30, lo := 28, acc := .ro },
  { name := "FRAMES", off := 0x044, hi := 31, lo := 0, acc := .ro, cnt := true },
  { name := "IN_LO", off := 0x048, hi := 31, lo := 0, acc := .ro, cnt := true },
  { name := "IN_HI", off := 0x04C, hi := 31, lo := 0, acc := .ro, cnt := true },
  { name := "OUT_LO", off := 0x050, hi := 31, lo := 0, acc := .ro, cnt := true },
  { name := "OUT_HI", off := 0x054, hi := 31, lo := 0, acc := .ro, cnt := true },
  { name := "STORED_CNT", off := 0x058, hi := 31, lo := 0, acc := .ro, cnt := true },
  { name := "CHECK_FAIL_CNT", off := 0x05C, hi := 31, lo := 0, acc := .ro, cnt := true },
  { name := "BASE_LO", off := 0x0C0, hi := 31, lo := 0, acc := .tx, first := true },
  { name := "BASE_HI", off := 0x0C4, hi := 11, lo := 0, acc := .tx, first := true },
  { name := "FWQ_EN", off := 0x0C8, hi := 31, lo := 31, acc := .tx, first := true },
  { name := "SIZE_LOG", off := 0x0C8, hi := 3, lo := 0, acc := .tx, reset := 4, legal := .range 4 12, first := true },
  { name := "TAIL", off := 0x0CC, hi := 11, lo := 0, acc := .rw, first := true },
  { name := "HEAD", off := 0x0D0, hi := 11, lo := 0, acc := .ro, first := true }]

/-- Register rows of DE (R252). -/
def deRows : List RegRow := [
  { name := "BUSY", off := 0x040, hi := 31, lo := 31, acc := .ro },
  { name := "PRIO", off := 0x040, hi := 30, lo := 28, acc := .ro },
  { name := "FRAMES", off := 0x044, hi := 31, lo := 0, acc := .ro, cnt := true },
  { name := "OUT_LO", off := 0x048, hi := 31, lo := 0, acc := .ro, cnt := true },
  { name := "OUT_HI", off := 0x04C, hi := 31, lo := 0, acc := .ro, cnt := true },
  { name := "FAIL_CNT", off := 0x060, hi := 31, lo := 0, acc := .ro, n1 := 10, s1 := 0x4, cnt := true },
  { name := "BASE_LO", off := 0x0C0, hi := 31, lo := 0, acc := .tx, first := true },
  { name := "BASE_HI", off := 0x0C4, hi := 11, lo := 0, acc := .tx, first := true },
  { name := "FWQ_EN", off := 0x0C8, hi := 31, lo := 31, acc := .tx, first := true },
  { name := "SIZE_LOG", off := 0x0C8, hi := 3, lo := 0, acc := .tx, reset := 4, legal := .range 4 12, first := true },
  { name := "TAIL", off := 0x0CC, hi := 11, lo := 0, acc := .rw, first := true },
  { name := "HEAD", off := 0x0D0, hi := 11, lo := 0, acc := .ro, first := true }]

/-- Register rows of HE (R270). -/
def heRows : List RegRow := [
  { name := "BUSY", off := 0x040, hi := 31, lo := 31, acc := .ro },
  { name := "PRIO", off := 0x040, hi := 30, lo := 28, acc := .ro },
  { name := "CTX", off := 0x040, hi := 8, lo := 0, acc := .ro },
  { name := "BLOCKS", off := 0x044, hi := 31, lo := 0, acc := .ro, cnt := true },
  { name := "IN_LO", off := 0x048, hi := 31, lo := 0, acc := .ro, cnt := true },
  { name := "IN_HI", off := 0x04C, hi := 31, lo := 0, acc := .ro, cnt := true },
  { name := "SWITCH_CNT", off := 0x050, hi := 31, lo := 0, acc := .ro, cnt := true },
  { name := "CMP_FAULT_CNT", off := 0x054, hi := 31, lo := 0, acc := .ro, cnt := true },
  { name := "CTX_USED", off := 0x060, hi := 9, lo := 0, acc := .ro, first := true },
  { name := "CTX_WAIT", off := 0x064, hi := 31, lo := 0, acc := .ro, cnt := true, first := true },
  { name := "BASE_LO", off := 0x0C0, hi := 31, lo := 0, acc := .tx, first := true },
  { name := "BASE_HI", off := 0x0C4, hi := 11, lo := 0, acc := .tx, first := true },
  { name := "FWQ_EN", off := 0x0C8, hi := 31, lo := 31, acc := .tx, first := true },
  { name := "SIZE_LOG", off := 0x0C8, hi := 3, lo := 0, acc := .tx, reset := 4, legal := .range 4 12, first := true },
  { name := "TAIL", off := 0x0CC, hi := 11, lo := 0, acc := .rw, first := true },
  { name := "HEAD", off := 0x0D0, hi := 11, lo := 0, acc := .ro, first := true }]

/-- Register rows of KS (R270). -/
def ksRows : List RegRow := [
  { name := "OP", off := 0x040, hi := 9, lo := 8, acc := .wo },
  { name := "SLOT", off := 0x040, hi := 5, lo := 0, acc := .wo },
  { name := "ALG", off := 0x044, hi := 9, lo := 8, acc := .rw, legal := .range 1 3 },
  { name := "LEN", off := 0x044, hi := 7, lo := 0, acc := .rw, legal := .range 1 128 },
  { name := "REASON", off := 0x048, hi := 15, lo := 8, acc := .ro },
  { name := "RESULT", off := 0x048, hi := 1, lo := 0, acc := .ro },
  { name := "DATA", off := 0x080, hi := 31, lo := 0, acc := .wo, n1 := 32, s1 := 0x4 },
  { name := "HOLD", off := 0x100, hi := 31, lo := 31, acc := .rw, n1 := 64, s1 := 0x4 },
  { name := "LOCKED", off := 0x100, hi := 30, lo := 30, acc := .ro, n1 := 64, s1 := 0x4 },
  { name := "LOADED", off := 0x100, hi := 29, lo := 29, acc := .ro, n1 := 64, s1 := 0x4 },
  { name := "ALG", off := 0x100, hi := 28, lo := 27, acc := .ro, n1 := 64, s1 := 0x4 },
  { name := "LEN", off := 0x100, hi := 24, lo := 17, acc := .ro, n1 := 64, s1 := 0x4 },
  { name := "USERS", off := 0x100, hi := 16, lo := 0, acc := .ro, n1 := 64, s1 := 0x4 }]

/-- Register rows of SB (R296). -/
def sbRows : List RegRow := [
  { name := "SEG_ALLOC", off := 0x040, hi := 15, lo := 0, acc := .ro },
  { name := "SEARCH_CNT", off := 0x044, hi := 31, lo := 0, acc := .ro, cnt := true },
  { name := "UPDATE_CNT", off := 0x048, hi := 31, lo := 0, acc := .ro, cnt := true },
  { name := "MULTI_CNT", off := 0x04C, hi := 31, lo := 0, acc := .ro, cnt := true },
  { name := "TIE_CNT", off := 0x050, hi := 31, lo := 0, acc := .ro, cnt := true },
  { name := "PARITY_CNT", off := 0x054, hi := 31, lo := 0, acc := .ro, cnt := true },
  { name := "PARITY_INDEX", off := 0x058, hi := 15, lo := 0, acc := .ro },
  { name := "WITHHELD_CNT", off := 0x05C, hi := 31, lo := 0, acc := .ro, cnt := true },
  { name := "UPD_RES", off := 0x060, hi := 9, lo := 0, acc := .tx, reset := 0x40, legal := .range 16 500 }]

/-- Register rows of SRCH (R296). -/
def srchRows : List RegRow := [
  { name := "INDEX", off := 0x040, hi := 31, lo := 16, acc := .wo },
  { name := "GLOBAL", off := 0x040, hi := 8, lo := 8, acc := .wo },
  { name := "BANK", off := 0x040, hi := 5, lo := 4, acc := .wo },
  { name := "OP", off := 0x040, hi := 1, lo := 0, acc := .wo },
  { name := "SEG_EN", off := 0x044, hi := 15, lo := 0, acc := .rw },
  { name := "PRIO", off := 0x048, hi := 15, lo := 0, acc := .rw },
  { name := "ASSOC", off := 0x04C, hi := 31, lo := 0, acc := .rw },
  { name := "KEY", off := 0x050, hi := 31, lo := 0, acc := .rw, n1 := 5, s1 := 0x4 },
  { name := "MASK", off := 0x070, hi := 31, lo := 0, acc := .rw, n1 := 5, s1 := 0x4 },
  { name := "DONE", off := 0x090, hi := 31, lo := 31, acc := .ro },
  { name := "PENDING", off := 0x090, hi := 30, lo := 30, acc := .ro },
  { name := "FLAGS", off := 0x090, hi := 19, lo := 16, acc := .ro },
  { name := "INDEX", off := 0x090, hi := 15, lo := 0, acc := .ro },
  { name := "RASSOC", off := 0x094, hi := 31, lo := 0, acc := .ro },
  { name := "RPRIO", off := 0x098, hi := 15, lo := 0, acc := .ro },
  { name := "RMATCHES", off := 0x09C, hi := 31, lo := 0, acc := .ro },
  { name := "UPD_CHECK_US", off := 0x0A0, hi := 4, lo := 0, acc := .tx, reset := 0x10, legal := .range 5 24 },
  { name := "CAP", off := 0x0A4, hi := 10, lo := 0, acc := .ro, reset := 0x3E8 },
  { name := "CLS_OVF_CNT", off := 0x0C0, hi := 31, lo := 0, acc := .ro, n1 := 16, s1 := 0x4, cnt := true }]

/-- Register rows of SC (R370). -/
def scRows : List RegRow := [
  { name := "HOLD", off := 0x040, hi := 0, lo := 0, acc := .tx },
  { name := "IDLE", off := 0x044, hi := 31, lo := 31, acc := .ro, reset := 1 },
  { name := "INSTANCE", off := 0x044, hi := 25, lo := 16, acc := .ro },
  { name := "BUSY_CORES", off := 0x044, hi := 11, lo := 0, acc := .ro },
  { name := "JOBS", off := 0x048, hi := 31, lo := 0, acc := .ro, cnt := true },
  { name := "RECORDS", off := 0x04C, hi := 31, lo := 0, acc := .ro, cnt := true },
  { name := "RPUT_WAIT", off := 0x050, hi := 31, lo := 0, acc := .ro, cnt := true },
  { name := "BUDGET_CNT", off := 0x054, hi := 31, lo := 0, acc := .ro, cnt := true },
  { name := "FAULT_CNT", off := 0x058, hi := 31, lo := 0, acc := .ro, cnt := true },
  { name := "FIFO_LEVEL", off := 0x05C, hi := 6, lo := 0, acc := .ro },
  { name := "WIPE_CNT", off := 0x060, hi := 31, lo := 0, acc := .ro, cnt := true },
  { name := "CLK_MHZ", off := 0x064, hi := 11, lo := 0, acc := .ro, reset := 0x7D0 },
  { name := "RUN", off := 0x080, hi := 31, lo := 31, acc := .ro, n1 := 12, s1 := 0x4 },
  { name := "FAULT", off := 0x080, hi := 23, lo := 16, acc := .ro, n1 := 12, s1 := 0x4 },
  { name := "PTR", off := 0x0C0, hi := 3, lo := 0, acc := .ro, first := true },
  { name := "BYTES_LO", off := 0x0C4, hi := 31, lo := 0, acc := .ro, cnt := true, first := true },
  { name := "BYTES_HI", off := 0x0C8, hi := 31, lo := 0, acc := .ro, cnt := true, first := true },
  { name := "COL_SKIP", off := 0x0CC, hi := 31, lo := 0, acc := .ro, cnt := true, first := true }]

/-- Register rows of DEC (R370). -/
def decRows : List RegRow := [
  { name := "ADDR", off := 0x040, hi := 9, lo := 0, acc := .rw },
  { name := "UC_LO", off := 0x044, hi := 31, lo := 0, acc := .ro },
  { name := "UC_HI", off := 0x048, hi := 31, lo := 0, acc := .ro },
  { name := "PARITY_CNT", off := 0x04C, hi := 31, lo := 0, acc := .ro, cnt := true },
  { name := "DT_LO", off := 0x100, hi := 31, lo := 0, acc := .ro, n1 := 32, s1 := 0x8 },
  { name := "DT_HI", off := 0x104, hi := 31, lo := 0, acc := .ro, n1 := 32, s1 := 0x8 }]

/-- Register rows of DC (R391). -/
def dcRows : List RegRow := [
  { name := "SR_EN", off := 0x040, hi := 31, lo := 31, acc := .tx },
  { name := "RH_K", off := 0x040, hi := 20, lo := 16, acc := .tx, reset := 0xC, legal := .range 10 16 },
  { name := "SR_IDLE_US", off := 0x040, hi := 15, lo := 0, acc := .tx, reset := 0x64, legal := .range 10 65535 },
  { name := "WCRC_EN", off := 0x044, hi := 1, lo := 1, acc := .tx, reset := 1 },
  { name := "PAR_EN", off := 0x044, hi := 0, lo := 0, acc := .tx, reset := 1 },
  { name := "STATE", off := 0x048, hi := 31, lo := 28, acc := .ro },
  { name := "RATE_MTS", off := 0x048, hi := 27, lo := 16, acc := .ro },
  { name := "RANKS", off := 0x048, hi := 15, lo := 14, acc := .ro },
  { name := "WIDTH", off := 0x048, hi := 13, lo := 12, acc := .ro },
  { name := "CAP_GIB", off := 0x048, hi := 7, lo := 0, acc := .ro },
  { name := "PHASE1", off := 0x04C, hi := 15, lo := 12, acc := .ro },
  { name := "DEBT1", off := 0x04C, hi := 11, lo := 8, acc := .ro },
  { name := "PHASE0", off := 0x04C, hi := 7, lo := 4, acc := .ro },
  { name := "DEBT0", off := 0x04C, hi := 3, lo := 0, acc := .ro },
  { name := "RD_EYE", off := 0x050, hi := 31, lo := 24, acc := .ro, n1 := 10, s1 := 0x4 },
  { name := "WR_EYE", off := 0x050, hi := 23, lo := 16, acc := .ro, n1 := 10, s1 := 0x4 },
  { name := "RD_DLY", off := 0x050, hi := 15, lo := 8, acc := .ro, n1 := 10, s1 := 0x4 },
  { name := "WR_DLY", off := 0x050, hi := 7, lo := 0, acc := .ro, n1 := 10, s1 := 0x4 },
  { name := "CE_CNT", off := 0x080, hi := 31, lo := 0, acc := .ro, cnt := true },
  { name := "UE_CNT", off := 0x084, hi := 31, lo := 0, acc := .ro, cnt := true },
  { name := "POISON_CNT", off := 0x088, hi := 31, lo := 0, acc := .ro, cnt := true },
  { name := "ALERT_CNT", off := 0x08C, hi := 31, lo := 0, acc := .ro, cnt := true },
  { name := "REPLAY_FAIL", off := 0x090, hi := 31, lo := 0, acc := .ro, cnt := true },
  { name := "RH_CNT", off := 0x094, hi := 31, lo := 0, acc := .ro, cnt := true },
  { name := "SR_ENTRY_CNT", off := 0x098, hi := 31, lo := 0, acc := .ro, cnt := true },
  { name := "SR_ABORT_CNT", off := 0x09C, hi := 31, lo := 0, acc := .ro, cnt := true },
  { name := "FORCED_REF_CNT", off := 0x0A0, hi := 31, lo := 0, acc := .ro, cnt := true },
  { name := "FWD_CNT", off := 0x0A4, hi := 31, lo := 0, acc := .ro, cnt := true },
  { name := "UE_ADDR_LO", off := 0x0A8, hi := 31, lo := 0, acc := .ro },
  { name := "UE_ADDR_HI", off := 0x0AC, hi := 11, lo := 0, acc := .ro }]

/-- Register rows of DRAMC (R391). -/
def dramcRows : List RegRow := [
  { name := "SET", off := 0x040, hi := 31, lo := 30, acc := .ro },
  { name := "ERROR", off := 0x040, hi := 7, lo := 0, acc := .ro },
  { name := "INSTALLED_GIB", off := 0x044, hi := 9, lo := 0, acc := .ro },
  { name := "SCRUB_H", off := 0x048, hi := 7, lo := 0, acc := .tx, reset := 0x18, legal := .range 1 168 },
  { name := "TRACK_MS", off := 0x04C, hi := 15, lo := 0, acc := .tx, reset := 0x64, legal := .range 10 1000 },
  { name := "TARGET_NS0", off := 0x080, hi := 15, lo := 0, acc := .tx, reset := 0xFA, legal := .range 50 65535 },
  { name := "TARGET_NS1", off := 0x084, hi := 15, lo := 0, acc := .tx, reset := 0x1F4, legal := .range 50 65535 },
  { name := "TARGET_NS2", off := 0x088, hi := 15, lo := 0, acc := .tx, reset := 0xFA0, legal := .range 50 65535 },
  { name := "TARGET_NS3", off := 0x08C, hi := 15, lo := 0, acc := .tx, reset := 0x190, legal := .range 50 65535 },
  { name := "TARGET_NS4", off := 0x090, hi := 15, lo := 0, acc := .tx, reset := 0x7D0, legal := .range 50 65535 },
  { name := "TARGET_NS5", off := 0x094, hi := 15, lo := 0, acc := .tx, reset := 0x1F4, legal := .range 50 65535 },
  { name := "TARGET_NS6", off := 0x098, hi := 15, lo := 0, acc := .tx, reset := 0xFA0, legal := .range 50 65535 },
  { name := "TARGET_NS7", off := 0x09C, hi := 15, lo := 0, acc := .tx, reset := 0x1F40, legal := .range 50 65535 },
  { name := "TARGET_NS8", off := 0x0A0, hi := 15, lo := 0, acc := .tx, reset := 0x1F4, legal := .range 50 65535 },
  { name := "TARGET_NS9", off := 0x0A4, hi := 15, lo := 0, acc := .tx, reset := 0xFA, legal := .range 50 65535 },
  { name := "TARGET_NS10", off := 0x0A8, hi := 15, lo := 0, acc := .tx, reset := 0x3E80, legal := .range 50 65535 }]

/-- Register rows of SRD (R419). -/
def srdRows : List RegRow := [
  { name := "FREE", off := 0x040, hi := 4, lo := 0, acc := .ro, reset := 0x10 },
  { name := "POST", off := 0x044, hi := 0, lo := 0, acc := .wo },
  { name := "VALID", off := 0x048, hi := 31, lo := 31, acc := .ro },
  { name := "TYPE", off := 0x048, hi := 23, lo := 16, acc := .ro },
  { name := "COUNT", off := 0x048, hi := 4, lo := 0, acc := .ro },
  { name := "POP", off := 0x04C, hi := 0, lo := 0, acc := .wo },
  { name := "LOCKS_USED", off := 0x050, hi := 28, lo := 16, acc := .ro },
  { name := "VALID", off := 0x050, hi := 7, lo := 7, acc := .ro },
  { name := "REPLAYED", off := 0x050, hi := 6, lo := 6, acc := .ro },
  { name := "SEAL_FITTED", off := 0x050, hi := 4, lo := 4, acc := .ro },
  { name := "TAMPER", off := 0x050, hi := 3, lo := 3, acc := .ro },
  { name := "VERIFY", off := 0x050, hi := 2, lo := 2, acc := .ro },
  { name := "TIME_STATE", off := 0x050, hi := 1, lo := 0, acc := .ro },
  { name := "SW_VERSION", off := 0x054, hi := 31, lo := 0, acc := .ro },
  { name := "SEAL_BREAK", off := 0x058, hi := 8, lo := 0, acc := .ro },
  { name := "TAMPER_CNT", off := 0x05C, hi := 31, lo := 0, acc := .ro },
  { name := "SRD_ID_LO", off := 0x060, hi := 31, lo := 0, acc := .ro },
  { name := "SRD_ID_HI", off := 0x064, hi := 31, lo := 0, acc := .ro },
  { name := "TIME_LO", off := 0x068, hi := 31, lo := 0, acc := .ro },
  { name := "TIME_HI", off := 0x06C, hi := 31, lo := 0, acc := .ro },
  { name := "SW_DIGEST", off := 0x080, hi := 31, lo := 0, acc := .ro, n1 := 8, s1 := 0x4 },
  { name := "IN_DATA", off := 0x100, hi := 31, lo := 0, acc := .wo, n1 := 40, s1 := 0x4 },
  { name := "OUT_DATA", off := 0x200, hi := 31, lo := 0, acc := .ro, n1 := 64, s1 := 0x4 }]

/-- Register rows of KL (R445). -/
def klRows : List RegRow := [
  { name := "PEER_VER", off := 0x040, hi := 31, lo := 24, acc := .ro },
  { name := "PEER_ID", off := 0x040, hi := 18, lo := 16, acc := .ro },
  { name := "HALF", off := 0x040, hi := 4, lo := 4, acc := .ro },
  { name := "STATE", off := 0x040, hi := 3, lo := 0, acc := .ro },
  { name := "RETRAIN", off := 0x044, hi := 1, lo := 1, acc := .wo },
  { name := "FORCE_HALF", off := 0x044, hi := 0, lo := 0, acc := .tx },
  { name := "LEASE_PCT", off := 0x048, hi := 7, lo := 0, acc := .tx, reset := 0xA, legal := .range 0 30 },
  { name := "FWD_OUT_CNT", off := 0x04C, hi := 31, lo := 0, acc := .ro, cnt := true },
  { name := "FWD_IN_CNT", off := 0x050, hi := 31, lo := 0, acc := .ro, cnt := true },
  { name := "REPLAY_CNT", off := 0x054, hi := 31, lo := 0, acc := .ro, cnt := true },
  { name := "LOST_CNT", off := 0x058, hi := 31, lo := 0, acc := .ro, cnt := true },
  { name := "LAT_MAX_NS", off := 0x05C, hi := 15, lo := 0, acc := .ro },
  { name := "SIG", off := 0x0C0, hi := 31, lo := 0, acc := .tx, first := true },
  { name := "PEER_TIMEOUT_US", off := 0x0C4, hi := 31, lo := 16, acc := .tx, reset := 0x64, legal := .range 20 10000, first := true },
  { name := "MIRROR_LOSS", off := 0x0C4, hi := 1, lo := 1, acc := .tx, first := true },
  { name := "BUDDY_EN", off := 0x0C4, hi := 0, lo := 0, acc := .tx, first := true },
  { name := "MIRROR_MIB", off := 0x0C8, hi := 12, lo := 0, acc := .tx, reset := 0x200, legal := .steps 0 4096 64, first := true },
  { name := "UNMIRRORED", off := 0x0CC, hi := 16, lo := 16, acc := .ro, first := true },
  { name := "HOME", off := 0x0CC, hi := 10, lo := 8, acc := .ro, first := true },
  { name := "MEMBERS", off := 0x0CC, hi := 7, lo := 0, acc := .ro, first := true },
  { name := "SEL", off := 0x0D0, hi := 9, lo := 0, acc := .rw, first := true },
  { name := "STRIPE_LOG", off := 0x0D4, hi := 12, lo := 8, acc := .tx, reset := 6, legal := .range 6 16, first := true },
  { name := "MEMBERS", off := 0x0D4, hi := 7, lo := 0, acc := .tx, first := true },
  { name := "USED_MIB", off := 0x0D8, hi := 12, lo := 0, acc := .ro, first := true },
  { name := "EVICT", off := 0x0DC, hi := 3, lo := 3, acc := .wo, first := true },
  { name := "DEVICE", off := 0x0DC, hi := 2, lo := 0, acc := .wo, first := true }]

/-- Register rows of THERM (R458). -/
def thermRows1 : List RegRow := [
  { name := "HYST_C", off := 0x040, hi := 23, lo := 16, acc := .tx, reset := 3, legal := .range 1 10 },
  { name := "THROTTLE_C", off := 0x040, hi := 15, lo := 8, acc := .tx, reset := 0x64, legal := .range 85 105 },
  { name := "WARN_C", off := 0x040, hi := 7, lo := 0, acc := .tx, reset := 0x5F, legal := .range 80 105 },
  { name := "GUARD_W", off := 0x044, hi := 15, lo := 8, acc := .tx, reset := 4, legal := .range 0 32 },
  { name := "LIMIT_W", off := 0x044, hi := 7, lo := 0, acc := .tx, reset := 0xB9, legal := .range 60 210 },
  { name := "DROP_W", off := 0x048, hi := 7, lo := 0, acc := .tx, n1 := 4, s1 := 0x4, reset := 8, legal := .range 1 32 },
  { name := "DROP_W", off := 0x048, hi := 15, lo := 8, acc := .tx, n1 := 4, s1 := 0x4, reset := 8, legal := .range 1 32 },
  { name := "DROP_W", off := 0x048, hi := 23, lo := 16, acc := .tx, n1 := 4, s1 := 0x4, reset := 8, legal := .range 1 32 },
  { name := "DROP_W", off := 0x048, hi := 31, lo := 24, acc := .tx, n1 := 3, s1 := 0x4, reset := 8, legal := .range 1 32 },
  { name := "WARN", off := 0x058, hi := 7, lo := 7, acc := .ro },
  { name := "HELD", off := 0x058, hi := 6, lo := 6, acc := .ro },
  { name := "CLAMPED", off := 0x058, hi := 5, lo := 5, acc := .ro },
  { name := "LIMIT_UNMET", off := 0x058, hi := 4, lo := 4, acc := .ro },
  { name := "STEP", off := 0x058, hi := 3, lo := 0, acc := .ro },
  { name := "TMAX_SENSOR", off := 0x05C, hi := 21, lo := 16, acc := .ro },
  { name := "TMAX_C", off := 0x05C, hi := 15, lo := 0, acc := .ro },
  { name := "P_MW", off := 0x060, hi := 19, lo := 0, acc := .ro },
  { name := "FAILED_LO", off := 0x064, hi := 31, lo := 0, acc := .ro },
  { name := "FAILED_HI", off := 0x068, hi := 31, lo := 0, acc := .ro },
  { name := "DESCENT_CNT", off := 0x06C, hi := 31, lo := 0, acc := .ro, cnt := true },
  { name := "RISE_CNT", off := 0x070, hi := 31, lo := 0, acc := .ro, cnt := true },
  { name := "PMON", off := 0x080, hi := 19, lo := 0, acc := .ro, n1 := 24, s1 := 0x4 },
  { name := "TAU", off := 0x0E0, hi := 7, lo := 0, acc := .tx, n1 := 2, s1 := 0x4, reset := 0x14, legal := .range 1 255 },
  { name := "TAU", off := 0x0E0, hi := 15, lo := 8, acc := .tx, reset := 0x14, legal := .range 1 255 },
  { name := "TAU", off := 0x0E0, hi := 23, lo := 16, acc := .tx, reset := 0x14, legal := .range 1 255 },
  { name := "TAU", off := 0x0E0, hi := 31, lo := 24, acc := .tx, reset := 0x14, legal := .range 1 255 },
  { name := "THETA_HI", off := 0x100, hi := 31, lo := 16, acc := .tx, reset := 0x96 },
  { name := "THETA_HI", off := 0x104, hi := 31, lo := 16, acc := .tx, reset := 0x96 },
  { name := "THETA_HI", off := 0x108, hi := 31, lo := 16, acc := .tx, reset := 0x96 },
  { name := "THETA_HI", off := 0x10C, hi := 31, lo := 16, acc := .tx, reset := 0x96 },
  { name := "THETA_HI", off := 0x110, hi := 31, lo := 16, acc := .tx, reset := 0x96 },
  { name := "THETA_HI", off := 0x114, hi := 31, lo := 16, acc := .tx, reset := 0x96 },
  { name := "THETA_HI", off := 0x118, hi := 31, lo := 16, acc := .tx, reset := 0x96 },
  { name := "THETA_HI", off := 0x11C, hi := 31, lo := 16, acc := .tx, reset := 0x14 },
  { name := "THETA_HI", off := 0x120, hi := 31, lo := 16, acc := .tx, reset := 0x14 },
  { name := "THETA_HI", off := 0x124, hi := 31, lo := 16, acc := .tx, reset := 0x14 },
  { name := "THETA_HI", off := 0x128, hi := 31, lo := 16, acc := .tx, reset := 0x14 },
  { name := "THETA_HI", off := 0x12C, hi := 31, lo := 16, acc := .tx, reset := 0x96 },
  { name := "THETA_HI", off := 0x130, hi := 31, lo := 16, acc := .tx, reset := 0x14 },
  { name := "THETA_HI", off := 0x134, hi := 31, lo := 16, acc := .tx, reset := 0x14 }]

/-- Register rows of THERM (R458). -/
def thermRows2 : List RegRow := [
  { name := "THETA_HI", off := 0x138, hi := 31, lo := 16, acc := .tx, reset := 0x14 },
  { name := "THETA_HI", off := 0x13C, hi := 31, lo := 16, acc := .tx, reset := 0x14 },
  { name := "THETA_HI", off := 0x140, hi := 31, lo := 16, acc := .tx, reset := 0x14 },
  { name := "THETA_HI", off := 0x144, hi := 31, lo := 16, acc := .tx, reset := 0x14 },
  { name := "THETA_HI", off := 0x148, hi := 31, lo := 16, acc := .tx, reset := 0x14 },
  { name := "THETA_HI", off := 0x14C, hi := 31, lo := 16, acc := .tx, reset := 0x96 },
  { name := "THETA_HI", off := 0x150, hi := 31, lo := 16, acc := .tx, reset := 0x14 },
  { name := "THETA_HI", off := 0x154, hi := 31, lo := 16, acc := .tx, reset := 0x96 },
  { name := "THETA_HI", off := 0x158, hi := 31, lo := 16, acc := .tx, reset := 0x96 },
  { name := "THETA_HI", off := 0x15C, hi := 31, lo := 16, acc := .tx, reset := 0x14 },
  { name := "THETA_HI", off := 0x160, hi := 31, lo := 16, acc := .tx, reset := 0x14 },
  { name := "THETA_HI", off := 0x164, hi := 31, lo := 16, acc := .tx, reset := 0x14 },
  { name := "THETA_HI", off := 0x168, hi := 31, lo := 16, acc := .tx, reset := 0x14 },
  { name := "THETA_HI", off := 0x16C, hi := 31, lo := 16, acc := .tx, reset := 0x14 },
  { name := "THETA_HI", off := 0x170, hi := 31, lo := 16, acc := .tx, reset := 0x14 },
  { name := "THETA_HI", off := 0x174, hi := 31, lo := 16, acc := .tx, reset := 0x14 },
  { name := "THETA_HI", off := 0x178, hi := 31, lo := 16, acc := .tx, reset := 0x14 },
  { name := "THETA_HI", off := 0x17C, hi := 31, lo := 16, acc := .tx, reset := 0x14 },
  { name := "THETA_HI", off := 0x180, hi := 31, lo := 16, acc := .tx, reset := 0x14 },
  { name := "THETA_HI", off := 0x184, hi := 31, lo := 16, acc := .tx, reset := 0x96 },
  { name := "THETA_HI", off := 0x188, hi := 31, lo := 16, acc := .tx, reset := 0x96 },
  { name := "THETA_HI", off := 0x18C, hi := 31, lo := 16, acc := .tx, reset := 0x14 },
  { name := "THETA_HI", off := 0x190, hi := 31, lo := 16, acc := .tx, reset := 0x14 },
  { name := "THETA_HI", off := 0x194, hi := 31, lo := 16, acc := .tx, reset := 0x14 },
  { name := "THETA_HI", off := 0x198, hi := 31, lo := 16, acc := .tx, reset := 0x14 },
  { name := "THETA_HI", off := 0x19C, hi := 31, lo := 16, acc := .tx, reset := 0x14 },
  { name := "THETA_HI", off := 0x1A0, hi := 31, lo := 16, acc := .tx, reset := 0x14 },
  { name := "THETA_HI", off := 0x1A4, hi := 31, lo := 16, acc := .tx, reset := 0x14 },
  { name := "THETA_HI", off := 0x1A8, hi := 31, lo := 16, acc := .tx, reset := 0x14 },
  { name := "THETA_HI", off := 0x1AC, hi := 31, lo := 16, acc := .tx, reset := 0x14 },
  { name := "THETA_HI", off := 0x1B0, hi := 31, lo := 16, acc := .tx, reset := 0x96 },
  { name := "THETA_HI", off := 0x1B4, hi := 31, lo := 16, acc := .tx, reset := 0x96 },
  { name := "THETA_HI", off := 0x1B8, hi := 31, lo := 16, acc := .tx, reset := 0x96 },
  { name := "THETA_HI", off := 0x1BC, hi := 31, lo := 16, acc := .tx, reset := 0x14 },
  { name := "THETA_HI", off := 0x1C0, hi := 31, lo := 16, acc := .tx, reset := 0x14 },
  { name := "THETA_HI", off := 0x1C4, hi := 31, lo := 16, acc := .tx, reset := 0x14 },
  { name := "THETA_HI", off := 0x1C8, hi := 31, lo := 16, acc := .tx, reset := 0x14 },
  { name := "THETA_HI", off := 0x1CC, hi := 31, lo := 16, acc := .tx, reset := 0x14 },
  { name := "THETA_HI", off := 0x1D0, hi := 31, lo := 16, acc := .tx, reset := 0x14 },
  { name := "THETA_HI", off := 0x1D4, hi := 31, lo := 16, acc := .tx, reset := 0x14 }]

/-- Register rows of THERM (R458). -/
def thermRows3 : List RegRow := [
  { name := "THETA_HI", off := 0x1D8, hi := 31, lo := 16, acc := .tx, reset := 0x14 },
  { name := "THETA_HI", off := 0x1DC, hi := 31, lo := 16, acc := .tx, reset := 0x14 },
  { name := "THETA_HI", off := 0x1E0, hi := 31, lo := 16, acc := .tx, reset := 0x14 },
  { name := "THETA_HI", off := 0x1E4, hi := 31, lo := 16, acc := .tx, reset := 0x96 },
  { name := "THETA_HI", off := 0x1E8, hi := 31, lo := 16, acc := .tx, reset := 0x96 },
  { name := "THETA_HI", off := 0x1EC, hi := 31, lo := 16, acc := .tx, reset := 0x14 },
  { name := "THETA_LO", off := 0x100, hi := 15, lo := 0, acc := .tx, reset := 0x96 },
  { name := "THETA_LO", off := 0x104, hi := 15, lo := 0, acc := .tx, reset := 0x96 },
  { name := "THETA_LO", off := 0x108, hi := 15, lo := 0, acc := .tx, reset := 0x96 },
  { name := "THETA_LO", off := 0x10C, hi := 15, lo := 0, acc := .tx, reset := 0x96 },
  { name := "THETA_LO", off := 0x110, hi := 15, lo := 0, acc := .tx, reset := 0x96 },
  { name := "THETA_LO", off := 0x114, hi := 15, lo := 0, acc := .tx, reset := 0x96 },
  { name := "THETA_LO", off := 0x118, hi := 15, lo := 0, acc := .tx, reset := 0x96 },
  { name := "THETA_LO", off := 0x11C, hi := 15, lo := 0, acc := .tx, reset := 0x96 },
  { name := "THETA_LO", off := 0x120, hi := 15, lo := 0, acc := .tx, reset := 0x14 },
  { name := "THETA_LO", off := 0x124, hi := 15, lo := 0, acc := .tx, reset := 0x14 },
  { name := "THETA_LO", off := 0x128, hi := 15, lo := 0, acc := .tx, reset := 0x14 },
  { name := "THETA_LO", off := 0x12C, hi := 15, lo := 0, acc := .tx, reset := 0x14 },
  { name := "THETA_LO", off := 0x130, hi := 15, lo := 0, acc := .tx, reset := 0x14 },
  { name := "THETA_LO", off := 0x134, hi := 15, lo := 0, acc := .tx, reset := 0x14 },
  { name := "THETA_LO", off := 0x138, hi := 15, lo := 0, acc := .tx, reset := 0x14 },
  { name := "THETA_LO", off := 0x13C, hi := 15, lo := 0, acc := .tx, reset := 0x14 },
  { name := "THETA_LO", off := 0x140, hi := 15, lo := 0, acc := .tx, reset := 0x14 },
  { name := "THETA_LO", off := 0x144, hi := 15, lo := 0, acc := .tx, reset := 0x14 },
  { name := "THETA_LO", off := 0x148, hi := 15, lo := 0, acc := .tx, reset := 0x14 },
  { name := "THETA_LO", off := 0x14C, hi := 15, lo := 0, acc := .tx, reset := 0x14 },
  { name := "THETA_LO", off := 0x150, hi := 15, lo := 0, acc := .tx, reset := 0x14 },
  { name := "THETA_LO", off := 0x154, hi := 15, lo := 0, acc := .tx, reset := 0x14 },
  { name := "THETA_LO", off := 0x158, hi := 15, lo := 0, acc := .tx, reset := 0x96 },
  { name := "THETA_LO", off := 0x15C, hi := 15, lo := 0, acc := .tx, reset := 0x96 },
  { name := "THETA_LO", off := 0x160, hi := 15, lo := 0, acc := .tx, reset := 0x14 },
  { name := "THETA_LO", off := 0x164, hi := 15, lo := 0, acc := .tx, reset := 0x14 },
  { name := "THETA_LO", off := 0x168, hi := 15, lo := 0, acc := .tx, reset := 0x14 },
  { name := "THETA_LO", off := 0x16C, hi := 15, lo := 0, acc := .tx, reset := 0x14 },
  { name := "THETA_LO", off := 0x170, hi := 15, lo := 0, acc := .tx, reset := 0x14 },
  { name := "THETA_LO", off := 0x174, hi := 15, lo := 0, acc := .tx, reset := 0x14 },
  { name := "THETA_LO", off := 0x178, hi := 15, lo := 0, acc := .tx, reset := 0x14 },
  { name := "THETA_LO", off := 0x17C, hi := 15, lo := 0, acc := .tx, reset := 0x14 },
  { name := "THETA_LO", off := 0x180, hi := 15, lo := 0, acc := .tx, reset := 0x96 },
  { name := "THETA_LO", off := 0x184, hi := 15, lo := 0, acc := .tx, reset := 0x14 }]

/-- Register rows of THERM (R458). -/
def thermRows4 : List RegRow := [
  { name := "THETA_LO", off := 0x188, hi := 15, lo := 0, acc := .tx, reset := 0x96 },
  { name := "THETA_LO", off := 0x18C, hi := 15, lo := 0, acc := .tx, reset := 0x96 },
  { name := "THETA_LO", off := 0x190, hi := 15, lo := 0, acc := .tx, reset := 0x14 },
  { name := "THETA_LO", off := 0x194, hi := 15, lo := 0, acc := .tx, reset := 0x14 },
  { name := "THETA_LO", off := 0x198, hi := 15, lo := 0, acc := .tx, reset := 0x14 },
  { name := "THETA_LO", off := 0x19C, hi := 15, lo := 0, acc := .tx, reset := 0x14 },
  { name := "THETA_LO", off := 0x1A0, hi := 15, lo := 0, acc := .tx, reset := 0x14 },
  { name := "THETA_LO", off := 0x1A4, hi := 15, lo := 0, acc := .tx, reset := 0x14 },
  { name := "THETA_LO", off := 0x1A8, hi := 15, lo := 0, acc := .tx, reset := 0x14 },
  { name := "THETA_LO", off := 0x1AC, hi := 15, lo := 0, acc := .tx, reset := 0x14 },
  { name := "THETA_LO", off := 0x1B0, hi := 15, lo := 0, acc := .tx, reset := 0x14 },
  { name := "THETA_LO", off := 0x1B4, hi := 15, lo := 0, acc := .tx, reset := 0x14 },
  { name := "THETA_LO", off := 0x1B8, hi := 15, lo := 0, acc := .tx, reset := 0x96 },
  { name := "THETA_LO", off := 0x1BC, hi := 15, lo := 0, acc := .tx, reset := 0x96 },
  { name := "THETA_LO", off := 0x1C0, hi := 15, lo := 0, acc := .tx, reset := 0x14 },
  { name := "THETA_LO", off := 0x1C4, hi := 15, lo := 0, acc := .tx, reset := 0x14 },
  { name := "THETA_LO", off := 0x1C8, hi := 15, lo := 0, acc := .tx, reset := 0x14 },
  { name := "THETA_LO", off := 0x1CC, hi := 15, lo := 0, acc := .tx, reset := 0x14 },
  { name := "THETA_LO", off := 0x1D0, hi := 15, lo := 0, acc := .tx, reset := 0x14 },
  { name := "THETA_LO", off := 0x1D4, hi := 15, lo := 0, acc := .tx, reset := 0x14 },
  { name := "THETA_LO", off := 0x1D8, hi := 15, lo := 0, acc := .tx, reset := 0x14 },
  { name := "THETA_LO", off := 0x1DC, hi := 15, lo := 0, acc := .tx, reset := 0x14 },
  { name := "THETA_LO", off := 0x1E0, hi := 15, lo := 0, acc := .tx, reset := 0x14 },
  { name := "THETA_LO", off := 0x1E4, hi := 15, lo := 0, acc := .tx, reset := 0x96 },
  { name := "THETA_LO", off := 0x1E8, hi := 15, lo := 0, acc := .tx, reset := 0x96 },
  { name := "THETA_LO", off := 0x1EC, hi := 15, lo := 0, acc := .tx, reset := 0x96 },
  { name := "FAILED", off := 0x200, hi := 31, lo := 31, acc := .ro, n1 := 64, s1 := 0x4 },
  { name := "SUSPECT", off := 0x200, hi := 30, lo := 30, acc := .ro, n1 := 64, s1 := 0x4 },
  { name := "TEMP", off := 0x200, hi := 15, lo := 0, acc := .ro, n1 := 64, s1 := 0x4 },
  { name := "MODEL", off := 0x300, hi := 15, lo := 0, acc := .ro, n1 := 64, s1 := 0x4 }]

/-- All register rows of THERM (R458). -/
def thermRows : List RegRow := thermRows1 ++ thermRows2 ++ thermRows3 ++ thermRows4

/-- Register rows of PWR (R481). -/
def pwrRows : List RegRow := [
  { name := "REQ0", off := 0x040, hi := 1, lo := 0, acc := .rw, legal := .oneOf [0] },
  { name := "REQ1", off := 0x040, hi := 3, lo := 2, acc := .rw, legal := .oneOf [0] },
  { name := "REQ2", off := 0x040, hi := 5, lo := 4, acc := .rw, legal := .oneOf [0] },
  { name := "REQ3", off := 0x040, hi := 7, lo := 6, acc := .rw, legal := .oneOf [0, 2] },
  { name := "REQ4", off := 0x040, hi := 9, lo := 8, acc := .rw, legal := .oneOf [0, 2] },
  { name := "REQ5", off := 0x040, hi := 11, lo := 10, acc := .rw, legal := .oneOf [0, 2] },
  { name := "REQ6", off := 0x040, hi := 13, lo := 12, acc := .rw, legal := .oneOf [0, 2] },
  { name := "REQ7", off := 0x040, hi := 15, lo := 14, acc := .rw, legal := .oneOf [0, 2] },
  { name := "REQ8", off := 0x040, hi := 17, lo := 16, acc := .rw, legal := .oneOf [0, 2] },
  { name := "REQ9", off := 0x040, hi := 19, lo := 18, acc := .rw, legal := .oneOf [0, 2] },
  { name := "REQ10", off := 0x040, hi := 21, lo := 20, acc := .rw, legal := .oneOf [0, 2] },
  { name := "REQ11", off := 0x040, hi := 23, lo := 22, acc := .rw, legal := .oneOf [0, 2] },
  { name := "REQ12", off := 0x040, hi := 25, lo := 24, acc := .rw, legal := .oneOf [0, 2] },
  { name := "REQ13", off := 0x040, hi := 27, lo := 26, acc := .rw, legal := .oneOf [0, 1] },
  { name := "REQ14", off := 0x040, hi := 29, lo := 28, acc := .rw, legal := .oneOf [0] },
  { name := "REQ15", off := 0x040, hi := 31, lo := 30, acc := .rw, legal := .oneOf [0] },
  { name := "REQ16", off := 0x044, hi := 1, lo := 0, acc := .rw, legal := .oneOf [0] },
  { name := "REQ17", off := 0x044, hi := 3, lo := 2, acc := .rw, legal := .oneOf [0] },
  { name := "REQ18", off := 0x044, hi := 5, lo := 4, acc := .rw, legal := .oneOf [0] },
  { name := "REQ19", off := 0x044, hi := 7, lo := 6, acc := .rw, legal := .oneOf [0, 2] },
  { name := "REQ20", off := 0x044, hi := 9, lo := 8, acc := .rw, legal := .oneOf [0, 2] },
  { name := "REQ21", off := 0x044, hi := 11, lo := 10, acc := .rw, legal := .oneOf [0] },
  { name := "REQ22", off := 0x044, hi := 13, lo := 12, acc := .rw, legal := .oneOf [0] },
  { name := "REQ23", off := 0x044, hi := 15, lo := 14, acc := .rw, legal := .oneOf [0] },
  { name := "STATE", off := 0x048, hi := 31, lo := 0, acc := .ro },
  { name := "STATE", off := 0x04C, hi := 15, lo := 0, acc := .ro },
  { name := "WAIT", off := 0x050, hi := 23, lo := 0, acc := .ro },
  { name := "CAUSE", off := 0x054, hi := 7, lo := 4, acc := .ro },
  { name := "PHASE", off := 0x054, hi := 3, lo := 0, acc := .ro },
  { name := "WINDDOWN_US", off := 0x058, hi := 10, lo := 0, acc := .tx, reset := 0x3E8, legal := .range 100 2000 },
  { name := "PF_CNT", off := 0x05C, hi := 31, lo := 0, acc := .ro, cnt := true }]

/-- Register rows of CLK (R481). -/
def clkRows : List RegRow := [
  { name := "REFCLK_OK", off := 0x040, hi := 31, lo := 31, acc := .ro },
  { name := "AON_OK", off := 0x040, hi := 30, lo := 30, acc := .ro },
  { name := "LOCK", off := 0x040, hi := 12, lo := 0, acc := .ro },
  { name := "PPM", off := 0x044, hi := 15, lo := 0, acc := .ro },
  { name := "CLK_FAIL_CNT", off := 0x048, hi := 31, lo := 0, acc := .ro, cnt := true }]

/-- Register rows of RST (R481). -/
def rstRows : List RegRow := [
  { name := "PWR_GOOD_EARLY", off := 0x040, hi := 8, lo := 8, acc := .w1c },
  { name := "SYS_RESET_EARLY", off := 0x040, hi := 7, lo := 7, acc := .w1c },
  { name := "CLOCK_FAIL", off := 0x040, hi := 6, lo := 6, acc := .w1c },
  { name := "THERMAL", off := 0x040, hi := 5, lo := 5, acc := .w1c },
  { name := "PFAIL", off := 0x040, hi := 4, lo := 4, acc := .w1c },
  { name := "SYS_RESET", off := 0x040, hi := 3, lo := 3, acc := .w1c },
  { name := "WARM", off := 0x040, hi := 2, lo := 2, acc := .w1c },
  { name := "MAIN", off := 0x040, hi := 1, lo := 1, acc := .w1c },
  { name := "AON_POR", off := 0x040, hi := 0, lo := 0, acc := .w1c, reset := 1 },
  { name := "HOLD", off := 0x044, hi := 23, lo := 1, acc := .rw, reset := 0x7FFFFF },
  { name := "RESET", off := 0x048, hi := 23, lo := 0, acc := .wo }]

/-- Register rows of OTP (R499). -/
def otpRows : List RegRow := [
  { name := "PENDING", off := 0x040, hi := 31, lo := 31, acc := .ro },
  { name := "NEXT", off := 0x040, hi := 7, lo := 4, acc := .ro },
  { name := "STATE", off := 0x040, hi := 3, lo := 0, acc := .otp },
  { name := "LC_REQ", off := 0x044, hi := 3, lo := 0, acc := .tx, legal := .range 0 4 },
  { name := "DONE", off := 0x048, hi := 31, lo := 31, acc := .ro },
  { name := "ABSENT", off := 0x048, hi := 7, lo := 0, acc := .ro },
  { name := "USED", off := 0x04C, hi := 7, lo := 5, acc := .ro, n1 := 8, s1 := 0x4 },
  { name := "LOCKED", off := 0x04C, hi := 4, lo := 4, acc := .ro, n1 := 8, s1 := 0x4 },
  { name := "PRESENT", off := 0x04C, hi := 3, lo := 3, acc := .ro, n1 := 8, s1 := 0x4 },
  { name := "ACTIVE", off := 0x04C, hi := 2, lo := 0, acc := .ro, n1 := 8, s1 := 0x4 },
  { name := "SVN", off := 0x06C, hi := 8, lo := 0, acc := .otp },
  { name := "SERIAL_LO", off := 0x070, hi := 31, lo := 0, acc := .otp },
  { name := "SERIAL_HI", off := 0x074, hi := 31, lo := 0, acc := .otp },
  { name := "KNOT_ID", off := 0x078, hi := 4, lo := 2, acc := .ro },
  { name := "BOOT_SRC", off := 0x078, hi := 1, lo := 0, acc := .ro },
  { name := "STAGE", off := 0x080, hi := 7, lo := 4, acc := .rw, legal := .range 0 7 },
  { name := "FALLBACK", off := 0x080, hi := 3, lo := 3, acc := .ro },
  { name := "RECOVERY", off := 0x080, hi := 2, lo := 2, acc := .ro },
  { name := "SLOT", off := 0x080, hi := 1, lo := 0, acc := .ro },
  { name := "FW_VERSION", off := 0x084, hi := 31, lo := 0, acc := .ro },
  { name := "WDT_LEFT_MS", off := 0x088, hi := 31, lo := 0, acc := .ro },
  { name := "SCRAP_PM", off := 0x08C, hi := 9, lo := 0, acc := .ro }]

/-- Register rows of TEL (R514). -/
def telRows : List RegRow := [
  { name := "BASE_LO", off := 0x040, hi := 31, lo := 5, acc := .tx },
  { name := "BASE_HI", off := 0x044, hi := 11, lo := 0, acc := .tx },
  { name := "EN", off := 0x048, hi := 31, lo := 31, acc := .tx },
  { name := "IRQ_SEV", off := 0x048, hi := 9, lo := 8, acc := .tx, reset := 2 },
  { name := "SIZE_LOG", off := 0x048, hi := 4, lo := 0, acc := .tx, reset := 0xC, legal := .range 12 20 },
  { name := "DEVICE_FAULT", off := 0x04C, hi := 0, lo := 0, acc := .ro },
  { name := "SEQ_LO", off := 0x050, hi := 31, lo := 0, acc := .ro },
  { name := "SEQ_HI", off := 0x054, hi := 31, lo := 0, acc := .ro },
  { name := "EVL_LOST", off := 0x058, hi := 31, lo := 0, acc := .ro, cnt := true },
  { name := "ALL", off := 0x060, hi := 10, lo := 10, acc := .tx, reset := 1 },
  { name := "INSTANCE", off := 0x060, hi := 9, lo := 0, acc := .tx },
  { name := "SNAP", off := 0x064, hi := 0, lo := 0, acc := .wo },
  { name := "TIME_LO", off := 0x068, hi := 31, lo := 0, acc := .ro },
  { name := "TIME_HI", off := 0x06C, hi := 31, lo := 0, acc := .ro },
  { name := "HIST", off := 0x100, hi := 31, lo := 0, acc := .ro, n1 := 4, s1 := 0x80, n2 := 32, s2 := 4 },
  { name := "DONE_CNT", off := 0x300, hi := 31, lo := 0, acc := .ro, n1 := 4, s1 := 0x4, cnt := true },
  { name := "BE_DONE_CNT", off := 0x310, hi := 31, lo := 0, acc := .ro, cnt := true },
  { name := "IHIST", off := 0x400, hi := 31, lo := 0, acc := .ro, n1 := 4, s1 := 0x80, n2 := 32, s2 := 4 }]

/-- Register rows of BG (R514). -/
def bgRows : List RegRow := [
  { name := "MIN_PCT", off := 0x040, hi := 7, lo := 0, acc := .tx, reset := 3, legal := .range 1 30 },
  { name := "MEDIA_W", off := 0x044, hi := 31, lo := 24, acc := .tx, reset := 0x3C },
  { name := "CKPT_W", off := 0x044, hi := 23, lo := 16, acc := .tx, reset := 0x14 },
  { name := "DSCRUB_W", off := 0x044, hi := 15, lo := 8, acc := .tx, reset := 0xA },
  { name := "TELEM_W", off := 0x044, hi := 7, lo := 0, acc := .tx, reset := 0xA },
  { name := "REPAIR_PENDING", off := 0x048, hi := 23, lo := 0, acc := .ro },
  { name := "LATE_CNT", off := 0x04C, hi := 31, lo := 0, acc := .ro, cnt := true },
  { name := "DEFICIT_CNT", off := 0x050, hi := 31, lo := 0, acc := .ro, cnt := true },
  { name := "DELTA_PCT", off := 0x054, hi := 7, lo := 0, acc := .ro }]

/-- The CAD_SHARE word of an instance (R141). -/
def cadShareRows : List RegRow := [
  { name := "SHARE_PCT", off := 0, hi := 6, lo := 0, acc := .tx, n1 := 1024, s1 := 4, legal := .range 0 100 }]

/-- The per-requester quota words (R228). -/
def bufMaxRows : List RegRow := [
  { name := "MAX", off := 0, hi := 19, lo := 0, acc := .tx, n1 := 1024, s1 := 4, reset := 0xFFFFF }]

/-- The per-requester minimum words (R228). -/
def bufMinRows : List RegRow := [
  { name := "MIN", off := 0, hi := 19, lo := 0, acc := .tx, n1 := 1024, s1 := 4 }]

/-- The per-requester use words (R228). -/
def bufUseRows : List RegRow := [
  { name := "USE", off := 0, hi := 19, lo := 0, acc := .ro, n1 := 1024, s1 := 4 }]

/-- The block and the first page of a page's range (R23; R141, R228 for the pages of CAD and BUF); none where the
table assigns no block (R24). -/
def pageBlk (p : Nat) : Option (PageBlk × Nat) :=
  if p = 0x000 then some (.top, 0x000)
  else if p = 0x001 then some (.cfg, 0x001)
  else if p = 0x002 then some (.otp, 0x002)
  else if p = 0x003 then some (.pwr, 0x003)
  else if p = 0x004 then some (.clk, 0x004)
  else if p = 0x005 then some (.rst, 0x005)
  else if p = 0x006 then some (.therm, 0x006)
  else if p = 0x007 then some (.mgmt, 0x007)
  else if p < 0x010 then some (.irq, 0x008)
  else if p = 0x010 then some (.cad, 0x010)
  else if p = 0x011 then some (.cadShare, 0x010)
  else if p < 0x020 then some (.cadRest, 0x010)
  else if p = 0x020 then some (.buf, 0x020)
  else if p < 0x023 then some (.bufMax, 0x020)
  else if p < 0x025 then some (.bufMin, 0x020)
  else if p < 0x027 then some (.bufUse, 0x020)
  else if p < 0x030 then some (.bufRest, 0x020)
  else if p < 0x040 then some (.hp, 0x030)
  else if p < 0x048 then some (.kl, 0x040)
  else if p = 0x050 then some (.vim, 0x050)
  else if p < 0x060 then none
  else if p < 0x068 then some (.dc, 0x060)
  else if p = 0x068 then some (.dramc, 0x068)
  else if p < 0x080 then none
  else if p < 0x100 then some (.fc, 0x080)
  else if p < 0x104 then some (.fgrp, 0x100)
  else if p < 0x110 then none
  else if p < 0x128 then some (.ce, 0x110)
  else if p < 0x130 then none
  else if p < 0x190 then some (.de, 0x130)
  else if p < 0x198 then some (.he, 0x190)
  else if p = 0x198 then some (.ks, 0x198)
  else if p < 0x1A0 then none
  else if p < 0x1A4 then some (.sb, 0x1A0)
  else if p = 0x1A4 then some (.srch, 0x1A4)
  else if p < 0x1B0 then none
  else if p < 0x1C0 then some (.sc, 0x1B0)
  else if p < 0x1D0 then some (.dec, 0x1C0)
  else if p = 0x1D0 then some (.srd, 0x1D0)
  else if p = 0x1E0 then some (.tel, 0x1E0)
  else if p = 0x1F0 then some (.bg, 0x1F0)
  else if p = 0x1F8 then some (.debug, 0x1F8)
  else none

/-- The block-specific rows of a block. -/
def blkRows : PageBlk → List RegRow
  | .irq => irqRows
  | .cfg => cfgRows
  | .hp => hpRows
  | .cad => cadRows
  | .vim => vimRows
  | .fc => fcRows
  | .fgrp => fgrpRows
  | .buf => bufRows
  | .ce => ceRows
  | .de => deRows
  | .he => heRows
  | .ks => ksRows
  | .sb => sbRows
  | .srch => srchRows
  | .sc => scRows
  | .dec => decRows
  | .dc => dcRows
  | .dramc => dramcRows
  | .srd => srdRows
  | .kl => klRows
  | .therm => thermRows
  | .pwr => pwrRows
  | .clk => clkRows
  | .rst => rstRows
  | .otp => otpRows
  | .tel => telRows
  | .bg => bgRows
  | .cadShare => cadShareRows
  | .bufMax => bufMaxRows
  | .bufMin => bufMinRows
  | .bufUse => bufUseRows
  | .top | .mgmt | .cadRest | .bufRest | .debug => []

/-- Whether a page carries the common header (R23: of CAD and BUF only the first page). -/
def hasHeader : PageBlk → Bool
  | .cadShare | .cadRest | .bufMax | .bufMin | .bufUse | .bufRest => false
  | _ => true

/-- The power domain of a page (R552). -/
def pageDomain (p : Nat) : Nat :=
  if p = 0x007 then 23
  else if p < 0x010 then 0
  else if p < 0x030 then 14
  else if p < 0x040 then 15 + (p - 0x030) / 4
  else if p < 0x048 then 15 + (p - 0x040) / 2
  else if p = 0x050 then 14
  else if p < 0x080 then 21
  else if p < 0x100 then 15 + (p - 0x080) / 32
  else if p < 0x104 then 15 + (p - 0x100)
  else if p < 0x190 then 9
  else if p < 0x199 then 10
  else if p = 0x1A2 ∨ p = 0x1A3 then 12
  else if p < 0x1A5 then 11
  else if p < 0x1C0 then 5 + (p - 0x1B0) / 4
  else if p < 0x1D0 then 5 + (p - 0x1C0) / 4
  else if p = 0x1E0 then 23
  else if p = 0x1F8 then 0
  else 14

/-- Blocks whose `ENABLE` is RO and reads 1 (R29). -/
def enableFixed : PageBlk → Bool
  | .top | .cfg | .irq | .pwr | .clk | .rst | .otp | .therm => true
  | _ => false

/-- Blocks that apply a commit at a safe point that may lie more than 1.5 us away (R38). -/
def deferredApply : PageBlk → Bool
  | .hp | .fc | .fgrp | .ce | .de | .dc | .sc | .therm | .otp => true
  | _ => false

/-- The rows of the common header (R29) on one page; `BLK_ID`, `BLK_CAPS` and the fixed fields are read by
`headerFixed`. -/
def headerRows (b : PageBlk) : List RegRow := [
  { name := "ERR_CLR", off := 0x008, hi := 2, lo := 2, acc := .wo },
  (if enableFixed b then { name := "ENABLE", off := 0x008, hi := 0, lo := 0, acc := .ro, reset := 1 }
   else { name := "ENABLE", off := 0x008, hi := 0, lo := 0, acc := .tx }),
  { name := "ERR", off := 0x00C, hi := 1, lo := 1, acc := .ro },
  { name := "ENABLED", off := 0x00C, hi := 0, lo := 0, acc := .ro },
  { name := "IRQ_STAT", off := 0x010, hi := 31, lo := 0, acc := .w1c },
  { name := "EN", off := 0x014, hi := 31, lo := 0, acc := .rw },
  { name := "FORCE", off := 0x018, hi := 31, lo := 0, acc := .wo },
  { name := "VALID", off := 0x01C, hi := 31, lo := 31, acc := .w1c },
  { name := "CODE", off := 0x01C, hi := 30, lo := 0, acc := .ro },
  { name := "COUNT", off := 0x020, hi := 31, lo := 0, acc := .ro, cnt := true },
  { name := "APPLIED_ID", off := 0x024, hi := 31, lo := 16, acc := .ro },
  { name := "APPLY_PENDING", off := 0x024, hi := 1, lo := 1, acc := .ro },
  { name := "SHADOW_DIRTY", off := 0x024, hi := 0, lo := 0, acc := .ro },
  { name := "AUTO_GATE", off := 0x028, hi := 16, lo := 16, acc := .rw, reset := 1 },
  { name := "CLOCK", off := 0x028, hi := 1, lo := 0, acc := .ro }]

/-- Every row that lies at an offset of a page. -/
def pageRows (p off : Nat) : List RegRow :=
  match pageBlk p with
  | none => []
  | some (b, f) =>
    ((if hasHeader b && decide (off < 0x40) then headerRows b else []) ++
      (if hasHeader b && decide (off < 0x40) then [] else blkRows b)).filter fun r =>
        r.covers off && (!r.first || decide (p = f)) && !(decide (p = 0x00F) && r.name == "CORE_MASK") &&
          !((decide (p = 0x022) || decide (p = 0x024) || decide (p = 0x026)) && decide (0x100 ≤ off))

/-- The pseudo-page that holds the `KN_PLACE` word of each instance (R445): it is banked by `KN_PLACE_SEL`. -/
def knPlacePage : Nat := 0x1000

/-- The reset value of a register word, by key page × 1,024 + offset ÷ 4. -/
def regReset (key : Nat) : W32 :=
  if knPlacePage * 1024 ≤ key then 0x600
  else BitVec.ofNat 32 ((pageRows (key / 1024) (key % 1024 * 4)).foldl (fun a r => a + r.reset * 2 ^ r.lo) 0)

/-- Conditions among several fields of one register word (R10): GC_CRIT_PM below GC_LOW_PM (R208), the rates of R167,
weights that sum to 100 (R207, R509). -/
def wordLegal (p off v : Nat) : Bool :=
  match pageBlk p with
  | some (.fgrp, _) =>
    if off = 0x04C then decide (nbits v 7 0 < nbits v 15 8)
    else if off = 0x048 then decide (nbits v 31 24 + nbits v 23 16 + nbits v 15 8 + nbits v 7 0 = 100)
    else true
  | some (.fc, _) =>
    if off = 0x040 then
      match nbits v 9 8 with
      | 0 => true
      | 1 => decide (400 ≤ nbits v 27 16) && decide (nbits v 27 16 ≤ 1600)
      | _ => decide (800 ≤ nbits v 27 16) && decide (nbits v 27 16 ≤ 3600)
    else true
  | some (.bg, _) =>
    if off = 0x044 then decide (nbits v 31 24 + nbits v 23 16 + nbits v 15 8 + nbits v 7 0 = 100) else true
  | _ => true

end Sys2Proof.Machine
end

