-- ==== Sys2Proof/Machine/Regs.lean ====
section
/-! DEFINITION. Registers as the blocks themselves use them: reading and writing a word or a field, counting,
raising an interrupt event, capturing an error (R29, R30). Access by a requester is in Machine/RegBus.lean. -/

namespace Sys2Proof.Machine

/-- The key of a register word. -/
def rkey (page off : Nat) : Nat := 1024 * page + off / 4

/-- The word a key holds: its reset value where nothing else is listed. -/
def State.regAt (s : State) (key : Nat) : W32 := SMap.getD (regReset key) s.regs key

/-- Write the word of a key. -/
def State.setRegAt (s : State) (key : Nat) (v : W32) : State :=
  { s with regs := SMap.setD (regReset key) s.regs key v }

/-- The word at an offset of a page. -/
def State.reg (s : State) (page off : Nat) : W32 := s.regAt (rkey page off)

/-- Write the word at an offset of a page. -/
def State.setReg (s : State) (page off : Nat) (v : W32) : State := s.setRegAt (rkey page off) v

/-- A field. -/
def State.fld (s : State) (page off hi lo : Nat) : Nat := fget (s.reg page off) hi lo

/-- Write a field. -/
def State.setFld (s : State) (page off hi lo x : Nat) : State :=
  s.setReg page off (fset (s.reg page off) hi lo x)

/-- Add to a saturating 32-bit counter. -/
def State.countN (s : State) (page off n : Nat) : State :=
  s.setReg page off (BitVec.ofNat 32 (satAdd 32 (s.reg page off).toNat n))

/-- Add 1 to a saturating 32-bit counter. -/
def State.count (s : State) (page off : Nat) : State := s.countN page off 1

/-- The value of a register pair (R27). -/
def State.pair (s : State) (page lo : Nat) : Nat := (s.reg page lo).toNat + 2 ^ 32 * (s.reg page (lo + 4)).toNat

/-- Write a register pair (R27). -/
def State.setPair (s : State) (page lo v : Nat) : State :=
  (s.setReg page lo (BitVec.ofNat 32 v)).setReg page (lo + 4) (BitVec.ofNat 32 (v / 2 ^ 32))

/-- Add to a saturating 64-bit counter pair. -/
def State.countPair (s : State) (page lo n : Nat) : State := s.setPair page lo (satAdd 64 (s.pair page lo) n)

/-- Set bit `n` of a page's `IRQ_STAT` (R29). -/
def State.raise (s : State) (page n : Nat) : State :=
  s.setReg page 0x010 (s.reg page 0x010 ||| BitVec.ofNat 32 (2 ^ n))

/-- An error a block detects: `ERR_CNT` counts it, `ERR_CAPT` captures it if it holds none, and a capture sets
`IRQ_STAT.ERR` (R29, R30). The fault's event record is posted by `State.capture` and `State.fault`. -/
def State.note (s : State) (page code unit detail : Nat) : State :=
  let s := s.count page 0x020
  if s.fld page 0x01C 31 31 = 1 then s
  else
    (s.setReg page 0x01C
      (BitVec.ofNat 32 (2 ^ 31 + 2 ^ 24 * (code % 128) + 2 ^ 16 * (unit % 256) + detail % 2 ^ 16))).raise page 31

/-- The active `ENABLE` of a page (R551). -/
def State.enabled (s : State) (page : Nat) : Bool := decide (s.fld page 0x008 0 0 = 1)

/-- The state field of a power domain in `DOM_STAT` (R464): 0 on, 1 retention, 2 off, 3 switching. -/
def State.domStat (s : State) (d : Nat) : Nat := s.fld 0x003 (0x048 + 4 * (d / 16)) (2 * (d % 16) + 1) (2 * (d % 16))

/-- Write the state field of a power domain. -/
def State.setDomStat (s : State) (d v : Nat) : State :=
  s.setFld 0x003 (0x048 + 4 * (d / 16)) (2 * (d % 16) + 1) (2 * (d % 16)) v

/-- Whether a page can be accessed under R28. A domain that is switching is not yet on: an access meets the error response (DESIGN CHOICE:
R28 speaks of off and retention only). -/
def State.pageOn (s : State) (page : Nat) : Bool :=
  decide (pageDomain page = 0) || decide (s.domStat (pageDomain page) = 0)

/-- The page whose common header belongs to a page's block (R23). -/
def headerPage (p : Nat) : Nat :=
  if 0x010 ≤ p ∧ p < 0x020 then 0x010
  else if 0x020 ≤ p ∧ p < 0x030 then 0x020
  else if knPlacePage ≤ p then 0x040
  else p

/-- Take a free value: the number the counter names, and the counter's advance. -/
def State.free (s : State) : Nat × State :=
  (Config.freeNat s.freeCtr, { s with freeCtr := s.freeCtr + 1 })

/-- Stream cluster clock at a step, MHz (R454). -/
def scMhz (st : Nat) : Nat := 2000 - 80 * st
/-- Search cap per 1 us at a step (R294, R454). -/
def searchCap (st : Nat) : Nat := 1000 - 50 * st

/-- The present fine slot, in us (R126). -/
def State.now (s : State) : Nat := s.cad.nowUs

/-- Requesters of R25: control cores 0 to 23, the management port, JTAG. -/
def reqMgmt : Nat := 0x18
/-- The JTAG requester (R25). -/
def reqJtag : Nat := 0x19

/-- Clear the counters of a page and its `ERR_CNT` (R29; the counter sentences of the register tables). -/
def State.clearCounters (s : State) (page : Nat) : State :=
  match pageBlk page with
  | none => s
  | some (b, f) =>
    let s := s.setReg page 0x020 0
    (blkRows b).foldl (fun s r =>
      if r.cnt && (!r.first || decide (page = f)) then
        (List.range r.n1).foldl (fun s i =>
          (List.range r.n2).foldl (fun s j =>
            s.setFld page (r.off + i * r.s1 + j * r.s2) r.hi r.lo 0) s) s
      else s) s

end Sys2Proof.Machine
end

