-- ==== Sys2Proof/Machine/Events.lean ====
section
/-! DEFINITION. Reporting a fault: the event log (R500 to R502) and asynchronous events (R503). -/

namespace Sys2Proof.Machine

/-- Severity of an event code (R500). -/
def severity (code : Nat) : Nat :=
  if code = 0x0011 ∨ code = 0x0045 ∨ code = 0x0051 then 3
  else if code = 0x0042 ∨ code = 0x0070 then 0
  else if code = 0x0003 ∨ code = 0x0006 ∨ code = 0x0021 ∨ code = 0x0032 ∨ code = 0x0040 ∨ code = 0x0043 ∨
      code = 0x0044 ∨ code = 0x0080 then 1
  else 2

/-- Installed DRAM, in bytes (R18, R373): `DRAM_SIZE.INSTALLED_GIB`. -/
def State.dramSize (s : State) : Nat := 2 ^ 30 * s.fld 0x068 0x044 9 0

/-- Nanoseconds since the last main reset (R514). -/
def State.timeNs (s : State) : Nat := 1000 * (s.now - s.tel.resetUs)

/-- Store bytes in DRAM from an address. -/
def State.putBytes (s : State) (a : Nat) (l : List Byte) : State :=
  { s with dram := { s.dram with bytes := writeBytes s.dram.bytes a l } }

/-- Write one record into the ring (R501), counting an overwritten one (R502) and setting `EVENT` (R514). -/
def State.writeEvent (s : State) (e : EvRec) : State :=
  let seq := s.pair 0x1E0 0x050 + 1
  let size := 2 ^ s.fld 0x1E0 0x048 4 0
  let base := s.fld 0x1E0 0x040 31 5 * 32 + 2 ^ 32 * s.fld 0x1E0 0x044 11 0
  let at' := base + (seq - 1) % size * 32
  let r := leBytes 8 seq ++ leBytes 8 e.time ++ leBytes 2 e.code ++ leBytes 1 e.sev ++ leBytes 1 e.unit ++
    leBytes 2 e.page ++ zeros 2 ++ leBytes 8 e.detail
  let s := s.setPair 0x1E0 0x050 seq
  let s := if seq > size then s.count 0x1E0 0x058 else s
  let s := if at' + 32 ≤ s.dramSize then s.putBytes at' r else s
  if e.sev ≥ s.fld 0x1E0 0x048 9 8 then s.raise 0x1E0 0 else s

/-- Whether the logger writes records: `EVL_CTRL.EN`. -/
def State.logEn (s : State) : Bool := decide (s.fld 0x1E0 0x048 31 31 = 1)

/-- Give the logger a record: written, or kept while the block's `ENABLE` is 0 (R551). -/
def State.logEvent (s : State) (e : EvRec) : State :=
  if s.enabled 0x1E0 then s.writeEvent e else { s with tel := { s.tel with waitEv := s.tel.waitEv ++ [e] } }

/-- Post an event record (R500 to R502): codes 0x0045, 0x0050 and 0x0051 are held until `STAGE` reaches READY with the
logger enabled. -/
def State.post (s : State) (code unit page detail : Nat) : State :=
  let e : EvRec := { code := code, sev := severity code, unit := unit, page := page, detail := detail, time := s.timeNs }
  if code = 0x0045 ∨ code = 0x0050 ∨ code = 0x0051 then
    if s.tel.ready && s.logEn then s.logEvent e
    else { s with tel := { s.tel with heldEv := s.tel.heldEv ++ [e] } }
  else if s.logEn then s.logEvent e
  else s.count 0x1E0 0x058

/-- Post the held records once the logger is enabled and `STAGE` has reached READY (R502). -/
def State.postHeld (s : State) : State :=
  if s.tel.ready && s.logEn then
    s.tel.heldEv.foldl (fun s e => s.logEvent e) { s with tel := { s.tel with heldEv := [] } }
  else s

/-- New values have applied in the telemetry block: the records that waited for `ENABLE` are written (R551), then the held ones (R502). -/
def State.postWaiting (s : State) : State :=
  let s := if s.enabled 0x1E0 then s.tel.waitEv.foldl (fun s e => s.writeEvent e) { s with tel := { s.tel with waitEv := [] } } else s
  s.postHeld

/-- An error without an event code of its own: it is captured, and a capture posts event 0x0080 (R500). -/
def State.capture (s : State) (page code unit detail : Nat) : State :=
  let held := decide (s.fld page 0x01C 31 31 = 1)
  let s := s.note page code unit detail
  if held then s else s.post 0x0080 unit page detail

/-- An error with an event code of its own (R500): it is captured and its own event is posted. -/
def State.fault (s : State) (ev page code unit detail : Nat) : State :=
  (s.note page code unit detail).post ev unit page detail

/-- An asynchronous event (R503): it waits on each eligible connection that asked for it; a waiting event of the same
code takes the newest DETAIL. Code 1 is asked for by `DEFERRED_EVENT` (R85). -/
def State.async (s : State) (code : Nat) (eligible : Conn → Bool) (detail : List Byte) : State :=
  let want := fun (x : Conn) =>
    decide (x.state = .established) && eligible x &&
      (if code = 1 then decide (x.deferredEvent = 1) else x.asyncMask.toNat.testBit code)
  let put := fun (x : Conn) =>
    { x with evPending := x.evPending.filter (fun p => p.1 ≠ code) ++ [(code, padTo 14 detail)] }
  let conns := s.host.conns.map fun e => if want e.2 then (e.1, put e.2) else e
  { s with host := { s.host with conns := conns } }

/-- Every connection is eligible. -/
def anyConn (_ : Conn) : Bool := true

end Sys2Proof.Machine
end

