-- ==== Sys2Proof/Machine/Fuse.lean ====
section
/-! DEFINITION. The fuse array: settings groups, generation slots, fuse load (R483, R484, R493). -/

namespace Sys2Proof.Machine

/-- Slot bits of a settings group (R483). -/
def slotBits : Nat → Nat
  | 0 => 64
  | 1 => 256
  | 2 => 288
  | 3 => 512
  | 4 => 96
  | 5 => 256
  | 6 => 2048
  | _ => 1024

/-- The bits of slot `n` of a group. -/
def State.slot (s : State) (g n : Nat) : Nat := SMap.getD 0 s.otp.fuses (g * 5 + n)

/-- A slot is used unless every bit is 0 (R483). -/
def State.slotUsed (s : State) (g n : Nat) : Bool := decide (s.slot g n ≠ 0)

/-- A slot as it is programmed: its content and the CRC-32C of R483. -/
def slotWith (g content : Nat) : Nat :=
  let w := slotBits g - 32
  let c := content % 2 ^ w
  c + crc32c (leBytes (w / 8) c) * 2 ^ w

/-- A slot passes its CRC (R483). -/
def State.slotOk (s : State) (g n : Nat) : Bool := s.slotUsed g n && decide (slotWith g (s.slot g n) = s.slot g n)

/-- Slots used, counted from the next slot to program. -/
def State.slotsUsed (s : State) (g : Nat) : Nat :=
  if s.slotUsed g 4 then 5 else if s.slotUsed g 3 then 4 else if s.slotUsed g 2 then 3
  else if s.slotUsed g 1 then 2 else if s.slotUsed g 0 then 1 else 0

/-- The active slot: the highest-numbered one that passes its CRC (R483). -/
def State.activeSlot (s : State) (g : Nat) : Option Nat :=
  if s.slotOk g 4 then some 4 else if s.slotOk g 3 then some 3 else if s.slotOk g 2 then some 2
  else if s.slotOk g 1 then some 1 else if s.slotOk g 0 then some 0 else none

/-- The content of the active slot of a group, none while the group is absent. -/
def State.groupVal (s : State) (g : Nat) : Option Nat := (s.activeSlot g).map fun n => s.slot g n

/-- A group is absent (R483). -/
def State.groupAbsent (s : State) (g : Nat) : Bool := (s.activeSlot g).isNone

/-- The life-cycle state the fuses give (R493): the active slot's code, a reserved code reading as RMA; TEST while
every slot is unused, RMA where a used slot and no good one is found. -/
def State.fuseLc (s : State) : Nat :=
  match s.groupVal 0 with
  | some v => let c := nbits v 3 0; if c ≤ 4 then c else 3
  | none => if s.slotsUsed 0 = 0 then 0 else 3

/-- The life-cycle state in force: `LC_STAT.STATE` (R493). -/
def State.lc (s : State) : Nat := s.fld 0x002 0x040 3 0

/-- `GRP_STAT` of a group as its slots stand (R499). -/
def State.setGrpStat (s : State) (g : Nat) : State :=
  let u := s.slotsUsed g
  let a := s.activeSlot g
  s.setReg 0x002 (0x04C + 4 * g)
    (BitVec.ofNat 32 (u * 32 + b2n (decide (u = 5)) * 16 + b2n a.isSome * 8 + a.getD 0))

/-- The port-authority map as the fuses give it: every port `NONE` while the group is absent (R483). -/
def State.loadPortAuth (s : State) : State :=
  let v := (s.groupVal 4).getD 0
  (s.setReg 0x050 0x040 (BitVec.ofNat 32 v)).setReg 0x050 0x044 (BitVec.ofNat 32 (v / 2 ^ 32 % 2 ^ 16))

/-- The MAC address of sub-interface `sub` of port `n` (R484): none, read as 0, while IDENT is absent. -/
def State.fuseMac (s : State) (n sub : Nat) : Nat :=
  match s.groupVal 1 with
  | some v => (nbits v 111 64 + 4 * n + sub) % 2 ^ 48
  | none => 0

/-- The management port's MAC address: the base + 64 (R484). -/
def State.mgmtMac (s : State) : Nat :=
  match s.groupVal 1 with
  | some v => (nbits v 111 64 + 64) % 2 ^ 48
  | none => 0

/-- Load the MAC fields of one host port (R484). -/
def State.loadMacs (s : State) (n : Nat) : State :=
  (List.range 4).foldl (fun s sub =>
    let m := s.fuseMac n sub
    (s.setReg (0x030 + n) (0x180 + 8 * sub) (BitVec.ofNat 32 m)).setReg (0x030 + n) (0x184 + 8 * sub)
      (BitVec.ofNat 32 (m / 2 ^ 32))) s

/-- TAU of a region, as loaded: a 0 byte takes the generic 20 ms (R447, R483). -/
def State.fuseTau (s : State) (r : Nat) : Nat :=
  match s.groupVal 6 with
  | some v => let t := nbits v (8 * r + 7) (8 * r); if t = 0 then 20 else t
  | none => 20

/-- Load the thermal model where its group is present; the reset values are the generic model (R483). -/
def State.loadTherm (s : State) : State :=
  match s.groupVal 6 with
  | none => s
  | some v =>
    let s := (List.range 5).foldl (fun s r =>
      s.setFld 0x006 (0x0E0 + 4 * (r / 4)) (8 * (r % 4) + 7) (8 * (r % 4)) (s.fuseTau r)) s
    (List.range 120).foldl (fun s j =>
      s.setFld 0x006 (0x100 + 4 * (j / 2)) (16 * (j % 2) + 15) (16 * (j % 2))
        (nbits v (40 + 16 * j + 15) (40 + 16 * j))) s

/-- Everything fuse load sets (R484, R499): the OTP fields, the port-authority map, the MAC addresses, the thermal
model; `LOAD_STAT.DONE`. -/
def State.loadFuses (s : State) : State :=
  let lc := s.fuseLc
  let s := s.setReg 0x002 0x040 (BitVec.ofNat 32 lc)
  let s := s.setReg 0x002 0x044 (BitVec.ofNat 32 lc)
  let absent := (List.range 8).foldl (fun a g => a + b2n (s.groupAbsent g) * 2 ^ g) 0
  let s := s.setReg 0x002 0x048 (BitVec.ofNat 32 (2 ^ 31 + absent))
  let s := (List.range 8).foldl (fun s g => s.setGrpStat g) s
  let s := s.setReg 0x002 0x06C (BitVec.ofNat 32 s.otp.svnBits)
  let s := s.setPair 0x002 0x070 ((s.groupVal 1).getD 0 % 2 ^ 64)
  let s := s.loadPortAuth
  let s := (List.range 16).foldl (fun s n => s.loadMacs n) s
  s.loadTherm

end Sys2Proof.Machine
end

