-- ==== Sys2Proof/Machine/Cfg.lean ====
section
/-! DEFINITION. Configuration transactions (R32 to R43): opening, shadow writes, commit, roll-back, the admission hold
and the programming of fuse-backed fields. Applying a block's shadows at its safe point is in Machine/Apply.lean. -/

namespace Sys2Proof.Machine

/-- `TXN_STAT.STATE` (R32): 0 IDLE, 1 OPEN, 2 PROGRAMMING, 3 COMMITTING. -/
def State.txnState (s : State) : Nat := s.fld 0x001 0x044 1 0
/-- `TXN_STAT.OWNER`. -/
def State.txnOwner (s : State) : Nat := s.fld 0x001 0x044 15 8
/-- `TXN_STAT.ID`. -/
def State.txnId (s : State) : Nat := s.fld 0x001 0x044 31 16

/-- Count a refused operation in `TXN_CONFLICTS` (R36). -/
def State.conflict (s : State) : State := s.count 0x001 0x050

/-- The pages of the blocks that hold shadow writes of the open transaction. Committed shadows are kept apart, in `CfgSt`. -/
def State.dirtyPages (s : State) : List Nat := (s.shMask.map fun e => headerPage (e.1 / 1024)).eraseDups

/-- Discard every uncommitted shadow: each block's `SHADOW_DIRTY` clears (R41), unless the block still holds committed shadows that it
has not applied, as a prompt-apply block after an `INCOMPLETE` commit does (DESIGN CHOICE, log entry 148: R37 step 4 clears it at the apply). -/
def State.dropShadows (s : State) : State :=
  s.dirtyPages.foldl (fun s p => if (SMap.find s.cfg.reqs p).isSome then s else s.setFld p 0x024 0 0 0) { s with shVal := [], shMask := [] }

/-- End a transaction: `RESULT`, `STATE` IDLE, `DONE` (R32). -/
def State.txnEnd (s : State) (result : Nat) : State :=
  ((s.setFld 0x001 0x044 7 4 result).setFld 0x001 0x044 1 0 0).raise 0x001 0

/-- Roll back: every uncommitted shadow is discarded and every `SHADOW_DIRTY` clears (R41). -/
def State.rollBack (s : State) (result : Nat) : State := s.dropShadows.txnEnd result

/-- Roll back and record CODE 0x06 (R30, R41, R43). -/
def State.rollBackErr (s : State) (result : Nat) : State :=
  let s := { s with cfg := { s.cfg with prog := [] } }.rollBack result
  s.capture 0x001 0x06 0 (s.fld 0x001 0x044 15 0)

/-- A mask of the bits [hi:lo]. -/
def bitsMask (hi lo : Nat) : W32 := BitVec.ofNat 32 ((2 ^ (hi + 1 - lo) - 1) * 2 ^ lo)

/-- Store a TX field into its shadow (R34). -/
def State.shadow (s : State) (k hi lo x : Nat) : State :=
  let m := bitsMask hi lo
  let v := BitVec.ofNat 32 (x * 2 ^ lo)
  { s with shVal := SMap.setD 0 s.shVal k ((SMap.getD 0 s.shVal k &&& ~~~m) ||| v)
           shMask := SMap.setD 0 s.shMask k (SMap.getD 0 s.shMask k ||| m) }

/-- `BEGIN` by a requester (R33, R36). -/
def State.txnBegin (s : State) (req : Nat) : State :=
  if s.txnState ≠ 0 then s.conflict
  else
    let id := if s.txnId ≥ 0xFFFF then 1 else s.txnId + 1
    s.setReg 0x001 0x044 (BitVec.ofNat 32 (2 ^ 16 * id + req * 2 ^ 8 + 1))

/-- A block that holds committed shadows turns `SHADOW_DIRTY` into `APPLY_PENDING` (R37 step 5). -/
def State.pendApply (s : State) (page : Nat) : State := (s.setFld page 0x024 0 0 0).setFld page 0x024 1 1 1

/-- A page of a deferred-apply block. -/
def deferredPage (p : Nat) : Bool :=
  match pageBlk p with
  | some (b, _) => deferredApply b
  | none => false

/-- The end of a commit when every prompt-apply block has reported (R37 step 5), or at the bound of R38: the hold ends, no report is
awaited any longer, and each deferred-apply block that has not applied has its apply pending. -/
def State.commitEnd (s : State) (result : Nat) : State :=
  let s := { s with cfg := { s.cfg with hold := false, await := [] } }
  (s.cfg.reqs.foldl (fun s e => if deferredPage e.1 then s.pendApply e.1 else s) s).txnEnd result

/-- The open shadow of a word joins its committed one, over it (R37, R38). -/
def State.commitKey (s : State) (k : Nat) : State :=
  let m := SMap.getD 0 s.shMask k
  let c := s.cfg
  { s with cfg := { c with comVal := SMap.setD 0 c.comVal k ((SMap.getD 0 c.comVal k &&& ~~~m) ||| (SMap.getD 0 s.shVal k &&& m))
                           comMask := SMap.setD 0 c.comMask k (SMap.getD 0 c.comMask k ||| m) } }

/-- The commit proper (R37 steps 1 to 3): the admission hold and an apply request to every block that holds shadows. A block that an
earlier commit left late takes the new ID with the new shadows, and is awaited only for them (DESIGN CHOICE, log entry 148: R38 leaves it open). -/
def State.commitStart (s : State) : State :=
  let ps := s.dirtyPages
  let id := s.txnId
  let prompt := ps.filter fun p => !deferredPage p
  let s := (s.shMask.map (·.1)).foldl State.commitKey s
  let c := s.cfg
  let s := { s with shVal := [], shMask := [],
                    cfg := { c with hold := true, reqs := ps.foldl (fun m p => SMap.put m p id) c.reqs, await := prompt, prog := [] } }
  let s := s.setFld 0x001 0x044 1 0 3
  if prompt = [] then s.commitEnd 1 else s

/-- The value a word would have after its shadows apply. -/
def State.wouldBe (s : State) (page off : Nat) : W32 :=
  let k := rkey page off
  let m := SMap.getD 0 s.shMask k
  (s.regAt k &&& ~~~m) ||| (SMap.getD 0 s.shVal k &&& m)

/-- Whether a word holds a shadow. -/
def State.hasShadow (s : State) (page off : Nat) : Bool := decide (SMap.getD 0 s.shMask (rkey page off) ≠ 0)

/-- Settings groups whose fuse-backed fields hold shadows (R42): 0 LIFECYCLE, 4 PORT_AUTH. -/
def State.fuseGroups (s : State) : List Nat :=
  (if s.hasShadow 0x002 0x044 then [0] else []) ++
  (if s.hasShadow 0x050 0x040 || s.hasShadow 0x050 0x044 then [4] else [])

/-- The reason of R494 that refuses a life-cycle request, 0 where it is permitted. -/
def State.lcRefusal (s : State) : Nat :=
  let new := fget (s.wouldBe 0x002 0x044) 3 0
  let old := s.lc
  let absent := fun g => s.groupAbsent g
  let inUse := (s.insts.filter fun e => e.2.state ≠ .free).length
  if !((old = 0 ∧ new = 1) ∨ (old = 1 ∧ new = 2) ∨ (old = 2 ∧ new = 3) ∨ new = 4 : Bool) then 1
  else if new = 2 ∧ (absent 1 ∨ absent 2 ∨ absent 3 ∨ absent 4 ∨ s.srd.provisioned = false) then 2
  else if (new = 3 ∨ new = 4) ∧ inUse ≠ 0 then 3
  else if (new = 3 ∨ new = 4) ∧ s.fld 0x1D0 0x050 28 16 ≠ 0 then 4
  else 0

/-- `COMMIT` by a requester (R36, R37, R43, R494). -/
def State.txnCommit (s : State) (req : Nat) : State :=
  if s.txnState ≠ 1 ∨ s.txnOwner ≠ req then s.conflict
  else
    let gs := s.fuseGroups
    if gs = [] then s.commitStart
    else
      let r := if gs.contains 0 then s.lcRefusal else 0
      if r ≠ 0 then (s.capture 0x002 0x11 0 r).rollBackErr 5
      else if gs.any fun g => decide (s.slotsUsed g ≥ 5) then s.rollBackErr 5
      else { s with cfg := { s.cfg with prog := gs } }.setFld 0x001 0x044 1 0 2

/-- The control core whose firmware runs the transactions of R149, R152 and R160 (DESIGN CHOICE, log entry 131). -/
def fwRequester : Nat := 0

/-- Firmware can run a transaction over CAD and BUF: none is open, both pages can be written, and neither has an apply pending (R33, R36). -/
def State.fwTxnFree (s : State) : Bool :=
  decide (s.txnState = 0) && [0x010, 0x020].all fun p => s.pageOn p && decide (s.fld p 0x024 1 1 = 0)

/-- A transaction has ended: another has begun, or none is open. -/
def State.txnOver (s : State) (id : Nat) : Bool := decide (s.txnState = 0) || decide (s.txnId ≠ id)

/-- `ROLLBACK` by a requester (R36, R41). -/
def State.txnRollback (s : State) (req : Nat) : State :=
  if s.txnState ≠ 1 ∨ s.txnOwner ≠ req then s.conflict else s.rollBack 2

/-- What a group's next slot holds: its content with the shadows of its fields (R43, R144, R494). -/
def State.newGroupVal (s : State) (g : Nat) : Nat :=
  if g = 0 then fget (s.wouldBe 0x002 0x044) 3 0
  else (s.wouldBe 0x050 0x040).toNat + 2 ^ 32 * fget (s.wouldBe 0x050 0x044) 15 0

/-- A slot that fails verification: used, with a CRC that does not match (R43). -/
def failedSlot : Nat := 1

/-- Program a slot of a group: an unused one of its five; what a used slot holds does not change (R483). -/
def State.burnSlot (s : State) (g n v : Nat) : State :=
  if n < 5 ∧ s.slot g n = 0 then { s with otp := { s.otp with fuses := SMap.setD 0 s.otp.fuses (g * 5 + n) v } } else s

/-- Programming of a slot ends and its CRC is verified (R43): the next slot, the next group, the commit, or
`FUSE_REFUSED`. -/
def State.slotProgrammed (s : State) (ok : Bool) : State :=
  if s.txnState ≠ 2 then s
  else
    match s.cfg.prog with
    | [] => s
    | g :: rest =>
      let n := s.slotsUsed g
      let v := if ok then slotWith g (s.newGroupVal g) else failedSlot
      let s := (s.burnSlot g n v).setGrpStat g
      if ok then
        let s := if g = 0 then
            (s.setFld 0x002 0x040 7 4 (s.newGroupVal 0)).setFld 0x002 0x040 31 31 1 |>.raise 0x002 1
          else s
        let s := { s with cfg := { s.cfg with prog := rest } }
        if rest = [] then s.commitStart else s
      else if n + 1 ≥ 5 then s.rollBackErr 5
      else s

/-- Power is lost while a slot is being programmed (R43): the slot is used, with a CRC that fails; nothing more is programmed. -/
def State.progLost (s : State) : State :=
  match s.txnState, s.cfg.prog with
  | 2, g :: _ => { (s.burnSlot g (s.slotsUsed g) failedSlot).setGrpStat g with cfg := { s.cfg with prog := [] } }
  | _, _ => s

/-- The 2 us bound of the admission hold passes with a report missing (R38). Of several blocks late at once the capture names the one with
the lowest page number (DESIGN CHOICE: R38 names 'the late block'). -/
def State.holdDeadline (s : State) : State :=
  if s.txnState = 3 ∧ s.cfg.await ≠ [] then
    let late := s.cfg.await.foldl min (s.cfg.await.headD 0)
    (s.capture 0x001 0x05 0 late).commitEnd 6
  else s

/-- The owner stays silent for `TXN_TIMEOUT` ms (R41). -/
def State.txnTimeout (s : State) : State := if s.txnState = 1 then s.rollBackErr 3 else s

/-- A control core is reset: an open transaction it owns ends (R41). -/
def State.ownerReset (s : State) (core : Nat) : State :=
  if s.txnState = 1 ∧ s.txnOwner = core then s.rollBackErr 4 else s

end Sys2Proof.Machine
end

