-- ==== Sys2Proof/Machine/Wire.lean ====
section
/-! DEFINITION. Sending on a connection: PDUs with their header (R50), the window (R64), acknowledgement (R67, R68),
retransmission (R69), migration logging of `DATA_IN` (R76, R162), the queues towards the MACs (R47, R125) and the frames that leave
them (R45, R116, R117). -/

namespace Sys2Proof.Machine

/-! ### PDU types (R52) -/

/-- `HELLO_ACK`. -/
def tHelloAck : Nat := 0x02
/-- `CLOSE`. -/
def tClose : Nat := 0x03
/-- `KEEPALIVE`. -/
def tKeepalive : Nat := 0x04
/-- `ACK`. -/
def tAck : Nat := 0x05
/-- `NAK`. -/
def tNak : Nat := 0x06
/-- `ACCEPT`. -/
def tAccept : Nat := 0x11
/-- `BUSY`. -/
def tBusy : Nat := 0x12
/-- `XFER_RDY`. -/
def tXferRdy : Nat := 0x13
/-- `DATA_IN`. -/
def tDataIn : Nat := 0x15
/-- `RESP`. -/
def tResp : Nat := 0x16
/-- `ABORT_RESP`. -/
def tAbortResp : Nat := 0x18
/-- `ASYNC_EVENT`. -/
def tAsync : Nat := 0x19

/-- FLAGS bits of R50. -/
def flAckv : Nat := 2 ^ 15
/-- `ACKREQ`. -/
def flAckreq : Nat := 2 ^ 14
/-- `LAST`. -/
def flLast : Nat := 2 ^ 13
/-- `DEFERRED`. -/
def flDeferred : Nat := 2 ^ 12
/-- `RETX`. -/
def flRetx : Nat := 2 ^ 11

/-! ### Connections -/

/-- A connection context. -/
def State.conn (s : State) (c : Nat) : Option Conn := SMap.find s.host.conns c

/-- Write a connection context. -/
def State.setConn (s : State) (c : Nat) (x : Conn) : State :=
  { s with host := { s.host with conns := SMap.put s.host.conns c x } }

/-- Change a connection context. -/
def State.modConn (s : State) (c : Nat) (f : Conn → Conn) : State :=
  { s with host := { s.host with conns := SMap.modify s.host.conns c f } }

/-- Free a connection context (R55). -/
def State.freeConn (s : State) (c : Nat) : State :=
  { s with host := { s.host with conns := SMap.del s.host.conns c } }

/-- How far one PSN lies ahead of another (R51). -/
def psnAhead (p b : W32) : Nat := (p - b).toNat

/-- Whether a PSN lies ahead of another (R51). -/
def isAhead (p b : W32) : Bool := decide (1 ≤ psnAhead p b) && decide (psnAhead p b ≤ 2 ^ 31 - 1)

/-- The egress queue of a sub-interface of a port; 64 is the management port's. -/
def egKey (port sub : Nat) : Nat := if port ≥ 16 then 64 else 4 * port + sub

/-! ### Frames leave the MACs (R45, R47, R116, R117) -/

/-- MAC address of a sub-interface (R79), or of the management port (R484). -/
def State.portMac (s : State) (port sub : Nat) : Nat :=
  if port ≥ 16 then s.mgmtMac
  else (s.reg (0x030 + port) (0x180 + 8 * sub)).toNat + 2 ^ 32 * s.fld (0x030 + port) (0x184 + 8 * sub) 15 0

/-- ADDR of a local address entry. -/
def State.entryAddr (s : State) (port e : Nat) : Nat :=
  (List.range 4).foldl (fun a w => 2 ^ 32 * a + (s.reg (0x030 + port) (0x080 + 0x20 * e + 4 * w)).toNat) 0

/-- The IPv6 link-local address of a MAC address in modified EUI-64 form. -/
def linkLocal (mac : Nat) : Nat :=
  0xFE80 * 2 ^ 112 + 2 ^ 40 * (mac / 2 ^ 24 ^^^ 2 ^ 17) + 0xFFFE * 2 ^ 24 + mac % 2 ^ 24

/-- Addresses of the management port (R483, R549), by address entry. -/
def State.mgmtAddrs (s : State) : List Nat :=
  (match s.groupVal 5 with
    | none => []
    | some v => (if nbits v 135 128 ≠ 0 then [nbits v 127 0] else []) ++
        (if nbits v 175 168 ≠ 0 then [0xFFFF * 2 ^ 32 + nbits v 167 136] else [])) ++ [linkLocal s.mgmtMac]

/-- The local address entry of a destination address (R548). -/
def State.entryOf (s : State) (port sub dst : Nat) : Option Nat :=
  if port ≥ 16 then s.mgmtAddrs.idxOf? dst
  else
    (List.range 8).find? fun e =>
      decide (s.fld (0x030 + port) (0x090 + 0x20 * e) 31 31 = 1) && decide (s.fld (0x030 + port) (0x090 + 0x20 * e) 1 0 = sub) &&
        decide (s.entryAddr port e = dst)

/-- UDP port of a port's Pasesar traffic (R79, R549). -/
def State.udpPort (s : State) (port : Nat) : Nat := if port ≥ 16 then 11730 else s.fld (0x030 + port) 0x044 15 0

/-- Bin of a margin (R512). -/
def marginBin (m : Nat) : Nat := if m = 0 then 0 else min 31 (m.log2 + 1)

/-- The first transmission of a promised command's `RESP` (R512): a deadline clock that never ran has no elapsed time (R72, R116). -/
def State.margin (s : State) (it : Item) : State :=
  if it.promised = false ∨ it.aborted then s
  else
    let ran := it.outLen = 0 ∨ it.got = [(0, it.outLen)]
    let b := 32 * it.cls + marginBin (if ran then it.startUs + it.deadlineUs - s.now else it.deadlineUs)
    let t := s.tel
    let add := fun (m : SMap Nat) (k : Nat) => SMap.setD 0 m k (satAdd 32 (SMap.getD 0 m k) 1)
    let own := decide (s.fld 0x1E0 0x060 10 10 = 0) && decide (s.fld 0x1E0 0x060 9 0 = it.inst)
    let live := add t.live b
    { s with tel := { t with live := if own then add live (128 + b) else live } }

/-- The first transmission of a command's `RESP`: its deadline clock stops, its margin is known (R116, R512). -/
def State.respLeaves (s : State) (f : EgFrame) : State :=
  if f.item = 0 ∨ f.type ≠ tResp ∨ nbit f.flags 11 then s
  else
    match SMap.find s.cmd.items (f.item - 1) with
    | none => s
    | some it =>
      let s := s.margin it
      { s with cmd := { s.cmd with items := SMap.modify s.cmd.items (f.item - 1) fun x => { x with clockOn := false } } }

/-- Sub-interfaces a mode provides (R44). -/
def subsOf (mode : Nat) : Nat := match mode with
  | 0 => 1
  | 1 => 2
  | _ => 4

/-- A sub-interface that its port does not provide in its active mode (R44). -/
def State.noSub (s : State) (port sub : Nat) : Bool := decide (port < 16) && decide (subsOf (s.fld (0x030 + port) 0x040 1 0) ≤ sub)

/-- Put a frame at the end of an egress queue, or at its head (R138); one for a sub-interface that the mode does not provide is discarded
at once and counts as transmitted (R117). -/
def State.pushFrame (s : State) (port sub : Nat) (front : Bool) (f : EgFrame) : State :=
  let k := egKey port sub
  let q := SMap.getD [] s.host.egress k
  if s.noSub port sub then s.respLeaves f
  else { s with host := { s.host with egress := SMap.setD [] s.host.egress k (if front then f :: q else q ++ [f]) } }

/-- The bytes of a PDU: the header of R50 and the payload. -/
def EgFrame.bytes (f : EgFrame) : List Byte :=
  beBytes 1 f.version ++ beBytes 1 f.type ++ beBytes 2 f.flags ++ beBytes 2 f.conn ++ beBytes 2 f.src ++ beBytes 4 f.psn.toNat ++
    beBytes 4 f.ackPsn.toNat ++ beBytes 8 f.sack.toNat ++ beBytes 4 f.tag ++ beBytes 2 f.payload.length ++ zeros 2 ++ f.payload

/-- The sum of the 16-bit words of bytes, a last odd byte in the high half. -/
def sum16 : List Byte → Nat
  | [] => 0
  | [a] => 256 * a.toNat
  | a :: b :: l => 256 * a.toNat + b.toNat + sum16 l

/-- The UDP checksum (R47) over the pseudo-header, the UDP header and the datagram, in one's complement; 0 is sent as 0xFFFF. An IPv4 address
in mapped form adds 0xFFFF, which is 0 in that arithmetic, to the sum of the address alone. PRESUMED: as RFC 768 and RFC 8200 define it. -/
def udpSum (srcIp dstIp srcUdp dstUdp : Nat) (data : List Byte) : Nat :=
  let len := data.length + 8
  let t := (sum16 (beBytes 16 srcIp) + sum16 (beBytes 16 dstIp) + 17 + 2 * len + srcUdp + dstUdp + sum16 data) % 65535
  65535 - t

/-- The VLAN ID a frame carries (R45): that of the sub-interface's entry with its source address, where the entry sends a tag. -/
def State.tagOf (s : State) (port sub ip : Nat) : Option Nat :=
  if port ≥ 16 then none
  else
    match s.entryOf port sub ip with
    | some e =>
      let w := s.reg (0x030 + port) (0x090 + 0x20 * e)
      if w.getLsbD 15 then some (fget w 27 16) else none
    | none => none

/-- A frame as it leaves: source MAC, source UDP port and tag as the port has them now, and the checksum (R45, R47, R79). -/
def State.onLine (s : State) (port sub : Nat) (f : EgFrame) : EgFrame :=
  let u := s.udpPort port
  { f with srcMac := s.portMac port sub, srcUdp := u, vlan := s.tagOf port sub f.srcIp, sum := udpSum f.srcIp f.dstIp u f.dstUdp f.bytes }

/-- A sub-interface has link; of the management port nothing is recorded. -/
def State.hasLink (s : State) (port sub : Nat) : Bool := decide (port ≥ 16) || nbit (s.fld (0x030 + port) 0x054 3 0) sub

/-- The MAC of a sub-interface takes its next frame: it sends it, or without link discards it, and either way it counts as transmitted
(R117). -/
def State.sendFrame (s : State) (port sub : Nat) : State :=
  let k := egKey port sub
  match SMap.getD [] s.host.egress k with
  | [] => s
  | f :: rest =>
    let h := s.host
    let s := { s with host := { h with egress := SMap.setD [] h.egress k rest,
                                       onWire := if s.hasLink port sub then SMap.put h.onWire k (s.onLine port sub f) else h.onWire } }
    s.respLeaves f

/-- The frame of a PDU of a connection: header fields of R50, acknowledgement fields of R67, addresses of R47. -/
def connFrame (c : Nat) (x : Conn) (type flags : Nat) (psn : W32) (tag : Nat) (payload : List Byte) (item : Nat) :
    EgFrame :=
  { conn := x.peerConn, src := c, version := x.version, type := type, flags := flags ||| flAckv, psn := psn,
    ackPsn := x.ackPsn, sack := x.sack, tag := tag, payload := payload, dstMac := x.lastMac, dstIp := x.helloIp,
    dstUdp := x.helloUdp, srcIp := x.localIp, entry := x.entry, item := item }

/-- One offer to the dirty-page log of an instance (R76, R162): `len` bytes at `addr` of buffer `key`. An offer that lies inside several ranges
sets its bits in the first of them alone (DESIGN CHOICE, log entry 145: R162 does not say whose bits are set). -/
def migOffer (x : InstSt) (key addr len : Nat) : InstSt × Bool :=
  let page := addr / 4096
  let pages := (addr + len - 1) / 4096 - page + 1
  if x.migMode = 0 ∨ len = 0 then (x, false)
  else
    let fits := fun (r : MigRange) => decide (r.key = key) && decide (r.base ≤ addr) && decide (addr + len ≤ r.base + r.len)
    match (if x.migMode = 2 then (x.migRanges.zipIdx.find? fun e => fits e.1) else none) with
    | some (r, i) =>
      ({ x with migBits := (List.range pages).foldl (fun m n =>
          SMap.setD false m (2 ^ 18 * i + (page - r.base / 4096 + n)) true) x.migBits }, false)
    | none =>
      let e : MigEnt := { key := key, pages := pages, addr := 4096 * page }
      if x.migList.getLast? = some e then (x, false)
      else if x.migList.length ≥ x.migCap then ({ x with migOvf := true }, true)
      else ({ x with migList := x.migList ++ [e] }, false)

/-- Offer a `DATA_IN` to its instance's log before it is sent (R76): the payload starts with `BUF_KEY` and `ADDR`.
`VIM.IRQ_STAT.MIG_OVERFLOW` is bit 2 (R162, R164). -/
def State.offerMig (s : State) (inst : Nat) (payload : List Byte) : State :=
  let r := migOffer (SMap.getD {} s.insts inst) (be payload 0 4) (be payload 8 8) (payload.length - 16)
  let s := { s with insts := SMap.setD {} s.insts inst r.1 }
  if r.2 then s.raise 0x050 2 else s

/-- Whether a payload is offered: `DATA_IN` of `MIGRATION_LOG` itself is never logged (R163). -/
def State.offerFor (s : State) (x : Conn) (p : TxPdu) : State :=
  if p.type = tDataIn ∧ p.logged then s.offerMig x.inst p.payload else s

/-- An `XFER_RDY` is sent for the first time: the data timeout of its command runs from now (R73). -/
def State.rdySent (s : State) (c : Nat) (p : TxPdu) : State :=
  if p.type ≠ tXferRdy ∨ nbit p.flags 11 then s
  else
    let now := s.now
    { s with cmd := { s.cmd with items := s.cmd.items.map fun e =>
        if e.2.conn = c ∧ e.2.tag = p.tag ∧ e.2.lost = false ∧ e.2.state = .dataPhase then (e.1, { e.2 with stagedUs := now }) else e } }

/-- Send one committed PDU: its frame goes to the connection's egress queue (R47, R67), a first sending marks it sent. -/
def State.emit (s : State) (c : Nat) (x : Conn) (p : TxPdu) (front : Bool) : State :=
  ((s.offerFor x p).rdySent c p).pushFrame x.port x.subif front (connFrame c x p.type p.flags p.psn p.tag p.payload p.item)

/-- Whether a PSN may be sent: not more than 64 ahead of the peer's last `ACK_PSN` (R64). -/
def inWindow (x : Conn) (psn : W32) : Bool := decide (psnAhead psn x.peerAck ≤ 64)

/-- Commit a sequenced PDU: it takes the connection's next PSN; inside the window its frame goes to egress, otherwise
it waits (R64). An unknown connection sends nothing, nor one that has sent its `CLOSE` (R58). -/
def State.sendSeq (s : State) (c : Nat) (type flags tag : Nat) (payload : List Byte) (item : Nat := 0)
    (front : Bool := false) (logged : Bool := true) : State :=
  match s.conn c with
  | none => s
  | some x =>
    if x.closeSent then s else
    let p : TxPdu := { psn := x.nextPsn, type := type, flags := flags, tag := tag, payload := payload, item := item,
                       tries := 1, logged := logged, front := front }
    let x1 := { x with nextPsn := x.nextPsn + 1 }
    if inWindow x p.psn && x.waiting.isEmpty then
      let x2 := { x1 with
        unacked := x.unacked ++ [p], ackDue := false, txUs := s.now, rtoFrom := if x.unacked.isEmpty then s.now else x.rtoFrom }
      (s.setConn c x2).emit c x2 p front
    else s.setConn c { x1 with waiting := x.waiting ++ [p] }

/-- Send an unsequenced PDU: it carries the sender's next PSN (R52). After the device's own `CLOSE` only an `ACK` goes (R58). -/
def State.sendUnseq (s : State) (c : Nat) (type tag : Nat) (payload : List Byte) : State :=
  match s.conn c with
  | none => s
  | some x =>
    if x.closeSent ∧ type ≠ tAck then s else
    (s.setConn c { x with ackDue := false, txUs := s.now }).pushFrame x.port x.subif false
      (connFrame c x type 0 x.nextPsn tag payload 0)

/-- Send an `ACK` (R67). -/
def State.sendAck (s : State) (c : Nat) : State := s.sendUnseq c tAck 0 []

/-- Send the PDUs the window now admits, oldest first (R64). -/
def State.drainWaiting : Nat → State → Nat → State
  | 0, s, _ => s
  | n + 1, s, c =>
    match s.conn c with
    | none => s
    | some x =>
      match x.waiting with
      | [] => s
      | p :: rest =>
        if inWindow x p.psn then
          let x1 := { x with
            waiting := rest, unacked := x.unacked ++ [p], ackDue := false, txUs := s.now,
            rtoFrom := if x.unacked.isEmpty then s.now else x.rtoFrom }
          State.drainWaiting n ((s.setConn c x1).emit c x1 p p.front) c
        else s

/-- Send an unacknowledged PDU again with `RETX` (R50), and with `ACKREQ` at a timer expiry (R69). -/
def State.resend (s : State) (c : Nat) (p : TxPdu) (extra : Nat) : State :=
  match s.conn c with
  | none => s
  | some x =>
    let up := x.unacked.map fun q => if q.psn = p.psn then { q with tries := q.tries + 1 } else q
    let x1 := { x with unacked := up, ackDue := false, txUs := s.now }
    (s.setConn c x1).emit c x1 { p with flags := p.flags ||| flRetx ||| extra } false

/-- A frame that no connection stands behind (R550): a `CLOSE` in answer to a PDU. -/
def closeReply (p : PduIn) (reason : Nat) : EgFrame :=
  { conn := p.srcConn, src := 0, version := p.version, type := tClose, flags := 0, psn := 0, ackPsn := 0, sack := 0,
    tag := 0, payload := beBytes 2 reason ++ zeros 2, dstMac := p.srcMac, dstIp := p.srcIp, dstUdp := p.srcUdp, srcIp := p.dstIp,
    entry := p.entry, item := 0 }

/-- Answer a PDU with a `CLOSE` without a connection (R550). -/
def State.replyClose (s : State) (p : PduIn) (reason : Nat) : State :=
  s.pushFrame p.port p.subif false (closeReply p reason)

/-- The identity of a source for the limit of R60. -/
def srcId (p : PduIn) : Nat := 65536 * p.srcIp + p.srcUdp

/-- Answer with `NO_CONNECTION`, at most once per source address and UDP port per 1 ms (R60). -/
def State.replyNoConn (s : State) (p : PduIn) : State :=
  let last := SMap.getD 0 s.host.noConn (srcId p)
  if last ≠ 0 ∧ s.now < last - 1 + 1000 then s
  else
    { s with host := { s.host with noConn := SMap.setD 0 s.host.noConn (srcId p) (s.now + 1) } }.replyClose p 4

/-- Count a drop of a host port; the management port counts nowhere (R78, R549). `DROP_SAT` is bit 2 (R79). -/
def State.drop (s : State) (port reason : Nat) : State :=
  if port ≥ 16 then s
  else
    let off := 0x200 + 4 * reason
    let was := (s.reg (0x030 + port) off).toNat
    let s := s.count (0x030 + port) off
    if was = 2 ^ 32 - 2 then s.raise (0x030 + port) 2 else s

end Sys2Proof.Machine
end

