-- ==== Sys2Proof/Machine/Buf.lean ====
section
/-! DEFINITION. The buffer pool manager (R209 to R228): layout, free lists threaded through buffer SRAM, allocation,
splice chains, hitches, misuse. -/

namespace Sys2Proof.Machine

/-- Buffer size of a pool (R209). -/
def poolSize : Nat → Nat
  | 0 => 256
  | 1 => 2048
  | 2 => 16384
  | 3 => 65536
  | _ => 262144

/-- `POOL_COUNT` of a pool. -/
def State.poolCount (s : State) (p : Nat) : Nat := s.fld 0x020 (0x040 + 4 * p) 27 0
/-- `POOL_FREE` of a pool. -/
def State.poolFree (s : State) (p : Nat) : Nat := s.fld 0x020 (0x060 + 4 * p) 27 0
/-- `BUF_REBUILD` of a pool. -/
def State.rebuilding (s : State) (p : Nat) : Bool := decide (s.fld 0x020 0x0B0 p p = 1)

/-- The NIL handle (R212). -/
def nil : Nat := 0xFFFFFFFF
/-- The handle of a buffer (R212). -/
def mkHandle (p i : Nat) : Nat := 2 ^ 28 * p + i
/-- POOL of a handle. -/
def hPool (h : Nat) : Nat := h / 2 ^ 28
/-- INDEX of a handle. -/
def hIdx (h : Nat) : Nat := h % 2 ^ 28

/-- A handle that names a buffer (R212). -/
def State.validHandle (s : State) (h : Nat) : Bool := decide (hPool h < 5) && decide (hIdx h < s.poolCount (hPool h))

/-- The counts of the reset layout (R209). -/
def resetCounts : List Nat := [131072, 16384, 4096, 512, 128]

/-- Base offset of a pool under a list of counts (R209). -/
def baseOf (cs : List Nat) (p : Nat) : Nat :=
  ((List.range p).map fun q => cs.getD q 0 * poolSize q).foldl (· + ·) 0

/-- The counts as active. -/
def State.counts (s : State) : List Nat := (List.range 5).map s.poolCount

/-- Buffer SRAM offset of a buffer (R212). -/
def State.bufOff (s : State) (h : Nat) : Nat := baseOf s.counts (hPool h) + hIdx h * poolSize (hPool h)

/-- The 8 link bytes of a free buffer (R213). -/
def linkBytes (next h : Nat) : List Byte := leBytes 4 next ++ leBytes 4 (nil - h)

/-- The pool a layout puts an offset into, with the buffer and the offset in it; none above the last pool. -/
def locate (cs : List Nat) (a : Nat) : Option (Nat × Nat × Nat) :=
  ((List.range 5).filterMap fun p =>
    let b := baseOf cs p
    let n := cs.getD p 0
    if b ≤ a ∧ a < b + n * poolSize p then some (p, (a - b) / poolSize p, (a - b) % poolSize p) else none).head?

/-- The link byte a layout builds at an offset, if that offset lies in a buffer's first 8 bytes. -/
def builtLink (cs : List Nat) (a : Nat) : Option Byte :=
  match locate cs a with
  | some (p, i, o) =>
    if o < 8 then
      let next := if i + 1 < cs.getD p 0 then mkHandle p (i + 1) else nil
      (linkBytes next (mkHandle p i))[o]?
    else none
  | none => none

/-- What an unlisted byte of buffer SRAM holds: the link bytes of the newest layout that has any there, else 0. -/
def sramDefault (laid : List (List Nat)) (a : Nat) : Byte :=
  match laid with
  | [] => (builtLink resetCounts a).getD 0
  | cs :: rest => (builtLink cs a).getD (sramDefault rest a)

/-- Size of buffer SRAM (R18). -/
def sramSize : Nat := 201326592

/-- One byte of buffer SRAM. -/
def State.sramGet (s : State) (a : Nat) : Byte := SMap.getD (sramDefault s.buf.laid a) s.buf.sram a

/-- Bytes of buffer SRAM. -/
def State.sramRead (s : State) (a : Nat) : Nat → List Byte
  | 0 => []
  | n + 1 => s.sramGet a :: s.sramRead (a + 1) n

/-- Write one byte of buffer SRAM. -/
def State.sramSet (s : State) (a : Nat) (b : Byte) : State :=
  { s with buf := { s.buf with sram := SMap.setD (sramDefault s.buf.laid a) s.buf.sram a b } }

/-- Write bytes of buffer SRAM. -/
def State.sramWrite (s : State) (a : Nat) : List Byte → State
  | [] => s
  | b :: l => (s.sramSet a b).sramWrite (a + 1) l

/-- The handle at the head of a pool's free list. -/
def State.listHead (s : State) (p : Nat) : Nat :=
  match SMap.find s.buf.head p with
  | some h => h - 1
  | none => if s.poolCount p = 0 then nil else mkHandle p 0

/-- Set the head of a pool's free list. -/
def State.setListHead (s : State) (p h : Nat) : State :=
  { s with buf := { s.buf with head := SMap.put s.buf.head p (h + 1) } }

/-- A buffer's holder record. -/
def State.brec (s : State) (h : Nat) : BufRec := SMap.getD {} s.buf.recs h
/-- Write a holder record. -/
def State.setRec (s : State) (h : Nat) (r : BufRec) : State :=
  { s with buf := { s.buf with recs := SMap.setD {} s.buf.recs h r } }

/-- Slot `k` of a record: requester plus 1, 0 empty. -/
def BufRec.slot (r : BufRec) (k : Nat) : Nat := r.slots.getD k 0
/-- Item slot `k` is held for; 0 none. -/
def BufRec.work (r : BufRec) (k : Nat) : Nat := r.works.getD k 0
/-- Four slots of a record; none listed where all are empty. -/
def fourSlots (f : Nat → Nat) : List Nat :=
  let l := (List.range 4).map f
  if l.all (· == 0) then [] else l
/-- A record with slot `k` written, held for an item. -/
def BufRec.setSlot (r : BufRec) (k v item : Nat) : BufRec :=
  { r with slots := fourSlots fun j => if j = k then v else r.slot j
           works := fourSlots fun j => if j = k then item else r.work j }
/-- Whether any slot is occupied. -/
def BufRec.occupied (r : BufRec) : Bool := r.slots.any (· != 0)
/-- The slot a requester holds. -/
def BufRec.slotOf (r : BufRec) (a : Nat) : Option Nat := (List.range 4).find? fun k => r.slot k == a + 1
/-- The lowest empty slot. -/
def BufRec.emptySlot (r : BufRec) : Option Nat := (List.range 4).find? fun k => r.slot k == 0

/-- Page and offset of a requester's word in a pair of tables (R228). -/
def reqWord (first r : Nat) : Nat × Nat := (first + r / 1024, 4 * (r % 1024))
/-- `USE` of a requester in 256 B units. -/
def State.useOf (s : State) (r : Nat) : Nat := s.fld (reqWord 0x025 r).1 (reqWord 0x025 r).2 19 0
/-- Write `USE`. -/
def State.setUse (s : State) (r v : Nat) : State := s.setFld (reqWord 0x025 r).1 (reqWord 0x025 r).2 19 0 v
/-- `QUOTA_MAX` of a requester. -/
def State.maxOf (s : State) (r : Nat) : Nat := s.fld (reqWord 0x021 r).1 (reqWord 0x021 r).2 19 0
/-- `QUOTA_MIN` of a requester. -/
def State.minOf (s : State) (r : Nat) : Nat := s.fld (reqWord 0x023 r).1 (reqWord 0x023 r).2 19 0

/-- Requesters whose `QUOTA_MIN` is not 0. -/
def State.minRequesters (s : State) : List Nat :=
  s.regs.filterMap fun e => if 0x023 * 1024 ≤ e.1 ∧ e.1 < 0x025 * 1024 then some (e.1 - 0x023 * 1024) else none

/-- *OUT_MIN* in 256 B units (R219). -/
def State.outMin (s : State) : Nat := (s.minRequesters.map fun r => s.minOf r - s.useOf r).foldl (· + ·) 0

/-- *CAP2* (R220). -/
def State.cap2 (s : State) : Nat := s.poolCount 2 * s.fld 0x010 0x040 7 0 / 100
/-- *UNB2* (R220). -/
def State.unb2 (s : State) : Nat := s.fld 0x020 0x0A8 27 0

/-- *FREE_U* in bytes (R219); below 0 where *UNB2* is above a *CAP2* that has been lowered. A pool that is rebuilding counts with the `FREE` it
shows (DESIGN CHOICE, log entry 147: R219 does not say whether its stale count is left out). -/
def State.freeU (s : State) : Int :=
  (s.poolFree 0 * 256 + 2048 * s.poolFree 1 + 65536 * s.poolFree 3 + 262144 * s.poolFree 4 : Nat) +
    16384 * min (s.poolFree 2 : Int) (s.cap2 - s.unb2)

/-- Set `FREE` of a pool, with `LOW` (R228) and `POOL_EMPTY`. -/
def State.setFree (s : State) (p v : Nat) : State :=
  let s := s.setFld 0x020 (0x060 + 4 * p) 27 0 v
  let s := if v < s.fld 0x020 (0x080 + 4 * p) 27 0 then s.setFld 0x020 (0x080 + 4 * p) 27 0 v else s
  if v = 0 then s.raise 0x020 1 else s

/-- Record a rejection (R227): `MISUSE_CNT`, `ERR_CAPT` with the port and the requester, `MISUSE_HANDLE` when it captures,
`MISUSE`, the event of R500. -/
def State.misuse (s : State) (code ap r h : Nat) : State :=
  let held := decide (s.fld 0x020 0x01C 31 31 = 1)
  let s := s.count 0x020 (0x0C0 + 4 * (code - 0x11))
  let s := s.fault 0x0030 0x020 code ap r
  let s := if held then s else s.setReg 0x020 0x0E0 (BitVec.ofNat 32 h)
  s.raise 0x020 0

/-- Record a corrupted link of a pool (R214, R226, R228): the pool's number is in DETAIL. -/
def State.linkFault (s : State) (code ap p : Nat) : State :=
  (s.count 0x020 (0x0C0 + 4 * (code - 0x11))).fault 0x0031 0x020 code ap p

/-- Start the rebuild of a pool's list (R214). -/
def State.startRebuild (s : State) (p : Nat) : State := (s.setFld 0x020 0x0B0 p p 1).raise 0x020 2

/-! ### Units, ports and cycles (R215, R216, R222) -/

/-- Allocator port of a unit, by its agent ID (R215, R216). -/
def portOf (u : Nat) : Nat :=
  if u < 1040 then 9 + (u - 1024) / 4
  else if u < 1044 then u - 1040
  else if u = 1044 then 5
  else if u = 1045 then 4
  else if u < 1048 then 6
  else if u < 1064 then 8
  else if u = 1064 then 7
  else if u < 1073 then 13
  else if u = 1073 then 15
  else 14

/-- The item that an operation's hitch is held for: one there is, under its instance's ID or a unit's. -/
def State.heldFor (s : State) (q : BufReq) : Nat :=
  match SMap.find s.cmd.items q.item with
  | some it => if q.r = it.inst ∨ 1024 ≤ q.r then q.item else 0
  | none => 0

/-- An operation begins: in the cycle of the one before it, on a higher port, or in a new cycle (R222). -/
def State.cycleOn (s : State) (q : BufReq) : State :=
  let b := s.buf
  { s with buf := { b with cyc := if q.same ∧ b.cycPort ≤ (portOf q.unit) then b.cyc else [], cycPort := (portOf q.unit) + 1 } }

/-- Return a result to the unit that presented an operation (R217). Where a host port's allocation for an item meets no buffer, its `XFER_RDY`
wait. -/
def State.result (s : State) (q : BufReq) (r : AllocRes) : State :=
  let b := s.buf
  let none' := decide (r = .quota) || decide (r = .empty) || decide (r = .waiting)
  let stalled := if q.item ≠ 0 ∧ q.unit < 1040 then SMap.setD false b.stalled q.item none' else b.stalled
  { s with buf := { b with results := SMap.put b.results q.unit r, stalled := stalled } }

/-- Take a buffer from a list (R214, R219): the checks of R214, the record, the charge. None when the take fails, which
starts a rebuild. -/
def State.take (s : State) (p : Nat) (q : BufReq) (booked : Bool) : State × Option Nat :=
  let h := s.listHead p
  let l := s.sramRead (s.bufOff h) 8
  let next := le l 0 4
  let good := s.validHandle h && decide (hPool h = p) && decide (le l 4 4 = nil - h) &&
    (decide (next = nil) || (s.validHandle next && decide (hPool next = p))) && !(s.brec h).occupied && !q.bad
  if good then
    let s := (s.setListHead p next).setFree p (s.poolFree p - 1)
    let s := s.setRec h (BufRec.setSlot { charge := q.r + 1, booked := booked } 0 (q.r + 1) (s.heldFor q))
    let s := s.setUse q.r (s.useOf q.r + poolSize p / 256)
    let s := if p = 2 ∧ booked = false then s.setFld 0x020 0x0A8 27 0 (s.unb2 + 1) else s
    (s, some h)
  else ((s.linkFault 0x17 (portOf q.unit) p).startRebuild p, none)

/-- Outcome of the unbooked search of R219. -/
inductive Found where
  | handle (h : Nat) | quota | empty
  deriving DecidableEq, Repr

/-- The unbooked loop of R219 for pool `p` from pool `i`, at most two steps above it. -/
def State.allocLoop (p : Nat) (q : BufReq) (fb : Bool) : Nat → State → Nat → State × Found
  | 0, s, _ => (s, .empty)
  | n + 1, s, i =>
    let up := fun (s : State) =>
      if fb = false ∨ p = 0 ∨ i = min (p + 2) 4 then (s, Found.empty) else State.allocLoop p q fb n s (i + 1)
    if s.poolFree i > 0 ∧ s.rebuilding i = false ∧ (i ≠ 2 ∨ s.unb2 < s.cap2) then
      let u := poolSize i / 256
      if s.useOf q.r + u > s.maxOf q.r ∧ s.maxOf q.r ≠ 0xFFFFF then (s, .quota)
      else if s.useOf q.r + u ≤ s.minOf q.r ∨ (s.outMin * 256 + poolSize i : Int) ≤ s.freeU then
        match s.take i q false with
        | (s, some h) => (s, .handle h)
        | (s, none) => up s
      else (s, .empty)
    else up s

/-- Requester IDs an operation may carry (R215). -/
def goodId (r : Nat) : Bool := decide (r < 1075)

/-- Reject an operation (R227). -/
def State.reject (s : State) (code : Nat) (q : BufReq) (h : Nat) : State := (s.misuse code (portOf q.unit) q.r h).result q (.rejected code)

/-- Answer `EMPTY` (R219, R226, R551). -/
def State.answerEmpty (s : State) (q : BufReq) : State := (s.count 0x020 0x0E8).result q .empty
/-- Answer `QUOTA` (R219). -/
def State.answerQuota (s : State) (q : BufReq) : State := (s.count 0x020 0x0EC).result q .quota

/-- Zero a buffer on ports AP8 and AP15 (R217). -/
def State.zeroBuf (s : State) (ap h : Nat) : State :=
  if ap = 8 ∨ ap = 15 then s.sramWrite (s.bufOff h) (zeros (poolSize (hPool h))) else s

/-- Write the allocator's fields of a cell header (R225). -/
def State.cellHeader (s : State) (h next flags : Nat) : State :=
  (s.sramWrite (s.bufOff h) (leBytes 4 next)).sramWrite (s.bufOff h + 6) (leBytes 1 flags)

/-- A cell of a chain carries `TAIL` in its header (R225). -/
def State.tailCell (s : State) (h : Nat) : Bool :=
  ((s.brec h).head || (s.brec h).chained) && nbit (s.sramGet (s.bufOff h + 6)).toNat 1

/-- NEXT of a cell (R225). -/
def State.nextCell (s : State) (h : Nat) : Nat := le (s.sramRead (s.bufOff h) 4) 0 4

/-- A buffer joins the head of its list (R213), unless the list is rebuilding (R214). -/
def State.joinList (s : State) (h : Nat) : State :=
  let p := hPool h
  if s.rebuilding p then s
  else ((s.sramWrite (s.bufOff h) (linkBytes (s.listHead p) h)).setListHead p h).setFree p (s.poolFree p + 1)

/-- A buffer freed in this cycle is not on its list yet (R222). -/
def State.leaveList (s : State) (h : Nat) : State :=
  let p := hPool h
  if s.rebuilding p then s
  else (s.setListHead p (s.nextCell h)).setFld 0x020 (0x060 + 4 * p) 27 0 (s.poolFree p - 1)

/-- What an allocation does while the buffers freed in its cycle are not on their lists (R222). -/
def State.inCycle (s : State) (f : State → State) : State :=
  let held := s.buf.cyc
  held.reverse.foldl (fun s h => s.joinList h) (f (held.foldl (fun s h => s.leaveList h) s))

/-- A buffer just allocated serves its item as the next of its staging buffers (R15). -/
def State.stageBuf (s : State) (q : BufReq) (h : Nat) : State :=
  let n := s.heldFor q
  if n = 0 ∨ hPool h = 0 then s
  else
    let b := s.buf
    let (k, o) := SMap.getD (0, 0) b.staged n
    { s with buf := { b with stage := b.stage ++ [{ item := n, nth := k, off := o, handle := h }]
                             staged := SMap.put b.staged n (k + 1, o + poolSize (hPool h)) } }

/-- A buffer has been allocated: zeroed where R217 says so, the head of a new chain, an item's staging buffer. -/
def State.allocated (s : State) (q : BufReq) (p h : Nat) (chain : Bool) : State :=
  let s := if hPool h ≠ p then s.count 0x020 0x0E4 else s
  let s := (s.zeroBuf (portOf q.unit) h).stageBuf q h
  let s := if chain ∧ p = 0 then
      (s.setRec h { s.brec h with head := true, headIdx := hIdx h, cells := 1 }).cellHeader h nil 3
    else s
  s.result q (.handle h)

/-- `ALLOC` (R217, R219, R220, R226). -/
def State.alloc (s : State) (q : BufReq) (p : Nat) (booked fb chain : Bool) : State :=
  if goodId q.r = false ∨ p ≥ 5 then s.reject 0x15 q nil
  else if s.enabled 0x020 = false then s.answerEmpty q
  else if booked ∧ p = 2 then
    if s.rebuilding 2 then s.result q .waiting
    else
      match s.take 2 q true with
      | (s, some h) => s.allocated q p h false
      | (s, none) => s.result q .waiting
  else
    match s.allocLoop p q fb 3 p with
    | (s, .quota) => s.answerQuota q
    | (s, .empty) => s.answerEmpty q
    | (s, .handle h) => s.allocated q p h chain

/-- `CELL` on tail `t` (R226, R227). -/
def State.cell (s : State) (q : BufReq) (t : Nat) : State :=
  if goodId q.r = false ∨ s.validHandle t = false then s.reject 0x15 q t
  else if s.tailCell t = false then s.reject 0x16 q t
  else
    let hd := mkHandle 0 (s.brec t).headIdx
    if ((s.brec hd).slotOf q.r).isNone then s.reject 0x12 q t
    else if s.enabled 0x020 = false ∨ (s.brec hd).cells ≥ 65536 then s.answerEmpty q
    else
      match s.allocLoop 0 q false 3 0 with
      | (s, .quota) => s.answerQuota q
      | (s, .empty) => s.answerEmpty q
      | (s, .handle h) =>
        let s := s.setRec h { charge := q.r + 1, headIdx := hIdx hd, chained := true }
        let s := s.setRec hd { s.brec hd with cells := (s.brec hd).cells + 1 }
        let s := (s.zeroBuf (portOf q.unit) h).cellHeader h nil 2
        (s.cellHeader t h (b2n (s.brec t).head)).result q (.handle h)

/-- `HITCH` by the requester for a new holder `b` (R223, R227). -/
def State.hitch (s : State) (q : BufReq) (h b : Nat) : State :=
  if goodId q.r = false ∨ goodId b = false ∨ s.validHandle h = false then s.reject 0x15 q h
  else if (s.brec h).chained then s.reject 0x16 q h
  else if ((s.brec h).slotOf q.r).isNone then s.reject 0x12 q h
  else if ((s.brec h).slotOf b).isSome then s.reject 0x14 q h
  else
    match (s.brec h).emptySlot with
    | none => s.reject 0x13 q h
    | some k => (s.setRec h ((s.brec h).setSlot k (b + 1) (s.heldFor { q with r := b }))).result q .ok

/-- A buffer's charge is released (R224): `USE` of the requester charged falls, and *UNB2*. -/
def State.uncharge (s : State) (h : Nat) : State :=
  let r := s.brec h
  let p := hPool h
  let s := if r.charge = 0 then s else s.setUse (r.charge - 1) (s.useOf (r.charge - 1) - poolSize p / 256)
  if p = 2 ∧ r.charge ≠ 0 ∧ r.booked = false then s.setFld 0x020 0x0A8 27 0 (s.unb2 - 1) else s

/-- Return a buffer to its pool: its charge falls, its record clears, it goes to the head of its list unless the list
is rebuilding (R213, R214, R224). -/
def State.giveBack (s : State) (h : Nat) : State :=
  let s := (s.uncharge h).setRec h {}
  let b := s.buf
  (if s.rebuilding (hPool h) then s else { s with buf := { b with cyc := h :: b.cyc } }).joinList h

/-- Return a chain's cells from `h`, the head first (R226): the cell with `TAIL` ends the walk, a NEXT that names no cell of the chain stops it. -/
def State.walkChain (hd ap : Nat) : Nat → State → Nat → State
  | 0, s, _ => s
  | n + 1, s, h =>
    let tail := s.tailCell h
    let next := s.nextCell h
    let s := s.giveBack h
    if tail then s
    else if s.validHandle next && decide (hPool next = 0) && (s.brec next).chained &&
        decide ((s.brec next).headIdx = hIdx hd) then
      State.walkChain hd ap n s next
    else (s.linkFault 0x18 ap 0).startRebuild 0

/-- An item's staging buffer is held for it no more. -/
def State.unstageBuf (s : State) (n h : Nat) : State :=
  let b := s.buf
  { s with buf := { b with stage := b.stage.filter fun x => !(decide (x.item = n) && decide (x.handle = h)) } }

/-- Slot `k` of a buffer empties (R223, R224, R226): the charge moves on, or the buffer, or its whole chain, returns to its pool. -/
def State.emptySlot (s : State) (ap h k : Nat) : State :=
  let r := s.brec h
  let r' := r.setSlot k 0 0
  let s := s.unstageBuf (r.work k) h
  if r'.occupied then
    if r.charge = r.slot k then
      let a := r.charge - 1
      let b := (r'.slots.find? (· != 0)).getD 0
      let u := poolSize (hPool h) / 256
      let s := s.setUse a (s.useOf a - u)
      (s.setUse (b - 1) (s.useOf (b - 1) + u)).setRec h { r' with charge := b }
    else s.setRec h r'
  else if r.head then (s.setRec h r').walkChain h ap (r.cells + 1) h
  else (s.setRec h r').giveBack h

/-- `FREE` (R223, R224, R226, R227). -/
def State.freeBuf (s : State) (q : BufReq) (h : Nat) : State :=
  if goodId q.r = false ∨ s.validHandle h = false then s.reject 0x15 q h
  else
    let r := s.brec h
    if r.chained then s.reject 0x16 q h
    else if r.occupied = false then s.reject 0x11 q h
    else
      match r.slotOf q.r with
      | none => s.reject 0x12 q h
      | some k => (s.emptySlot (portOf q.unit) h k).result q .ok

/-! ### Buffers of items (R15, R156, R224) -/

/-- Hitches held for an item: buffers with slots. -/
def State.hitchesFor (s : State) (n : Nat) : List (Nat × Nat) :=
  s.buf.recs.flatMap fun e => ((List.range 4).filter fun k => decide (e.2.slot k ≠ 0) && decide (e.2.work k = n)).map fun k => (e.1, k)

/-- The squash of an item, or its end, frees every hitch held for it (R156, R224); firmware's port stands in `ERR_CAPT` if a chain is corrupt. -/
def State.freeHitches (s : State) (n : Nat) : State :=
  let s := (s.hitchesFor n).foldl (fun s e => s.emptySlot 15 e.1 e.2) s
  let b := s.buf
  { s with buf := { b with stage := b.stage.filter fun x => decide (x.item ≠ n), staged := SMap.del b.staged n, stalled := SMap.del b.stalled n } }

/-- A reading item's grain, counted from its first, lands in the staging buffer it has for it (R15). -/
def State.landGrain (s : State) (n nth : Nat) (data : List Byte) : State :=
  match s.buf.stage.find? fun x => decide (x.item = n) && decide (x.nth = nth) with
  | none => s
  | some x => s.sramWrite (s.bufOff x.handle) (data.take (poolSize (hPool x.handle)))

/-- Data of a writing item from byte `o` fills the staging buffers it has there (R14, R15). -/
def State.landData (s : State) (n o : Nat) (data : List Byte) : State :=
  (s.buf.stage.filter fun x => decide (x.item = n)).foldl (fun s x =>
    let a := max o x.off
    let e := min (o + data.length) (x.off + poolSize (hPool x.handle))
    if a < e then s.sramWrite (s.bufOff x.handle + (a - x.off)) (cut data (a - o) (e - a)) else s) s

/-- Cells reachable by NEXT links from a chain head that has a hitch, each chain up to a cell with `TAIL`, a NEXT that names no valid cell, or
a cell already reached (R214). -/
def State.reach : Nat → State → Nat → List Nat → List Nat
  | 0, _, _, acc => acc
  | n + 1, s, h, acc =>
    if acc.contains h then acc
    else
      let acc := h :: acc
      let next := s.nextCell h
      if nbit (s.sramGet (s.bufOff h + 6)).toNat 1 then acc
      else if s.validHandle next && decide (hPool next = 0) then State.reach n s next acc
      else acc

/-- The free buffers a rebuild finds, in ascending INDEX order (R214). -/
def State.rebuildList (s : State) (p : Nat) : List Nat :=
  let kept := if p = 0 then
      s.buf.recs.foldl (fun acc e =>
        if e.2.head && e.2.occupied then State.reach (s.poolCount 0) s e.1 acc else acc) []
    else []
  ((List.range (s.poolCount p)).map (mkHandle p)).filter fun h =>
    !(s.brec h).occupied && !kept.contains h

/-- Thread a list through buffers (R213). -/
def State.thread (s : State) (l : List Nat) : State :=
  (l.zip (l.drop 1 ++ [nil])).foldl (fun s e => s.sramWrite (s.bufOff e.1) (linkBytes e.2 e.1)) s

/-- The end of a rebuild (R214): buffers that no chain holds any more give up their records and charges, the list is
threaded afresh and the pool is usable. -/
def State.rebuilt (s : State) (p : Nat) : State :=
  if s.rebuilding p = false then s
  else
    let l := s.rebuildList p
    let s := l.foldl (fun s h => if s.brec h = {} then s else (s.uncharge h).setRec h {}) s
    let s := (s.thread l).setListHead p (l.headD nil)
    ({ s with buf := { s.buf with cyc := [] } }.setFree p l.length).setFld 0x020 0x0B0 p p 0

/-- Occupied hitch slots that hold an ID: `INST_BUF.HITCHES` (R223). -/
def State.hitchesOf (s : State) (r : Nat) : Nat :=
  (s.buf.recs.map fun e => (e.2.slots.filter (· == r + 1)).length).foldl (· + ·) 0

/-- Whether no buffer has an occupied hitch slot (R211, R463). -/
def State.noHitches (s : State) : Bool := s.buf.recs.all fun e => !e.2.occupied

/-- New pool counts as R211 applies them: what is still charged is charged no more, the pools are laid out afresh, every one of them rebuilding;
SRAM keeps its other content. -/
def State.layOut (s : State) (cs : List Nat) : State :=
  let s := s.buf.recs.foldl (fun s e => s.uncharge e.1) s
  let sram := s.buf.sram.filter fun e => (builtLink cs e.1).isNone
  let s := { s with buf := { s.buf with laid := cs :: s.buf.laid, head := [], recs := [], cyc := [], stage := [], sram := sram } }
  (List.range 5).foldl (fun s p =>
    ((s.setFld 0x020 (0x040 + 4 * p) 27 0 (cs.getD p 0)).setFree p (cs.getD p 0)).startRebuild p) s

/-- `ERR_CLR` sets each `LOW` to its pool's present `FREE` (R228). -/
def State.clearLows (s : State) : State :=
  (List.range 5).foldl (fun s p => s.setFld 0x020 (0x080 + 4 * p) 27 0 (s.poolFree p)) s

/-! ### The commands -/

/-- `ALLOC` (R219, R222). -/
def execAlloc (q : BufReq) (p : Nat) (booked fb chain : Bool) (s : State) : Host.Outcome State Fault Refusal :=
  .next ((s.cycleOn q).inCycle fun s => s.alloc q p booked fb chain)

/-- `CELL` (R222, R226). -/
def execCell (q : BufReq) (t : Nat) (s : State) : Host.Outcome State Fault Refusal :=
  .next ((s.cycleOn q).inCycle fun s => s.cell q t)

/-- `HITCH` (R223). -/
def execHitch (q : BufReq) (h b : Nat) (s : State) : Host.Outcome State Fault Refusal := .next ((s.cycleOn q).hitch q h b)

/-- `FREE` (R224). -/
def execFree (q : BufReq) (h : Nat) (s : State) : Host.Outcome State Fault Refusal := .next ((s.cycleOn q).freeBuf q h)

/-- `FREE_LIST_REBUILD` (R214). -/
def execFreeListRebuild (p : Nat) (s : State) : Host.Outcome State Fault Refusal := .next (s.rebuilt p)

end Sys2Proof.Machine
end

