-- ==== Sys2Proof/Machine/Item.lean ====
section
/-! DEFINITION. Items of the command engine: states (R105), status codes (R89), reports (R99, R100, R107), instance
logs (R91, R92, R112, R113) and release of what an item holds (R127). -/

namespace Sys2Proof.Machine

/-! ### Status codes (R89) -/

/-- `SUCCESS`. -/
def stSuccess : Nat := 0x0000
/-- `INVALID_OPCODE`. -/
def stInvalidOpcode : Nat := 0x0101
/-- `INVALID_FIELD`. -/
def stInvalidField : Nat := 0x0102
/-- `LBA_RANGE`. -/
def stLbaRange : Nat := 0x0103
/-- `LENGTH_MISMATCH`. -/
def stLengthMismatch : Nat := 0x0104
/-- `PERMISSION`. -/
def stPermission : Nat := 0x0105
/-- `QUOTA`. -/
def stQuota : Nat := 0x0106
/-- `RETENTION_LOCKED`. -/
def stRetentionLocked : Nat := 0x0107
/-- `PROGRAM_INVALID`. -/
def stProgramInvalid : Nat := 0x0108
/-- `ABORTED`. -/
def stAborted : Nat := 0x0201
/-- `INSTANCE_RESET`. -/
def stInstanceReset : Nat := 0x0202
/-- `FW_ACTIVATION`. -/
def stFwActivation : Nat := 0x0203
/-- `DEVICE_RESET`. -/
def stDeviceReset : Nat := 0x0204
/-- `MEDIA_UNRECOVERED`. -/
def stMedia : Nat := 0x0301
/-- `INTEGRITY`. -/
def stIntegrity : Nat := 0x0302
/-- `DRAM_UNCORRECTABLE`. -/
def stDram : Nat := 0x0303
/-- `BUDGET_EXCEEDED`. -/
def stBudget : Nat := 0x0304
/-- `PROGRAM_FAULT`. -/
def stProgramFault : Nat := 0x0305
/-- `THERMAL_SHUTDOWN`. -/
def stThermal : Nat := 0x0306
/-- `POWER_FAIL`. -/
def stPowerFail : Nat := 0x0307
/-- `KNOT_PEER_LOST`. -/
def stPeerLost : Nat := 0x0308
/-- `DEADLINE_FAULT`. -/
def stDeadline : Nat := 0x0309

/-! ### Commands by kind -/

/-- Writing commands (R94). -/
def isWriting (op : Nat) : Bool := op = 0x02 || op = 0x03 || op = 0x04
/-- Reading commands (R94). -/
def isReading (op : Nat) : Bool := op = 0x01 || op = 0x08 || op = 0x10 || op = 0x11
/-- Seal commands (R82). -/
def isSeal (op : Nat) : Bool := op = 0x18 || op = 0x19 || op = 0x1A
/-- Management commands (R83). -/
def isMgmt (op : Nat) : Bool := decide (0x40 ≤ op) && decide (op ≤ 0x4C)
/-- Data-path commands (R111): `FLUSH` only without `MEDIA`. -/
def isDataPath (op cflags : Nat) : Bool :=
  op = 0x01 || op = 0x02 || op = 0x03 || op = 0x04 || (op = 0x05 && cflags % 2 = 0) || op = 0x08 || op = 0x0B ||
    op = 0x10 || op = 0x11
/-- Commands an `ABORT` cannot end (R100). -/
def notAbortable (op : Nat) : Bool := op = 0x40 || op = 0x41 || op = 0x42 || op = 0x49 || op = 0x4C || isSeal op

/-! ### Items -/

/-- An item by number. -/
def State.item (s : State) (n : Nat) : Option Item := SMap.find s.cmd.items n

/-- Write an item. -/
def State.setItem (s : State) (n : Nat) (it : Item) : State :=
  { s with cmd := { s.cmd with items := SMap.put s.cmd.items n it } }

/-- Change an item. -/
def State.modItem (s : State) (n : Nat) (f : Item → Item) : State :=
  { s with cmd := { s.cmd with items := SMap.modify s.cmd.items n f } }

/-- Change every item. -/
def State.mapItems (s : State) (f : Nat → Item → Item) : State :=
  { s with cmd := { s.cmd with items := s.cmd.items.map fun e => (e.1, f e.1 e.2) } }

/-- Forget an item. -/
def State.delItem (s : State) (n : Nat) : State :=
  { s with cmd := { s.cmd with items := SMap.del s.cmd.items n } }

/-- An instance. -/
def State.inst (s : State) (i : Nat) : InstSt := SMap.getD {} s.insts i

/-- Write an instance. -/
def State.setInst (s : State) (i : Nat) (x : InstSt) : State := { s with insts := SMap.setD {} s.insts i x }

/-- Change an instance. -/
def State.modInst (s : State) (i : Nat) (f : InstSt → InstSt) : State := s.setInst i (f (s.inst i))

/-- An item is outstanding until its report is committed (R99). -/
def Item.outstanding (it : Item) : Bool := decide (it.state ≠ .reported)

/-- Commands in flight: items whose report is not committed (R134). -/
def State.inFlight (s : State) : Nat := (s.cmd.items.filter fun e => e.2.outstanding).length

/-- Whether an item is one that a reset or deletion of instance `i` meets (R106, R154): management commands, and the
commands 0x20 to 0x23, of a management-port connection are not. -/
def Item.ofInst (it : Item) (i : Nat) : Bool :=
  decide (it.inst = i) && !(decide (it.port = 16) && (isMgmt it.op || (decide (0x20 ≤ it.op) && decide (it.op ≤ 0x23))))

/-- Whether item `n` is the reset or deletion of instance `i` that is under way: it does not meet itself. -/
def State.ownReset (s : State) (i n : Nat) : Bool := decide ((s.inst i).resetQ.head? = some n)

/-- `INST_STAT.OUTSTANDING` (R164). -/
def State.outstandingOf (s : State) (i : Nat) : Nat :=
  (s.cmd.items.filter fun e => e.2.outstanding && e.2.ofInst i && !s.ownReset i e.1).length

/-- Commands a connection holds (R77). -/
def State.heldByConn (s : State) (c : Nat) : Nat :=
  (s.cmd.items.filter fun e => e.2.outstanding && decide (e.2.conn = c) && !e.2.lost).length

/-- Commands in flight of an instance (R151). -/
def State.heldByInst (s : State) (i : Nat) : Nat :=
  (s.cmd.items.filter fun e => e.2.outstanding && decide (e.2.inst = i) && decide (e.2.port < 32)).length

/-- The outstanding item of a connection with a tag. -/
def State.findTag (s : State) (c tag : Nat) : Option Nat :=
  (s.cmd.items.find? fun e => e.2.outstanding && decide (e.2.conn = c) && !e.2.lost && decide (e.2.tag = tag)).map (·.1)

/-- The item of a connection with a tag whose `RESP` is committed and not acknowledged. -/
def State.findReported (s : State) (c tag : Nat) : Option Nat :=
  (s.cmd.items.find? fun e => !e.2.outstanding && !e.2.aborted && !e.2.refused && decide (e.2.conn = c) && !e.2.lost &&
    decide (e.2.tag = tag)).map (·.1)

/-! ### Instance logs -/

/-- Record a deferred error on page 0x01 (R112, R113): a full page adds to the overflow count; connections that asked
for it get an `ASYNC_EVENT` 1 (R85, R503). -/
def State.deferredError (s : State) (i origin status blocks firstLba asn : Nat) : State :=
  let x := s.inst i
  if x.deferred.length ≥ 256 then s.setInst i { x with defOvf := satAdd 32 x.defOvf 1 }
  else
    let e : DeferredEnt := { seq := x.defSeq + 1, status := status, origin := origin, blocks := blocks,
                             firstLba := firstLba, asn := asn }
    (s.setInst i { x with deferred := x.deferred ++ [e], defSeq := x.defSeq + 1 }).async 1
      (fun c => decide (c.inst = i)) (beBytes 8 (x.defSeq + 1))

/-- Record an outcome on page 0x02 (R59). -/
def State.logOutcome (s : State) (it : Item) (status : Nat) : State :=
  let x := s.inst it.inst
  if x.outcomes.length ≥ 4096 then s.setInst it.inst { x with outOvf := satAdd 32 x.outOvf 1 }
  else
    s.setInst it.inst { x with outSeq := x.outSeq + 1, outcomes := x.outcomes ++
      [{ tag := it.tag, conn := it.conn, status := status, asn := it.asn, inBytes := it.sent, id := x.outSeq + 1 }] }

/-- `DEFERRED` of a `RESP` of an instance (R113). -/
def State.deferredFlag (s : State) (i : Nat) : Nat :=
  let x := s.inst i
  if x.deferred ≠ [] ∨ x.defOvf ≠ 0 then flDeferred else 0

/-! ### Staged data of readers (R94) -/

/-- A writer gives up staged blocks it has not written: they no longer count for any reader. -/
def State.unstage (s : State) (inst asn : Nat) (p : Nat → Bool) : State :=
  s.mapItems fun _ it =>
    if isReading it.op && it.outstanding && decide (it.inst = inst) then
      { it with grains := it.grains.map fun g =>
          { g with overlay := g.overlay.filter fun o => o.sure || decide (o.asn ≠ asn) || !p (4 * g.grain + o.block) } }
    else it

/-! ### Ending an item -/

/-- A booking's slot lies after this instant. -/
def State.slotAhead (s : State) (b : Booking) : Bool :=
  if b.coarse then decide (s.now / 1000 < b.slot) else decide (s.now < b.slot)

/-- Release every booking of an item in slots after this instant (R127). What a completed write booked for the later programming of its
data stays, `keep`: that work is still to come (R133). DESIGN CHOICE (log entry 126). -/
def State.dropBookings (s : State) (n : Nat) (keep : Bool) : State :=
  { s with cad := { s.cad with bookings := s.cad.bookings.filter (fun b => decide (b.item ≠ n) || !s.slotAhead b || (keep && b.late)),
                               standing := s.cad.standing.filter (fun b => b.item ≠ n) } }

/-- A `CREATE_INSTANCE` ends while its instance is in CREATING (R148, R149): with its transaction made the creation stands, whatever status
the command ends with; before that it is undone and the number is `FREE` (DESIGN CHOICE, log entry 131). -/
def State.endCreate (s : State) (it : Item) : State :=
  let x := s.inst it.target
  if it.op ≠ 0x40 ∨ it.finished = false ∨ it.status ≠ stSuccess ∨ x.state ≠ .creating then s
  else s.setInst it.target (if it.txn = 0 then { resetQ := x.resetQ } else { x with state := .active })

/-- Release what an ended item counts in: bookings, cache reservation, the home's list of ASNs of
writers under way (R434), the key slot's `USERS`, its buffers (R127, R205, R224, R262). -/
def State.releaseItem (s : State) (n : Nat) (keep : Bool := false) : State :=
  match s.item n with
  | none => s
  | some it =>
    let s := ((s.dropBookings n keep).endCreate it).freeHitches n
    let s := { s with flash := { s.flash with resv := SMap.del s.flash.resv n },
                      knot := { s.knot with granted := s.knot.granted.filter fun g => decide (g.1 ≠ it.inst) || decide (g.2.1 ≠ it.asn) } }
    let s := if it.keySlot < 64 then
        let off := 0x100 + 4 * it.keySlot
        s.setFld 0x198 off 16 0 (s.fld 0x198 off 16 0 - 1)
      else s
    s.modItem n fun it => { it with keySlot := 64, grants := [], out := [], outDone := true, wdata := [], clockOn := false }

/-- Count an ended command: `DONE_CNT` of its class or `BE_DONE_CNT` (R512). -/
def State.countDone (s : State) (it : Item) : State :=
  if it.promised then s.count 0x1E0 (0x300 + 4 * it.cls)
  else if it.asn ≠ 0 then s.count 0x1E0 0x310 else s

/-- The payload of a `RESP` (R53). -/
def respPayload (status inBytes : Nat) (result : List Byte) : List Byte :=
  beBytes 2 status ++ zeros 2 ++ beBytes 4 inBytes ++ zeros 8 ++ result

/-- An `ABORT_RESP` (R53, R100). -/
def State.sendAbortResp (s : State) (c tag outcome : Nat) (item : Nat := 0) : State :=
  s.sendSeq c tAbortResp 0 tag (beBytes 4 tag ++ beBytes 2 outcome ++ zeros 2) item

/-- `n` answers to the `ABORT`s that wait for an item (R100). -/
def State.answerAborts : Nat → State → Nat → Nat → Nat → State
  | 0, s, _, _, _ => s
  | n + 1, s, c, tag, outcome => State.answerAborts n (s.sendAbortResp c tag outcome) c tag outcome

/-- An item's initiator can be told nothing more: its connection has failed or the device has closed it (R58, R59). -/
def State.deaf (s : State) (it : Item) : Bool :=
  it.lost || (match s.conn it.conn with
    | none => true
    | some x => x.closeSent)

/-- Commit an item's `RESP` (R99): its status is fixed, what it held is released. The outcome of an item whose connection failed goes to log page 0x02 (R59). `front`: at the head of the
egress queue (R138). -/
def State.commitResp (s : State) (n status : Nat) (result : List Byte) (front : Bool := false) : State :=
  match s.item n with
  | none => s
  | some it =>
    let s := (s.releaseItem n (decide (status = stSuccess))).countDone it
    if s.deaf it then (s.logOutcome it status).delItem n
    else
      let s := s.modItem n fun x => { x with state := .reported, finished := true, status := status, result := result,
                                             aborters := 0 }
      s.sendSeq it.conn tResp (s.deferredFlag it.inst) it.tag (respPayload status it.sent result) (n + 1) front

/-- A `RESP` that refuses an item before its acceptance (R87, R106): its tag is free; `ABORT`s that waited for it are answered
`NOT_FOUND` (R100). The item stays, reported, until the `RESP` is acknowledged (R105, R107). -/
def State.refuseItem (s : State) (n status : Nat) : State :=
  match s.item n with
  | none => s
  | some it =>
    let s := s.releaseItem n
    if s.deaf it then (s.logOutcome it status).delItem n
    else
      let s := s.modItem n fun x => { x with state := .reported, finished := true, refused := true, status := status, aborters := 0 }
      let s := s.sendSeq it.conn tResp (s.deferredFlag it.inst) it.tag (respPayload status 0 []) (n + 1)
      State.answerAborts it.aborters s it.conn it.tag 3

/-- Commit an item's `ABORT_RESP` with `ABORTED` (R102); `ABORT`s that waited are then answered `NOT_FOUND` (R100). -/
def State.commitAborted (s : State) (n : Nat) : State :=
  match s.item n with
  | none => s
  | some it =>
    let s := (s.releaseItem n).countDone it
    if s.deaf it then (s.logOutcome it stAborted).delItem n
    else
      let s := s.modItem n fun x => { x with state := .reported, finished := true, status := stAborted, aborters := 0 }
      let s := s.sendAbortResp it.conn it.tag 2 (n + 1)
      State.answerAborts (it.aborters - 1) s it.conn it.tag 3

/-- A `RESP` that refuses a command at its receipt (R77, R87): the command is an item only as a report not yet acknowledged (R105). -/
def State.refuse (s : State) (it : Item) (status : Nat) : State :=
  let n := s.cmd.next
  let s := { s with cmd := { s.cmd with next := n + 1 } }.setItem n
    { it with state := .reported, finished := true, refused := true, status := status, keySlot := 64, outDone := true }
  s.sendSeq it.conn tResp (s.deferredFlag it.inst) it.tag (respPayload status 0 []) (n + 1)

/-- Fix an item's status and RESULT at the end of its work; `COMMAND_COMPLETE` commits its `RESP` once its output is
sent (R99). -/
def State.finish (s : State) (n status : Nat) (result : List Byte := []) : State :=
  s.modItem n fun it =>
    if it.finished then it else { it with finished := true, status := status, result := result, outDone := true }

/-- The acknowledgement of a report: its item is done (R105). -/
def State.reportAcked (s : State) (item : Nat) : State := if item = 0 then s else s.delItem (item - 1)

/-- The deadline of a promised item whose clock runs, as an instant. -/
def Item.deadline (it : Item) : Nat := it.startUs + it.deadlineUs

end Sys2Proof.Machine
end

