-- ==== Sys2Proof/Machine/Dram.lean ====
section
/-! DEFINITION. The DRAM controller (R371 to R391): address mapping, queues and their order, refresh, self-refresh,
alerts, row-hammer defence, poison, training. What a poisoned burst means to its requester (R389) is in
Machine/DramCmd.lean. -/

namespace Sys2Proof.Machine

/-- Draw a number from the device's random source (R149, R387). -/
def State.draw (s : State) : Nat × State :=
  (Config.randomDraw s.otp.draws, { s with otp := { s.otp with draws := s.otp.draws + 1 } })

/-- `POP_STAT.SET`: the population in use (R373): 0 none, 1 set A, 2 set B, 3 all eight. -/
def State.popSet (s : State) : Nat := s.fld 0x068 0x040 31 30

/-- Channel and channel address of a physical address (R375). -/
def State.dramLoc (s : State) (a : Nat) : Nat × Nat :=
  if s.popSet = 3 then
    ((nbits a 10 8 ^^^ nbits a 13 11) ^^^ nbits a 16 14, a / 2 ^ 11 * 2 ^ 8 + a % 256)
  else
    (2 * ((nbits a 9 8 ^^^ nbits a 11 10) ^^^ nbits a 13 12) + (s.popSet - 1), a / 2 ^ 10 * 2 ^ 8 + a % 256)

/-- `DC_STAT.STATE` of a channel (R391). -/
def State.dcState (s : State) (c : Nat) : Nat := s.fld (0x060 + c) 0x048 31 28

/-- Rank of a channel address (R376). -/
def State.rankOf (s : State) (c ca : Nat) : Nat :=
  let sa := ca / 128 * 64 + ca % 64
  let top := if s.dram.x4 then 18 else 17
  if s.fld (0x060 + c) 0x048 15 14 = 2 then sa / 2 ^ top % 2 else 0

/-- Bank key and row of a channel address (R376): rank, subchannel, bank group and bank name the bank. -/
def State.bankRow (s : State) (c ca : Nat) : Nat × Nat :=
  let sa := ca / 128 * 64 + ca % 64
  let rk := s.rankOf c ca
  let top := (if s.dram.x4 then 18 else 17) + (if s.fld (0x060 + c) 0x048 15 14 = 2 then 1 else 0)
  ((rk * 2 + ca / 64 % 2) * 32 + sa / 256 % 32, sa / 2 ^ top)

/-- A channel's queues and ranks. -/
def State.chan (s : State) (c : Nat) : Chan := SMap.getD {} s.dram.chans c
/-- Write a channel. -/
def State.setChan (s : State) (c : Nat) (x : Chan) : State :=
  { s with dram := { s.dram with chans := SMap.setD {} s.dram.chans c x } }
/-- A rank. -/
def Chan.rank (x : Chan) (r : Nat) : Rank := SMap.getD {} x.ranks r
/-- Write a rank. -/
def Chan.setRank (x : Chan) (r : Nat) (k : Rank) : Chan := { x with ranks := SMap.setD {} x.ranks r k }

/-- Whether a rank has a request queued (R383). -/
def Chan.busy (x : Chan) (r : Nat) : Bool := x.rq.any (fun q => q.rank == r) || x.wq.any (fun q => q.rank == r)

/-! ### Contents -/

/-- Whether a burst is poisoned. -/
def State.poisoned (s : State) (burst : Nat) : Bool := SMap.getD false s.dram.poison burst
/-- Mark or clear a burst's poison. -/
def State.setPoison (s : State) (burst : Nat) (b : Bool) : State :=
  { s with dram := { s.dram with poison := SMap.setD false s.dram.poison burst b } }

/-- One byte of DRAM. -/
def State.dramByte (s : State) (a : Nat) : Byte := SMap.getD 0 s.dram.bytes a

/-- Whether `n` bytes at `a` are installed DRAM (R19). -/
def State.inDram (s : State) (a n : Nat) : Bool := decide (a + n ≤ s.dramSize)

/-- Whether the channel of an address is in `STATE` fault: its reads return poisoned data and its writes are discarded
(R386). -/
def State.dramFaulty (s : State) (a : Nat) : Bool := decide (s.dcState (s.dramLoc a).1 = 4)

/-- Whether a read of `n` bytes at `a` meets poison (R388, R386). -/
def State.readsPoison (s : State) (a n : Nat) : Bool :=
  (List.range ((a + n - 1) / 64 - a / 64 + 1)).any fun k =>
    s.poisoned (a / 64 + k) || s.dramFaulty ((a / 64 + k) * 64)

/-- Write bytes to DRAM: whole bursts lose their poison, partly written ones keep it (R388); a channel in fault
discards them (R386). -/
def State.dramWrite (s : State) (a : Nat) (data : List Byte) : State :=
  let n := data.length
  let bytes := (data.zipIdx).foldl (fun m e =>
    if s.dramFaulty (a + e.2) then m else SMap.setD 0 m (a + e.2) e.1) s.dram.bytes
  let whole := (List.range ((a + n - 1) / 64 - a / 64 + 1)).filter fun k =>
    decide (a ≤ (a / 64 + k) * 64) && decide ((a / 64 + k) * 64 + 64 ≤ a + n) && !s.dramFaulty ((a / 64 + k) * 64)
  let poison := whole.foldl (fun m k => SMap.setD false m (a / 64 + k) false) s.dram.poison
  { s with dram := { s.dram with bytes := bytes, poison := poison } }

/-- Bytes of DRAM. -/
def State.dramRead (s : State) (a : Nat) (n : Nat) : List Byte := readBytes s.dram.bytes a n

/-! ### Service -/

/-- An activation where the row is not open, with the draw of the row-hammer defence (R387). -/
def State.openRow (s : State) (c a : Nat) : State :=
  let br := s.bankRow c (s.dramLoc a).2
  let x := s.chan c
  if SMap.getD 0 x.openRow br.1 = br.2 + 1 then s
  else
    let s := s.setChan c { x with openRow := SMap.put x.openRow br.1 (br.2 + 1) }
    let (d, s) := s.draw
    if d % 2 ^ s.fld (0x060 + c) 0x040 20 16 = 0 then s.count (0x060 + c) 0x094 else s

/-- Remember an issued command in the retry buffer (R386). -/
def State.remember (s : State) (c burst : Nat) : State :=
  let x := s.chan c
  s.setChan c { x with retry := (burst :: x.retry).take 32 }

/-- Return a burst to a port; where it is poisoned, what it holds for its requester meets R389. -/
def State.dramOut (s : State) (port : Nat) (obj : DramObj) (d : DOut) : State :=
  { s with dram := { s.dram with out := SMap.put s.dram.out port d
                                 hit := if d.poison ∧ obj ≠ .plain then s.dram.hit ++ [obj] else s.dram.hit } }

/-- Service class of a DRAM port (R379): 0 RT, 1 LL, 2 BE. -/
def dramClass (port : Nat) : Nat :=
  if port = 0 ∨ port = 9 then 0 else if port = 1 ∨ port = 3 ∨ port = 5 ∨ port = 8 then 1 else 2

/-- A request's urgency (R380): its waiting time in sixteenths of its port's target, at most 15. -/
def State.urgency (s : State) (q : DReq) : Nat :=
  min 15 (16 * (1000 * (s.now - q.since)) / s.fld 0x068 (0x080 + 4 * q.port) 15 0)

/-- Whether a request's row is open. -/
def State.rowHit (s : State) (c : Nat) (q : DReq) : Bool :=
  let br := s.bankRow c (s.dramLoc (q.burst * 64)).2
  SMap.getD 0 (s.chan c).openRow br.1 == br.2 + 1

/-- What ranks a request under R380, smaller first: a write moved to the head of its queue (R382); then urgency, class, open row, age,
port. -/
def State.dramRank (s : State) (c : Nat) (q : DReq) : List Nat :=
  [b2n (!q.head), 15 - s.urgency q, dramClass q.port, b2n (!s.rowHit c q), q.since, q.port]

/-- Whether a queued request may be served now: its rank is active (R385), a read waits for no merge and no older read of its burst,
and a write for no older read of its burst (R382). -/
def Chan.eligible (x : Chan) (q : DReq) : Bool :=
  decide ((x.rank q.rank).phase = .active) && !q.taken &&
    (if q.wr then !x.rq.any (fun e => e.burst == q.burst && !e.taken)
     else decide (x.rq.find? (fun e => e.burst == q.burst && !e.taken) = some q))

/-- The requests that the queues hold: 128 reads and 64 writes; what stands behind these waits at its port (R382). -/
def Chan.queued (x : Chan) : List DReq := x.rq.take 128 ++ x.wq.take 64

/-- The request that the channel serves next (R380). -/
def State.dramNext (s : State) (c : Nat) : Option DReq :=
  ((s.chan c).queued.filter (fun q => (s.chan c).eligible q)).foldl (fun b q =>
    match b with
    | none => some q
    | some p => if s.dramRank c q < s.dramRank c p then some q else b) none

/-- A queue without a request; the request that moves up into the queue's last entry arrives at the channel now. -/
def dequeue (now n : Nat) (l : List DReq) (q : DReq) : List DReq :=
  if l.length ≤ n then l.erase q else (l.erase q).modify (n - 1) fun e => { e with since := now }

/-- Take a request from its queue. -/
def Chan.remove (x : Chan) (now : Nat) (q : DReq) : Chan :=
  if q.wr then { x with wq := dequeue now 64 x.wq q } else { x with rq := dequeue now 128 x.rq q }

/-- The poison and error bookkeeping of a read of a burst (R388): whether it is returned poisoned. An uncorrectable burst is poisoned in
DRAM and for the queued reads of it, unless a queued write of the whole burst follows. -/
def State.eccRead (s : State) (c port burst ecc : Nat) (wasPoisoned : Bool) : State × Bool :=
  let pg := 0x060 + c
  if s.dcState c = 4 then (s, true)
  else if wasPoisoned then (s.count pg 0x088, true)
  else if ecc = 2 then
    let x := s.chan c
    let s := if x.wq.any (fun q => q.burst == burst && q.whole) then s else s.setPoison burst true
    let s := s.setChan c { x with rq := x.rq.map fun q => if q.burst = burst then { q with poison := true } else q }
    let s := s.count pg 0x084
    let s := (s.setReg pg 0x0A8 (BitVec.ofNat 32 (burst * 64))).setReg pg 0x0AC
      (BitVec.ofNat 32 (burst * 64 / 2 ^ 32 % 2 ^ 12))
    ((s.fault 0x0010 pg 0x11 0 port).raise pg 0, true)
  else if ecc = 1 then (s.count pg 0x080, false)
  else (s, false)

/-- Serve one read (R388). -/
def State.serveRead (s : State) (c : Nat) (q : DReq) : State :=
  let s := (s.openRow c (q.burst * 64)).remember c q.burst
  let (s, bad) := s.eccRead c q.port q.burst q.ecc q.poison
  s.dramOut q.port q.obj { data := q.data, poison := bad }

/-- What a burst returns as it is taken from a queued or merged write (R382, R386). -/
def State.forward (s : State) (q : DReq) : State :=
  s.dramOut q.port q.obj { data := q.data, poison := s.poisoned q.burst || s.dramFaulty (q.burst * 64) }

/-- Serve one write: a part of a burst is a read, a merge and a write, and the reads that waited for the merge take the merged burst
(R382). -/
def State.serveWrite (s : State) (c : Nat) (q : DReq) : State :=
  let s := (s.openRow c (q.burst * 64)).remember c q.burst
  let s := if q.whole then s else (s.eccRead c q.port q.burst q.ecc (s.poisoned q.burst)).1
  let x := s.chan c
  let mine := fun (e : DReq) => e.taken && e.burst == q.burst
  (x.rq.filter mine).foldl (fun s e => s.forward e) (s.setChan c { x with rq := x.rq.filter fun e => !mine e })

/-- Whether a channel issues commands: its `ENABLE` is 1 (R551), and it is active and in no alert recovery. -/
def State.issues (s : State) (c : Nat) : Bool :=
  s.enabled (0x060 + c) && decide (s.dcState c = 2 ∨ s.dcState c = 4) && !(s.chan c).alert

/-- Refreshes of a rank: its debt falls to a number and its rows close. -/
def State.refreshTo (s : State) (c r debt : Nat) : State :=
  let x := s.chan c
  s.setChan c ({ x with openRow := x.openRow.filter fun e => e.1 / 64 != r }.setRank r { x.rank r with debt := debt })

/-- An active rank without requests is refreshed until it has no debt (R383). -/
def State.idleRefresh (s : State) (c : Nat) : State :=
  [0, 1].foldl (fun (s : State) (r : Nat) =>
    let x := s.chan c
    if (x.rank r).phase = .active ∧ x.busy r = false ∧ 0 < (x.rank r).debt ∧ s.dcState c = 2 then s.refreshTo c r 0 else s) s

/-- Serve up to a number of requests, each the first under R380 as the channel stands then (the two subchannels take their commands from
one order: DESIGN CHOICE, log entry 143). -/
def State.serveChan (s : State) (c : Nat) : Nat → State
  | 0 => s
  | n + 1 =>
    if s.issues c = false then s
    else
      match s.dramNext c with
      | none => s.idleRefresh c
      | some q =>
        let s := s.setChan c ((s.chan c).remove s.now q)
        let s := if q.wr then s.serveWrite c q else s.serveRead c q
        (s.idleRefresh c).serveChan c n

/-- Serve all that waits. -/
def State.serveAll (s : State) (c : Nat) : State := s.serveChan c ((s.chan c).rq.length + (s.chan c).wq.length)

/-- A request reaches its rank: it aborts a DRAIN, and it makes a rank in self-refresh exit (R385). -/
def State.wakeRank (s : State) (c r : Nat) : State :=
  let x := s.chan c
  let k := { x.rank r with reqUs := s.now + 1 }
  match k.phase with
  | .drain => (s.setChan c (x.setRank r { k with phase := .active })).count (0x060 + c) 0x09C
  | .selfRefresh => s.setChan c (x.setRank r { k with phase := .exiting })
  | _ => s.setChan c (x.setRank r k)

/-- A read of one burst through a port (R382), after which the channel serves up to `slots` requests. It takes the data of a queued write
of its burst, after the merge where that write covers a part; at an address with no DRAM it gets an error response (R19). -/
def State.dramReadReq (s : State) (port a ecc : Nat) (obj : DramObj) (slots : Nat) : State :=
  let (c, ca) := s.dramLoc a
  let burst := a / 64
  let r := s.rankOf c ca
  if s.inDram (burst * 64) 64 = false then s.dramOut port .plain { err := true }
  else
    let s := s.wakeRank c r
    let x := s.chan c
    let q : DReq := { port := port, burst := burst, data := s.dramRead (burst * 64) 64, poison := s.poisoned burst, ecc := ecc
                      rank := r, obj := obj, since := s.now }
    let merging := x.rq.any fun e => e.burst == burst && e.taken
    let s :=
      match x.wq.find? (fun e => e.burst == burst) with
      | some w =>
        if w.whole ∧ merging = false then (s.forward q).count (0x060 + c) 0x0A4
        else
          s.setChan c { x with wq := { w with head := true } :: x.wq.erase w, rq := x.rq ++ [{ q with taken := true }] }
      | none => s.setChan c { x with rq := x.rq ++ [q] }
    s.serveChan c slots

/-- A write through a port (R382), of bytes within one burst, after which the channel serves up to `slots` requests: it merges into a
queued write of its burst. `ecc` is the error that the read of a partly written burst meets. At an address with no DRAM it gets an error
response (R19). -/
def State.dramWriteReq (s : State) (port a : Nat) (data : List Byte) (ecc slots : Nat) : State :=
  let (c, ca) := s.dramLoc a
  let burst := a / 64
  let r := s.rankOf c ca
  let data := data.take (64 - a % 64)
  if data = [] then s
  else if s.inDram a data.length = false then s.dramOut port .plain { err := true }
  else
    let s := s.wakeRank c r
    let whole := decide (data.length = 64)
    let s := s.dramWrite a data
    let x := s.chan c
    let wq :=
      if x.wq.any (fun q => q.burst == burst) then
        x.wq.map fun q => if q.burst = burst then { q with whole := q.whole || whole, ecc := max q.ecc ecc } else q
      else
        x.wq ++ [{ port := port, burst := burst, whole := whole, ecc := ecc, rank := r, wr := true, since := s.now }]
    (s.setChan c { x with wq := wq }).serveChan c slots

/-! ### Refresh and self-refresh -/

/-- A tREFI tick of a rank (R383, R384): the debt rises; the rank is refreshed where it has no request queued, at
debt 7, and by force at debt 8; alert recovery delays all of it. A rank in self-refresh takes no tick. -/
def State.refreshTick (s : State) (c r : Nat) : State :=
  let x := s.chan c
  let k := x.rank r
  if s.dcState c ≠ 2 ∨ k.phase = .selfRefresh ∨ k.phase = .exiting then s
  else
    let debt := min 8 (k.debt + 1)
    if x.alert then s.setChan c (x.setRank r { k with debt := debt })
    else if x.busy r = false then
      let t := s.refreshTo c r 0
      if debt = 8 then t.count (0x060 + c) 0x0A0 else t
    else if debt = 8 then (s.refreshTo c r 7).count (0x060 + c) 0x0A0
    else if debt = 7 then s.refreshTo c r 6
    else s.setChan c (x.setRank r { k with debt := debt })

/-- A rank has had no request for `SR_IDLE_US` (R385). -/
def State.rankQuiet (s : State) (c r : Nat) : Bool :=
  let x := s.chan c
  let k := x.rank r
  !x.busy r && (decide (k.reqUs = 0) || decide (k.reqUs - 1 + s.fld (0x060 + c) 0x040 15 0 ≤ s.now))

/-- Entry to self-refresh begins (R385): an active rank without requests for `SR_IDLE_US`, where `SR_EN` allows. -/
def State.srEnter (s : State) (c r : Nat) : State :=
  let x := s.chan c
  let k := x.rank r
  if s.dcState c = 2 ∧ k.phase = .active ∧ s.rankQuiet c r ∧ s.fld (0x060 + c) 0x040 31 31 = 1 then
    s.setChan c (x.setRank r { k with phase := .drain })
  else s

/-- A draining rank has closed its rows and paid its debt: the self-refresh command issues (R385). -/
def State.srDrained (s : State) (c r : Nat) : State :=
  let x := s.chan c
  let k := x.rank r
  if k.phase = .drain then
    let rows := x.openRow.filter fun e => e.1 / 64 != r
    (s.setChan c ({ x with openRow := rows }.setRank r { k with phase := .selfRefresh, debt := 0 })).count (0x060 + c) 0x098
  else s

/-- A rank leaves EXIT with a debt of 0 and serves its waiting requests (R385). -/
def State.srExit (s : State) (c r : Nat) : State :=
  let x := s.chan c
  if (x.rank r).phase = .exiting then
    (s.setChan c (x.setRank r { x.rank r with phase := .active, debt := 0 })).serveAll c
  else s

/-! ### Alerts (R386) -/

/-- `ALERT_n` goes low: the channel stops issuing. -/
def State.dramAlert (s : State) (c : Nat) : State :=
  if s.dcState c ≠ 2 ∨ (s.chan c).alert then s
  else
    let x := s.chan c
    ((s.setChan c { x with alert := true, replays := 0 }).count (0x060 + c) 0x08C).raise (0x060 + c) 1

/-- A channel ends in `STATE` fault (R386), which is a device fault (R508): Cadence's answer, the lost cache records and
the event are the callers' of `State.chanFault`. -/
def State.chanDead (s : State) (c : Nat) : State :=
  let s := s.setFld (0x060 + c) 0x048 31 28 4
  let s := (s.fault 0x0011 (0x060 + c) 0x12 0 c).raise (0x060 + c) 2
  let s := s.setChan c { s.chan c with alert := false, replays := 0 }
  let s := (s.setFld 0x1E0 0x04C 0 0 1).raise 0x1E0 1
  s.async 9 anyConn (beBytes 2 0x0011)

/-! ### Training (R373, R374, R377) -/

/-- A DIMM whose eyes are all at least 0.25 unit intervals wide: 32 of 128 (R377). -/
def dimmNarrow (d : DimmIn) : Option Nat :=
  (d.lanes.zipIdx.find? fun e => decide (e.1.rdEye < 32) || decide (e.1.wrEye < 32)).map (·.2)

/-- Two DIMMs match (R373). -/
def dimmFits (a b : DimmIn) : Bool :=
  a.cap = b.cap && a.ranks = b.ranks && decide (a.x4 = b.x4) && a.density = b.density

/-- A DIMM is supported (R371). -/
def dimmListed (d : DimmIn) : Bool :=
  d.supported && decide (16 ≤ d.cap) && decide (d.cap ≤ 64) && (d.ranks = 1 || d.ranks = 2) &&
    (d.density = 16 || d.density = 24 || d.density = 32) && [4800, 5200, 5600, 6000, 6400].contains d.rate

/-- A set of channels qualifies: supported, matching DIMMs that pass training (R374). -/
def qualifies (ds : List DimmIn) : Bool :=
  match ds with
  | [] => false
  | d :: _ => ds.all fun e => e.present && dimmListed e && (dimmNarrow e).isNone && dimmFits e d

/-- The same without regard to training. -/
def couldQualify (ds : List DimmIn) : Bool :=
  match ds with
  | [] => false
  | d :: _ => ds.all fun e => e.present && dimmListed e && dimmFits e d

/-- The channels of set A or B. -/
def setOf (ds : List DimmIn) (odd : Nat) : List DimmIn :=
  (ds.zipIdx.filter fun e => e.2 % 2 == odd).map (·.1)

/-- `POP_STAT.ERROR` (R391) where no population can be formed. -/
def popError (ds : List DimmIn) : Nat :=
  if ds.any fun d => d.present && !dimmListed d then 3
  else if (setOf ds 0).all (fun d => d.present) || (setOf ds 1).all (fun d => d.present) then
    if couldQualify (setOf ds 0) || couldQualify (setOf ds 1) then 1 else 2
  else 1

/-- A channel's lane registers after training (R391). -/
def State.setLanes (s : State) (c : Nat) (d : DimmIn) : State :=
  d.lanes.zipIdx.foldl (fun s e =>
    if e.2 < 10 then
      s.setReg (0x060 + c) (0x050 + 4 * e.2)
        (BitVec.ofNat 32 (2 ^ 24 * (e.1.rdEye % 256) + 2 ^ 16 * (e.1.wrEye % 256) + e.1.rdDly % 256 * 2 ^ 8 +
          e.1.wrDly % 256))
    else s) s

/-- Training of all channels ends and the population is chosen (R373, R374, R377); DRAM is then zeroed (R488). -/
def State.dramTrained (s : State) (dimms : List DimmIn) : State :=
  let ds := (List.range 8).map fun c => dimms.getD c {}
  let set := if qualifies ds then 3 else if qualifies (setOf ds 0) then 1 else if qualifies (setOf ds 1) then 2 else 0
  let used := fun c => decide (set = 3) || (decide (set = 1) && decide (c % 2 = 0)) || (decide (set = 2) && decide (c % 2 = 1))
  let mem := (ds.zipIdx.filter fun e => used e.2).map (·.1)
  let rate := mem.foldl (fun r d => min r d.rate) 6400
  let cap := (mem.headD {}).cap
  let s := ds.zipIdx.foldl (fun s e =>
    let d := e.1
    let pg := 0x060 + e.2
    let s := s.setLanes e.2 d
    let base := 2 ^ 14 * (d.ranks % 4) + 2 ^ 12 * (if d.x4 then 1 else 2) + d.cap % 256
    if d.present = false ∨ dimmListed d = false then s.setReg pg 0x048 0
    else
      match dimmNarrow d with
      | some lane => ((s.setReg pg 0x048 (BitVec.ofNat 32 (3 * 2 ^ 28 + base))).capture pg 0x13 0 lane).raise pg 3
      | none =>
        if used e.2 then s.setReg pg 0x048 (BitVec.ofNat 32 (2 * 2 ^ 28 + 2 ^ 16 * (rate % 2 ^ 12) + base))
        else s.setReg pg 0x048 (BitVec.ofNat 32 (5 * 2 ^ 28 + base))) s
  let s := s.setReg 0x068 0x040 (BitVec.ofNat 32 (2 ^ 30 * set + (if set = 0 then popError ds else 0)))
  let s := s.setFld 0x068 0x044 9 0 (mem.length * cap)
  let s := if couldQualify ds && decide (set ≠ 3) && decide (set ≠ 0) then s.raise 0x068 0 else s
  { s with dram := { bytes := [], poison := [], chans := [], x4 := (mem.headD {}).x4, out := s.dram.out } }


/-! ### Commands -/

/-- `REFRESH_TICK` (R383, R384). -/
def execRefreshTick (ch rank : Nat) (s : State) : Host.Outcome State Fault Refusal := .next (s.refreshTick ch rank)
/-- `SELF_REFRESH_ENTRY` (R385). -/
def execSelfRefreshEntry (ch rank : Nat) (s : State) : Host.Outcome State Fault Refusal := .next (s.srEnter ch rank)
/-- `SR_DRAIN_COMPLETE` (R385). -/
def execSrDrainComplete (ch rank : Nat) (s : State) : Host.Outcome State Fault Refusal := .next (s.srDrained ch rank)
/-- `ALERT` (R386). -/
def execAlert (ch : Nat) (s : State) : Host.Outcome State Fault Refusal := .next (s.dramAlert ch)
/-- `DRAM_TRAINING` (R377). -/
def execDramTraining (dimms : List DimmIn) (s : State) : Host.Outcome State Fault Refusal := .next (s.dramTrained dimms)

end Sys2Proof.Machine
end

