-- ==== Sys2Proof/Machine/Aes.lean ====
section
/-! DEFINITION. AES-256-XTS of stored frames and of the device's own data on the media (R172), and the arithmetic of the skeins' parity
members (R186). -/

namespace Sys2Proof.Machine

open Sys2Proof

/-! ### Bytes as polynomials -/

/-- Twice a byte, reduced by the low byte of the field's polynomial. -/
def dbl (poly b : Byte) : Byte := if b.getLsbD 7 then (b <<< 1) ^^^ poly else b <<< 1

/-- The product of two bytes in the field of 256 elements with a polynomial. -/
def fieldMul (poly a b : Byte) : Byte :=
  ((List.range 8).foldl (fun (p : Byte × Byte) i => (if b.getLsbD i then p.1 ^^^ p.2 else p.1, dbl poly p.2)) (0, a)).1

/-- A power of a byte by squaring: `n` bits of the exponent. -/
def fieldPow (poly : Byte) : Nat → Byte → Nat → Byte
  | 0, _, _ => 1
  | n + 1, a, e =>
    let r := fieldPow poly n (fieldMul poly a a) (e / 2)
    if e % 2 = 1 then fieldMul poly a r else r

/-- The inverse of a byte, 0 for 0. -/
def fieldInv (poly a : Byte) : Byte := fieldPow poly 8 a 254

/-- Bytes added place by place. -/
def xorBytes (a b : List Byte) : List Byte := List.zipWith (· ^^^ ·) a b

/-! ### The cipher -/

/-- Low byte of the polynomial of AES, 0x11B. -/
def aesPoly : Byte := 0x1B

/-- The substitution of a byte: its inverse, then the affine map. -/
def aesSub (b : Byte) : Byte :=
  let x := fieldInv aesPoly b
  x ^^^ x.rotateLeft 1 ^^^ x.rotateLeft 2 ^^^ x.rotateLeft 3 ^^^ x.rotateLeft 4 ^^^ 0x63

/-- The substitution of every byte. -/
def aesSubTable : List Byte := (List.range 256).map fun b => aesSub (BitVec.ofNat 8 b)

/-- The inverse substitution of every byte. -/
def aesUnsubTable : List Byte := (List.range 256).map fun b => BitVec.ofNat 8 (aesSubTable.idxOf (BitVec.ofNat 8 b))

/-- A table's byte. -/
def look (t : List Byte) (b : Byte) : Byte := t.getD b.toNat 0

/-- The round words of a key of 32 bytes, 60 words of 4 bytes, built up: `k` words are there. -/
def aesExpand : Nat → List (List Byte) → List (List Byte)
  | 0, ws => ws
  | n + 1, ws =>
    let k := ws.length
    let last := ws.getD (k - 1) []
    let sub := fun (w : List Byte) => w.map (look aesSubTable)
    let t :=
      if k % 8 = 0 then
        match sub (last.rotateLeft 1) with
        | b :: rest => (b ^^^ fieldPow aesPoly 4 2 (k / 8 - 1)) :: rest
        | [] => []
      else if k % 8 = 4 then sub last
      else last
    aesExpand n (ws ++ [xorBytes (ws.getD (k - 8) []) t])

/-- The fifteen round keys of a key of 32 bytes. -/
def aesRounds (key : List Byte) : List (List Byte) :=
  let ws := aesExpand 52 ((List.range 8).map fun i => (key.drop (4 * i)).take 4)
  (List.range 15).map fun r => ((ws.drop (4 * r)).take 4).flatten

/-- Row `r` of the block moves left by `r` columns, `d` being 1, or right, `d` being 3. -/
def aesShift (d : Nat) (b : List Byte) : List Byte :=
  (List.range 16).map fun i => b.getD (i % 4 + 4 * ((i / 4 + d * (i % 4)) % 4)) 0

/-- Each column times a circulant matrix whose first row is `m`. -/
def aesMix (m : List Byte) (b : List Byte) : List Byte :=
  (List.range 16).map fun i =>
    (List.range 4).foldl (fun a j => a ^^^ fieldMul aesPoly (m.getD ((j + 4 - i % 4) % 4) 0) (b.getD (i / 4 * 4 + j) 0)) 0

/-- One block encrypted under round keys. -/
def aesEnc (ks : List (List Byte)) (b : List Byte) : List Byte :=
  let step := fun (b : List Byte) => aesShift 1 (b.map (look aesSubTable))
  let mid := ((ks.drop 1).take 13).foldl (fun b k => xorBytes (aesMix [2, 3, 1, 1] (step b)) k) (xorBytes b (ks.getD 0 []))
  xorBytes (step mid) (ks.getD 14 [])

/-- One block decrypted under round keys. -/
def aesDec (ks : List (List Byte)) (b : List Byte) : List Byte :=
  let back := fun (b : List Byte) => (aesShift 3 b).map (look aesUnsubTable)
  let mid := ((ks.drop 1).take 13).reverse.foldl (fun b k => aesMix [14, 11, 13, 9] (xorBytes b k) |> back)
    (back (xorBytes b (ks.getD 14 [])))
  xorBytes mid (ks.getD 0 [])

/-! ### The mode -/

/-- A number's bytes, least significant first. -/
def numBytes (n v : Nat) : List Byte := (List.range n).map fun i => BitVec.ofNat 8 (v / 256 ^ i)

/-- The number of little-endian bytes. -/
def bytesNum (b : List Byte) : Nat := b.foldr (fun x a => x.toNat + 256 * a) 0

/-- The next block's mask: times α in the field of 2^128 elements. -/
def xtsNext (t : Nat) : Nat := if t < 2 ^ 127 then 2 * t else (2 * (t - 2 ^ 127)) ^^^ 0x87

/-- The blocks of a data unit through a block cipher, each under its mask. -/
def xtsGo (f : List Byte → List Byte) : Nat → Nat → List Byte → List Byte
  | 0, _, _ => []
  | n + 1, t, d =>
    let m := numBytes 16 t
    xorBytes (f (xorBytes (d.take 16) m)) m ++ xtsGo f n (xtsNext t) (d.drop 16)

/-- A data unit of whole blocks encrypted, or decrypted, under a key of 64 bytes with a tweak (IEEE 1619, R172). -/
def xts (enc : Bool) (key : List Byte) (tweak : Nat) (d : List Byte) : List Byte :=
  let ks := aesRounds (key.take 32)
  let t := aesEnc (aesRounds (key.drop 32)) (numBytes 16 tweak)
  xtsGo (if enc then aesEnc ks else aesDec ks) (d.length / 16) (bytesNum t) d

/-- The tweak of a data unit: instance number × 2^48 plus the number of its first grain (R172). -/
def unitTweak (inst grain : Nat) : Nat := inst * 2 ^ 48 + grain

/-- The device's instance number for its own data (R172). -/
def devInst : Nat := 1024

/-! ### Keys -/

/-- The 64 bytes of a media key, its two halves drawn from the device's random source as draws `k` and `k + 1` (R149). -/
def mediaKey (k : Nat) : List Byte := numBytes 32 (Config.randomDraw k) ++ numBytes 32 (Config.randomDraw (k + 1))

/-- The device key, wrapped anew in each life-cycle state (R172, R496). -/
def devKey (lc : Nat) : List Byte := numBytes 64 (Config.deviceKey lc)

/-! ### Skein parity (R186) -/

/-- Low byte of the polynomial of the second parity member, 0x11D. -/
def rsPoly : Byte := 0x1D

/-- The coefficient of data member `i` in the second parity member: 2 to the power `i` (DESIGN CHOICE, log entry 133). -/
def rsCoef (i : Nat) : Byte := fieldPow rsPoly 8 2 i

/-- A unit times a coefficient. -/
def rsScale (c : Byte) (u : List Byte) : List Byte := u.map (fieldMul rsPoly c)

/-- The parity units of data units of `n` bytes: the XOR, and with `two` the syndrome. -/
def parityUnits (two : Bool) (n : Nat) (us : List (List Byte)) : List (List Byte) :=
  let p := us.foldl xorBytes (List.replicate n 0)
  if two then [p, us.zipIdx.foldl (fun a e => xorBytes a (rsScale (rsCoef e.2) e.1)) (List.replicate n 0)] else [p]

/-- Data unit `i` again, from the data units that are left (none: missing) and the parity units: by the XOR where it alone is missing, by
the syndrome where the XOR is missing too, by both where another data unit is. -/
def solveUnit (n : Nat) (us : List (Option (List Byte))) (p q : Option (List Byte)) (i : Nat) : Option (List Byte) :=
  let have' := us.zipIdx.filterMap fun e => if e.2 = i then none else e.1.map fun u => (e.2, u)
  let missing := (us.zipIdx.filter fun e => e.1.isNone && decide (e.2 ≠ i)).map (·.2)
  let ps := fun (p : List Byte) => have'.foldl (fun a e => xorBytes a e.2) p
  let qs := fun (q : List Byte) => have'.foldl (fun a e => xorBytes a (rsScale (rsCoef e.1) e.2)) q
  match missing, p, q with
  | [], some p, _ => some (ps p)
  | [], none, some q => some (rsScale (fieldInv rsPoly (rsCoef i)) (qs q))
  | [j], some p, some q =>
    some (rsScale (fieldInv rsPoly (rsCoef i ^^^ rsCoef j)) (xorBytes (qs q) (rsScale (rsCoef j) (ps p))))
  | _, _, _ => if n = 0 then some [] else none

end Sys2Proof.Machine
end

