-- ==== Sys2Proof/Machine/Frame.lean ====
section
/-! DEFINITION. Frames (R229 to R232), the decoders of the native format (R234 to R239) and of DEFLATE (R240), the
checks on every decode (R244) and the choice of the stored form (R231, R243). -/

namespace Sys2Proof.Machine

/-! ### Integrity detail codes (R244) -/

/-- `MAGIC`. -/
def dMagic : Nat := 1
/-- `HEADER_CRC`. -/
def dHeaderCrc : Nat := 2
/-- `FIELD`. -/
def dField : Nat := 3
/-- `TABLE`. -/
def dTable : Nat := 4
/-- `STREAM`. -/
def dStream : Nat := 5
/-- `OFFSET`. -/
def dOffset : Nat := 6
/-- `LENGTH`. -/
def dLength : Nat := 7
/-- `TRAILING`. -/
def dTrailing : Nat := 8
/-- `CRC`. -/
def dCrc : Nat := 9
/-- `POISON`. -/
def dPoison : Nat := 10

/-- A decode's answer: a detail code of R244, or a value. -/
abbrev Dec (α : Type) := Except Nat α

/-! ### Native format: the table section (R235) -/

/-- Bits of bytes, most significant bit of the first byte first. -/
def msbBits (l : List Byte) : List Bool := l.flatMap fun b => (List.range 8).map fun i => b.toNat.testBit (7 - i)

/-- The number bits spell, most significant first. -/
def ofBits (l : List Bool) : Nat := l.foldl (fun a b => 2 * a + b2n b) 0

/-- Take `n` bits, or a table error past the end of the section. -/
def takeBits (n : Nat) (l : List Bool) : Dec (Nat × List Bool) :=
  if l.length < n then .error dTable else .ok (ofBits (l.take n), l.drop n)

/-- A gamma code with at most `z` leading zero bits (R235). -/
def gammaGo : (z n : Nat) → List Bool → Dec (Nat × List Bool)
  | _, _, [] => .error dTable
  | _, n, true :: l => (takeBits n l).map fun r => (2 ^ n + r.1, r.2)
  | 0, _, false :: _ => .error dTable
  | z + 1, n, false :: l => gammaGo z (n + 1) l

/-- A gamma code: more than 11 zero bits are a table error. -/
def gamma (l : List Bool) : Dec (Nat × List Bool) := gammaGo 11 0 l

/-- `n` counts, each the gamma code of count + 1. -/
def counts : Nat → List Bool → Dec (List Nat × List Bool)
  | 0, l => .ok ([], l)
  | n + 1, l =>
    match gamma l with
    | .error e => .error e
    | .ok (v, l) => (counts n l).map fun r => ((v - 1) :: r.1, r.2)

/-- The decoded table section: literal counts and offset counts. -/
def tableSection (bytes : List Byte) : Dec (List Nat × Option (List Nat)) :=
  match takeBits 1 (msbBits bytes) with
  | .error e => .error e
  | .ok (hasOff, l) =>
  match takeBits 9 l with
  | .error e => .error e
  | .ok (maxSym, l) =>
  if maxSym < 256 ∨ maxSym > 296 then .error dTable
  else
    match counts (maxSym + 1) l with
    | .error e => .error e
    | .ok (lit, l) =>
      if lit.sum ≠ 2048 then .error dTable
      else if hasOff = 0 then .ok (lit, none)
      else
        match takeBits 5 l with
        | .error e => .error e
        | .ok (maxOff, l) =>
          match counts (maxOff + 1) l with
          | .error e => .error e
          | .ok (off, _) => if off.sum ≠ 256 then .error dTable else .ok (lit, some off)

/-! ### Native format: decoding tables (R236) -/

/-- The `L`-bit value with the bits of `k` in reverse order. -/
def bitrev : Nat → Nat → Nat
  | _, 0 => 0
  | k, n + 1 => k % 2 * 2 ^ n + bitrev (k / 2) n

/-- One decoding state: symbol, `nb`, `base`. -/
structure AnsState where
  /-- Symbol of the state. -/
  sym : Nat := 0
  /-- Bits to read. -/
  nb : Nat := 0
  /-- Base of the next state. -/
  base : Nat := 0
  deriving DecidableEq, Repr

/-- The symbol of each occurrence in the order `build` places them. -/
def occurrences (count : List Nat) : List Nat := count.zipIdx.flatMap fun e => List.replicate e.1 e.2

/-- The states from `u` on, with the `nxt` of each symbol so far. -/
def buildGo (occ : Array Nat) (L : Nat) : List Nat → List Nat → List AnsState
  | [], _ => []
  | u :: us, nxt =>
    let s := occ.getD (bitrev u L) 0
    let x := nxt.getD s 0
    let nb := L - Nat.log2 x
    { sym := s, nb := nb, base := x * 2 ^ nb - 2 ^ L } :: buildGo occ L us (nxt.set s (x + 1))

/-- The decoding table of a count table (R236). -/
def ansTable (count : List Nat) (L : Nat) : Array AnsState :=
  (buildGo (occurrences count).toArray L (List.range (2 ^ L)) count).toArray

/-! ### Native format: the stream (R237 to R239) -/

/-- A backward bit reader: the stream's integer and the position. -/
structure BackBits where
  /-- V of R237. -/
  v : Nat
  /-- P of R237. -/
  p : Nat

/-- `readbits` of R237. -/
def BackBits.read (b : BackBits) (n : Nat) : Dec (Nat × BackBits) :=
  if n = 0 then .ok (0, b)
  else if n > b.p then .error dStream
  else .ok (b.v / 2 ^ (b.p - n) % 2 ^ n, { b with p := b.p - n })

/-- Extra bits of a length code (R238). -/
def extraLen (k : Nat) : Nat := if k < 16 then 0 else 3 + (k - 16) / 2
/-- The value m of a length code (R238). -/
def lenVal (k extra : Nat) : Nat :=
  if k < 16 then k else let n := 4 + (k - 16) / 2; 2 ^ n + (k - 16) % 2 * 2 ^ (n - 1) + extra
/-- Extra bits of an offset code (R238). -/
def extraOff (j : Nat) : Nat := if j < 4 then 0 else 1 + (j - 4) / 2
/-- The value v of an offset code (R238). -/
def offVal (j extra : Nat) : Nat :=
  if j < 4 then j else let n := 2 + (j - 4) / 2; 2 ^ n + (j - 4) % 2 * 2 ^ (n - 1) + extra

/-- What a decoder yields one after another: a literal byte, or a match of a length at a distance. -/
inductive Tok where
  | lit (b : Byte)
  | copy (len dist : Nat)
  deriving DecidableEq, Repr

/-- Copy `ml` bytes at distance `off` onto a reversed output. -/
def copyBack (off : Nat) : Nat → List Byte → List Byte
  | 0, out => out
  | n + 1, out => copyBack off n (out.getD (off - 1) 0 :: out)

/-- The bytes of tokens, the last first. -/
def Tok.onto (out : List Byte) : Tok → List Byte
  | .lit b => b :: out
  | .copy l d => copyBack d l out

/-- The bytes of tokens. -/
def tokBytes (ts : List Tok) : List Byte := (ts.foldl Tok.onto []).reverse

/-- The decoding loop of R239; `out` holds the tokens so far, reversed, of `n` bytes. The fuel bounds the symbols. -/
def nativeGo (lit : Array AnsState) (off : Option (Array AnsState)) (orig : Nat) :
    Nat → BackBits → Nat → Nat → List Tok → Nat → Dec (List Tok)
  | 0, _, _, _, _, _ => .error dLength
  | fuel + 1, b, st, so, out, n =>
    let a := lit.getD st {}
    match b.read a.nb with
    | .error e => .error e
    | .ok (x, b) =>
    let st := a.base + x
    if a.sym < 256 then
      if n + 1 > orig then .error dLength
      else nativeGo lit off orig fuel b st so (.lit (BitVec.ofNat 8 a.sym) :: out) (n + 1)
    else if a.sym = 256 then
      if b.p ≠ 0 then .error dStream else if n ≠ orig then .error dLength else .ok out.reverse
    else
      match off with
      | none => .error dStream
      | some offT =>
      match b.read (extraLen (a.sym - 257)) with
      | .error e => .error e
      | .ok (xl, b) =>
      let ml := lenVal (a.sym - 257) xl + 4
      let o := offT.getD so {}
      match b.read o.nb with
      | .error e => .error e
      | .ok (xs, b) =>
      match b.read (extraOff o.sym) with
      | .error e => .error e
      | .ok (xo, b) =>
      let d := offVal o.sym xo + 1
      if d > n then .error dOffset
      else if n + ml > orig then .error dLength
      else nativeGo lit off orig fuel b st (o.base + xs) (.copy ml d :: out) (n + ml)

/-- The tokens of a native payload (R234, R239). -/
def nativeToks (payload : List Byte) (orig : Nat) : Dec (List Tok) :=
  if payload.length < 2 then .error dTable
  else
    let tb := le payload 0 2
    if 2 + tb > payload.length then .error dTable
    else
      match tableSection ((payload.drop 2).take tb) with
      | .error e => .error e
      | .ok (lit, off) =>
        let stream := payload.drop (2 + tb)
        let v := ofLe stream
        if stream = [] ∨ stream.getLast? = some 0 then .error dStream
        else
          let b : BackBits := { v := v, p := Nat.log2 v }
          match b.read 11 with
          | .error e => .error e
          | .ok (st, b) =>
          match b.read (if off.isSome then 8 else 0) with
          | .error e => .error e
          | .ok (so, b) =>
            nativeGo (ansTable lit 11) (off.map fun c => ansTable c 8) orig (orig + 2) b st so [] 0

/-- Decode a native payload (R234, R239). -/
def decodeNative (payload : List Byte) (orig : Nat) : Dec (List Byte) := (nativeToks payload orig).map tokBytes

/-! ### DEFLATE (R240) -/

/-- A forward bit reader: the payload's integer, its length in bits and the position. -/
structure FwdBits where
  /-- The payload as an integer, least significant byte first. -/
  v : Nat
  /-- Length in bits. -/
  len : Nat
  /-- Position. -/
  pos : Nat

/-- Read `n` bits, least significant first; the end of the payload is a stream error. -/
def FwdBits.read (b : FwdBits) (n : Nat) : Dec (Nat × FwdBits) :=
  if b.pos + n > b.len then .error dStream else .ok (b.v / 2 ^ b.pos % 2 ^ n, { b with pos := b.pos + n })

/-- A canonical code: symbols by length. -/
structure Huff where
  /-- Number of codes of each length 0 to 15. -/
  count : List Nat
  /-- Symbols in order of length, then of value. -/
  syms : List Nat

/-- The code of a list of code lengths. -/
def mkHuff (lens : List Nat) : Huff :=
  { count := (List.range 16).map fun n => (lens.filter (· == n)).length
    syms := (List.range 15).flatMap fun n => (lens.zipIdx.filter fun e => e.1 == n + 1).map (·.2) }

/-- Code space left after length `n` of a code; none where it is over-subscribed. -/
def spaceGo : List Nat → Nat → Option Nat
  | [], left => some left
  | c :: cs, left => if c > 2 * left then none else spaceGo cs (2 * left - c)

/-- An over-subscribed code. -/
def overSubscribed (h : Huff) : Bool := (spaceGo (h.count.drop 1) 1).isNone

/-- Decode one symbol bit by bit; a code word absent from the code is a stream error. -/
def symGo (h : Huff) : Nat → FwdBits → Nat → Nat → Nat → Nat → Dec (Nat × FwdBits)
  | 0, _, _, _, _, _ => .error dStream
  | fuel + 1, b, n, code, first, index =>
    match b.read 1 with
    | .error e => .error e
    | .ok (x, b) =>
      let code := code + x
      let c := h.count.getD n 0
      if code < first + c then .ok (h.syms.getD (index + (code - first)) 0, b)
      else symGo h fuel b (n + 1) (2 * code) (2 * (first + c)) (index + c)

/-- One symbol of a code. -/
def readSym (h : Huff) (b : FwdBits) : Dec (Nat × FwdBits) := symGo h 15 b 1 0 0 0

/-- Base length and extra bits of length symbols 257 to 285. -/
def lenBase (s : Nat) : Nat × Nat :=
  let k := s - 257
  if k < 8 then (k + 3, 0)
  else if k = 28 then (258, 0)
  else let e := (k - 4) / 4; ((4 + k % 4) * 2 ^ e + 3, e)

/-- Base distance and extra bits of distance codes 0 to 29. -/
def distBase (j : Nat) : Nat × Nat :=
  if j < 4 then (j + 1, 0) else let e := (j - 2) / 2; ((2 + j % 2) * 2 ^ e + 1, e)

/-- The symbols of one Huffman block; `out` holds the tokens so far, reversed, of `n` bytes. -/
def huffBlock (lit dist : Huff) (orig : Nat) : Nat → FwdBits → List Tok → Nat → Dec (FwdBits × List Tok × Nat)
  | 0, _, _, _ => .error dLength
  | fuel + 1, b, out, n =>
    match readSym lit b with
    | .error e => .error e
    | .ok (s, b) =>
    if s < 256 then
      if n + 1 > orig then .error dLength
      else huffBlock lit dist orig fuel b (.lit (BitVec.ofNat 8 s) :: out) (n + 1)
    else if s = 256 then .ok (b, out, n)
    else if s > 285 then .error dStream
    else
      let (bl, el) := lenBase s
      match b.read el with
      | .error e => .error e
      | .ok (xl, b) =>
      match readSym dist b with
      | .error e => .error e
      | .ok (j, b) =>
      if j > 29 then .error dStream
      else
        let (bd, ed) := distBase j
        match b.read ed with
        | .error e => .error e
        | .ok (xd, b) =>
        let d := bd + xd
        let ml := bl + xl
        if d > n then .error dOffset
        else if n + ml > orig then .error dLength
        else huffBlock lit dist orig fuel b (.copy ml d :: out) (n + ml)

/-- The lengths of a fixed-Huffman block. -/
def fixedLit : List Nat :=
  List.replicate 144 8 ++ List.replicate 112 9 ++ List.replicate 24 7 ++ List.replicate 8 8

/-- Order of the code-length code lengths in RFC 1951. -/
def clOrder : List Nat := [16, 17, 18, 0, 8, 7, 9, 6, 10, 5, 11, 4, 12, 3, 13, 2, 14, 1, 15]

/-- Read `n` 3-bit lengths. -/
def read3s : Nat → FwdBits → Dec (List Nat × FwdBits)
  | 0, b => .ok ([], b)
  | n + 1, b =>
    match b.read 3 with
    | .error e => .error e
    | .ok (x, b) => (read3s n b).map fun r => (x :: r.1, r.2)

/-- The code lengths of a dynamic block, run lengths expanded; the list is reversed. -/
def codeLens (cl : Huff) (want : Nat) : Nat → FwdBits → List Nat → Dec (List Nat × FwdBits)
  | 0, _, _ => .error dStream
  | fuel + 1, b, acc =>
    if acc.length = want then .ok (acc.reverse, b)
    else
      match readSym cl b with
      | .error e => .error e
      | .ok (s, b) =>
        if s < 16 then codeLens cl want fuel b (s :: acc)
        else
          let rep := fun (v bits base : Nat) (b : FwdBits) =>
            match b.read bits with
            | .error e => Except.error e
            | .ok (x, b) =>
              if acc.length + (base + x) > want then .error dStream
              else codeLens cl want fuel b (List.replicate (base + x) v ++ acc)
          if s = 16 then (match acc with | [] => .error dStream | v :: _ => rep v 2 3 b)
          else if s = 17 then rep 0 3 3 b
          else rep 0 7 11 b

/-- The two codes of a dynamic block. -/
def dynCodes (b : FwdBits) : Dec (Huff × Huff × FwdBits) :=
  match b.read 14 with
  | .error e => .error e
  | .ok (x, b) =>
    let hlit := x % 32 + 257
    let hdist := x / 32 % 32 + 1
    let hclen := x / 1024 + 4
    match read3s hclen b with
    | .error e => .error e
    | .ok (cls, b) =>
      let lens := (List.range 19).map fun s => ((clOrder.zip cls).find? fun e => e.1 == s).elim 0 (·.2)
      let cl := mkHuff lens
      if overSubscribed cl then .error dStream
      else
        match codeLens cl (hlit + hdist) (hlit + hdist + 1) b [] with
        | .error e => .error e
        | .ok (ls, b) =>
          let lit := mkHuff (ls.take hlit)
          let dist := mkHuff (ls.drop hlit)
          if overSubscribed lit || overSubscribed dist then .error dStream else .ok (lit, dist, b)

/-- A stored block's bytes, as literals; the output is reversed. -/
def storedBlock : Nat → FwdBits → List Tok → Dec (FwdBits × List Tok)
  | 0, b, out => .ok (b, out)
  | n + 1, b, out =>
    match b.read 8 with
    | .error e => .error e
    | .ok (x, b) => storedBlock n b (.lit (BitVec.ofNat 8 x) :: out)

/-- A decoded DEFLATE stream so far. -/
structure Inflated where
  /-- Its tokens, reversed. -/
  toks : List Tok := []
  /-- Bytes they yield. -/
  n : Nat := 0
  /-- Type and bytes of each block, the last first. -/
  blocks : List (Nat × Nat) := []

/-- The blocks of a DEFLATE stream. -/
def inflateGo (orig : Nat) : Nat → FwdBits → Inflated → Dec (FwdBits × Inflated)
  | 0, _, _ => .error dStream
  | fuel + 1, b, r =>
    match b.read 3 with
    | .error e => .error e
    | .ok (x, b) =>
      let next := fun (y : Dec (FwdBits × List Tok × Nat)) =>
        match y with
        | .error e => .error e
        | .ok (b, out, n) =>
          let r : Inflated := { toks := out, n := n, blocks := (x / 2, n - r.n) :: r.blocks }
          if x % 2 = 1 then .ok (b, r) else inflateGo orig fuel b r
      if x / 2 = 0 then
        let b := { b with pos := (b.pos + 7) / 8 * 8 }
        match b.read 32 with
        | .error e => .error e
        | .ok (y, b) =>
          let l := y % 65536
          if l + y / 65536 ≠ 65535 then .error dStream
          else if r.n + l > orig then .error dLength
          else
            match storedBlock l b r.toks with
            | .error e => .error e
            | .ok (b, out) => next (.ok (b, out, r.n + l))
      else if x / 2 = 1 then
        next (huffBlock (mkHuff fixedLit) (mkHuff (List.replicate 30 5)) orig (orig + 2) b r.toks r.n)
      else if x / 2 = 2 then
        match dynCodes b with
        | .error e => .error e
        | .ok (lit, dist, b) => next (huffBlock lit dist orig (orig + 2) b r.toks r.n)
      else .error dStream

/-- A DEFLATE payload as far as its tokens (R240): its length, then trailing bytes (R244). -/
def inflate (payload : List Byte) (orig : Nat) : Dec Inflated :=
  let b : FwdBits := { v := ofLe payload, len := payload.length * 8, pos := 0 }
  match inflateGo orig (payload.length * 8 + 1) b {} with
  | .error e => .error e
  | .ok (b, r) =>
    if r.n ≠ orig then .error dLength
    else if (b.pos + 7) / 8 < payload.length then .error dTrailing
    else .ok r

/-- Decode a DEFLATE payload (R240). -/
def decodeDeflate (payload : List Byte) (orig : Nat) : Dec (List Byte) := (inflate payload orig).map fun r => tokBytes r.toks.reverse

/-! ### The match finder (R241) -/

/-- Hash of a position (R241): the top 15 bits of the 32-bit product of its four bytes and 0x9E3779B1. -/
def hash4 (d : Array Byte) (p : Nat) : Nat :=
  let w := (d.getD p 0).toNat + 256 * (d.getD (p + 1) 0).toNat + 65536 * (d.getD (p + 2) 0).toNat + 16777216 * (d.getD (p + 3) 0).toNat
  w * 0x9E3779B1 % 2 ^ 32 / 2 ^ 17

/-- The chain links of a frame: for each position the last earlier one with its hash plus 1, 0 for none; `heads` holds the latest of each
hash. -/
def chainLinks (d : Array Byte) : List Nat → Array Nat → Array Nat → Array Nat
  | [], _, links => links
  | p :: ps, heads, links =>
    let h := hash4 d p
    chainLinks d ps (heads.setIfInBounds h (p + 1)) (links.push (heads.getD h 0))

/-- The links of a frame, from empty heads (R229). -/
def frameLinks (d : Array Byte) : Array Nat := chainLinks d (List.range (d.size - 3)) (Array.replicate 32768 0) #[]

/-- Bytes that agree from positions `a` and `b` on, at most `n`. -/
def agree (d : Array Byte) : Nat → Nat → Nat → Nat
  | 0, _, _ => 0
  | n + 1, a, b => if d.getD a 0 = d.getD b 0 then agree d n (a + 1) (b + 1) + 1 else 0

/-- The longest match of at least 4 bytes that a chain gives for position `p`, the nearest of equal ones, as length and distance; (0, 0) where
there is none. `q` is the next link of the chain. -/
def chainBest (d : Array Byte) (links : Array Nat) (p most far : Nat) : Nat → Nat → Nat × Nat → Nat × Nat
  | 0, _, best => best
  | depth + 1, q, best =>
    if q = 0 ∨ p - (q - 1) > far then best
    else
      let l := agree d (min most (d.size - p)) (q - 1) p
      chainBest d links p most far depth (links.getD (q - 1) 0) (if 4 ≤ l ∧ best.1 < l then (l, p - (q - 1)) else best)

/-- Limits of a format's matches (R238, R240): the longest and the farthest. -/
def matchLimits (deflate : Bool) : Nat × Nat := if deflate then (258, 32768) else (65539, 65536)

/-- Chain depth of a level (R241). -/
def chainDepth (level : Nat) : Nat := if level = 1 then 4 else if level = 2 then 16 else if level = 3 then 64 else 256

/-- What the finder gives at a position of a frame. -/
def bestMatch (deflate : Bool) (level : Nat) (d : Array Byte) (links : Array Nat) (p : Nat) : Nat × Nat :=
  if d.size < p + 4 then (0, 0)
  else chainBest d links p (matchLimits deflate).1 (matchLimits deflate).2 (chainDepth level) (links.getD p 0) (0, 0)

/-- Tokens that are those of the finder, from position `p` on (R241): the best match at each position, a literal where there is none or, with lazy
evaluation, where the next position's is longer. `put`: the token before put a match off. Whether a second one in a row does so too is left to the
encoder (DEDUCED, log entry 142). -/
def finderToks (lazy : Bool) (best : Nat → Nat × Nat) : List Tok → Nat → Bool → Bool
  | [], _, _ => true
  | t :: ts, p, put =>
    let m := best p
    let later := lazy && decide (m.1 < (best (p + 1)).1)
    match t with
    | .lit _ => (decide (m.1 = 0) || later) && finderToks lazy best ts (p + 1) (decide (m.1 ≠ 0))
    | .copy l x => decide ((l, x) = m) && (!later || put) && finderToks lazy best ts (p + l) false

/-- The payload is one that an encoder at a level makes of the data (R240 to R242): one that decodes to them consists of the finder's
tokens, and in DEFLATE of dynamic blocks of at most 16,384 B. One that does not decode to them is a fault, which the checker meets (R243). -/
def encoderMakes (level : Nat) (deflate : Bool) (data cand : List Byte) : Bool :=
  let d := data.toArray
  let best := bestMatch deflate level d (frameLinks d)
  let good := fun (ts : List Tok) => decide (tokBytes ts ≠ data) || finderToks (decide (level ≥ 3)) best ts 0 false
  if deflate then
    match inflate cand data.length with
    | .error _ => true
    | .ok r => good r.toks.reverse && (decide (tokBytes r.toks.reverse ≠ data) ||
        r.blocks.all fun b => decide (b.1 = 2) && decide (b.2 ≤ 16384))
  else
    match nativeToks cand data.length with
    | .error _ => true
    | .ok ts => good ts

/-! ### Headers (R232) -/

/-- The 32 B header of a frame. -/
def frameHeader (format level : Nat) (zero : Bool) (data : List Byte) (compLen : Nat) : List Byte :=
  let h := leBytes 4 0x52465646 ++ leBytes 1 format ++ leBytes 1 level ++
    leBytes 2 (b2n (data.length = 65536) + 2 * b2n zero) ++ leBytes 4 data.length ++ leBytes 4 compLen ++
    leBytes 4 (crc32c data) ++ zeros 8
  h ++ leBytes 4 (crc32c h)

/-- Pad a frame to a multiple of 64 B (R172). -/
def padFrame (f : List Byte) : List Byte := padTo (cdiv f.length 64 * 64) f

/-- A `ZERO` frame (R231 step 1). -/
def zeroFrame (level : Nat) (data : List Byte) : List Byte := frameHeader 0 level true data 0

/-- A stored frame (R231). -/
def storedFrame (level : Nat) (data : List Byte) : List Byte :=
  frameHeader 0 level false data data.length ++ data

/-- `ORIG_LEN` of a frame. -/
def frameOrig (f : List Byte) : Nat := le f 8 4

/-- Decode a frame that was read with a stored length (R232, R244), in the order of R244's table. -/
def decodeFrame (f : List Byte) : Dec (List Byte) :=
  let orig := frameOrig f
  let comp := le f 12 4
  let flags := le f 6 2
  let format := le f 4 1
  let isLong := decide (flags % 2 = 1)
  let isZero := decide (flags / 2 % 2 = 1)
  let payload := (f.drop 32).take comp
  let crcOk := fun (d : List Byte) => if crc32c d = le f 16 4 then Except.ok d else .error dCrc
  if le f 0 4 ≠ 0x52465646 then .error dMagic
  else if le f 28 4 ≠ crc32c (cut f 0 28) then .error dHeaderCrc
  else if format > 2 ∨ isLong ≠ decide (orig = 65536) ∨ (isZero = true ∧ (format ≠ 0 ∨ comp ≠ 0)) ∨
      (format = 0 ∧ isZero = false ∧ comp ≠ orig) ∨ 32 + comp > f.length ∨ le f 20 8 ≠ 0 ∨ flags / 4 ≠ 0 then
    .error dField
  else if isZero then crcOk (zeros orig)
  else if format = 0 then crcOk payload
  else
    match (if format = 1 then decodeNative payload orig else decodeDeflate payload orig) with
    | .error e => .error e
    | .ok d => crcOk d

/-- A compression engine's frame (R231, R243), and whether it was stored under R231 step 3 and whether the checker met
a mismatch. `cand` is the payload the encoder made, which R242 leaves to it. -/
def makeFrame (level : Nat) (deflate : Bool) (data cand : List Byte) : List Byte × Bool × Bool :=
  if data.all (· == 0) then (zeroFrame level data, false, false)
  else if level = 0 then (storedFrame 0 data, false, false)
  else if cand.length ≥ data.length then (storedFrame level data, true, false)
  else
    let f := frameHeader (if deflate then 2 else 1) level false data cand.length ++ cand
    match decodeFrame f with
    | .ok d => if crc32c d = crc32c data then (f, false, false) else (storedFrame level data, false, true)
    | .error _ => (storedFrame level data, false, true)

end Sys2Proof.Machine
end

