-- ==== Sys2Proof/Machine/Flash.lean ====
section
/-! DEFINITION. The flash back end (R165 to R208): map entries, the protected write cache, dies, skeins, the read policy,
capacity and background work on the media. -/

namespace Sys2Proof.Machine

/-! ### Dies and channels (R165) -/

/-- Channel of a die. -/
def dieCh (die : Nat) : Nat := die / 16
/-- Slot of a die on its channel. -/
def dieSlot (die : Nat) : Nat := die % 16
/-- Flash group of a die. -/
def dieGroup (die : Nat) : Nat := die / 512
/-- Page of a channel. -/
def fcPage (ch : Nat) : Nat := 0x080 + ch
/-- Page of a flash group. -/
def grpPage (g : Nat) : Nat := 0x100 + g

/-- `TGT_CFG.STATE` of a die: 0 absent, 1 good, 2 failed, 3 retired. -/
def State.dieState (s : State) (die : Nat) : Nat := s.fld (fcPage (dieCh die)) (0x080 + 4 * dieSlot die) 25 24
/-- A channel takes work: enabled, and trained without `FAIL` (R168, R551). -/
def State.chanOn (s : State) (ch : Nat) : Bool := s.enabled (fcPage ch) && decide (s.fld (fcPage ch) 0x058 30 30 = 0)

/-- A good die. -/
def State.dieGood (s : State) (die : Nat) : Bool := decide (s.dieState die = 1)

/-- A die. -/
def State.die (s : State) (d : Nat) : Die := SMap.getD {} s.flash.dies d
/-- Write a die. -/
def State.setDie (s : State) (d : Nat) (x : Die) : State :=
  { s with flash := { s.flash with dies := SMap.setD {} s.flash.dies d x } }

/-- Key of an erase block. -/
def blkKey (die block : Nat) : Nat := 2 ^ 14 * die + block
/-- An erase block. -/
def State.blk (s : State) (k : Nat) : Blk := SMap.getD {} s.flash.blks k
/-- Write an erase block. -/
def State.setBlk (s : State) (k : Nat) (x : Blk) : State :=
  { s with flash := { s.flash with blks := SMap.setD {} s.flash.blks k x } }

/-- Longest sense time of a channel, ns. -/
def State.trNs (s : State) (ch : Nat) : Nat := s.fld (fcPage ch) 0x044 15 0
/-- Longest suspend latency of a channel, ns. -/
def State.tsusNs (s : State) (ch : Nat) : Nat := s.fld (fcPage ch) 0x048 15 0
/-- Data rate of a channel, MT/s: 10 in asynchronous SDR (R167). -/
def State.rateMts (s : State) (ch : Nat) : Nat :=
  if s.fld (fcPage ch) 0x040 9 8 = 0 then 10 else s.fld (fcPage ch) 0x040 27 16
/-- Transfer time of one codeword, ns (R190). -/
def State.xferNs (s : State) (ch : Nat) : Nat := cdiv (4608 * 1000) (s.rateMts ch)
/-- Planes of a channel's dies. -/
def State.planes (s : State) (ch : Nat) : Nat := 2 ^ s.fld (fcPage ch) 0x054 1 0
/-- `PAGES_PER_PROG`. -/
def State.pagesPerProg (s : State) (ch : Nat) : Nat := s.fld (fcPage ch) 0x054 15 8

/-! ### Placement in a knot (R427) -/

/-- `KN_PLACE` of an instance: MEMBERS and STRIPE_LOG. -/
def State.placeOf (s : State) (inst : Nat) : Nat × Nat :=
  let w := s.regAt (rkey knPlacePage 0 + inst)
  (fget w 7 0, fget w 12 8)

/-- This device's knot identity (R420). -/
def State.selfId (s : State) : Nat := s.otp.strapId

/-- A knot instance. -/
def State.isKnot (s : State) (inst : Nat) : Bool := decide ((s.placeOf inst).1 ≠ 0)

/-- Owner of a grain (R427). -/
def State.ownerOf (s : State) (inst grain : Nat) : Nat :=
  let p := s.placeOf inst
  let ms := (List.range 8).filter fun j => nbit p.1 j
  if ms = [] then s.selfId else ms.getD (grain / 2 ^ p.2 % ms.length) s.selfId

/-- Page of a knot link. -/
def klPage (j : Nat) : Nat := 0x040 + j
/-- A link that is `UP` (R423). -/
def State.linkUp (s : State) (j : Nat) : Bool := decide (s.fld (klPage j) 0x040 3 0 = 3)

/-- Hand a message to a link that is `UP`; it leaves in flits of its own. -/
def State.knotSend (s : State) (j : Nat) (m : KnotMsg) : State :=
  if s.linkUp j then { s with knot := { s.knot with out := SMap.put s.knot.out j (SMap.getD [] s.knot.out j ++ [m]) } } else s

/-! ### Map entries (R174) -/

/-- Key of a grain. -/
def mapKey (inst grain : Nat) : Nat := 2 ^ 34 * inst + grain
/-- Instance of a map key. -/
def keyInst (k : Nat) : Nat := k / 2 ^ 34
/-- Grain of a map key. -/
def keyGrain (k : Nat) : Nat := k % 2 ^ 34
/-- Segment of a map key. -/
def keySeg (k : Nat) : Nat := k / 2 ^ 18

/-- KIND: 0 `UNMAPPED`, 1 `FLASH`, 2 `CACHE`, 3 `LOST`. -/
def eKind (e : W64) : Nat := nbits e.toNat 63 62
/-- DIE. -/
def eDie (e : W64) : Nat := nbits e.toNat 61 51
/-- BLOCK. -/
def eBlock (e : W64) : Nat := nbits e.toNat 50 37
/-- PAGE. -/
def ePage (e : W64) : Nat := nbits e.toNat 36 25
/-- PLANE. -/
def ePlane (e : W64) : Nat := nbits e.toNat 24 23
/-- CW. -/
def eCw (e : W64) : Nat := nbits e.toNat 22 21
/-- OFFSET. -/
def eOff (e : W64) : Nat := nbits e.toNat 20 15
/-- CADDR. -/
def eCaddr (e : W64) : Nat := nbits e.toNat 61 26
/-- SUB. -/
def eSub (e : W64) : Nat := nbits e.toNat 14 13
/-- LEN. -/
def eLen (e : W64) : Nat := nbits e.toNat 12 2
/-- Codewords that an entry's stored frame touches (R170, R174). -/
def eCws (e : W64) : Nat := cdiv (eOff e + eLen e) 64
/-- A `FLASH` entry. -/
def flashEntry (die block page plane cw off len : Nat) : W64 :=
  BitVec.ofNat 64 (2 ^ 62 + 2 ^ 51 * (die % 2 ^ 11) + 2 ^ 37 * (block % 2 ^ 14) + 2 ^ 25 * (page % 2 ^ 12) +
    2 ^ 23 * (plane % 4) + 2 ^ 21 * (cw % 4) + 2 ^ 15 * (off % 64) + len % 2 ^ 11 * 4)
/-- A `CACHE` entry. -/
def cacheEntry (caddr len : Nat) : W64 := BitVec.ofNat 64 (2 * 2 ^ 62 + 2 ^ 26 * (caddr % 2 ^ 36) + len % 2 ^ 11 * 4)
/-- The `LOST` entry. -/
def lostEntry : W64 := BitVec.ofNat 64 (3 * 2 ^ 62)
/-- The frame an entry points at, whichever its grain in it: SUB cleared. -/
def frameKey (e : W64) : Nat := nsetBits e.toNat 14 13 0
/-- An entry with SUB set. -/
def withSub (e : W64) (sub : Nat) : W64 := BitVec.ofNat 64 (nsetBits e.toNat 14 13 sub)

/-- A grain's map entry. -/
def State.mapAt (s : State) (k : Nat) : W64 := SMap.getD 0 s.flash.map k

/-- Length an entry adds to its segment's sum (R179). -/
def segAdd (e : W64) : Nat := if eKind e = 1 ∨ eKind e = 2 then eLen e else 0

/-- How full the map-delta log is of its 56 MiB part of the protected region, in percent; whether checkpoints rank with repair then (R511). -/
def ckptRank (was : Bool) (entries : Nat) : Bool :=
  let pct := entries * Config.deltaBytes * 100 / (56 * 2 ^ 20)
  decide (pct ≥ 75) || (was && decide (pct ≥ 50))

/-- Write a map entry: the segment's sum (R179) and the map-delta log (R180) follow. -/
def State.mapSet (s : State) (k : Nat) (e : W64) : State :=
  let old := s.mapAt k
  if old = e then s
  else
    let g := keySeg k
    let f := s.flash
    { s with flash := { f with
        map := SMap.setD 0 f.map k e
        segLen := SMap.setD 0 f.segLen g (SMap.getD 0 f.segLen g - segAdd old + segAdd e)
        segDirty := SMap.setD false f.segDirty g true
        delta := { key := k, entry := e } :: f.delta
        ckptHigh := ckptRank f.ckptHigh (f.delta.length + 1) } }

/-- The compare-and-swap of R176: whether it succeeded. -/
def State.mapSwap (s : State) (k : Nat) (old new : W64) : State × Bool :=
  if s.mapAt k = old then (s.mapSet k new, true) else (s, false)

/-- A segment lost to a DRAM error and not rebuilt (R181). -/
def State.segIsLost (s : State) (k : Nat) : Bool := SMap.getD false s.flash.segLost (keySeg k)

/-! ### Cache records (R196) -/

/-- Show the cache in use (`CACHE_USED_MIB`, rounded up). -/
def State.setCacheUsed (s : State) (n : Nat) : State :=
  { s with flash := { s.flash with cacheUsed := n } }.setFld 0x100 0x0C4 12 0 (cdiv n (2 ^ 20))

/-- A record by CADDR. -/
def State.cacheRec (s : State) (c : Nat) : Option CacheRec := SMap.find s.flash.recs c

/-- Write a record. -/
def State.setCacheRec (s : State) (c : Nat) (r : CacheRec) : State :=
  { s with flash := { s.flash with recs := SMap.put s.flash.recs c r } }

/-- Free a record. -/
def State.freeRec (s : State) (c : Nat) : State :=
  match s.cacheRec c with
  | none => s
  | some r =>
    { s with flash := { s.flash with recs := SMap.del s.flash.recs c } }.setCacheUsed (s.flash.cacheUsed - r.frame.length)

/-- A record that has been superseded: in a knot instance it stays readable for 10 us (R435). -/
def State.dropRec (s : State) (c : Nat) : State :=
  match s.cacheRec c with
  | none => s
  | some r =>
    if s.isKnot r.inst then
      let f := s.flash
      { s with flash := { f with recs := SMap.del f.recs c, kept := SMap.put f.kept c { r with superAt := s.now + 1 } } }
    else s.freeRec c

/-- A record by CADDR, superseded ones among them. -/
def State.anyRec (s : State) (c : Nat) : Option CacheRec :=
  match s.cacheRec c with
  | some r => some r
  | none => SMap.find s.flash.kept c

/-- The records of a grain from an entry, newest first, and the entry at the end of the chain (R197). -/
def State.chainFrom (s : State) : Nat → W64 → List (Nat × CacheRec) × W64
  | 0, e => ([], e)
  | n + 1, e =>
    if eKind e = 2 then
      match s.anyRec (eCaddr e) with
      | none => ([], 0)
      | some r =>
        let t := State.chainFrom s n r.prev
        ((eCaddr e, r) :: t.1, t.2)
    else ([], e)

/-- The chain of a grain. -/
def State.chain (s : State) (k : Nat) : List (Nat × CacheRec) × W64 := s.chainFrom 64 (s.mapAt k)

/-- The chain a reader of an ASN looks up: in a knot instance the one before the first writer of higher ASN (R435). -/
def State.chainAt (s : State) (k asn : Nat) : List (Nat × CacheRec) × W64 :=
  match (s.flash.prevs.filter fun p => decide (p.key = k) && decide (asn < p.asn)).foldl (fun acc p =>
      match acc with
      | none => some p
      | some a => if p.asn < a.asn then some p else some a) (none : Option PrevEntry) with
  | some p => s.chainFrom 64 p.entry
  | none => s.chain k

/-- Superseded records whose 10 us have passed are freed (R435). -/
def State.expireKept (s : State) : State :=
  let old := s.flash.kept.filter fun r => decide (r.2.superAt + 10 ≤ s.now + 1)
  let f := s.flash
  let s := { s with flash := { f with
    kept := f.kept.filter fun r => decide (s.now + 1 < r.2.superAt + 10)
    prevs := f.prevs.filter fun p => decide (s.now < p.us + 10) } }
  s.setCacheUsed (s.flash.cacheUsed - (old.map fun r => r.2.frame.length).sum)

/-- Blocks carried by records. -/
def carried (rs : List (Nat × CacheRec)) : Nat := rs.foldl (fun m r => m ||| r.2.mask) 0

/-- Free the records of a grain that newer records carry whole (R196). -/
def State.pruneChain (s : State) : List (Nat × CacheRec) → Nat → Option Nat → State
  | [], _, _ => s
  | (c, r) :: rest, above, keep =>
    if r.mask &&& above = r.mask then
      let s := match keep with
        | none => s
        | some p => { s with flash := { s.flash with recs := SMap.modify s.flash.recs p fun x => { x with prev := r.prev } } }
      (s.dropRec c).pruneChain rest above keep
    else s.pruneChain rest (above ||| r.mask) (some c)

/-- Whether room for `len` units at offset `c` of the cache is free of records and within its size. -/
def roomAt (used : List (Nat × Nat)) (size len c : Nat) : Bool :=
  decide (c + len ≤ size) && used.all fun u => decide (c + len ≤ u.1) || decide (u.2 ≤ c)

/-- Where a new record of `len` units goes within the cache (R174): the first room at or after the end of the newest record, else from the
start; with no room in one piece, after every record. DESIGN CHOICE (log entry 134). -/
def State.cacheSlot (s : State) (len : Nat) : Nat :=
  let used := (s.flash.recs ++ s.flash.kept).map fun r => (r.1, r.1 + cdiv r.2.frame.length 64)
  let size := 2 ^ 14 * s.fld 0x100 0x0C0 12 0
  let ok := (0 :: s.flash.nextRec :: used.map (·.2)).filter (roomAt used size len)
  let late := ok.filter fun c => decide (s.flash.nextRec ≤ c)
  match late, ok with
  | c :: cs, _ => cs.foldl min c
  | [], c :: cs => cs.foldl min c
  | [], [] => (used.map (·.2)).foldl max 0

/-- Put a record at the head of a grain's chain (R196). -/
def State.addRec (s : State) (k mask made asn : Nat) (frame : List Byte) : State :=
  let len := frame.length / 64
  let c := s.cacheSlot len
  let n := s.flash.arrivals
  let r : CacheRec := { inst := keyInst k, grain := keyGrain k, mask := mask, made := made, frame := frame,
                        prev := s.mapAt k, asn := asn, arr := n }
  let s := { s with flash := { s.flash with nextRec := c + len, arrivals := n + 1 } }.setCacheRec c r
  let s := (s.setCacheUsed (s.flash.cacheUsed + frame.length)).mapSet k (cacheEntry c len)
  s.pruneChain (s.chain k).1 0 none

/-- Free every record of a chain. -/
def State.freeChain (s : State) (rs : List (Nat × CacheRec)) : State := rs.foldl (fun s r => s.freeRec r.1) s

/-- Blocks of a grain whose newest record has a higher ASN (R198). -/
def State.newerBlocks (s : State) (k asn : Nat) : Nat :=
  ((s.chain k).1.filter fun r => decide (r.2.asn > asn)).foldl (fun m r => m ||| r.2.mask) 0

/-! ### Block data of frames -/

/-- Bits of a mask as block numbers. -/
def maskBlocks (m : Nat) : List Nat := (List.range 4).filter fun b => nbit m b

/-- Block `b` in the decoded bytes of a frame made with the blocks of `made` (R230). -/
def blockOf (made : Nat) (data : List Byte) (b : Nat) : List Byte :=
  cut data (4096 * ((maskBlocks made).filter (· < b)).length) 4096

/-- Block `b` of a grain from cached frames, newest first, over a base: the detail code where the frame it lies in failed, 0 for
poison. -/
def blockFrom (fs : List FrameSrc) (base : Dec (List Byte)) (b : Nat) : Dec (List Byte) :=
  match fs.find? fun f => nbit f.mask b with
  | none => base.map fun d => cut d (4096 * b) 4096
  | some f => if f.poison then .error 0 else (decodeFrame f.frame).map fun d => blockOf f.made d b

/-- A grain's four blocks from cached frames over a base: those of `need`, taken in ascending order. The first that fails ends it, with
its number and detail code. -/
def overlay (fs : List FrameSrc) (need : Nat) (base : Dec (List Byte)) : Except (Nat × Nat) (List (List Byte)) :=
  (List.range 4).foldl (fun acc b =>
    match acc with
    | .error e => .error e
    | .ok bs =>
      if nbit need b = false then .ok (bs ++ [zeros 4096])
      else
        match blockFrom fs base b with
        | .error d => .error (b, d)
        | .ok x => .ok (bs ++ [x])) (.ok [])

/-- A record as a reading's source. -/
def frameSrc (r : CacheRec) : FrameSrc := { mask := r.mask, made := r.made, frame := r.frame, poison := r.poison }

/-- The grain of entry `e` in the decoded bytes of its frame: a long frame holds four. -/
def grainOf (e : W64) (d : List Byte) : List Byte := if d.length = 65536 then cut d (16384 * eSub e) 16384 else d

/-! ### Block use -/

/-- The flash copy under a grain's cache records is still needed: they do not carry all four blocks. -/
def State.baseOf (s : State) (k : Nat) : Option W64 :=
  let c := s.chain k
  if eKind c.2 = 1 ∧ (c.1 = [] ∨ carried c.1 ≠ 15) then some c.2 else none

/-- Map keys whose entry, or whose base under cache records that do not carry all four blocks, is a `FLASH` entry of an
erase block. -/
def State.keysOf (s : State) (die block : Nat) : List Nat :=
  (s.flash.map.filter fun e =>
    let b := (s.chainFrom 64 e.2).2
    (decide (eKind e.2 = 1) || decide (carried (s.chainFrom 64 e.2).1 ≠ 15)) && decide (eKind b = 1) &&
      decide (eDie b = die) && decide (eBlock b = block)).map (·.1)

/-- Frames of a block that map entries point at, each with its keys (R208). -/
def State.framesOf (s : State) (die block : Nat) : List (W64 × List Nat) :=
  let ks := (s.flash.map.filter fun e => decide (eKind e.2 = 1) && decide (eDie e.2 = die) && decide (eBlock e.2 = block))
  ((ks.map fun e => frameKey e.2).eraseDups).map fun f =>
    (BitVec.ofNat 64 f, (ks.filter fun e => decide (frameKey e.2 = f)).map (·.1))

/-- Valid data of a block, 64 B units. -/
def State.validOf (s : State) (die block : Nat) : Nat := ((s.framesOf die block).map fun f => eLen f.1).sum

/-- A block of the system area (R184): blocks 0 to 15 of die slot 0 on FC000 to FC003. -/
def sysBlock (die block : Nat) : Bool := decide (dieSlot die = 0) && decide (dieCh die < 4) && decide (block < 16)

/-- Blocks of a die in the system area. -/
def sysBlocks (die : Nat) : Nat := if sysBlock die 0 then 16 else 0

/-- The dies of a group that are good. -/
def State.goodDies (s : State) (g : Nat) : List Nat := ((List.range 512).map (· + 512 * g)).filter s.dieGood

/-- Blocks of a group's good dies. -/
def State.grpBlocks (s : State) (g : Nat) : Nat := ((s.goodDies g).map fun d => (s.die d).blocks).sum

/-- A block of a die that writing may use: neither of the system area nor of the dump reserve (R184, R203). -/
def State.writable (s : State) (die block : Nat) : Bool :=
  decide (block < (s.die die).blocks) && !sysBlock die block && !(s.die die).reserve.contains block && !(s.die die).dumped.contains block

/-- Erased blocks of a group that writing may use (`FREE_BLOCKS`): those of its good dies, without the system area and the dump reserve. -/
def State.freeCount (s : State) (g : Nat) : Nat :=
  ((s.goodDies g).map fun d => (s.die d).blocks - sysBlocks d - (s.die d).reserve.length - (s.die d).dumped.length).sum -
    (s.flash.blks.filter fun e => decide (dieGroup (e.1 / 2 ^ 14) = g) && s.dieGood (e.1 / 2 ^ 14) && decide (e.2.st ≠ .free) &&
      s.writable (e.1 / 2 ^ 14) (e.1 % 2 ^ 14)).length

/-- `FREE_BLOCKS` of a group. -/
def State.freeBlocks (s : State) (g : Nat) : Nat := (s.reg (grpPage g) 0x060).toNat
/-- Below a mark of `FGRP_GC`, ‰ of the group's blocks. -/
def State.belowMark (s : State) (g free pm : Nat) : Bool := decide (1000 * free < pm * s.grpBlocks g)
/-- `GC_CRIT_PM`. -/
def State.critPm (s : State) (g : Nat) : Nat := s.fld (grpPage g) 0x04C 7 0
/-- `GC_LOW_PM`. -/
def State.lowPm (s : State) (g : Nat) : Nat := s.fld (grpPage g) 0x04C 15 8

/-- Writes are refused from when free blocks in every group are below `GC_CRIT_PM` until some group is above `GC_LOW_PM` (R206). -/
def State.refuseMarks (s : State) (g : Nat) : State :=
  let grps := (List.range 4).filter fun g => decide (s.grpBlocks g ≠ 0)
  if s.flash.gcRefuse then
    if grps.any fun g => decide (1000 * s.freeBlocks g > s.lowPm g * s.grpBlocks g) then
      { s with flash := { s.flash with gcRefuse := false } }
    else s
  else if grps ≠ [] ∧ grps.all fun g => s.belowMark g (s.freeBlocks g) (s.critPm g) then
    (({ s with flash := { s.flash with gcRefuse := true } }).post 0x0063 g (grpPage g) (s.freeBlocks g)).async 6 anyConn (beBytes 1 g)
  else s

/-- Show a group's free blocks and act on the crossings of R206: `GC_LOW` both ways, `GC_CRIT` on the way down. -/
def State.showFree (s : State) (g : Nat) : State :=
  let s := s.setReg (grpPage g) 0x060 (BitVec.ofNat 32 (s.freeCount g))
  let low := s.belowMark g (s.freeBlocks g) (s.lowPm g)
  let crit := s.belowMark g (s.freeBlocks g) (s.critPm g)
  let f := s.flash
  let s := if low ≠ nbit f.lowG g then s.raise (grpPage g) 0 else s
  let s := if crit ∧ nbit f.critG g = false then s.raise (grpPage g) 1 else s
  { s with flash := { s.flash with lowG := nsetBits s.flash.lowG g g (b2n low), critG := nsetBits s.flash.critG g g (b2n crit) } }.refuseMarks g

/-! ### Capacity (R182, R203, R204) -/

/-- Payload bytes of the good blocks of a group's good dies, less the system area, the dump reserve and the map-checkpoint region (R182). -/
def State.payloadOf (s : State) (g : Nat) : Nat :=
  ((s.goodDies g).map fun d =>
    let x := s.die d
    let bad := (s.flash.blks.filter fun e => decide (e.1 / 2 ^ 14 = d) && decide (e.2.st = .retired)).length
    (x.blocks - bad - sysBlocks d - x.reserve.length - x.dumped.length) * x.blkBytes - x.ckptBytes).sum

/-- A group's user capacity, logical blocks (R182). -/
def State.userCap (s : State) (g pct parity : Nat) : Nat := s.payloadOf g * (31 - parity) * (100 - pct) / (4096 * (32 * 100))

/-- Report a group's user capacity. -/
def State.setUserCap (s : State) (g : Nat) : State :=
  s.setPair (grpPage g) 0x058 (s.userCap g (s.fld (grpPage g) 0x044 7 0) (s.fld (grpPage g) 0x040 0 0))

/-- Report the figure at a start, as channels train: it does not fall for what has been retired since (R183). -/
def State.raiseUserCap (s : State) (g : Nat) : State :=
  if s.pair (grpPage g) 0x058 < s.userCap g (s.fld (grpPage g) 0x044 7 0) (s.fld (grpPage g) 0x040 0 0) then s.setUserCap g else s

/-- User capacity of the device (R182). -/
def State.deviceCap (s : State) : Nat := ((List.range 4).map fun g => s.pair (grpPage g) 0x058).sum

/-- Every good die. -/
def State.allGood (s : State) : List Nat := (List.range 4).flatMap s.goodDies

/-- `DUMP_MAX_MIB` and `CACHE_EFF_MIB` (R204): with `BUDDY_EN`, the mirror region is taken off what can be dumped (R437). -/
def State.showDumpMax (s : State) : State :=
  let slc := (s.allGood.map fun d =>
    let t := s.fld (fcPage (dieCh d)) 0x05C 15 0
    if t ≠ 0 then 16384 * s.planes (dieCh d) * (16000 / t) else 0).sum * 31 / 32
  let bus := ((List.range 128).map fun c =>
    if s.fld (fcPage c) 0x008 0 0 = 1 ∧ s.fld (fcPage c) 0x058 30 30 = 0 then 16000 * s.rateMts c else 0).sum * 31 * 8 / (32 * 9)
  let mib := (min slc bus) / 2 ^ 20 - 64
  let dump := min (mib / 64 * 64) 8191
  let s := s.setFld 0x100 0x0C8 12 0 dump
  let mirror := if s.fld 0x040 0x0C4 0 0 = 1 then s.fld 0x040 0x0C8 12 0 else 0
  s.setFld 0x100 0x0C4 28 16 (min (s.fld 0x100 0x0C0 12 0) (dump - mirror))

/-- SLC blocks of a die that hold its share of `bytes` dumped with parity at 31 + 1 over every good die (R203). -/
def State.shareBlocks (s : State) (d bytes : Nat) : Nat :=
  if (s.die d).slcBytes = 0 then 0 else cdiv (cdiv (bytes * 32) (31 * max 1 s.allGood.length)) (s.die d).slcBytes

/-- The reserve of a die grows by its highest-numbered erased blocks, or shrinks from the lowest, to `n` blocks (R203; DESIGN CHOICE, log entry
135). -/
def State.keepDie (s : State) (d n : Nat) : State :=
  let x := s.die d
  let n := n - x.dumped.length
  let more := ((List.range x.blocks).reverse.filter fun b => s.writable d b && decide ((s.blk (blkKey d b)).st = .free)).take
    (n - x.reserve.length)
  s.setDie d { x with reserve := (x.reserve ++ more).take n }

/-- The dump reserve is kept for the largest dump, the map-delta log and the journal among it (R203, R204). -/
def State.keepReserve (s : State) : State :=
  let bytes := (s.fld 0x100 0x0C8 12 0 + 64) * 2 ^ 20
  s.allGood.foldl (fun s d => s.keepDie d (s.shareBlocks d bytes)) s

/-- What follows from the dies that are good and the channels' settings: the dump sizes, the reserve, the free blocks. -/
def State.setDumpMax (s : State) : State := (List.range 4).foldl (fun s g => s.showFree g) s.showDumpMax.keepReserve

/-! ### Keys and frames on the media (R172) -/

/-- A stored frame of an instance encrypted, or decrypted, under its media key, with the tweak of its first grain. -/
def State.cipher (s : State) (enc : Bool) (inst grain : Nat) (frame : List Byte) : List Byte :=
  xts enc (mediaKey (SMap.getD {} s.insts inst).key) (unitTweak inst grain) frame

/-- A stored frame of the device's own data encrypted, or decrypted, under the device key. -/
def State.devCipher (s : State) (enc : Bool) (grain : Nat) (d : List Byte) : List Byte :=
  xts enc (devKey (s.fld 0x002 0x040 3 0)) (unitTweak devInst grain) d

/-! ### Skeins (R185 to R188) -/

/-- The parity channels of skein `k` of group `g` among its members (R186): channel *k* mod 32, and with two parity members the next one;
where a channel has no member, the next that has (R188; DESIGN CHOICE, log entry 136). -/
def parityChans (k g : Nat) (two : Bool) (members : List Nat) : List Nat :=
  (((List.range 32).map fun i => (k + i) % 32 + 32 * g).filter members.contains).take (if two then 2 else 1)

/-- Units of 64 B in a program unit of a channel. -/
def State.unitLen (s : State) (ch : Nat) : Nat := s.pagesPerProg ch * s.planes ch * 256

/-- The `FLASH` entry at unit offset `u` of the program unit at `page` (R174, R185). -/
def State.unitEntry (s : State) (die block page u len : Nat) : W64 :=
  let pl := s.planes (dieCh die)
  let pp := u / 256
  flashEntry die block (page + pp / pl) (pp % pl) (u / 64 % 4) (u % 64) len

/-- Where an entry's frame begins in the program units that start at `page`, bytes. -/
def State.unitOff (s : State) (page : Nat) (e : W64) : Nat :=
  64 * (((ePage e - page) * s.planes (dieCh (eDie e)) + ePlane e) * 256 + eCw e * 64 + eOff e)

/-- Place frames in the data members of a skein, each on one die, in order: the placed moves. Frames that find no room are left out. `span`:
program units on each member. -/
def State.placeMoves (s : State) (slot block page span : Nat) : List Move → List Nat → Nat → List Move
  | [], _, _ => []
  | m :: ms, chans, u =>
    let len := cdiv m.frame.length 64
    let rest := chans.dropWhile fun c =>
      decide (span * s.unitLen c < (if chans.head? = some c then u else 0) + len)
    match rest with
    | [] => []
    | c :: _ =>
      let u := if chans.head? = some c then u else 0
      { m with new := s.unitEntry (16 * c + slot) block page u len } :: s.placeMoves slot block page span ms rest (u + len)

/-- Frames at offsets of `n` bytes. -/
def layUnit (n : Nat) (fs : List (Nat × List Byte)) : List Byte :=
  padTo n (fs.foldl (fun a f => padTo f.1 a ++ f.2) [])

/-- What the program units of a member hold: the frames stored there, in order. -/
def State.memberBytes (s : State) (sk : Skein) (c : Nat) : List Byte :=
  let fs := (s.flash.frames.filter fun e =>
    let w : W64 := BitVec.ofNat 64 e.1
    decide (eDie w = 16 * c + sk.slot) && decide (eBlock w = sk.block) && decide (sk.page ≤ ePage w) &&
      decide (ePage w < sk.page + sk.span * s.pagesPerProg c)).map fun e => (s.unitOff sk.page (BitVec.ofNat 64 e.1), e.2)
  layUnit (64 * sk.span * s.unitLen c) fs

/-- Put an operation into a die's queue (R195). -/
def State.pushOp (s : State) (d : Nat) (o : DieOp) : State :=
  let x := s.die d
  s.setDie d { x with queue := x.queue ++ [o] }

/-- Mark the cache records behind an entry as being programmed, or not. -/
def State.markProg (s : State) (e : W64) (b : Bool) : State :=
  (s.chainFrom 64 e).1.foldl (fun s r =>
    { s with flash := { s.flash with recs := SMap.modify s.flash.recs r.1 fun x => { x with programming := b } } }) s

/-- A die can take the next program unit of a block at a page: it is good, its channel takes work, and the block is one that writing may
use, erased or open, and programmed so far (R184, R185, R203). -/
def State.takesUnit (s : State) (die block page : Nat) : Bool :=
  let b := s.blk (blkKey die block)
  s.dieGood die && s.chanOn (dieCh die) && s.writable die block && decide (b.st = .free ∨ b.st = .opened) && decide (b.next = page)

/-- Ranks of work in class 4 of R195: read-backs first (R201), then the other repairs, then the rest. -/
def rankReadback : Nat := 0
/-- Rank of the other repairs. -/
def rankRepair : Nat := 1
/-- Rank of everything else. -/
def rankOther : Nat := 2

/-- Start a skein that carries frames (R185, R199): its members are the good dies of the slot on the group's channels whose block can take the
unit, its blocks open, each member gets its program operation, and the parity members the XOR and the syndrome of the others (R186). Frames
longer than a program unit continue over the following ones of the same die (DESIGN CHOICE, log entry 137). Nothing starts while the group's
`ENABLE` is 0 (R551). -/
def State.startSkein (s : State) (p : Place) (moves : List Move) : State :=
  let k := s.flash.nextSkein
  let two := decide (s.fld (grpPage p.group) 0x040 0 0 = 1)
  let members := ((List.range 32).map (· + 32 * p.group)).filter fun c => s.takesUnit (16 * c + p.slot) p.block p.page
  let unit := s.unitLen (members.headD 0)
  let span := match moves with
    | m :: _ => max 1 (cdiv (cdiv m.frame.length 64) (max 1 unit))
    | [] => 1
  let pch := ((List.range span).flatMap fun i => parityChans (k + i) p.group two members).eraseDups
  let data := members.filter fun c => !pch.contains c
  let placed := s.placeMoves p.slot p.block p.page span moves data 0
  if placed = [] ∨ s.enabled (grpPage p.group) = false then s
  else
    let sk : Skein := { group := p.group, slot := p.slot, block := p.block, page := p.page, span := span, members := members,
                        left := (List.replicate span members).flatten, data := data, pchans := pch, parity2 := two, moves := placed,
                        last := p.last }
    let f := s.flash
    let s := { s with flash := { f with
      nextSkein := k + span
      frames := placed.foldl (fun m (x : Move) => SMap.put m (frameKey x.new) x.frame) f.frames
      asnOf := placed.foldl (fun m (x : Move) => SMap.setD 0 m (frameKey x.new) x.asn) f.asnOf } }
    let par := parityUnits two (64 * span * unit) (data.map (s.memberBytes sk))
    let s := { s with flash := { s.flash with skeins := SMap.put s.flash.skeins k { sk with par := par } } }
    let s := members.foldl (fun s c =>
      let b := blkKey (16 * c + p.slot) p.block
      s.setBlk b { s.blk b with st := .opened, next := p.page + span * s.pagesPerProg c }) s
    let s := s.showFree p.group
    let s := sk.left.foldl (fun s c => s.pushOp (16 * c + p.slot) { kind := .program, cls := 4, key := rankOther, skein := k }) s
    placed.foldl (fun s x => x.olds.foldl (fun s e => s.markProg e true) s) s

/-- Frames in a block still wait to be swapped in (R181, R200). -/
def State.swapsDue (s : State) (die block : Nat) : Bool :=
  s.flash.skeins.any fun x => x.2.moves.any fun m => decide (eDie m.new = die) && decide (eBlock m.new = block)

/-- Blocks whose erase can start (R177, R208): given up, no map entry and no read refers to them. -/
def State.eraseReady (s : State) : State :=
  s.flash.blks.foldl (fun s e =>
    let die := e.1 / 2 ^ 14
    let block := e.1 % 2 ^ 14
    let x := s.die die
    let has := (x.queue ++ x.op.toList ++ x.susp.toList).any fun o => decide (o.kind = .erase) && o.loc.toNat == block
    let kept := s.flash.prevs.any fun p =>
      let b := (s.chainFrom 64 p.entry).2
      decide (eKind b = 1) && decide (eDie b = die) && decide (eBlock b = block)
    if e.2.st = .pendingErase ∧ e.2.reads = 0 ∧ has = false ∧ kept = false ∧ s.swapsDue die block = false ∧ s.keysOf die block = [] then
      s.pushOp die { kind := .erase, cls := 4, key := rankOther, loc := BitVec.ofNat 64 block }
    else s) s

/-- Swap the entries of one frame (R176, R200): a swap that fails leaves the entry; the copy's space is invalid. -/
def State.swapMove (s : State) (m : Move) : State :=
  ((m.keys.zip m.olds).zipIdx).foldl (fun s e =>
    let ((k, old), i) := e
    let rs := (s.chainFrom 64 old).1
    match s.mapSwap k old (if m.keys.length = 4 then withSub m.new i else m.new) with
    | (s, true) => s.freeChain rs
    | (s, false) => s.markProg old false) s

/-- A skein's members have all ended (R200): with every one passed, its frames' entries swap; entries of a segment lost to a DRAM error wait
for its rebuild (R181). A member that failed leaves every entry as it is: cached frames are drained again (DEDUCED, log entry 138). -/
def State.skeinDone (s : State) (k : Nat) : State :=
  match SMap.find s.flash.skeins k with
  | none => s
  | some sk =>
    let wait := sk.moves.filter fun m => m.keys.any s.segIsLost
    let go := sk.moves.filter fun m => !m.keys.any s.segIsLost
    let s := if sk.failed = [] then go.foldl (fun s m => s.swapMove m) s
      else go.foldl (fun s m => m.olds.foldl (fun s e => s.markProg e false) s) s
    let s := { s with flash := { s.flash with skeins := SMap.put s.flash.skeins k { sk with moves := wait } } }
    let s := if sk.last then
        sk.members.foldl (fun s c =>
          let b := blkKey (16 * c + sk.slot) sk.block
          if (s.blk b).st = .opened ∧ sk.gone.contains c = false then s.setBlk b { s.blk b with st := .closed, closedAt := s.now } else s) s
      else s
    s.eraseReady

/-- A member of a skein ends, passed or given up. -/
def State.skeinMember (s : State) (k ch : Nat) : State :=
  match SMap.find s.flash.skeins k with
  | none => s
  | some sk =>
    let left := sk.left.erase ch
    let s := { s with flash := { s.flash with skeins := SMap.put s.flash.skeins k { sk with left := left } } }
    if left = [] then s.skeinDone k else s

/-- A member of a skein cannot hold its unit: what it carried is taken out of the skein, which counts it as failed. -/
def State.takeMoves (s : State) (k die : Nat) : State × List Move :=
  match SMap.find s.flash.skeins k with
  | none => (s, [])
  | some sk =>
    let out := sk.moves.filter fun m => decide (eDie m.new = die)
    let f := s.flash
    let s := { s with flash := { f with
      skeins := SMap.put f.skeins k { sk with moves := sk.moves.filter fun m => decide (eDie m.new ≠ die),
                                              failed := sk.failed ++ [dieCh die] }
      frames := out.foldl (fun m (x : Move) => SMap.del m (frameKey x.new)) f.frames
      asnOf := out.foldl (fun m (x : Move) => SMap.del m (frameKey x.new)) f.asnOf } }
    (out.foldl (fun s m => m.olds.foldl (fun s e => s.markProg e false) s) s, out)

/-- The skein a `FLASH` entry lies in: the one at its place whose member there has not been erased since. -/
def State.skeinOf (s : State) (e : W64) : Option Skein :=
  let d := eDie e
  (s.flash.skeins.find? fun x =>
    decide (x.2.group = dieGroup d) && decide (x.2.slot = dieSlot d) && decide (x.2.block = eBlock e) &&
      decide (x.2.page ≤ ePage e) && decide (ePage e < x.2.page + x.2.span * s.pagesPerProg (dieCh d)) &&
      x.2.members.contains (dieCh d) && !x.2.gone.contains (dieCh d)).map (·.2)

/-- The other members of the skein of an entry, as dies. -/
def State.others (s : State) (e : W64) : List Nat :=
  let d := eDie e
  let chans := match s.skeinOf e with
    | some sk => sk.members
    | none => (List.range 32).map (· + 32 * dieGroup d)
  (chans.filter (· != dieCh d)).map fun c => 16 * c + dieSlot d

/-- A member's unit is there to be read: its die is good, its program did not fail, its block has not been erased (R187). -/
def State.memberThere (s : State) (e : W64) (d : Nat) : Bool :=
  s.dieGood d && (match s.skeinOf e with
    | some sk => !sk.failed.contains (dieCh d) && !sk.gone.contains (dieCh d)
    | none => true)

/-- Erasures a skein tolerates in one codeword position (R187): its parity members. -/
def State.parityOf (s : State) (e : W64) : Nat :=
  match s.skeinOf e with
  | some sk => if sk.parity2 then 2 else 1
  | none => 1 + s.fld (grpPage (dieGroup (eDie e))) 0x040 0 0

/-- The erasures of an entry's skein beside its own codeword that are there from the start. -/
def State.badMembers (s : State) (e : W64) : List Nat := (s.others e).filter fun d => !s.memberThere e d

/-- An entry's codewords can be rebuilt as far as is known (R187). -/
def State.canRebuild (s : State) (e : W64) : Bool := decide ((s.badMembers e).length + 1 ≤ s.parityOf e)

/-- A stored frame made again from the other members of its skein, `bad` being erasures (R186, R191). -/
def State.rebuiltFrame (s : State) (e : W64) (bad : List Nat) : List Byte :=
  let kept := SMap.getD [] s.flash.frames (frameKey e)
  match s.skeinOf e with
  | none => kept
  | some sk =>
    let there := fun (c : Nat) => decide (c ≠ dieCh (eDie e)) && s.memberThere e (16 * c + sk.slot) && !bad.contains (16 * c + sk.slot)
    let n := 64 * sk.span * s.unitLen (dieCh (eDie e))
    let us := sk.data.map fun c => if there c then some (s.memberBytes sk c) else none
    let par := (sk.pchans.zip sk.par).map fun p => if there p.1 then some p.2 else none
    match sk.data.idxOf? (dieCh (eDie e)) with
    | none => kept
    | some i =>
      match solveUnit n us (par.getD 0 none) (par.getD 1 none) i with
      | none => kept
      | some u => cut u (s.unitOff sk.page e) (64 * eLen e)

/-! ### Suspension (R193) -/

/-- Whether the program or erase on a die may be suspended now. -/
def State.canSuspend (s : State) (d : Nat) : Bool :=
  let x := s.die d
  match x.op with
  | none => false
  | some o =>
    let most := match o.kind with
      | .program => s.fld (fcPage (dieCh d)) 0x04C 31 24
      | .erase => s.fld (fcPage (dieCh d)) 0x04C 23 16
      | .sense => 0
    decide (x.suspN < most) && decide (s.now ≥ x.resumeUs + s.fld (fcPage (dieCh d)) 0x04C 15 0) && !x.suspending

/-! ### The read policy (R190) -/

/-- start(m) of R190, ns; none: unbounded. -/
def State.memberStart (s : State) (d : Nat) : Option Nat :=
  let now := 1000 * s.now
  let x := s.die d
  match x.op with
  | none => some (now + 200)
  | some o =>
    match o.kind with
    | .sense => some (max now (1000 * x.resumeUs + s.trNs (dieCh d)))
    | _ => if x.suspending || s.canSuspend d then some (now + s.tsusNs (dieCh d)) else none

/-- rebuild_time of R190, ns; none: unbounded. A member that is an erasure from the start, on a failed die, is not sensed and has no start
(DESIGN CHOICE, log entry 146: R190 does not name it; R187 tolerates it). -/
def State.rebuildNs (s : State) (e : W64) : Option Nat :=
  if s.canRebuild e = false then none
  else
    (((s.others e).filter fun d => s.memberThere e d).foldl (fun acc d =>
      match acc, s.memberStart d with
      | some a, some t => some (max a (t + s.trNs (dieCh d)))
      | _, _ => none) (some 0)).map fun t => t - 1000 * s.now + s.xferNs (dieCh (eDie e)) + 1000 + 4000

/-- Whether entry `i` of a channel's ladder takes soft reads. -/
def State.softEntry (s : State) (ch i : Nat) : Bool := decide (s.fld (fcPage ch) (0x0C0 + 4 * i) 31 31 = 1)

/-- Senses of ladder entry `i` (R189). -/
def State.senses (s : State) (ch i : Nat) : Nat := if s.softEntry ch i then 3 else 1

/-- The time a retry with ladder entry `i` of a channel takes, ns; none past the ladder. -/
def State.retryNs (s : State) (ch i : Nat) : Option Nat :=
  if i < s.fld (fcPage ch) 0x050 4 0 then
    some (s.senses ch i * (s.trNs ch + s.xferNs ch) + (if s.softEntry ch i then 12000 else 4000))
  else none

/-- What the policy decides. -/
inductive Policy where
  | retry | rebuild | fail
  deriving DecidableEq, Repr

/-- Whether something of duration `t` that starts now ends by `tEnd`; either may be unbounded. -/
def fits (now : Nat) (t tEnd : Option Nat) : Bool :=
  match t, tEnd with
  | _, none => true
  | none, some _ => false
  | some t, some e => decide (now + t ≤ e)

/-- The decision of R190: `r` and `b` are its times, `can` says that a rebuild is possible (R191). -/
def policy (now : Nat) (r b tEnd : Option Nat) (can : Bool) : Policy :=
  let both := match r, b with
    | some r, some b => some (r + b)
    | _, _ => none
  if r.isSome && fits now both tEnd then .retry
  else if can && fits now b tEnd then .rebuild
  else if r.isSome && fits now r tEnd then .retry
  else .fail

/-! ### Grain work -/

/-- The staged data that counts for a block of a grain: the writer's of highest ASN (R94). -/
def GrainWork.over (g : GrainWork) (b : Nat) : Option Staged :=
  (g.overlay.filter fun o => decide (o.block = b)).foldl (fun acc o => match acc with
    | none => some o
    | some a => if a.asn < o.asn then some o else some a) none

/-- Blocks of a grain its base or cached frames must give: not served from staged data. -/
def GrainWork.need (g : GrainWork) : Nat :=
  (maskBlocks g.mask).foldl (fun m b => if (g.over b).isSome then m else m + 2 ^ b) 0

/-- Blocks its base must give. -/
def GrainWork.baseNeed (g : GrainWork) : Nat :=
  (maskBlocks g.need).foldl (fun m b => if (g.frames.any fun f => nbit f.mask b) then m else m + 2 ^ b) 0

/-- A staged block that counts for a grain, the one of highest ASN, has been written by its writer, or the grain has none there. What a
writer has not written yet it may still never write (R88, R94, R103): the device sends a staged block once its writer has written
it. DESIGN CHOICE (log entry 114). -/
def GrainWork.settled (g : GrainWork) : Bool :=
  (List.range 4).all fun b => match g.over b with
    | some o => o.sure
    | none => true

/-- First block of a mask. -/
def firstBlock (mask : Nat) : Nat := (maskBlocks mask).headD 0

/-- First LBA of a mask of a grain. -/
def GrainWork.firstLba (g : GrainWork) (mask : Nat) : Nat := 4 * g.grain + firstBlock mask

/-- The work of an item, or of background reading, on a grain. -/
def State.gw (s : State) (w : Who) (grain : Nat) : Option GrainWork :=
  match w with
  | .item n => (s.item n).bind fun it => it.grains.find? fun g => decide (g.grain = grain)
  | .bg b => ((SMap.find s.flash.bg b).map (·.gw)).filter fun g => decide (g.grain = grain)
  | .unit _ => none

/-- Change the work of an item, or of background reading, on a grain. -/
def State.modGw (s : State) (w : Who) (grain : Nat) (f : GrainWork → GrainWork) : State :=
  match w with
  | .item n => s.modItem n fun it => { it with grains := it.grains.map fun g => if g.grain = grain then f g else g }
  | .bg b => { s with flash := { s.flash with bg := SMap.modify s.flash.bg b fun x => { x with gw := f x.gw } } }
  | .unit _ => s

/-- A read's senses of an entry end: its block's count falls (R177). -/
def State.endRead (s : State) (w : Who) (grain : Nat) : State :=
  match s.gw w grain with
  | none => s
  | some g =>
    if g.reading then
      let b := blkKey (eDie g.entry) (eBlock g.entry)
      let s := s.setBlk b { s.blk b with reads := (s.blk b).reads - 1 }
      (s.modGw w grain fun g => { g with reading := false }).eraseReady
    else s

/-- First booked slot of an item on a resource, µs; none: it has no booking there. -/
def State.bookedSlot (s : State) (n res : Nat) : Option Nat :=
  match (s.cad.bookings.filter fun b => b.item = n && b.res = res).map (fun b => if b.coarse then 1000 * b.slot else b.slot) with
  | [] => none
  | x :: l => some (l.foldl min x)

/-- t_end of R190, ns; none: unbounded. -/
def tEndOf (it : Item) (post : Nat) : Option Nat :=
  if it.promised then some (1000 * (it.startUs + it.deadlineUs) - 4000 - post) else none

/-- The key of a time that may be unbounded, which comes after every other. -/
def timeKey (t : Option Nat) : Nat := t.getD (2 ^ 128)

/-- Class and key of the senses of a grain on its own die (R195): a booked slot, the ASN of a best-effort command, the rank of background work. A
promised command without a booking there goes by its deadline (DESIGN CHOICE, log entry 139). -/
def State.senseOrder (s : State) (w : Who) (die : Nat) : Nat × Nat :=
  match w with
  | .item n =>
    match s.item n with
    | none => (4, rankOther)
    | some it => if it.promised then (1, (s.bookedSlot n die).getD it.deadline) else (3, it.asn)
  | .bg b =>
    match SMap.find s.flash.bg b with
    | none => (4, rankOther)
    | some x =>
      match x.kind with
      | .readback => (4, rankReadback)
      | .reread | .rebuild => (4, rankRepair)
      | .merge | .scrub => (4, rankOther)
  | .unit _ => (4, rankOther)

/-- t_end of a reading: unbounded for background and best-effort work (R190). -/
def State.tEnd (s : State) (w : Who) (post : Nat) : Option Nat :=
  match w with
  | .item n => (s.item n).bind fun it => tEndOf it post
  | _ => none

/-- Class and key of retries and rebuild senses (R195): those of background reading stay in class 4. -/
def State.retryOrder (s : State) (w : Who) (die post : Nat) : Nat × Nat :=
  match w with
  | .item _ => (2, timeKey (s.tEnd w post))
  | _ => s.senseOrder w die

/-- The codewords of an entry's frame, each to be sensed once on its own die. -/
def firstReads (e : W64) : SMap Cw := (List.range (eCws e)).map fun i => (i, { reads := [(eDie e, {})] })

/-- A grain's own sense is queued (R189): one for all codewords of its frame. -/
def State.senseOf (s : State) (w : Who) (g : GrainWork) : State :=
  let o := s.senseOrder w (eDie g.entry)
  (s.modGw w g.grain fun g => { g with st := .sense, cws := firstReads g.entry }).pushOp (eDie g.entry)
    { kind := .sense, cls := o.1, key := o.2, loc := g.entry, who := some w, grain := g.grain, inst := g.inst }

/-- Change a codeword of a grain. -/
def State.modCw (s : State) (w : Who) (grain i : Nat) (f : Cw → Cw) : State :=
  s.modGw w grain fun g => { g with cws := SMap.modify g.cws i f }

/-- Senses of one codeword position on a die are queued: as many as the ladder entry takes (R189). -/
def State.queueCw (s : State) (w : Who) (g : GrainWork) (i die ladder n post : Nat) : State :=
  let o := s.retryOrder w die post
  let op : DieOp := { kind := .sense, cls := o.1, key := o.2, loc := g.entry, who := some w, grain := g.grain, inst := g.inst,
                      cw := some i, ladder := ladder }
  (List.range n).foldl (fun s _ => s.pushOp die op) s

/-- A codeword that failed is read again with the next entry of the ladder of the die's channel (R189, R190). -/
def State.retryCw (s : State) (w : Who) (g : GrainWork) (i die tried post : Nat) : State :=
  let n := s.senses (dieCh die) tried
  let s := (s.count (fcPage (dieCh die)) 0x104).modCw w g.grain i fun c =>
    { c with reads := SMap.put c.reads die { left := n, tried := tried + 1 } }
  (s.modGw w g.grain fun g => { g with again := true }).queueCw w g i die (tried + 1) n post

/-- The rebuild of a codeword starts (R191): its position is sensed on every member of the skein that is there. -/
def State.rebuildCw (s : State) (w : Who) (g : GrainWork) (i post : Nat) : State :=
  let ms := (s.others g.entry).filter fun d => s.memberThere g.entry d
  let bad := s.badMembers g.entry
  let s := s.modCw w g.grain i fun _ => { reads := ms.foldl (fun m d => SMap.put m d {}) [], rebuilding := true, bad := bad }
  let s := s.modGw w g.grain fun g => { g with again := true, bads := (g.bads ++ bad).eraseDups }
  ms.foldl (fun s d => s.queueCw w g i d 0 1 post) s

/-- Every codeword of a grain is rebuilt: a failed die's, or a read that Cadence planned so (R188, R194). -/
def State.rebuildAll (s : State) (w : Who) (g : GrainWork) (post : Nat) : State :=
  let s := s.modGw w g.grain fun g => { g with st := .sense, cws := firstReads g.entry }
  (List.range (eCws g.entry)).foldl (fun s i => s.rebuildCw w g i post) s

/-- A grain's work ends failed with a status, at its first failing block. -/
def State.failGrain (s : State) (w : Who) (grain status detail bad : Nat) : State :=
  (s.endRead w grain).modGw w grain fun g => { g with st := .failed, err := status, detail := detail, bad := bad, cws := [] }

/-- Queue a grain for refresh once. -/
def State.queueRefresh (s : State) (k : Nat) : State :=
  if s.flash.refreshQ.contains k then s else { s with flash := { s.flash with refreshQ := s.flash.refreshQ ++ [k] } }

/-- Queue a grain for the background re-read once (R192). -/
def State.queueReread (s : State) (k : Nat) : State :=
  if s.flash.rereadQ.contains k then s else { s with flash := { s.flash with rereadQ := s.flash.rereadQ ++ [k] } }

/-- A codeword ends in `fail` (R190, R192): counted and reported. A read ends with `MEDIA_UNRECOVERED`, and its grain is queued for a
background re-read. -/
def State.failCw (s : State) (w : Who) (g : GrainWork) : State :=
  let pg := fcPage (dieCh (eDie g.entry))
  let k := mapKey g.inst g.grain
  let s := (((s.count pg 0x10C).raise pg 4).post 0x0001 (dieSlot (eDie g.entry)) pg k)
  match w with
  | .item _ => (s.queueReread k).failGrain w g.grain stMedia 0 (firstBlock g.baseNeed)
  | _ => s.failGrain w g.grain stMedia 0 0

/-- Count a failed hard decode: the first sense's, and those of hard ladder entries. -/
def State.countHard (s : State) (ch tried : Nat) : State :=
  if tried = 0 ∨ s.softEntry ch (tried - 1) = false then s.count (fcPage ch) 0x100 else s

/-- A codeword of a grain has been corrected; with the last one the frame is there, and its senses have ended (R177). -/
def State.cwDone (s : State) (w : Who) (grain i : Nat) : State :=
  let s := s.modGw w grain fun g => { g with cws := SMap.del g.cws i }
  match s.gw w grain with
  | none => s
  | some g => if g.cws = [] then (s.endRead w grain).modGw w grain fun g => { g with st := .frame } else s

/-- A rebuild has what it needs (R187, R191): the codeword is combined; its grain is queued for refresh. -/
def State.cwRebuilt (s : State) (w : Who) (g : GrainWork) (i : Nat) : State :=
  let s := (s.count (fcPage (dieCh (eDie g.entry))) 0x108).queueRefresh (mapKey g.inst g.grain)
  (s.modGw w g.grain fun g => { g with rebuilt := true }).cwDone w g.grain i

/-- Background reading of earlier units of a failed block: a codeword that fails is rebuilt, not retried (R201). -/
def State.rebuildsFirst (s : State) (w : Who) : Bool :=
  match w with
  | .bg b => decide ((SMap.find s.flash.bg b).map (·.kind) = some .readback)
  | _ => false

/-- A codeword sensed on its own die has been decoded (R190). -/
def State.ownDecode (s : State) (w : Who) (g : GrainWork) (r : SenseOf) (d : DecodeIn) : State :=
  let ch := dieCh d.die
  if d.ok then s.cwDone w g.grain d.cw
  else
    let s := s.countHard ch r.tried
    let can := s.canRebuild g.entry
    let next := if s.rebuildsFirst w ∧ can then Policy.rebuild
      else policy (1000 * s.now) (s.retryNs ch r.tried) (s.rebuildNs g.entry) (s.tEnd w d.post) can
    match next with
    | .retry => s.retryCw w g d.cw d.die r.tried d.post
    | .rebuild =>
      if d.short then ((s.raise 0x010 1).post 0x0021 0 0x010 (mapKey g.inst g.grain)).failCw w g
      else s.rebuildCw w g d.cw d.post
    | .fail => s.failCw w g

/-- A member of a rebuild is done with, corrected or an erasure: with the last one the codeword is rebuilt. -/
def State.memberDone (s : State) (w : Who) (g : GrainWork) (i die : Nat) : State :=
  let s := s.modCw w g.grain i fun c => { c with reads := SMap.del c.reads die }
  match (s.gw w g.grain).bind fun g => SMap.find g.cws i with
  | some c => if c.reads = [] then s.cwRebuilt w g i else s
  | none => s

/-- A codeword of a skein member has been decoded (R191): one that fails is an erasure; beyond the skein's parity count it is retried under R190,
with rebuild no longer possible. -/
def State.memberDecode (s : State) (w : Who) (g : GrainWork) (c : Cw) (r : SenseOf) (d : DecodeIn) : State :=
  let ch := dieCh d.die
  if d.ok then s.memberDone w g d.cw d.die
  else
    let s := s.countHard ch r.tried
    if c.bad.length + 2 ≤ s.parityOf g.entry then
      let s := s.modCw w g.grain d.cw fun c => { c with bad := c.bad ++ [d.die] }
      (s.modGw w g.grain fun g => { g with bads := g.bads ++ [d.die] }).memberDone w g d.cw d.die
    else
      match policy (1000 * s.now) (if s.dieGood d.die then s.retryNs ch r.tried else none) none (s.tEnd w d.post) false with
      | .retry => s.retryCw w g d.cw d.die r.tried d.post
      | _ => s.failCw w g

/-- An LDPC decode ends (R190, R191): one whose senses have all completed. A codeword with more corrected bits than `REFRESH_BITS` marks its
grain for refresh (R208). -/
def State.decodeCw (s : State) (d : DecodeIn) : State :=
  let w : Who := if d.bg then .bg d.item else .item d.item
  match s.gw w d.grain with
  | none => s
  | some g =>
    match SMap.find g.cws d.cw with
    | none => s
    | some c =>
      match SMap.find c.reads d.die with
      | none => s
      | some r =>
        if r.left ≠ 0 then s
        else if c.rebuilding then s.memberDecode w g c r d
        else
          let s := if d.ok ∧ d.bits > s.fld (grpPage (dieGroup d.die)) 0x054 15 0 then
              (if d.bg then s.modGw w d.grain fun g => { g with again := true } else s.queueRefresh (mapKey g.inst g.grain))
            else s
          s.ownDecode w g r d

/-! ### Losses (R112, R192, R201) -/

/-- A grain becomes `LOST` (R192, R201): its map entry, or what lies under its cache records. -/
def State.loseGrain (s : State) (k : Nat) : State :=
  let ch := s.chain k
  let s := match ch.1.getLast? with
    | none => s.mapSet k lostEntry
    | some (c, r) => s.setCacheRec c { r with prev := lostEntry }
  s.post 0x0002 0 (grpPage (dieGroup (eDie ch.2))) k

/-- Blocks of a grain that only its flash frame holds. -/
def State.baseMask (s : State) (k : Nat) : Nat := 15 - carried (s.chain k).1 % 16

/-- ASN of the newest write of block `b` of a grain; 0 where none has written it. -/
def State.blockAsn (s : State) (k b : Nat) : Nat := SMap.getD 0 s.flash.lastAsn (4 * k + b)

/-- Blocks of a mask of a grain that the device has acknowledged: written, and by no command still outstanding (R112). -/
def State.ackedMask (s : State) (k mask : Nat) : Nat :=
  (maskBlocks mask).foldl (fun m b =>
    let a := s.blockAsn k b
    let busy := s.cmd.items.any fun e => e.2.outstanding && decide (e.2.inst = keyInst k) && decide (e.2.asn = a)
    m + b2n (decide (a ≠ 0) && !busy) * 2 ^ b) 0

/-- Deferred errors for lost blocks, grains with masks, one for each owning instance (R112, R201): blocks that no acknowledged write
gave are not recorded. -/
def State.deferLost (s : State) (origin status : Nat) (ls : List (Nat × Nat)) : State :=
  let ls := (ls.map fun e => (e.1, s.ackedMask e.1 e.2)).filter fun e => decide (e.2 ≠ 0)
  ((ls.map fun e => keyInst e.1).eraseDups).foldl (fun s i =>
    let mine := ls.filter fun e => decide (keyInst e.1 = i)
    let lbas := mine.flatMap fun e => (maskBlocks e.2).map (· + 4 * keyGrain e.1)
    let asns := mine.flatMap fun e => (maskBlocks e.2).map (s.blockAsn e.1)
    s.deferredError i origin status lbas.length (lbas.foldl min (lbas.headD 0)) (asns.foldl max 0)) s

/-- Grains whose flash copy cannot be had become `LOST`; one whose segment is lost is read again once that is rebuilt (R181). `read-back`: of
R201, with a deferred error of ORIGIN 1 and the group's `LOST` event. -/
def State.loseGrains (s : State) (ks : List Nat) (readback : Bool) : State :=
  let s := (ks.filter s.segIsLost).foldl (fun s k => s.queueReread k) s
  let gone := (ks.filter fun k => !s.segIsLost k && (s.baseOf k).isSome).map fun k => (k, s.baseMask k, (s.baseOf k).getD 0)
  let s := gone.foldl (fun s e => s.loseGrain e.1) s
  if readback = false ∨ gone = [] then s
  else (gone.foldl (fun s e => s.raise (grpPage (dieGroup (eDie e.2.2))) 2) s).deferLost 1 stMedia (gone.map fun e => (e.1, e.2.1))

/-! ### Background reading (R188, R192, R199, R201, R208) -/

/-- A frame of the drain cannot be made (R245): its cache records stay, its grain is reported. -/
def State.unitFail (s : State) (u key : Nat) : State :=
  if (SMap.find s.flash.units u).isNone then s
  else
    { s with flash := { s.flash with units := SMap.del s.flash.units u } }.post 0x0007 0
      (grpPage (dieGroup (eDie (s.chain key).2))) key

/-- The map still names the frame that was read, for a grain it was read for. -/
def State.stillThere (s : State) (e : W64) (k : Nat) : Bool :=
  match s.baseOf k with
  | some b => decide (frameKey b = frameKey e)
  | none => false

/-- Background reading of a frame has ended, and what it was for follows: a failed grain is refreshed or `LOST` (R192, R245), a read-back's
grains are relocated where a codeword was rebuilt, or `LOST` (R201), a failed die's grain is queued for refresh or `LOST` (R188), a scrubbed
block is queued for refresh where needed (R208). -/
def State.bgOver (s : State) (b : Nat) (ok : Bool) : State :=
  match SMap.find s.flash.bg b with
  | none => s
  | some x =>
    let s := { s.endRead (.bg b) x.gw.grain with flash := { (s.endRead (.bg b) x.gw.grain).flash with
      bg := SMap.del (s.endRead (.bg b) x.gw.grain).flash.bg b } }
    let ks := x.keys.filter (s.stillThere x.gw.entry)
    match x.kind with
    | .merge => if ok then s else s.unitFail x.unit (x.keys.headD 0)
    | .scrub =>
      if ok = false then ks.foldl (fun s k => s.queueReread k) s
      else if x.gw.again then (s.keysOf (eDie x.gw.entry) (eBlock x.gw.entry)).foldl (fun s k => s.queueRefresh k) s
      else s
    | .readback =>
      if ok = false then s.loseGrains ks true
      else if x.gw.again then ks.foldl (fun s k => s.queueRefresh k) s
      else s
    | _ => if ok then ks.foldl (fun s k => s.queueRefresh k) s else s.loseGrains ks false

/-- Whether what background reading is for needs the frame decoded too (R199, R245). -/
def BgKind.decodes : BgKind → Bool
  | .reread | .merge => true
  | _ => false

/-- Background reading whose codewords have all been corrected, or one of which has failed, ends, unless its frame goes on to a
decompression engine. -/
def State.bgCheck (s : State) (w : Who) : State :=
  match w with
  | .bg b =>
    match SMap.find s.flash.bg b with
    | none => s
    | some x =>
      if x.gw.st = .failed then s.bgOver b false
      else if x.gw.st = .frame ∧ x.kind.decodes = false then s.bgOver b true
      else s
  | _ => s

/-- Start to read a frame in the background, for grains, the first of which names it: by senses, or from the other members of its skein where its
die has failed. -/
def State.bgRead (s : State) (kind : BgKind) (keys : List Nat) (e : W64) (unit : Nat) : State :=
  let f := s.flash
  let b := f.nextBg
  let k := keys.headD 0
  let e := (s.baseOf k).getD e
  let g : GrainWork := { grain := keyGrain k, inst := keyInst k, entry := e, taken := true, st := .sense, reading := true }
  let s := { s with flash := { f with nextBg := b + 1, bg := SMap.put f.bg b { kind := kind, keys := keys, unit := unit, gw := g } } }
  let bk := blkKey (eDie e) (eBlock e)
  let s := s.setBlk bk { s.blk bk with reads := (s.blk bk).reads + 1 }
  if s.dieGood (eDie e) ∧ kind ≠ .rebuild then s.senseOf (.bg b) g
  else if s.canRebuild e then s.rebuildAll (.bg b) g 0
  else (s.failCw (.bg b) g).bgCheck (.bg b)

/-- An LDPC decode, and what it means for background reading. -/
def State.decodeEnd (s : State) (d : DecodeIn) : State :=
  (s.decodeCw d).bgCheck (if d.bg then .bg d.item else .item d.item)

/-- Keys of a frame that map entries or bases point at. -/
def State.keysAt (s : State) (e : W64) : List Nat := (s.keysOf (eDie e) (eBlock e)).filter (s.stillThere e)

/-- The read-backs that wait start, ahead of all other background work (R201). -/
def State.startReadbacks (s : State) : State :=
  let q := s.flash.readbackQ
  let s := { s with flash := { s.flash with readbackQ := [] } }
  q.foldl (fun s e => if s.keysAt e = [] then s else s.bgRead .readback (s.keysAt e) e 0) s

/-! ### Die operations (R193, R195) -/

/-- Whether queued operation `a` comes before `b`. -/
def opBefore (a b : DieOp) : Bool := decide (a.cls < b.cls) || (decide (a.cls = b.cls) && decide (a.key < b.key))

/-- The next operation of a queue among those for which `p` holds: lowest class, then key, then arrival. -/
def bestOp (p : DieOp → Bool) (q : List DieOp) : Option DieOp :=
  (q.filter p).foldl (fun acc o => match acc with
    | none => some o
    | some a => if opBefore o a then some o else some a) none

/-- A sense of background work. -/
def DieOp.background (o : DieOp) : Bool :=
  match o.who with
  | some (.item _) => false
  | _ => true

/-- What may still start (R474, R475): nothing once the device is frozen; during a wind-down no program, no erase and no sense
of background work. -/
def State.mayStart (s : State) (o : DieOp) : Bool := !s.pwr.frozen && (!s.pwr.pf || (decide (o.kind = .sense) && !o.background))

/-- The volume of a die is addressed on its chip enable: Volume Select goes first where another was (R166). -/
def State.selectVolume (s : State) (d : Nat) : State :=
  let pg := fcPage (dieCh d)
  let w := 0x080 + 4 * dieSlot d
  { s with flash := { s.flash with vols := SMap.setD 0 s.flash.vols (4 * dieCh d + s.fld pg w 9 8) (s.fld pg w 7 4 + 1) } }

/-- Duration of an operation on a die, ns. -/
def State.opNs (s : State) (d : Nat) (o : DieOp) : Nat :=
  let pg := fcPage (dieCh d)
  match o.kind with
  | .sense => s.trNs (dieCh d)
  | .program => 1000 * s.fld pg 0x044 31 16
  | .erase => 1000 * s.fld pg 0x048 31 16

/-- The minimum share of the background scheduler on a die in a window of 100 ms, ns (R510). -/
def State.bgShareNs (s : State) : Nat := min (s.fld 0x1F0 0x040 7 0) (s.fld 0x010 0x040 7 0) * 1000000

/-- A best-effort sense takes nothing of the minimum background share (R131): what is left of the window after it holds what background work
queued for the die has still to receive. -/
def State.shareKept (s : State) (d : Nat) (o : DieOp) : Bool :=
  decide (o.cls ≠ 3) || !((s.die d).queue.any fun q => decide (q.cls = 4)) ||
    decide (s.bgShareNs + s.opNs d o ≤ 1000 * (s.tel.winUs + 100000 - s.now) + SMap.getD 0 s.flash.bgNs d)

/-- An operation starts on a die (R189, R193, R195): a first sense with the thresholds of its block group, a retry with its ladder entry written to
the target with Set Features. Background work counts against the window's share (R510). -/
def State.startOp (s : State) (d : Nat) (o : DieOp) : State :=
  let f := s.flash
  let s := if o.cls = 4 then
      { s with flash := { f with bgNs := SMap.setD 0 f.bgNs d (SMap.getD 0 f.bgNs d + s.opNs d o) } }
    else s
  let s := s.selectVolume d
  let x := s.die d
  let pg := fcPage (dieCh d)
  let x := { x with op := some o, queue := (takeFirst (fun y => decide (y = o)) x.queue).2, resumeUs := s.now }
  if o.kind ≠ .sense then s.setDie d { x with startUs := s.now, suspN := 0 }
  else if o.ladder = 0 then s.setDie d { x with thresh := (s.blk (blkKey d (eBlock o.loc))).thresh }
  else s.setDie d { x with featAddr := s.fld pg 0x050 23 16, featVal := s.fld pg (0x0C0 + 4 * (o.ladder - 1)) 23 0 }

/-- A free die starts its next operation; a programming or erasing die is told to suspend for a queued sense. A channel or a group that takes no
work starts none (R168, R551). -/
def State.dieDispatch (s : State) (d : Nat) : State :=
  let x := s.die d
  if s.dieGood d = false ∨ s.chanOn (dieCh d) = false ∨ s.enabled (grpPage (dieGroup d)) = false then s
  else
    match x.op with
    | some o =>
      if o.kind ≠ .sense ∧ (x.queue.any fun q => decide (q.kind = .sense)) ∧ s.canSuspend d then
        (s.setDie d { x with suspending := true, suspN := x.suspN + 1 }).count (fcPage (dieCh d)) 0x110
      else s
    | none =>
      match bestOp (fun o => s.mayStart o && s.shareKept d o && (x.susp.isNone || o.now)) x.queue with
      | some o => s.startOp d o
      | none => s

/-- The senses of a suspension have ended: the operation resumes (R193). -/
def State.resumeDie (s : State) (d : Nat) : State :=
  let x := s.die d
  match x.susp with
  | some o =>
    if x.op = none ∧ (x.queue.any fun q => q.now) = false then s.setDie d { x with op := some o, susp := none, resumeUs := s.now }
    else s
  | none => s

/-- A reading of a codeword position on a die has one sense less to come. -/
def Cw.sensed (c : Cw) (die : Nat) : Cw :=
  { c with reads := SMap.modify c.reads die fun r => { r with left := r.left - 1 } }

/-- A sense completes and its codewords go to the decoder (R189). -/
def State.senseDone (s : State) (d : Nat) : State :=
  let x := s.die d
  match x.op with
  | some o =>
    if o.kind = .sense then
      let s := (s.setDie d { x with op := none }).resumeDie d
      match o.who with
      | none => s
      | some w => s.modGw w o.grain fun g =>
          { g with cws := g.cws.map fun e => if o.cw = none ∨ o.cw = some e.1 then (e.1, e.2.sensed d) else e }
    else s
  | none => s

/-- The first `n` senses of a queue in the order of R195, taken out of it. -/
def pickSenses : Nat → List DieOp → List DieOp → List DieOp × List DieOp
  | 0, got, q => (got, q)
  | n + 1, got, q =>
    match bestOp (fun o => decide (o.kind = .sense)) q with
    | none => (got, q)
    | some o => pickSenses n (got ++ [o]) (takeFirst (fun y => decide (y = o)) q).2

/-- A suspension completes: up to 4 of the senses queued at this instant are served in it, and none that comes later (R193). -/
def State.suspendDone (s : State) (d : Nat) : State :=
  let x := s.die d
  if x.suspending then
    let (got, rest) := pickSenses 4 [] x.queue
    (s.setDie d { x with op := none, susp := x.op, suspending := false,
                         queue := got.map (fun o => { o with now := true }) ++ rest }).resumeDie d
  else s

/-- End the program or erase on a die. -/
def State.endOp (s : State) (d : Nat) : State :=
  s.setDie d { s.die d with op := none, suspending := false, suspN := 0 }

/-- A program operation passes (R200). -/
def State.programDone (s : State) (d : Nat) : State :=
  match (s.die d).op with
  | some o => if o.kind = .program then (s.endOp d).skeinMember o.skein (dieCh d) else s
  | none => s

/-- The members of skeins at an erased block are gone; a skein none of whose members is left is forgotten. -/
def State.forgetUnits (s : State) (d block : Nat) : State :=
  let mark := fun (sk : Skein) =>
    if sk.group = dieGroup d ∧ sk.slot = dieSlot d ∧ sk.block = block ∧ sk.members.contains (dieCh d) ∧ !sk.gone.contains (dieCh d) then
      { sk with gone := sk.gone ++ [dieCh d] }
    else sk
  let f := s.flash
  { s with flash := { f with skeins := (f.skeins.map fun e => (e.1, mark e.2)).filter fun e => !e.2.members.all e.2.gone.contains } }

/-- An erase passes: the block is free, or a block of the dump reserve again (R177, R203, R208). -/
def State.eraseDone (s : State) (d : Nat) : State :=
  match (s.die d).op with
  | some o =>
    if o.kind = .erase then
      let block := o.loc.toNat
      let b := blkKey d block
      let gone := fun (k : Nat) => decide (eDie (BitVec.ofNat 64 k) = d) && decide (eBlock (BitVec.ofNat 64 k) = block)
      let s := (s.endOp d).forgetUnits d block
      let f := s.flash
      let s := { s with flash := { f with frames := SMap.dropIf gone f.frames, asnOf := SMap.dropIf gone f.asnOf } }
      let s := s.setBlk b { st := .free, erases := (s.blk b).erases + 1 }
      let x := s.die d
      let s := if x.dumped.contains block then
          s.setDie d { x with dumped := x.dumped.filter (· != block), reserve := x.reserve ++ [block] }
        else s
      s.showFree (dieGroup d)
    else s
  | none => s

/-- Retire a block. -/
def State.retire (s : State) (b : Nat) : State := s.setBlk b { s.blk b with st := .retired }

/-- An erase fails (R202): the block is retired; another takes its place in the dump reserve. -/
def State.eraseFailed (s : State) (d : Nat) : State :=
  match (s.die d).op with
  | some o =>
    if o.kind = .erase then
      let pg := fcPage (dieCh d)
      let s := (((s.endOp d).retire (blkKey d o.loc.toNat)).count pg 0x118).raise pg 3
      let x := s.die d
      (s.setDie d { x with dumped := x.dumped.filter (· != o.loc.toNat) }).setDumpMax
    else s
  | none => s

/-- A program operation fails (R201): its frames go to a new skein, its block retires, and the frames of its earlier units are read back. -/
def State.programFailed (s : State) (d : Nat) (place : Place) : State :=
  match (s.die d).op with
  | some o =>
    if o.kind = .program then
      let pg := fcPage (dieCh d)
      let s := (((s.endOp d).count pg 0x114).raise pg 2).post 0x0003 (dieSlot d) pg d
      let block := (SMap.find s.flash.skeins o.skein).elim 0 (·.block)
      let s := s.retire (blkKey d block)
      let (s, ms) := s.takeMoves o.skein d
      let s := s.skeinMember o.skein (dieCh d)
      let s := if ms = [] then s else s.startSkein place ms
      let here := ((s.keysOf d block).filterMap s.baseOf).map fun e => BitVec.ofNat 64 (frameKey e)
      let s := { s with flash := { s.flash with readbackQ := s.flash.readbackQ ++ here.eraseDups } }
      (s.showFree (dieGroup d)).startReadbacks
    else s
  | none => s

/-- What an operation of a die that has failed becomes (R188, R202): the unit of a program is lost to its skein; a sense is served by
rebuild, and where its skein cannot give the frame, a booked command ends by its deadline (R138), any other reading fails. -/
def State.failOp (s : State) (d : Nat) (o : DieOp) : State :=
  match o.kind, o.who with
  | .program, _ => ((s.takeMoves o.skein d).1).skeinMember o.skein (dieCh d)
  | .sense, some w =>
    match s.gw w o.grain with
    | none => s
    | some g =>
      let booked := match w with
        | .item n => (s.item n).any fun it => it.promised
        | _ => false
      let fail := fun (s : State) => if booked = true then s else (s.failCw w g).bgCheck w
      let one := fun (s : State) (i : Nat) =>
        match (s.gw w o.grain).bind fun g => SMap.find g.cws i with
        | none => s
        | some c =>
          if c.rebuilding then
            if c.bad.length + 2 ≤ s.parityOf g.entry then
              let s := s.modCw w g.grain i fun c => { c with bad := c.bad ++ [d] }
              ((s.modGw w g.grain fun g => { g with bads := g.bads ++ [d] }).memberDone w g i d).bgCheck w
            else fail s
          else if s.canRebuild g.entry then s.rebuildCw w g i 0
          else fail s
      match o.cw with
      | some i => one s i
      | none => (g.cws.map (·.1)).foldl one s
  | _, _ => s

/-- A die is marked failed (R188, R202): its slot fails, its booked senses are served by rebuild, its valid data is queued for rebuilding, and
the figures that count good dies follow (R204, R206). -/
def State.dieFailed (s : State) (d : Nat) : State :=
  if s.dieGood d = false then s
  else
    let pg := fcPage (dieCh d)
    let gp := grpPage (dieGroup d)
    let x := s.die d
    let s := (((s.setFld pg (0x080 + 4 * dieSlot d) 25 24 2).count pg 0x11C).raise pg 1)
    let s := (s.setFld gp 0x064 25 16 (s.fld gp 0x064 25 16 + 1)).setFld gp 0x064 9 0 (s.fld gp 0x064 9 0 - 1)
    let s := (s.post 0x0004 (dieSlot d) pg d).async 10 anyConn (beBytes 2 d)
    let s := s.setDie d { x with op := none, susp := none, suspending := false, queue := [] }
    let s := (x.queue ++ x.op.toList ++ x.susp.toList).foldl (fun s o => s.failOp d o) s
    let ks := (s.flash.map.filter fun e => (s.baseOf e.1).any fun b => decide (eDie b = d)).map (·.1)
    { s with flash := { s.flash with rebuildQ := s.flash.rebuildQ ++ ks } }.setDumpMax

/-- An operation does not answer within twice its `TBERS_US` (R202). -/
def State.dieTimeout (s : State) (d : Nat) : State :=
  let x := s.die d
  if x.op = none ∨ s.now < x.resumeUs + 2 * s.fld (fcPage (dieCh d)) 0x048 31 16 then s else s.dieFailed d

/-! ### Bring-up (R168) -/

/-- Training of a channel ends: `DONE` or `FAIL`, the state of its slots, and the capacity that follows. A populated slot whose die does not answer
reads absent, as does an unpopulated one (DESIGN CHOICE, log entry 47). -/
def State.channelTrained (s : State) (c : Nat) (fail : Bool) (eye : Nat) (dies : List DieIn) : State :=
  if c ≥ 128 ∨ s.fld (fcPage c) 0x008 0 0 = 0 then s
  else
    let pg := fcPage c
    let s := (s.setReg pg 0x058 (BitVec.ofNat 32 ((if fail then 2 ^ 30 else 2 ^ 31) + eye % 2 ^ 16))).raise pg 0
    let g := c / 32
    let s := (List.range 16).foldl (fun s i =>
      let d := 16 * c + i
      let x := dies.getD i { answers := false }
      if s.fld pg (0x080 + 4 * i) 31 31 = 0 ∨ fail ∨ x.answers = false then s.setFld pg (0x080 + 4 * i) 25 24 0
      else if s.dieState d = 0 then
        let s := (s.setFld pg (0x080 + 4 * i) 25 24 1).setDie d
          { s.die d with blocks := x.blocks, blkBytes := x.blkBytes, slcBytes := x.slcBytes, ckptBytes := x.ckptBytes }
        x.bad.foldl (fun s b => if (s.blk (blkKey d b)).st = .free then s.retire (blkKey d b) else s) s
      else s) s
    let s := s.setFld (grpPage g) 0x064 9 0 (s.goodDies g).length
    s.setDumpMax.raiseUserCap g


/-! ### The map in the background (R180, R181) -/

/-- A segment's entries as a checkpoint stores them: how many, then each one's place in the segment and the entry; whole units of 64 B. DESIGN
CHOICE (log entry 132). -/
def ckptBytes (es : List (Nat × W64)) : List Byte :=
  let d := leBytes 8 es.length ++ es.flatMap fun e => leBytes 4 (e.1 % 2 ^ 18) ++ leBytes 8 e.2.toNat
  padTo (64 * cdiv d.length 64) d

/-- The entries that a checkpoint of a segment stores. -/
def ckptEntries (seg : Nat) (d : List Byte) : List (Nat × W64) :=
  (List.range (le d 0 8)).map fun i => (2 ^ 18 * seg + le d (8 + 12 * i) 4, BitVec.ofNat 64 (le d (12 + 12 * i) 8))

/-- Checkpoints rank with repair no more once the map-delta log has fallen below 50 % of its part (R511). -/
def State.rankCkpts (s : State) : State :=
  { s with flash := { s.flash with ckptHigh := ckptRank s.flash.ckptHigh s.flash.delta.length } }

/-- A checkpoint of a segment is written, under the device key (R180). A segment that is lost is rebuilt first (R181). -/
def State.checkpoint (s : State) (g : Nat) : State :=
  let f := s.flash
  if SMap.getD false f.segLost g then s
  else
    let d := ckptBytes (f.map.filter fun e => decide (keySeg e.1 = g))
    { s with flash := { f with
        ckpt := SMap.put f.ckpt g (s.devCipher true g d)
        delta := f.delta.filter fun d => decide (keySeg d.key ≠ g)
        segDirty := SMap.del f.segDirty g } }.rankCkpts

/-- The entries of a segment's checkpoint, none where it has none (R180). -/
def State.ckptOf (s : State) (g : Nat) : List (Nat × W64) :=
  match SMap.find s.flash.ckpt g with
  | none => []
  | some d => ckptEntries g (s.devCipher false g d)

/-- A segment is rebuilt from its checkpoint and the map-delta log (R181); swaps that waited for it are made. -/
def State.rebuildSegment (s : State) (g : Nat) : State :=
  let f := s.flash
  let base := (s.ckptOf g).foldl (fun m e => SMap.setD 0 m e.1 e.2) (SMap.dropIf (fun k => decide (keySeg k = g)) f.map)
  let s := { s with flash := { f with
    map := (f.delta.reverse.filter fun d => decide (keySeg d.key = g)).foldl (fun m d => SMap.setD 0 m d.key d.entry) base
    segLost := SMap.del f.segLost g } }
  f.skeins.foldl (fun s e => if e.2.left = [] ∧ e.2.moves ≠ [] then s.skeinDone e.1 else s) s

/-! ### Shares of background time (R207) -/

/-- Kinds of weighted background work, in the order of `FGRP_BG`. -/
inductive MediaWork where
  | collect | level | scrub | calibrate
  deriving DecidableEq, Repr

/-- All of them. -/
def MediaWork.all : List MediaWork := [.collect, .level, .scrub, .calibrate]

/-- Number of a kind. -/
def MediaWork.num : MediaWork → Nat
  | .collect => 0
  | .level => 1
  | .scrub => 2
  | .calibrate => 3

/-- Its weight in a group. -/
def State.weight (s : State) (g : Nat) (w : MediaWork) : Nat := s.fld (grpPage g) 0x048 (31 - 8 * w.num) (24 - 8 * w.num)

/-- Work given to it in the present round. -/
def State.given (s : State) (g : Nat) (w : MediaWork) : Nat := SMap.getD 0 s.flash.bgUsed (4 * g + w.num)

/-- Closed blocks of a group. -/
def State.closedBlks (s : State) (g : Nat) : List (Nat × Blk) :=
  s.flash.blks.filter fun e => decide (dieGroup (e.1 / 2 ^ 14) = g) && decide (e.2.st = .closed)

/-- Frames of a grain's entries are in a skein whose swaps are still to come. -/
def State.moving (s : State) (f : W64) : Bool :=
  s.flash.skeins.any fun x => x.2.moves.any fun m => m.olds.any fun e => decide (eKind e = 1) && decide (frameKey e = frameKey f)

/-- Frames of a block that can be moved now: not on their way yet, their segments at hand (R181). -/
def State.movable (s : State) (die block : Nat) : List (W64 × List Nat) :=
  (s.framesOf die block).filter fun f => !s.moving f.1 && !f.2.any s.segIsLost

/-- The block that garbage collection takes next (R208): one given up whose frames did not all fit the skein before, else the closed block with the
least valid data, ties going to the oldest. A block with a grain of a lost segment waits for its rebuild (R181). -/
def State.victim (s : State) (g : Nat) : Option Nat :=
  let left := s.flash.blks.find? fun e => decide (dieGroup (e.1 / 2 ^ 14) = g) && decide (e.2.st = .pendingErase) &&
    !(s.movable (e.1 / 2 ^ 14) (e.1 % 2 ^ 14)).isEmpty
  match left with
  | some e => some e.1
  | none =>
    let cost := fun (e : Nat × Blk) => (s.validOf (e.1 / 2 ^ 14) (e.1 % 2 ^ 14), e.2.closedAt)
    (((s.closedBlks g).filter fun e => !(s.keysOf (e.1 / 2 ^ 14) (e.1 % 2 ^ 14)).any s.segIsLost).foldl (fun acc e => match acc with
      | none => some e
      | some a => if (cost e).1 < (cost a).1 ∨ ((cost e).1 = (cost a).1 ∧ (cost e).2 < (cost a).2) then some e else acc)
      (none : Option (Nat × Blk))).map (·.1)

/-- Erase counts of the blocks of a group's good dies that are not retired; blocks without a record have never been erased. -/
def State.wearOf (s : State) (g : Nat) : List Nat :=
  let mine := s.flash.blks.filter fun e => decide (dieGroup (e.1 / 2 ^ 14) = g) && s.dieGood (e.1 / 2 ^ 14)
  let seen := (mine.filter fun e => decide (e.2.st ≠ .retired)).map fun e => e.2.erases
  if mine.length < s.grpBlocks g then 0 :: seen else seen

/-- The spread of erase counts within a group exceeds `WL_DELTA` (R208). -/
def State.worn (s : State) (g : Nat) : Bool :=
  let l := s.wearOf g
  decide (s.fld (grpPage g) 0x050 31 16 < l.foldl max 0 - l.foldl min (l.headD 0))

/-- The `SCRUB_DAYS` of a group, µs. -/
def State.scrubUs (s : State) (g : Nat) : Nat := s.fld (grpPage g) 0x050 15 8 * 86400000000

/-- A closed block that scrub has not read in the present `SCRUB_DAYS` (R208). -/
def State.scrubDue (s : State) (g : Nat) (x : Blk) : Bool :=
  decide (x.scrubbed = 0) || decide ((x.scrubbed - 1) / s.scrubUs g ≠ s.now / s.scrubUs g)

/-- A block group whose `CAL_INTERVAL_MIN` has passed since it was last sampled (R208). -/
def State.calDue (s : State) (g : Nat) (x : Blk) : Bool :=
  decide (x.calAt = 0) || decide (x.calAt - 1 + s.fld (grpPage g) 0x050 7 0 * 60000000 ≤ s.now)

/-- A kind has work in a group. -/
def State.hasMedia (s : State) (g : Nat) : MediaWork → Bool
  | .collect => (s.victim g).isSome
  | .level => s.worn g && !(s.closedBlks g).isEmpty
  | .scrub => (s.closedBlks g).any fun e => s.scrubDue g e.2
  | .calibrate => (s.closedBlks g).any fun e => s.calDue g e.2

/-- A grain of a group whose queue of repair work it stands in. -/
def State.repairIn (s : State) (g k : Nat) : Bool := (s.baseOf k).any fun e => decide (dieGroup (eDie e) = g)

/-- Repairs of a group wait: rebuilds of failed dies, read-backs and refreshes, which come first (R207). -/
def State.repairsWait (s : State) (g : Nat) : Bool :=
  s.flash.rebuildQ.any (s.repairIn g) || (s.flash.refreshQ.any fun k => s.repairIn g k && decide (eKind (s.mapAt k) = 1)) ||
    s.flash.readbackQ.any fun e => decide (dieGroup (eDie e) = g) && !(s.keysAt e).isEmpty

/-! ### The background scheduler (R509, R511) -/

/-- Weighted kinds of background work. Telemetry, the fourth, is never queued: records and snapshots are written at once. -/
inductive SchedWork where
  | media | ckpt | dramScrub
  deriving DecidableEq, Repr

/-- All of them. -/
def SchedWork.all : List SchedWork := [.media, .ckpt, .dramScrub]

/-- Number of a kind. -/
def SchedWork.num : SchedWork → Nat
  | .media => 0
  | .ckpt => 1
  | .dramScrub => 2

/-- Its weight in `BG_W`. -/
def State.bgWeight (s : State) (w : SchedWork) : Nat := s.fld 0x1F0 0x044 (31 - 8 * w.num) (24 - 8 * w.num)

/-- Turns given to it in the present round. -/
def State.bgGiven (s : State) (w : SchedWork) : Nat := SMap.getD 0 s.flash.bgUsed (16 + w.num)

/-- `SCRUB_H`, µs. -/
def State.dramScrubUs (s : State) : Nat := s.fld 0x068 0x048 7 0 * 3600000000

/-- The present period of the DRAM scrub has not seen a whole pass (R390). -/
def State.dramScrubDue (s : State) : Bool :=
  decide (s.dram.scrubDone = 0) || decide ((s.dram.scrubDone - 1) / s.dramScrubUs ≠ s.now / s.dramScrubUs)

/-- Half of the period has passed without the DRAM scrub's completion (R509). -/
def State.dramScrubLate (s : State) : Bool := s.dramScrubDue && decide (s.dramScrubUs ≤ 2 * (s.now % s.dramScrubUs))

/-- Whether a kind has work. -/
def State.hasBg (s : State) : SchedWork → Bool
  | .media => (List.range 4).any fun g => MediaWork.all.any (s.hasMedia g)
  | .ckpt => !s.flash.delta.isEmpty
  | .dramScrub => s.dramScrubDue && decide (0 < s.dramSize)

/-- Repair work waits anywhere, or checkpoints that rank with it (R509, R511). -/
def State.anyRepair (s : State) : Bool :=
  (List.range 4).any s.repairsWait || !s.flash.rereadQ.isEmpty || (s.flash.ckptHigh && !s.flash.delta.isEmpty)

/-- The background scheduler gives a kind its time now (R509): checkpoints with repair while the map-delta log is full (R511); a late DRAM
scrub ahead of the weighted kinds; else, while no repair waits, in rounds of 100 turns by `BG_W`, in which the kinds without work leave
theirs to the others. DESIGN CHOICE (log entry 144). -/
def State.mayBg (s : State) (w : SchedWork) : Bool :=
  s.enabled 0x1F0 &&
    ((decide (w = .ckpt) && s.flash.ckptHigh) || (!s.anyRepair && ((decide (w = .dramScrub) && s.dramScrubLate) ||
      decide (s.bgGiven w < s.bgWeight w) || SchedWork.all.all fun x => !s.hasBg x || decide (s.bgWeight x ≤ s.bgGiven x))))

/-- A kind takes a turn; when none with work has one left, a round begins. -/
def State.giveBg (s : State) (w : SchedWork) : State :=
  let spent := decide (s.bgWeight w ≤ s.bgGiven w)
  let m := if spent then SchedWork.all.foldl (fun m x => SMap.setD 0 m (16 + x.num) 0) s.flash.bgUsed else s.flash.bgUsed
  { s with flash := { s.flash with bgUsed := SMap.setD 0 m (16 + w.num) (SMap.getD 0 m (16 + w.num) + 1) } }

/-- A group gives a kind its time now (R207): below `GC_LOW_PM` to garbage collection alone; else after the repairs, in rounds of 100 in which
each kind takes as many turns as its weight, and the kinds that have no work leave theirs to the others. DESIGN CHOICE (log entry 140). -/
def State.mayMedia (s : State) (g : Nat) (w : MediaWork) : Bool :=
  s.enabled (grpPage g) && !s.pwr.pf &&
    (if s.belowMark g (s.freeBlocks g) (s.lowPm g) then decide (w = .collect)
    else !s.repairsWait g && s.mayBg .media && (decide (s.given g w < s.weight g w) ||
      MediaWork.all.all fun x => !s.hasMedia g x || decide (s.weight g x ≤ s.given g x)))

/-- A kind takes a turn; when none with work has one left, a round begins (R207). -/
def State.giveMedia (s : State) (g : Nat) (w : MediaWork) : State :=
  let spent := decide (s.weight g w ≤ s.given g w)
  let m := if spent then MediaWork.all.foldl (fun m x => SMap.setD 0 m (4 * g + x.num) 0) s.flash.bgUsed else s.flash.bgUsed
  { s with flash := { s.flash with bgUsed := SMap.setD 0 m (4 * g + w.num) (SMap.getD 0 m (4 * g + w.num) + 1) } }.giveBg .media

/-- A segment's checkpoint is taken where the scheduler gives checkpoints their time (R180, R509, R511). -/
def State.runCheckpoint (s : State) (g : Nat) : State := if s.mayBg .ckpt then (s.giveBg .ckpt).checkpoint g else s

/-! ### Relocation (R208) -/

/-- A move of a stored frame: one whose die has failed comes from the other members of its skein. -/
def State.moveOf (s : State) (f : W64) (ks : List Nat) : Move :=
  { keys := ks, olds := ks.map s.mapAt
    frame := if s.dieGood (eDie f) then SMap.getD [] s.flash.frames f.toNat else s.rebuiltFrame f []
    asn := SMap.getD 0 s.flash.asnOf f.toNat }

/-- Moves of the frames that map keys point at in flash. -/
def State.movesOf (s : State) (ks : List Nat) : List Move :=
  let fl := ks.filter fun k => decide (eKind (s.mapAt k) = 1) && !s.moving (s.mapAt k)
  ((fl.map fun k => frameKey (s.mapAt k)).eraseDups).map fun f =>
    s.moveOf (BitVec.ofNat 64 f) ((s.flash.map.filter fun e => decide (eKind e.2 = 1) && decide (frameKey e.2 = f)).map (·.1))

/-- Relocate frames of a block and give it up (R208): it is erased once nothing refers to it. -/
def State.relocateBlock (s : State) (b : Nat) (place : Place) : State :=
  let fs := s.movable (b / 2 ^ 14) (b % 2 ^ 14)
  let s := s.setBlk b { s.blk b with st := .pendingErase }
  (s.startSkein place (fs.map fun f => s.moveOf f.1 f.2)).eraseReady

/-- Garbage collection in a group (R208). -/
def State.collect (s : State) (g : Nat) (place : Place) : State :=
  match s.victim g with
  | none => s
  | some b =>
    if s.mayMedia g .collect then (s.giveMedia g .collect).relocateBlock b { place with group := g } else s

/-- The place is among the most-erased free blocks of its group, or goes on in blocks that are already open (R208). -/
def State.mostErased (s : State) (p : Place) : Bool :=
  let free := (s.flash.blks.filter fun e => decide (dieGroup (e.1 / 2 ^ 14) = p.group) && decide (e.2.st = .free) &&
    s.dieGood (e.1 / 2 ^ 14) && s.writable (e.1 / 2 ^ 14) (e.1 % 2 ^ 14)).map fun e => e.2.erases
  let here := ((List.range 32).map fun c => s.blk (blkKey (16 * (c + 32 * p.group) + p.slot) p.block))
  decide (p.page ≠ 0) || here.any fun x => decide (x.st = .free) && decide (free.foldl max 0 ≤ x.erases)

/-- Wear levelling in a group (R208): the least-erased closed block's data goes into the most-erased free blocks. -/
def State.levelWear (s : State) (g : Nat) (place : Place) : State :=
  let least := (s.closedBlks g).foldl (fun acc e => match acc with
    | none => some e
    | some a => if e.2.erases < a.2.erases then some e else acc) (none : Option (Nat × Blk))
  match least with
  | none => s
  | some e =>
    if s.worn g && s.mayMedia g .level && s.mostErased { place with group := g } &&
        !(s.keysOf (e.1 / 2 ^ 14) (e.1 % 2 ^ 14)).any s.segIsLost then
      (s.giveMedia g .level).relocateBlock e.1 { place with group := g }
    else s

/-- Frames of a block that entries, or bases under cache records, point at, each with its grains. -/
def State.readsOf (s : State) (die block : Nat) : List (W64 × List Nat) :=
  let ks := (s.keysOf die block).filterMap fun k => (s.baseOf k).map fun e => (frameKey e, k)
  ((ks.map (·.1)).eraseDups).map fun f => (BitVec.ofNat 64 f, (ks.filter fun e => decide (e.1 = f)).map (·.2))

/-- Scrub reads a closed block (R208). -/
def State.scrubBlk (s : State) (die block : Nat) : State :=
  let b := blkKey die block
  let g := dieGroup die
  if (s.blk b).st ≠ .closed ∨ s.mayMedia g .scrub = false then s
  else
    let s := (s.giveMedia g .scrub).setBlk b { s.blk b with scrubbed := s.now + 1 }
    (s.readsOf die block).foldl (fun s f => s.bgRead .scrub f.2 f.1 0) s

/-- Calibration of a block group, the blocks of a die closed within the same hour: `thresh` is the result of its search (R208). -/
def State.calibrate (s : State) (die block thresh : Nat) : State :=
  let hour := fun (x : Blk) => x.closedAt / 3600000000
  let x := s.blk (blkKey die block)
  let g := dieGroup die
  if x.st ≠ .closed ∨ s.calDue g x = false ∨ s.mayMedia g .calibrate = false then s
  else
    s.flash.blks.foldl (fun s e =>
      if e.1 / 2 ^ 14 = die ∧ e.2.st = .closed ∧ hour e.2 = hour x then
        s.setBlk e.1 { s.blk e.1 with thresh := thresh, calAt := s.now + 1 }
      else s) (s.giveMedia g .calibrate)

/-- Refresh of queued grains (R191, R208). Read-backs go first (R201); a grain of a lost segment waits (R181), one that is cached is rewritten by the
drain. -/
def State.refresh (s : State) (ks : List Nat) (place : Place) : State :=
  let s := s.startReadbacks
  let ks := ks.filter fun k => s.flash.refreshQ.contains k && !s.segIsLost k
  let old := s.flash.nextSkein
  let t := s.startSkein place (s.movesOf ks)
  let moved : List Nat := match SMap.find t.flash.skeins old with
    | some sk => sk.moves.flatMap Move.keys
    | none => []
  { t with flash := { t.flash with
      refreshQ := t.flash.refreshQ.filter fun k => !(moved.contains k || (ks.contains k && decide (eKind (t.mapAt k) ≠ 1))) } }

/-- Frames that grains of a queue of repair work lie in, each with its grains. -/
def State.repairFrames (s : State) (ks : List Nat) : List (W64 × List Nat) :=
  let fs := ks.filterMap fun k => (s.baseOf k).map frameKey
  fs.eraseDups.map fun f => (BitVec.ofNat 64 f, s.keysAt (BitVec.ofNat 64 f))

/-- Rebuild of a failed die's grains (R188): each frame is read from the other members of its skein, then refreshed; one beyond its skein's parity is
lost. -/
def State.rebuildDie (s : State) (ks : List Nat) : State :=
  let s := s.startReadbacks
  let ks := ks.filter fun k => s.flash.rebuildQ.contains k && !s.segIsLost k &&
    (s.baseOf k).all fun e => s.enabled (grpPage (dieGroup (eDie e)))
  let fs := (s.repairFrames ks).filter fun f => !s.dieGood (eDie f.1)
  let s := { s with flash := { s.flash with rebuildQ := s.flash.rebuildQ.filter fun k => !(ks.contains k || fs.any fun f => f.2.contains k) } }
  fs.foldl (fun s f => s.bgRead .rebuild f.2 f.1 0) s

/-- Background re-read of a failed grain (R192, R245): the full ladder and a rebuild without a deadline. -/
def State.reread (s : State) (k : Nat) : State :=
  let s := s.startReadbacks
  if s.flash.rereadQ.contains k = false ∨ s.segIsLost k then s
  else
    match s.baseOf k with
    | none => { s with flash := { s.flash with rereadQ := s.flash.rereadQ.filter (· != k) } }
    | some e =>
      if s.enabled (grpPage (dieGroup (eDie e))) = false then s
      else
        { s with flash := { s.flash with rereadQ := s.flash.rereadQ.filter (· != k) } }.bgRead .reread (k :: (s.keysAt e).filter (· != k)) e 0

/-! ### The drain (R199) -/

/-- Keys of one frame of the drain: a grain, or the four of its long frame. -/
def State.drainUnit (s : State) (k : Nat) : List Nat :=
  if nbit (s.inst (keyInst k)).iflags 1 then (List.range 4).map (· + k / 4 * 4) else [k]

/-- Blocks become lost for reads until they are written again (R114). -/
def State.loseBlocks (s : State) (i : Nat) (lbas : List Nat) : State :=
  s.modInst i fun x => { x with lostBlocks := x.lostBlocks ++ lbas.filter fun l => !x.lostBlocks.contains l }

/-- Blocks of a grain as logical blocks. -/
def grainLbas (grain mask : Nat) : List Nat := (maskBlocks mask).map (· + 4 * grain)

/-- Change a frame of the drain. -/
def State.modUnit (s : State) (u : Nat) (f : MergeUnit → MergeUnit) : State :=
  { s with flash := { s.flash with units := SMap.modify s.flash.units u f } }

/-- A grain's whole content for a merge: its cached blocks over its flash copy, `base`, zeroes where there is none; none where a frame does not
decode. -/
def State.grainBytes (s : State) (k : Nat) (base : List Byte) : Option (List Byte) :=
  match overlay ((s.chain k).1.map fun r => frameSrc r.2) 15 (.ok base) with
  | .error _ => none
  | .ok bs => some bs.flatten

/-- With every flash copy read, the blocks of a frame are combined; blocks that a `LOST` base held are lost (R114, R199, R245). -/
def State.combine (s : State) (u : Nat) : State :=
  match SMap.find s.flash.units u with
  | none => s
  | some x =>
    if x.await ≠ [] then s
    else if x.keys.map s.mapAt ≠ x.olds then { s with flash := { s.flash with units := SMap.del s.flash.units u } }
    else
      let parts := x.keys.map fun k => (k, s.grainBytes k (SMap.getD [] x.bases k))
      match parts.find? fun p => p.2.isNone with
      | some p => s.unitFail u p.1
      | none =>
        let s := x.keys.foldl (fun s k =>
          let c := s.chain k
          if eKind c.2 = 3 ∧ carried c.1 ≠ 15 then s.loseBlocks (keyInst k) (grainLbas (keyGrain k) (15 - carried c.1)) else s) s
        s.modUnit u fun x => { x with data := (parts.filterMap (·.2)).flatten, bases := [] }

/-- A flash copy that a frame of the drain awaits has been read and decoded. -/
def State.unitBase (s : State) (u : Nat) (keys : List Nat) (d : List Byte) : State :=
  (s.modUnit u fun x =>
    { x with await := x.await.filter fun k => !keys.contains k
             bases := keys.foldl (fun m k => SMap.put m k (grainOf ((s.baseOf k).getD 0) d)) x.bases }).combine u

/-- A grain, or the four of a long frame, can be drained: its newest data is cached and not being programmed, no frame of it is being made, its
segment is at hand. -/
def State.drainable (s : State) (ks : List Nat) : Bool :=
  (ks.any fun k => decide (eKind (s.mapAt k) = 2)) && !ks.any s.segIsLost &&
    (ks.all fun k => ((s.chain k).1.head?).all fun r => !r.2.programming) &&
    !s.flash.units.any fun (u : Nat × MergeUnit) => ks.any u.2.keys.contains

/-- The drain begins a frame: a single record with the whole grain is used as it is; else each flash copy that is needed is read (R199). -/
def State.openUnit (s : State) (ks : List Nat) : State :=
  if s.drainable ks = false then s
  else
    let u := s.flash.nextUnit
    let chains := ks.map s.chain
    let bases := ks.filterMap fun k => (s.baseOf k).map fun e => (frameKey e, k)
    let asn := ((chains.flatMap fun c => c.1.map fun r => r.2.asn) ++ bases.map fun e => SMap.getD 0 s.flash.asnOf e.1).foldl max 0
    let x : MergeUnit := { keys := ks, olds := ks.map s.mapAt, asn := asn }
    let add := fun (x : MergeUnit) => { s with flash := { s.flash with nextUnit := u + 1, units := SMap.put s.flash.units u x } }
    let whole := match ks, chains with
      | [_], [([(_, r)], _)] => if r.mask = 15 ∧ r.made = 15 then some r else none
      | _, _ => none
    match whole with
    | some r => if r.poison then (add x).unitFail u (ks.headD 0) else add { x with frame := r.frame, arr := r.arr }
    | none =>
      let s := add { x with await := bases.map (·.2) }
      ((bases.map (·.1)).eraseDups.foldl (fun s f =>
        s.bgRead .merge ((bases.filter fun e => decide (e.1 = f)).map (·.2)) (BitVec.ofNat 64 f) u) s).combine u

/-- The drain begins a frame for every grain whose newest data is cached. -/
def State.openUnits (s : State) : State :=
  ((s.flash.map.filter fun e => decide (eKind e.2 = 2)).map fun e => s.drainUnit e.1).eraseDups.foldl (fun s ks => s.openUnit ks) s

/-- The group that takes the next skein of the drain: the groups that have dies take turns (R199). -/
def State.drainGroup (s : State) : Nat :=
  (((List.range 4).map fun i => (s.flash.turn + i) % 4).find? fun g => decide (s.grpBlocks g ≠ 0)).getD s.flash.turn

/-- The frames that have been made, in order of arrival (R199). -/
def State.madeUnits (s : State) : List (Nat × MergeUnit) :=
  (s.flash.units.filter fun u => decide (u.2.frame ≠ [])).mergeSort fun a b => decide (a.2.arr ≤ b.2.arr)

/-- The move of a frame of the drain: the frame is encrypted with its instance's key and the tweak of its first grain (R172). -/
def State.unitMove (s : State) (u : MergeUnit) : Move :=
  let k := u.keys.headD 0
  { keys := u.keys, olds := u.olds, frame := s.cipher true (keyInst k) (keyGrain k) u.frame, asn := u.asn }

/-- A frame whose grains have changed since it was begun is no longer made: a writer has won (R176). -/
def State.dropStale (s : State) : State :=
  { s with flash := { s.flash with units := s.flash.units.filter fun u => decide (u.2.keys.map s.mapAt = u.2.olds) } }

/-- The cache drain (R199): frames begin for what is cached, and those made go, in order of arrival, into a skein of the group whose turn it
is. None starts once a power-fail sequence has begun (R474). -/
def State.drain (s : State) (p : Place) : State :=
  if s.pwr.pf then s
  else
    let s := s.dropStale.openUnits
    let g := s.drainGroup
    if p.group ≠ g then s
    else
      let old := s.flash.nextSkein
      let t := s.startSkein p (s.madeUnits.map fun u => s.unitMove u.2)
      match SMap.find t.flash.skeins old with
      | none => t
      | some sk =>
        let moved := sk.moves.flatMap Move.keys
        { t with flash := { t.flash with turn := (g + 1) % 4
                                         units := t.flash.units.filter fun u => !u.2.keys.any moved.contains } }

/-! ### Commands -/

/-- `DIE_DISPATCH` (R195). -/
def execDieDispatch (die : Nat) (s : State) : Host.Outcome State Fault Refusal := .next (s.dieDispatch die)
/-- `SENSE_COMPLETE` (R189). -/
def execSenseComplete (die : Nat) (s : State) : Host.Outcome State Fault Refusal := .next (s.senseDone die)
/-- `SUSPEND_COMPLETE` (R193). -/
def execSuspendComplete (die : Nat) (s : State) : Host.Outcome State Fault Refusal := .next (s.suspendDone die)
/-- `PROGRAM_COMPLETE` (R200). -/
def execProgramComplete (die : Nat) (s : State) : Host.Outcome State Fault Refusal := .next (s.programDone die)
/-- `PROGRAM_FAILURE` (R201). -/
def execProgramFailure (die : Nat) (place : Place) (s : State) : Host.Outcome State Fault Refusal := .next (s.programFailed die place)
/-- `ERASE_COMPLETE` (R177). -/
def execEraseComplete (die : Nat) (s : State) : Host.Outcome State Fault Refusal := .next (s.eraseDone die)
/-- `ERASE_FAILURE` (R202). -/
def execEraseFailure (die : Nat) (s : State) : Host.Outcome State Fault Refusal := .next (s.eraseFailed die)
/-- `CHANNEL_TRAINING_DONE` (R168). -/
def execChannelTrainingDone (ch : Nat) (fail : Bool) (eye : Nat) (dies : List DieIn) (s : State) :
    Host.Outcome State Fault Refusal := .next (s.channelTrained ch fail eye dies)
/-- `MAP_CHECKPOINT` (R180). -/
def execMapCheckpoint (seg : Nat) (s : State) : Host.Outcome State Fault Refusal := .next (s.runCheckpoint seg)
/-- `CACHE_DRAIN` (R199). -/
def execCacheDrain (place : Place) (s : State) : Host.Outcome State Fault Refusal := .next (s.drain place)
/-- `GARBAGE_COLLECTION` (R208). -/
def execGarbageCollection (g : Nat) (place : Place) (s : State) : Host.Outcome State Fault Refusal := .next (s.collect g place)
/-- `WEAR_LEVELLING` (R208). -/
def execWearLevelling (g : Nat) (place : Place) (s : State) : Host.Outcome State Fault Refusal := .next (s.levelWear g place)
/-- `SCRUB` (R208). -/
def execScrub (die block : Nat) (s : State) : Host.Outcome State Fault Refusal := .next (s.scrubBlk die block)
/-- `CALIBRATION` (R208). -/
def execCalibration (die block thresh : Nat) (s : State) : Host.Outcome State Fault Refusal := .next (s.calibrate die block thresh)
/-- `REFRESH` (R191). -/
def execRefresh (keys : List Nat) (place : Place) (s : State) : Host.Outcome State Fault Refusal := .next (s.refresh keys place)
/-- `DIE_REBUILD` (R188). -/
def execDieRebuild (keys : List Nat) (s : State) : Host.Outcome State Fault Refusal := .next (s.rebuildDie keys)
/-- `BACKGROUND_REREAD` (R192). -/
def execBackgroundReread (key : Nat) (s : State) : Host.Outcome State Fault Refusal := .next (s.reread key)

end Sys2Proof.Machine
end

