-- ==== Sys2Proof/Machine/Search.lean ====
section
/-! DEFINITION. The associative search unit (R271 to R296): matching, commands' searches, update records, sweeps, the
firmware interface and entry checks. -/

namespace Sys2Proof.Machine

/-- Page of a bank. -/
def sbPage (b : Nat) : Nat := 0x1A0 + b

/-- An entry by global index (R271). -/
def State.entry (s : State) (g : Nat) : SrchEntry := SMap.getD {} s.srch.entries g
/-- Write an entry in its slot. -/
def State.setEntry (s : State) (g : Nat) (e : SrchEntry) : State :=
  { s with srch := { s.srch with entries := SMap.setD {} s.srch.entries g e } }.count (sbPage (g / 65536)) 0x048

/-- Whether an entry matches (R274). -/
def matchEntry (e : SrchEntry) (key mask : Nat) (global : Bool) : Bool :=
  let c := if global then 2 ^ 160 - 1 else e.mask
  e.valid && decide ((key ^^^ e.key) &&& c &&& mask = 0)

/-- The matching entries of a bank in the enabled segments (R274). -/
def State.matching (s : State) (b key mask segs : Nat) (global : Bool) : List (Nat × SrchEntry) :=
  s.srch.entries.filter fun e =>
    decide (e.1 / 65536 = b) && nbit segs (e.1 % 65536 / 4096) && matchEntry e.2 key mask global

/-- A search's result (R275): `index` is the winner's within the bank. -/
def searchResult (ms : List (Nat × SrchEntry)) : SrchResult :=
  let best := ms.foldl (fun (acc : Option (Nat × SrchEntry)) m => match acc with
    | none => some m
    | some a => if m.2.prio < a.2.prio ∨ (m.2.prio = a.2.prio ∧ m.1 < a.1) then some m else acc) none
  match best with
  | none => {}
  | some w =>
    { hit := true, multi := decide (ms.length > 1),
      tie := decide ((ms.filter fun m => decide (m.2.prio = w.2.prio)).length > 1),
      index := w.1 % 65536, assoc := w.2.assoc, prio := w.2.prio, nMatch := ms.length }

/-- One search in its slot, counted (R296). -/
def State.search (s : State) (b key mask segs : Nat) (global : Bool) : State × SrchResult :=
  let r := searchResult (s.matching b key mask segs global)
  let s := s.count (sbPage b) 0x044
  let s := if r.multi then s.count (sbPage b) 0x04C else s
  (if r.tie then s.count (sbPage b) 0x050 else s, r)

/-- Whether a bank takes slots (R551). -/
def State.bankOn (s : State) (b : Nat) : Bool := s.enabled (sbPage b)

/-! ### Slots of a 1 us window (R277, R288, R294) -/

/-- What takes a slot of a bank: a record of an accepted update, a booked search, a classification, any other operation. -/
inductive SlotKind where
  | update | booked | classification | unbooked
  deriving DecidableEq, Repr

/-- What a bank has performed in the present window. -/
def State.slotUse (s : State) (b : Nat) : SlotUse := SMap.getD {} s.srch.used b

/-- Reserved update slots of a bank per fine slot (R288). -/
def State.updSlots (s : State) (b : Nat) : Nat := s.fld (sbPage b) 0x060 9 0

/-- Searches that Cadence booked on a bank for the present window. -/
def State.bankBooked (s : State) (b : Nat) : Nat :=
  ((s.cad.bookings.filter fun k => decide (k.res = 2179 + b) && !k.coarse && decide (k.slot = s.now)).map (·.amt)).sum

/-- Slots of the window that booked operations and update records have yet to take. -/
def State.slotsAhead (s : State) (b : Nat) : Nat :=
  (s.bankBooked b - (s.slotUse b).booked) + (s.updSlots b - (s.slotUse b).upd)

/-- Datagrams that wait for SB0. -/
def State.clsWaiting (s : State) (b : Nat) : Nat := if b = 0 then (s.host.clsq.map fun q => q.2.length).sum else 0

/-- A bank has a slot for an operation in the present window: the cap of R294 counts them all, and an operation leaves the slots that those
before it in the order of R277 may still take. DESIGN CHOICE (log entry 150): the window is the finest time of the model. -/
def State.slotLeft (s : State) (b : Nat) (k : SlotKind) : Bool :=
  let u := s.slotUse b
  match k with
  | .update => decide (u.ops < s.srch.cap) && decide (u.upd < s.updSlots b)
  | .booked => decide (u.ops < s.srch.cap)
  | .classification => decide (u.ops + s.slotsAhead b < s.srch.cap)
  | .unbooked => decide (u.ops + s.slotsAhead b + s.clsWaiting b < s.srch.cap)

/-- An operation takes its slot. -/
def State.spendSlot (s : State) (b : Nat) (k : SlotKind) : State :=
  { s with srch := { s.srch with used := SMap.updD {} s.srch.used b fun u =>
      { ops := u.ops + 1, booked := u.booked + b2n (decide (k = .booked)), upd := u.upd + b2n (decide (k = .update)) } } }

/-- The background scheduler gives a periodic kind its time while no repair waits (R509). -/
def State.mayPeriodic (s : State) : Bool := s.enabled 0x1F0 && !s.anyRepair

/-! ### Update queue (R288, R289) -/

/-- The bank of an update or a search. -/
def State.srchBank (s : State) (it : Item) : Nat :=
  if it.op = 0x0C ∧ nbit it.cflags 0 then 0 else (s.inst it.inst).bank

/-- Whether a lower-ASN search or update of the item's instance on its bank still has slots to come (R289). -/
def State.lowerSlots (s : State) (it : Item) : Bool :=
  s.cmd.items.any fun e =>
    decide (e.2.op = 0x0B ∨ e.2.op = 0x0C) && decide (e.2.inst = it.inst) && decide (e.2.asn < it.asn) &&
      decide (e.2.asn ≠ 0) && !e.2.finished && e.2.outstanding && !e.2.aborted && decide (e.2.givenTo < e.2.count) &&
      decide (s.srchBank e.2 = s.srchBank it)

/-- Key record `k` of a `SEARCH` (R283): key, mask, segment enables within the bank, mode. -/
def State.keyRecord (s : State) (it : Item) (k : Nat) : Nat × Nat × Nat × Bool :=
  let o := 48 * k
  (be it.params o 20, be it.params (o + 20) 20, be it.params (o + 40) 2 * 2 ^ (s.inst it.inst).segStart,
    nbit (be it.params (o + 42) 2) 0)

/-- Slots that a search has booked on its bank in windows after the present one. -/
def State.bookedLater (s : State) (n b : Nat) : Nat :=
  ((s.cad.bookings.filter fun k => decide (k.item = n) && decide (k.res = 2179 + b) &&
    (if k.coarse then decide (s.now / 1000 < k.slot) else decide (s.now < k.slot))).map (·.amt)).sum

/-- The next key of a `SEARCH` takes its slot, where it has one in this window: of an admitted search, a booked one. -/
def State.keyTurn (s : State) (n : Nat) (it : Item) : Bool :=
  let b := s.srchBank it
  decide (it.givenTo < it.count) && s.slotLeft b (if it.promised then .booked else .unbooked) &&
    (!it.promised || decide (s.bookedLater n b < it.count - it.givenTo))

/-- Search the keys of a `SEARCH` that have slots now, at most `f` of them. -/
def State.searchKeys (n : Nat) : Nat → State → State
  | 0, s => s
  | f + 1, s =>
    match s.item n with
    | none => s
    | some it =>
      if s.keyTurn n it = false then s
      else
        let b := s.srchBank it
        let (key, mask, segs, glob) := s.keyRecord it it.givenTo
        let (s, r) := s.search b key mask segs glob
        let s := { s with srch := { s.srch with pipe := s.srch.pipe ++ [(b, n + 1, r)] } }.spendSlot b (if it.promised then .booked else .unbooked)
        State.searchKeys n f (s.modItem n fun x => { x with givenTo := it.givenTo + 1 })

/-- Perform the searches of a `SEARCH` whose turn it is: each key takes one slot (R277, R285, R289). -/
def State.searchGo (s : State) (n : Nat) : State :=
  match s.item n with
  | none => s
  | some it =>
    if it.op ≠ 0x0B ∨ it.finished ∨ s.bankOn (s.srchBank it) = false ∨ s.lowerSlots it then s
    else s.searchKeys n (it.count - it.givenTo)

/-- Searches whose turn has come, in ASN order of the item numbers. -/
def State.searchAll (s : State) : State :=
  (s.cmd.items.filter fun e => decide (e.2.op = 0x0B) && decide (e.2.state = .running)).foldl (fun s e => s.searchGo e.1) s

/-- The result record of a key (R285). -/
def State.resultRecord (s : State) (it : Item) (r : SrchResult) : List Byte :=
  let base := 4096 * (s.inst it.inst).segStart
  beBytes 4 (if r.hit then r.index - base else 0xFFFFFFFF) ++ beBytes 4 r.assoc ++ beBytes 2 r.prio ++
    beBytes 2 (b2n r.hit + 2 * b2n r.multi + 4 * b2n r.tie + 8 * b2n r.err) ++ beBytes 4 r.nMatch

/-- Write the result registers of a firmware search (R293). -/
def State.fwResult (s : State) (r : SrchResult) : State :=
  let fl := b2n r.hit + 2 * b2n r.multi + 4 * b2n r.tie + 8 * b2n r.err
  let s := s.setReg 0x1A4 0x090 (BitVec.ofNat 32 (2 ^ 31 + 2 ^ 16 * fl + r.index))
  let s := ((s.setReg 0x1A4 0x094 (BitVec.ofNat 32 r.assoc)).setReg 0x1A4 0x098 (BitVec.ofNat 32 r.prio)).setReg 0x1A4 0x09C
    (BitVec.ofNat 32 r.nMatch)
  { s with srch := { s.srch with fwOp := 0, fwSearched := false } }.raise 0x1A4 0

/-- The winner's fields as read out (R275): an uncorrectable PRIO or ASSOC sets `ERROR` and returns ASSOC 0; what an
uncorrectable PRIO reads as is open. -/
def State.readOut (s : State) (r : SrchResult) (badPrio badAssoc : Bool) : State × SrchResult :=
  if r.hit = false ∨ (badPrio = false ∧ badAssoc = false) then (s, r)
  else
    let (p, s) := if badPrio then s.free else (r.prio, s)
    (s, { r with err := true, assoc := 0, prio := p % 65536 })

/-- A bank's oldest result is ready (R278). -/
def State.searchReady (s : State) (b : Nat) (badPrio badAssoc : Bool) : State :=
  let (x, rest) := takeFirst (fun (e : Nat × Nat × SrchResult) => decide (e.1 = b)) s.srch.pipe
  match x with
  | none => s
  | some (_, owner, r) =>
    let (s, r) := { s with srch := { s.srch with pipe := rest } }.readOut r badPrio badAssoc
    if owner = 0 then s.fwResult r
    else
      match s.item (owner - 1) with
      | none => s
      | some it =>
        let s := s.modItem (owner - 1) fun x => { x with out := x.out ++ s.resultRecord it r, pos := x.pos + 1 }
        if it.pos + 1 = it.count then s.finish (owner - 1) stSuccess else s

/-! ### Update records (R286 to R291) -/

/-- Record `k` of an update: ENTRY, OP and the new entry; the third part says whether its fields are valid apart from the
region (R286). -/
def updRecord (it : Item) (k : Nat) : Nat × Nat × SrchEntry × Bool :=
  let r := readBytes it.wdata (64 * k) 64
  let op := be r 4 1
  let e : SrchEntry := { valid := decide (op = 1), prio := be r 6 2, assoc := be r 8 4, key := be r 12 20, mask := be r 32 20 }
  let ok := decide (op = 1 ∨ op = 2) && decide (be r 5 1 = 0) && decide (be r 52 12 = 0) &&
    (decide (op = 1) || decide (be r 6 46 = 0))
  (be r 0 4, op, e, ok)

/-- A classifier entry's conditions (R281, R290). -/
def State.clsOk (s : State) (e : SrchEntry) : Bool :=
  let i := s.inst (e.assoc % 1024)
  decide (nbits e.mask 15 12 = 15) && decide (nbits e.assoc 30 10 = 0) && decide (i.state = .active) &&
    nbit i.portMask (nbits e.key 15 12)

/-- RESULT of an update (R291). -/
def updResult (applied rejected status : Nat) : List Byte :=
  beBytes 4 applied ++ beBytes 4 rejected ++ beBytes 2 status ++ zeros 6

/-- A deadline fault is counted (R138). -/
def State.countFault (s : State) (unit : Nat) : State :=
  ((s.count 0x010 0x06C).raise 0x010 0).post 0x0020 unit 0x010 unit

/-- Take an update out of its bank's queue. -/
def State.updDone (s : State) (n : Nat) : State :=
  { s with srch := { s.srch with updQ := s.srch.updQ.filter (· != n) } }

/-- The next record of an update in its reserved slot (R288 to R291): written, rejected, or missed where firmware has not
delivered it. -/
def State.updSlot (s : State) (n : Nat) (delivered : Bool) : State :=
  match s.item n with
  | none => s
  | some it =>
    let b := s.srchBank it
    let first := s.srch.updQ.find? fun m => match s.item m with
      | some x => decide (s.srchBank x = b)
      | none => false
    let kind := if it.promised then SlotKind.update else .unbooked
    if it.op ≠ 0x0C ∨ it.finished ∨ first ≠ some n ∨ s.bankOn b = false ∨ s.lowerSlots it then s
    else if s.slotLeft b kind = false ∨ (it.promised ∧ s.now < it.startUs + s.fld 0x1A4 0x0A0 4 0) then s
    else
      let k := it.givenTo
      let close := fun (s : State) (status rej rs : Nat) =>
        (((s.modItem n fun x => { x with givenTo := it.count }).finish n status (updResult k rej rs)).updDone n).searchAll
      if delivered = false then
        if it.promised then (close s stDeadline k 0).countFault (2179 + b) else s
      else
        let (entry, op, e, ok) := updRecord it k
        let i := s.inst it.inst
        let cls := nbit it.cflags 0
        let inside := if cls then decide (entry < 16384) else decide (entry < 4096 * i.segs)
        if !ok || !inside || (cls && decide (op = 1) && !s.clsOk e) then close s stSuccess k 0x0102
        else
          let g := 65536 * b + (if cls then entry else 4096 * i.segStart + entry)
          let s := (s.setEntry g (if op = 1 then e else { s.entry g with valid := false })).spendSlot b kind
          let s := s.modItem n fun x => { x with givenTo := k + 1, pos := k + 1 }
          if k + 1 = it.count then
            ((s.finish n stSuccess (updResult it.count 0xFFFFFFFF 0)).updDone n).searchAll
          else s

/-! ### Sweeps and checks -/

/-- Whether a classifier entry names an instance and one of the ports. -/
def SrchEntry.names (e : SrchEntry) (i ports : Nat) : Bool :=
  e.valid && decide (e.assoc % 1024 = i) && nbit ports (nbits e.key 15 12)

/-- The oldest invalidation of a classifier entry takes its slot (R152, R160): the entry is written where it still names what it named. -/
def State.clsSweep (s : State) : State :=
  match s.srch.clsSweeps with
  | [] => s
  | (g, i, ports) :: rest =>
    let s := { s with srch := { s.srch with clsSweeps := rest } }
    if (s.entry g).names i ports then s.setEntry g { s.entry g with valid := false } else s

/-- The next entry of a bank's oldest sweep, in an unbooked slot (R277, R280). On SB0, which holds no instance's region, the sweep of
classifier entries. -/
def State.sweepSlot (s : State) (b : Nat) : State :=
  if s.bankOn b = false ∨ s.slotLeft b .unbooked = false then s
  else if b = 0 then (if s.srch.clsSweeps = [] then s else s.clsSweep.spendSlot 0 .unbooked)
  else
    let (x, rest) := takeFirst (fun (e : Nat × Nat) => decide (e.1 / 65536 = b)) s.srch.sweeps
    match x with
    | none => s
    | some (g, left) =>
      let s := (s.setEntry g { s.entry g with valid := false }).spendSlot b .unbooked
      { s with srch := { s.srch with sweeps := if left ≤ 1 then rest else (g + 1, left - 1) :: rest } }

/-- Start a sweep of a region (R280). -/
def State.startSweep (s : State) (b seg n : Nat) : State :=
  if n = 0 then s
  else { s with srch := { s.srch with sweeps := s.srch.sweeps ++ [(65536 * b + 4096 * seg, 4096 * n)] } }

/-- Whether a region's sweep has not ended. -/
def State.sweeping (s : State) (b seg n : Nat) : Bool :=
  s.srch.sweeps.any fun e => decide (65536 * b + 4096 * seg ≤ e.1) && decide (e.1 < 65536 * b + 4096 * (seg + n))

/-- Classifier entries that name an instance and one of the ports are to be invalidated, each in one update slot of SB0 (R152, R160). -/
def State.dropClassifier (s : State) (i : Nat) (ports : Nat) : State :=
  let gs := s.srch.entries.filter fun e => decide (e.1 < 16384) && e.2.names i ports
  { s with srch := { s.srch with clsSweeps := s.srch.clsSweeps ++ gs.map fun e => (e.1, i, ports) } }

/-- Whether classifier entries of an instance still wait to be invalidated. -/
def State.clsSweeping (s : State) (i : Nat) : Bool := s.srch.clsSweeps.any fun e => decide (e.2.1 = i)

/-- The periodic check of an entry in an unbooked slot (R295): `err` 1 is a single-bit error of PRIO, ASSOC or VALID, corrected in place; 2 is
any other error. -/
def State.checkEntry (s : State) (b i err : Nat) : State :=
  if s.bankOn b = false ∨ b ≥ 4 ∨ i ≥ 65536 ∨ s.mayPeriodic = false ∨ s.slotLeft b .unbooked = false then s
  else if err ≠ 2 then s.spendSlot b .unbooked
  else
    let s := s.spendSlot b .unbooked
    let g := 65536 * b + i
    let es := SMap.setD {} s.srch.entries g { s.entry g with valid := false }
    let s := { s with srch := { s.srch with entries := es } }
    let s := (s.count (sbPage b) 0x054).setFld (sbPage b) 0x058 15 0 i
    (s.fault 0x0032 (sbPage b) 0x11 b i).raise (sbPage b) 0

/-! ### Firmware operations (R293) -/

/-- A register field of five words as a 160-bit number. -/
def State.fw160 (s : State) (off : Nat) : Nat :=
  (List.range 5).foldl (fun a w => a + (s.reg 0x1A4 (off + 4 * w)).toNat * 2 ^ (32 * w)) 0

/-- The latched firmware operation takes an unbooked slot (R293), where its bank and the unit take operations (R551). -/
def State.fwSlot (s : State) : State :=
  let f := s.srch
  if f.fwOp = 0 ∨ f.fwSearched ∨ s.bankOn f.fwBank = false ∨ s.enabled 0x1A4 = false ∨ s.slotLeft f.fwBank .unbooked = false then s
  else
  let s := s.spendSlot f.fwBank .unbooked
  if f.fwOp = 1 then
    let (s, r) := s.search f.fwBank f.fwEntry.key f.fwEntry.mask f.fwSegEn f.fwGlobal
    { s with srch := { s.srch with pipe := s.srch.pipe ++ [(f.fwBank, 0, r)], fwSearched := true } }
  else
    let g := 65536 * f.fwBank + f.fwIndex
    let s := s.setEntry g (if f.fwOp = 2 then f.fwEntry else { s.entry g with valid := false })
    let s := { s with srch := { s.srch with fwOp := 0 } }
    (s.setFld 0x1A4 0x090 31 30 2).raise 0x1A4 0

/-- Work waits for a slot of a bank. -/
def State.bankWaits (s : State) (b : Nat) : Bool :=
  decide (0 < s.clsWaiting b) || (decide (s.srch.fwOp ≠ 0) && !s.srch.fwSearched && decide (s.srch.fwBank = b)) ||
    (s.srch.sweeps.any fun e => decide (e.1 / 65536 = b)) || (decide (b = 0) && !s.srch.clsSweeps.isEmpty) ||
    s.cmd.items.any fun e => decide (e.2.op = 0x0B) && decide (e.2.state = .running) && !e.2.finished && decide (e.2.givenTo < e.2.count) &&
      decide (s.srchBank e.2 = b)

/-- A window ends (R294): the cycles that the cap kept idle while work waited are counted, the cap of the step now in force is latched, and the
work that waited takes slots of the new window. -/
def State.nextWindow (s : State) (cap : Nat) : State :=
  let s := (List.range 4).foldl (fun s b =>
    if s.bankWaits b ∧ s.srch.cap ≤ (s.slotUse b).ops then s.countN (sbPage b) 0x05C (1000 - s.srch.cap) else s) s
  { s with srch := { s.srch with cap := cap, used := [] } }.searchAll.fwSlot

/-- A write of `FW_CMD`: latched with the staging registers, or ignored while an operation is pending. -/
def State.fwCmd (s : State) (op bank index : Nat) (global : Bool) : State :=
  if s.srch.fwOp ≠ 0 then s.capture 0x1A4 0x10 0 0x040
  else
    let e : SrchEntry := { valid := true, key := s.fw160 0x050, mask := s.fw160 0x070, prio := s.fld 0x1A4 0x048 15 0,
                           assoc := (s.reg 0x1A4 0x04C).toNat }
    let f := { s.srch with fwOp := op, fwBank := bank % 4, fwIndex := index % 65536, fwGlobal := global, fwEntry := e }
    let s := { s with srch := { f with fwSegEn := s.fld 0x1A4 0x044 15 0, fwSearched := false } }
    (s.setFld 0x1A4 0x090 31 30 1).fwSlot

/-- A write of `FW_CMD` reaches the page: an error while PD11 is not on (R28), else the operation. -/
def State.fwWrite (s : State) (op bank index : Nat) (global : Bool) : State :=
  if s.pageOn 0x1A4 = false then s.count 0x003 0x020 else s.fwCmd op bank index global

/-! ### Commands -/

/-- `SEARCH_RESULT` (R278): the oldest result of a bank; its winner's PRIO or ASSOC may be read with an uncorrectable
error (R275). -/
def execSearchResult (b : Nat) (badPrio badAssoc : Bool) (s : State) : Host.Outcome State Fault Refusal :=
  .next (s.searchReady b badPrio badAssoc)
/-- `UPDATE_RECORD_SLOT` (R290): the next record of an update; `delivered` says that firmware has delivered it. -/
def execUpdateRecordSlot (item : Nat) (delivered : Bool) (s : State) : Host.Outcome State Fault Refusal :=
  .next (s.updSlot item delivered)
/-- `REGION_SWEEP` (R280). -/
def execRegionSweep (b : Nat) (s : State) : Host.Outcome State Fault Refusal := .next (s.sweepSlot b)
/-- `ENTRY_PARITY_CHECK` (R295). -/
def execEntryParityCheck (b i err : Nat) (s : State) : Host.Outcome State Fault Refusal := .next (s.checkEntry b i err)
/-- `FW_SEARCH` (R293). -/
def execFwSearch (bank : Nat) (global : Bool) (s : State) : Host.Outcome State Fault Refusal :=
  .next (s.fwWrite 1 bank 0 global)
/-- `FW_WRITE` (R293). -/
def execFwWrite (bank index : Nat) (s : State) : Host.Outcome State Fault Refusal :=
  .next (s.fwWrite 2 bank index false)
/-- `FW_INVALIDATE` (R293). -/
def execFwInvalidate (bank index : Nat) (s : State) : Host.Outcome State Fault Refusal :=
  .next (s.fwWrite 3 bank index false)

end Sys2Proof.Machine
end

