-- ==== Sys2Proof/Machine/Sha.lean ====
section
/-! DEFINITION. SHA-2 and HMAC (R253, R254; FIPS 180-4, FIPS 198-1), on chaining states of eight words kept as numbers. -/

namespace Sys2Proof.Machine

/-- The words of `w` bits that a number spells, most significant first. -/
def wordsOf (w : Nat) : Nat → Nat → List Nat
  | 0, _ => []
  | n + 1, x => wordsOf w n (x / 2 ^ w) ++ [x % 2 ^ w]

/-- The first 64 bits of the fractional parts of the cube roots of the first 80 primes: the round constants of SHA-512, five words to a
number. `Sys2Proof.Tests.test_round_words` checks them against the roots. -/
def roundWords : List Nat :=
  (0x428a2f98d728ae227137449123ef65cdb5c0fbcfec4d3b2fe9b5dba58189dbbc3956c25bf348b538 ::
   0x59f111f1b605d019923f82a4af194f9bab1c5ed5da6d8118d807aa98a303024212835b0145706fbe ::
   0x243185be4ee4b28c550c7dc3d5ffb4e272be5d74f27b896f80deb1fe3b1696b19bdc06a725c71235 ::
   0xc19bf174cf692694e49b69c19ef14ad2efbe4786384f25e30fc19dc68b8cd5b5240ca1cc77ac9c65 ::
   0x2de92c6f592b02754a7484aa6ea6e4835cb0a9dcbd41fbd476f988da831153b5983e5152ee66dfab ::
   0xa831c66d2db43210b00327c898fb213fbf597fc7beef0ee4c6e00bf33da88fc2d5a79147930aa725 ::
   0x06ca6351e003826f142929670a0e6e7027b70a8546d22ffc2e1b21385c26c9264d2c6dfc5ac42aed ::
   0x53380d139d95b3df650a73548baf63de766a0abb3c77b2a881c2c92e47edaee692722c851482353b ::
   0xa2bfe8a14cf10364a81a664bbc423001c24b8b70d0f89791c76c51a30654be30d192e819d6ef5218 ::
   0xd69906245565a910f40e35855771202a106aa07032bbd1b819a4c116b8d2d0c81e376c085141ab53 ::
   0x2748774cdf8eeb9934b0bcb5e19b48a8391c0cb3c5c95a634ed8aa4ae3418acb5b9cca4f7763e373 ::
   0x682e6ff3d6b2b8a3748f82ee5defb2fc78a5636f43172f6084c87814a1f0ab728cc702081a6439ec ::
   0x90befffa23631e28a4506cebde82bde9bef9a3f7b2c67915c67178f2e372532bca273eceea26619c ::
   0xd186b8c721c0c207eada7dd6cde0eb1ef57d4f7fee6ed17806f067aa72176fba0a637dc5a2c898a6 ::
   0x113f9804bef90dae1b710b35131c471b28db77f523047d8432caab7b40c724933c9ebe0a15c9bebc ::
   0x431d67c49c100d4c4cc5d4becb3e42b6597f299cfc657e2a5fcb6fab3ad6faec6c44198c4a475817 :: []).flatMap (wordsOf 64 5)

/-- The first 64 bits of the fractional parts of the square roots of the first eight primes: the initial state of SHA-512. -/
def rootWords : List Nat :=
  wordsOf 64 4 0x6a09e667f3bcc908bb67ae8584caa73b3c6ef372fe94f82ba54ff53a5f1d36f1 ++
  wordsOf 64 4 0x510e527fade682d19b05688c2b3e6c1f1f83d9abfb41bd6b5be0cd19137e2179

/-- The same of the ninth to sixteenth primes: the initial state of SHA-384. -/
def nextRootWords : List Nat :=
  wordsOf 64 4 0xcbbb9d5dc1059ed8629a292a367cd5079159015a3070dd17152fecd8f70e5939 ++
  wordsOf 64 4 0x67332667ffc00b318eb44a8768581511db0c2e0d64f98fa747b5481dbefa4fa4

/-- The round constants: SHA-256 has 64, the upper halves of SHA-512's first ones. -/
def roundConst (big : Bool) : List Nat := if big then roundWords else (roundWords.take 64).map (· / 2 ^ 32)

/-- Rotate right in `w` bits. -/
def ror (w n x : Nat) : Nat := x / 2 ^ n + x % 2 ^ n * 2 ^ (w - n)

/-- The shift amounts of the four sigma functions: big 0, big 1, then small 0 and small 1 (last one a plain shift). -/
structure ShaRot where
  /-- Word width in bits. -/
  w : Nat
  /-- Big sigma 0. -/
  a : Nat × Nat × Nat
  /-- Big sigma 1. -/
  e : Nat × Nat × Nat
  /-- Small sigma 0. -/
  s0 : Nat × Nat × Nat
  /-- Small sigma 1. -/
  s1 : Nat × Nat × Nat

/-- SHA-256's functions. -/
def rot256 : ShaRot := { w := 32, a := (2, 13, 22), e := (6, 11, 25), s0 := (7, 18, 3), s1 := (17, 19, 10) }
/-- SHA-512's functions. -/
def rot512 : ShaRot := { w := 64, a := (28, 34, 39), e := (14, 18, 41), s0 := (1, 8, 7), s1 := (19, 61, 6) }

/-- A big sigma. -/
def sigB (w : Nat) (t : Nat × Nat × Nat) (x : Nat) : Nat := ror w t.1 x ^^^ ror w t.2.1 x ^^^ ror w t.2.2 x
/-- A small sigma. -/
def sigS (w : Nat) (t : Nat × Nat × Nat) (x : Nat) : Nat := ror w t.1 x ^^^ ror w t.2.1 x ^^^ (x / 2 ^ t.2.2)

/-- Extend the message schedule by `n` words; the list is newest first. -/
def schedGo (r : ShaRot) : Nat → List Nat → List Nat
  | 0, ws => ws
  | n + 1, ws =>
    let x := (sigS r.w r.s1 (ws.getD 1 0) + ws.getD 6 0 + sigS r.w r.s0 (ws.getD 14 0) + ws.getD 15 0) % 2 ^ r.w
    schedGo r n (x :: ws)

/-- One round, on the values that the variables a and e have taken, newest first: b, c and d are the older values of a, and f, g and h
those of e. -/
def shaRound (r : ShaRot) (v : List Nat × List Nat) (k w : Nat) : List Nat × List Nat :=
  match v with
  | (a0 :: a1 :: a2 :: a3 :: as, e0 :: e1 :: e2 :: e3 :: es) =>
    let choice := (e0 &&& e1) ^^^ ((2 ^ r.w - 1 - e0) &&& e2)
    let most := (a0 &&& a1) ^^^ (a0 &&& a2) ^^^ (a1 &&& a2)
    let sum := e3 + sigB r.w r.e e0 + choice + k + w
    (((sum + sigB r.w r.a a0 + most) % 2 ^ r.w) :: a0 :: a1 :: a2 :: a3 :: as, ((a3 + sum) % 2 ^ r.w) :: e0 :: e1 :: e2 :: e3 :: es)
  | other => other

/-- All rounds, with their constants and schedule words. -/
def shaRounds (r : ShaRot) : List Nat → List Nat → List Nat × List Nat → List Nat × List Nat
  | k :: ks, w :: ws, v => shaRounds r ks ws (shaRound r v k w)
  | _, _, v => v

/-- Words of a block, most significant byte first. -/
def blockWords (bytes : Nat) : Nat → List Byte → List Nat
  | 0, _ => []
  | n + 1, l => ofBe (l.take bytes) :: blockWords bytes n (l.drop bytes)

/-- The compression function: one block into a chaining state. -/
def shaBlock (big : Bool) (st : List Nat) (block : List Byte) : List Nat :=
  let r := if big then rot512 else rot256
  let ks := roundConst big
  let ws := (schedGo r (ks.length - 16) (blockWords (r.w / 8) 16 block).reverse).reverse
  let v := shaRounds r ks ws (st.take 4, st.drop 4)
  List.zipWith (fun x y => (x + y) % 2 ^ r.w) st (v.1.take 4 ++ v.2.take 4)

/-! ### Algorithms (R253) -/

/-- An ALG of R253 with the 512-bit state. -/
def algBig (alg : Nat) : Bool := decide (alg % 16 ≠ 1)
/-- A valid ALG. -/
def algOk (alg : Nat) : Bool := alg = 1 || alg = 2 || alg = 3 || alg = 0x11 || alg = 0x12 || alg = 0x13
/-- A keyed algorithm. -/
def algHmac (alg : Nat) : Bool := decide (alg ≥ 16)
/-- Block length in bytes. -/
def algBlock (alg : Nat) : Nat := if algBig alg then 128 else 64
/-- Digest length in bytes. -/
def algLen (alg : Nat) : Nat := if alg % 16 = 1 then 32 else if alg % 16 = 2 then 48 else 64
/-- Initial state. -/
def algInit (alg : Nat) : List Nat := if alg % 16 = 1 then rootWords.map (· / 2 ^ 32) else if alg % 16 = 2 then nextRootWords else rootWords

/-- The digest a final state spells (R253). -/
def algDigest (alg : Nat) (st : List Nat) : List Byte :=
  (st.flatMap (beBytes (if algBig alg then 8 else 4))).take (algLen alg)

/-- Padding after a message of `len` bytes in all. -/
def shaPad (alg len : Nat) : List Byte :=
  let b := algBlock alg
  let tail := if algBig alg then 16 else 8
  [0x80] ++ zeros ((b - (len + 1 + tail) % b) % b) ++ beBytes tail (8 * len)

/-- Absorb whole blocks. -/
def shaBlocks (alg : Nat) : Nat → List Nat → List Byte → List Nat
  | 0, st, _ => st
  | n + 1, st, l => shaBlocks alg n (shaBlock (algBig alg) st (l.take (algBlock alg))) (l.drop (algBlock alg))

/-- Finish a message from a chaining state that has absorbed `before` bytes. -/
def shaFinish (alg : Nat) (st : List Nat) (before : Nat) (l : List Byte) : List Byte :=
  let l := l ++ shaPad alg (before + l.length)
  algDigest alg (shaBlocks alg (l.length / algBlock alg) st l)

/-- The hash of a message. -/
def shaHash (alg : Nat) (l : List Byte) : List Byte := shaFinish alg (algInit alg) 0 l

/-- K0 of FIPS 198-1. -/
def hmacK0 (alg : Nat) (key : List Byte) : List Byte :=
  padTo (algBlock alg) (if key.length > algBlock alg then shaHash alg key else key)

/-- The chaining state after one block of K0 xor a pad byte. -/
def hmacState (alg : Nat) (key : List Byte) (pad : Byte) : List Nat :=
  shaBlock (algBig alg) (algInit alg) ((hmacK0 alg key).map (· ^^^ pad))

/-- The keyed digest of a message. -/
def hmac (alg : Nat) (key l : List Byte) : List Byte :=
  shaFinish alg (hmacState alg key 0x5C) (algBlock alg)
    (shaFinish alg (hmacState alg key 0x36) (algBlock alg) l)

/-- SHA-256. -/
def sha256 (l : List Byte) : List Byte := shaHash 1 l

end Sys2Proof.Machine
end

