-- ==== Sys2Proof/Machine/Phys.lean ====
section
/-! DEFINITION. The physical address space of R18 without the register space: DRAM, buffer SRAM, stream cluster windows,
boot ROM. The DMA of the engines uses it (R18, R25); control cores reach it through Machine/NollekMem.lean. -/

namespace Sys2Proof.Machine

/-- Where a physical address lies (R18, R21). -/
inductive Place18 where
  | dram (a : Nat) | sram (o : Nat) | imem (core o : Nat) | dmem (core o : Nat) | regs (o : Nat) | rom (o : Nat) | none
  deriving DecidableEq, Repr

/-- Start of buffer SRAM. -/
def sramBase : Nat := 0x80000000000
/-- Start of the stream cluster windows. -/
def winBase : Nat := 0xE0000000000
/-- Start of the register space. -/
def regBase : Nat := 0xF0000000000
/-- Start of the boot ROM. -/
def romBase : Nat := 0xFFFFFF00000

/-- The place of a physical address. -/
def place18 (a : Nat) : Place18 :=
  if a < sramBase then .dram a
  else if a < sramBase + 0xC000000 then .sram (a - sramBase)
  else if winBase ≤ a ∧ a < winBase + 0x10000000 then
    let o := a - winBase
    let k := o / 0x100000 % 16
    let core := o / 0x1000000 * 12 + k
    let w := o % 0x100000
    if k ≥ 12 then .none else if w < 0x10000 then .imem core w else if w < 0x30000 then .dmem core (w - 0x10000) else .none
  else if regBase ≤ a ∧ a < regBase + 0x1000000 then .regs (a - regBase)
  else if romBase ≤ a ∧ a < romBase + 0x100000 then .rom (a - romBase)
  else .none

/-- A core: stream core `cc.k` at 12 × cc + k, control core n at 256 + n. -/
def State.core (s : State) (c : Nat) : Core := SMap.getD {} s.cores c
/-- Write a core. -/
def State.setCore (s : State) (c : Nat) (x : Core) : State := { s with cores := SMap.setD {} s.cores c x }

/-- Whether a cluster's window can be reached: its domain on (R28), `HOLD` active and `IDLE` (R349). -/
def State.winOpen (s : State) (core : Nat) : Bool :=
  s.pageOn (0x1B0 + core / 12) && decide (s.fld (0x1B0 + core / 12) 0x040 0 0 = 1) && decide (s.fld (0x1B0 + core / 12) 0x044 31 31 = 1)

/-- Whether buffer SRAM can be reached: its domain on (R465). DEDUCED: the spec states no response of a stopped or unpowered
SRAM; it is an error response, as for a page of such a domain (R28). -/
def State.sramOn (s : State) : Bool := decide (s.domStat 13 = 0)

/-- One byte; none: an error response (R19, R349). -/
def State.physByte (s : State) (a : Nat) : Option Byte :=
  match place18 a with
  | .dram x => if s.inDram x 1 then some (s.dramByte x) else none
  | .sram o => if s.sramOn then some (s.sramGet o) else none
  | .imem c o => if s.winOpen c then some (SMap.getD 0 (s.core c).imem o) else none
  | .dmem c o => if s.winOpen c then some (SMap.getD 0 (s.core c).dmem o) else none
  | .rom o => some (Config.bootRom o)
  | .regs _ | .none => none

/-- Whether a byte can be written. -/
def State.physWritable (s : State) (a : Nat) : Bool :=
  match place18 a with
  | .dram x => s.inDram x 1
  | .sram _ => s.sramOn
  | .imem c _ | .dmem c _ => s.winOpen c
  | .rom _ | .regs _ | .none => false

/-- Write one byte. -/
def State.physSet (s : State) (a : Nat) (b : Byte) : State :=
  match place18 a with
  | .dram x => s.dramWrite x [b]
  | .sram o => s.sramSet o b
  | .imem c o => s.setCore c { s.core c with imem := SMap.setD 0 (s.core c).imem o b }
  | .dmem c o => s.setCore c { s.core c with dmem := SMap.setD 0 (s.core c).dmem o b }
  | .rom _ | .regs _ | .none => s

/-- Read bytes; none: an error response. -/
def State.physRead (s : State) (a : Nat) : Nat → Option (List Byte)
  | 0 => some []
  | n + 1 =>
    match s.physByte a, s.physRead (a + 1) n with
    | some b, some l => some (b :: l)
    | _, _ => none

/-- Write bytes; none: an error response, with nothing changed (R19, R349). Whole bursts of DRAM are written whole. -/
def State.physWrite (s : State) (a : Nat) (data : List Byte) : Option State :=
  if (List.range data.length).all fun i => s.physWritable (a + i) then
    match place18 a with
    | .dram x => if x + data.length ≤ sramBase then some (s.dramWrite x data) else none
    | _ => some (data.zipIdx.foldl (fun s e => s.physSet (a + e.2) e.1) s)
  else none

/-- Write bytes where they can be written. -/
def State.physPut (s : State) (a : Nat) (data : List Byte) : State := (s.physWrite a data).getD s

/-- Whether a read meets poisoned DRAM (R388). -/
def State.physPoison (s : State) (a n : Nat) : Bool :=
  match place18 a with
  | .dram x => decide (n ≠ 0) && s.readsPoison x n
  | _ => false

/-- The canonical form of what the block stores by address: DRAM, buffer SRAM and the registers list their keys rising, and
list nothing equal to what an unlisted key holds; so equal memories are equal data. -/
def Memory.wf (s : State) : Bool :=
  SMap.wf (fun _ => 0) s.dram.bytes && SMap.wf (sramDefault s.buf.laid) s.buf.sram && SMap.wf regReset s.regs

end Sys2Proof.Machine
end

