-- ==== Sys2Proof/Machine/Engine.lean ====
section
/-! DEFINITION. Compression and decompression engines (R229 to R252): dispatch, frames made and decoded, the firmware
queues of the groups. What a decoded grain's command does with it is in Machine/Scan.lean. -/

namespace Sys2Proof.Machine

/-! ### Groups -/

/-- First page of a group: 0 compression, 1 decompression, 2 digest. -/
def grpBase (grp : Nat) : Nat := if grp = 0 then 0x110 else if grp = 1 then 0x130 else 0x190
/-- Engines of a group. -/
def grpSize (grp : Nat) : Nat := if grp = 0 then 24 else if grp = 1 then 96 else 8
/-- What runs on a group's engines. -/
def State.grpRun (s : State) (grp : Nat) : SMap FrameWork := if grp = 0 then s.eng.ceRun else s.eng.deRun

/-- Whether an engine is enabled. -/
def State.engOn (s : State) (grp e : Nat) : Bool := decide (e < grpSize grp) && s.enabled (grpBase grp + e)

/-- Engines of a group that are enabled. -/
def State.engCount (s : State) (grp : Nat) : Nat := ((List.range (grpSize grp)).filter (s.engOn grp)).length

/-- `RESERVE_PCT` (R130). -/
def State.reservePct (s : State) : Nat := s.fld 0x010 0x040 7 0

/-- The limit of R248 on unbooked work with `n` engines on it already: `RESERVE_PCT` % of the group's capacity, and never
less than one engine. -/
def State.unbookedOk (s : State) (grp n : Nat) : Bool :=
  decide (n = 0) || decide (1000 * (n + 1) * 100 ≤ 1000 * s.engCount grp * s.reservePct)

/-- Put a frame on an engine, or take it off, with `STAT`. -/
def State.setRun (s : State) (grp e : Nat) (w : Option FrameWork) : State :=
  let upd := fun (m : SMap FrameWork) => match w with
    | some w => SMap.put m e w
    | none => SMap.del m e
  let s := if grp = 0 then { s with eng := { s.eng with ceRun := upd s.eng.ceRun } }
    else { s with eng := { s.eng with deRun := upd s.eng.deRun } }
  s.setFld (grpBase grp + e) 0x040 31 28 (match w with
    | some w => 8 + w.prio
    | none => 0)


/-! ### Frames that wait -/

/-- Order class and key of a grain's frame (R249). -/
def State.frameOrder (s : State) (n : Nat) (it : Item) (g : GrainWork) (res : Nat) : Nat × Nat :=
  if g.again then (2, timeKey (if it.promised then some it.deadline else none))
  else if it.promised then (1, (s.bookedSlot n res).getD it.deadline)
  else (3, it.asn)

/-- Blocks a writing item gives a grain, in ascending order (R230): its data, zeroes for `WRITE_ZEROES` and
`DEALLOCATE`. -/
def grainInput (it : Item) (g : GrainWork) : List Byte :=
  (maskBlocks g.mask).flatMap fun b =>
    if it.op = 0x02 then readBytes it.wdata (4096 * (4 * g.grain + b - it.lba)) 4096 else zeros 4096

/-- The stored frame that a grain's senses gave, as it reaches a decompression engine: its codewords, those that could not be corrected made again
from the skein, decrypted with the tweak of the frame's first grain (R172, R191). -/
def State.readFrame (s : State) (g : GrainWork) : List Byte :=
  let raw := if g.rebuilt then s.rebuiltFrame g.entry g.bads else SMap.getD [] s.flash.frames (frameKey g.entry)
  s.cipher false g.inst (g.grain - eSub g.entry) raw

/-- An engine of a group works for a grain. -/
def State.onEngine (s : State) (grp : Nat) (w : Who) (grain : Nat) : Bool :=
  (s.grpRun grp).any fun r => decide (r.2.who = some w) && decide (r.2.grain = grain)

/-- Frames of the drain that wait for a compression engine, and frames read in the background that wait to be decoded (R199, R245). -/
def State.bgFrames (s : State) (grp : Nat) : List FrameWork :=
  if grp = 0 then
    (s.flash.units.filter fun u => decide (u.2.data ≠ []) && !s.onEngine 0 (.unit u.1) (keyGrain (u.2.keys.headD 0))).map fun u =>
      let k := u.2.keys.headD 0
      let i := s.inst (keyInst k)
      { prio := 4, key := u.1, who := some (.unit u.1), inst := keyInst k, grain := keyGrain k, mask := 15, asn := u.2.asn, data := u.2.data,
        level := i.compLevel, deflate := nbit i.iflags 2 }
  else
    (s.flash.bg.filter fun b => decide (b.2.gw.st = .frame) && b.2.kind.decodes && !s.onEngine 1 (.bg b.1) b.2.gw.grain).map fun b =>
      { prio := 4, key := b.1, who := some (.bg b.1), inst := b.2.gw.inst, grain := b.2.gw.grain, mask := 15, data := s.readFrame b.2.gw }

/-- Grain frames that wait for an engine of a group. -/
def State.framesWaiting (s : State) (grp : Nat) : List FrameWork :=
  (s.cmd.items.flatMap fun e =>
    if e.2.finished || isWriting e.2.op != (grp == 0) then []
    else
      (e.2.grains.filter fun g => decide (g.st = .frame) && (grp == 0 || g.settled) && !s.onEngine grp (.item e.1) g.grain).map fun g =>
        let o := s.frameOrder e.1 e.2 g (2176 + grp)
        let i := s.inst g.inst
        { prio := o.1, key := o.2, who := some (.item e.1), inst := g.inst, grain := g.grain, mask := g.mask, asn := e.2.asn,
          data := if grp = 0 then grainInput e.2 g else if g.entry = 0 then [] else s.readFrame g,
          level := i.compLevel, deflate := nbit i.iflags 2 }) ++ s.bgFrames grp

/-- Whether a waiting frame comes before another (R249). -/
def frameBefore (a b : FrameWork) : Bool := decide (a.prio < b.prio) || (decide (a.prio = b.prio) && decide (a.key < b.key))

/-- The lowest-numbered idle engine of a group. -/
def State.idleEngine (s : State) (grp : Nat) : Option Nat :=
  (List.range (grpSize grp)).find? fun e => s.engOn grp e && (SMap.find (s.grpRun grp) e).isNone

/-- Engines of a group on unbooked work. -/
def State.unbookedRun (s : State) (grp : Nat) : Nat := ((s.grpRun grp).filter fun r => decide (r.2.prio ≠ 1)).length

/-- The group's dispatcher (R249): the lowest-numbered idle engine takes the first eligible frame. -/
def State.engineDispatch (s : State) (grp : Nat) : State :=
  let ok := fun (w : FrameWork) => decide (w.prio = 1) || s.unbookedOk grp (s.unbookedRun grp)
  let best := ((s.framesWaiting grp).filter ok).foldl (fun acc w => match acc with
    | none => some w
    | some a => if frameBefore w a then some w else some a) none
  match s.idleEngine grp, best with
  | some e, some w => s.setRun grp e (some w)
  | _, _ => s

/-! ### Firmware queues (R250, R251) -/

/-- Ring size. -/
def State.ringSize (s : State) (grp : Nat) : Nat := 2 ^ s.fld (grpBase grp) 0x0C8 3 0
/-- Address of a descriptor. -/
def State.descAddr (s : State) (grp i : Nat) : Nat :=
  (s.reg (grpBase grp) 0x0C0).toNat + 2 ^ 32 * s.fld (grpBase grp) 0x0C4 11 0 + 32 * i
/-- `FWQ_HEAD`. -/
def State.ringHead (s : State) (grp : Nat) : Nat := s.fld (grpBase grp) 0x0D0 11 0
/-- `FWQ_TAIL`. -/
def State.ringTail (s : State) (grp : Nat) : Nat := s.fld (grpBase grp) 0x0CC 11 0
/-- Next descriptor to start. -/
def State.ringNext (s : State) (grp : Nat) : Nat := SMap.getD 0 s.eng.fwqStarted grp

/-- Whether a value can be written to `FWQ_TAIL` (R252): an index of the ring whose advance leaves at most
2^`SIZE_LOG` − 1 descriptors unprocessed. -/
def State.tailOk (s : State) (grp v : Nat) : Bool :=
  let n := s.ringSize grp
  decide (v < n) &&
    decide ((s.ringTail grp + n - s.ringHead grp) % n + (v + n - s.ringTail grp) % n ≤ n - 1)

/-- A descriptor's work ends with a status and a result length; the write-back follows. -/
def State.descEnd (s : State) (grp i status len : Nat) : State :=
  { s with eng := { s.eng with fwqEnded := SMap.put s.eng.fwqEnded (4096 * grp + i) (status, len) } }

/-- Let `FWQ_HEAD` pass written-back descriptors (R251 step 6). -/
def State.passHead (grp : Nat) : Nat → State → State
  | 0, s => s
  | n + 1, s =>
    let h := s.ringHead grp
    if SMap.getD false s.eng.fwqBack (4096 * grp + h) then
      let s := { s with eng := { s.eng with fwqBack := SMap.del s.eng.fwqBack (4096 * grp + h) } }
      State.passHead grp n (s.setFld (grpBase grp) 0x0D0 11 0 ((h + 1) % s.ringSize grp))
    else s

/-- Count down `USERS` of a key slot (R262). -/
def State.userGone (s : State) (k : Nat) : State := s.setFld 0x198 (0x100 + 4 * k) 16 0 (s.fld 0x198 (0x100 + 4 * k) 16 0 - 1)

/-- The interrupt bit of a descriptor as it is read. -/
def descIrq (d : Option (List Byte)) : Bool :=
  match d with
  | some d => nbit ((d.getD 2 0).toNat) 0
  | none => false

/-- Write a descriptor back (R251 step 6; R269): the field at byte 28, or the compare word at byte 24, then `STATUS`. -/
def State.descBack (s : State) (grp i : Nat) : State :=
  match SMap.find s.eng.fwqEnded (4096 * grp + i) with
  | none => s
  | some (status, len) =>
    let a := s.descAddr grp i
    let s := { s with eng := { s.eng with fwqEnded := SMap.del s.eng.fwqEnded (4096 * grp + i) } }
    let irq := descIrq (s.physRead a 4)
    let s := if grp = 2 then (if len = 0 then s else s.physPut (a + 24) (leBytes 4 len)) else s.physPut (a + 28) (leBytes 4 len)
    let s := s.physPut (a + 3) (leBytes 1 status)
    let s := match SMap.find s.eng.fwqSlot (4096 * grp + i) with
      | some k => { s with eng := { s.eng with fwqSlot := SMap.del s.eng.fwqSlot (4096 * grp + i) } }.userGone (k - 1)
      | none => s
    let s := { s with eng := { s.eng with fwqBack := SMap.put s.eng.fwqBack (4096 * grp + i) true } }
    let s := if irq || grp == 2 then s.raise (grpBase grp) 0 else s
    State.passHead grp (s.ringSize grp) s

/-- Whether a ring has a descriptor to start. -/
def State.ringReady (s : State) (grp : Nat) : Bool :=
  decide (s.fld (grpBase grp) 0x0C8 31 31 = 1) && decide (s.ringNext grp ≠ s.ringTail grp)

/-- An engine's DMA access of `n` bytes from an address: where it reaches into the register space, the engine reports the error response in
its own page (R25), with a code the spec does not state. -/
def State.dmaSeen (s : State) (page a n : Nat) : State :=
  if n ≠ 0 ∧ regBase < a + n ∧ a < regBase + 0x1000000 then
    let c := Config.dmaError page a
    s.capture page (nbits c 30 24) (nbits c 23 16) (nbits c 15 0)
  else s

/-- Move on to the next descriptor. -/
def State.ringTake (s : State) (grp : Nat) : State :=
  { s with eng := { s.eng with fwqStarted := SMap.put s.eng.fwqStarted grp ((s.ringNext grp + 1) % s.ringSize grp) } }

/-- The engine starts on a descriptor's source as it is read (R251 step 4). -/
def State.descRun (s : State) (grp e i op fmt cap : Nat) (src : Option (List Byte)) (poison : Bool) : State :=
  match src with
  | none => s.descEnd grp i 0x21 0
  | some data =>
    if op = 2 ∧ cap < frameOrig data then s.descEnd grp i 0x20 0
    else
      let level := if fmt / 16 = 0 then 0 else fmt % 16
      s.setRun grp e (some { prio := 5, key := i, data := data, level := level, deflate := decide (fmt / 16 = 2),
                             desc := some i, poison := poison })

/-- Start the next descriptor of the compression or decompression group (R251 steps 1 to 4); one that cannot be read gets an error response. -/
def State.descStart (s : State) (grp : Nat) : State :=
  match s.idleEngine grp with
  | none => s
  | some e =>
    if s.ringReady grp = false ∨ s.unbookedOk grp (s.unbookedRun grp) = false ∨ s.framesWaiting grp ≠ [] then s
    else
      let i := s.ringNext grp
      let desc := s.physRead (s.descAddr grp i) 32
      let d := desc.getD []
      let s := (s.ringTake grp).dmaSeen (grpBase grp) (s.descAddr grp i) 32
      let op := le d 0 1
      let fmt := le d 1 1
      let srcLen := le d 4 4
      let src := le d 8 8
      let cap := le d 24 4
      let opOk := if grp = 0 then decide (op = 1) else decide (op = 2 ∨ op = 3)
      let lenOk := if op = 1 then decide (4096 ≤ srcLen) && decide (srcLen ≤ 65536) && decide (srcLen % 4096 = 0)
        else decide (srcLen ≥ 32)
      if desc.isNone then s.descEnd grp i 0x21 0
      else if !opOk || !lenOk || decide (fmt / 16 > 2) || decide (fmt % 16 > 4) || decide (le d 2 1 > 1) then
        s.descEnd grp i 0x22 0
      else if op = 1 ∧ cap < 32 + srcLen then s.descEnd grp i 0x20 0
      else
        (s.dmaSeen (grpBase grp + e) src srcLen).descRun grp e i op fmt cap (s.physRead src srcLen) (s.physPoison src srcLen)

/-- Output of a descriptor goes to `DST` (R250, R251) from the engine whose page is `page`. -/
def State.descOut (s : State) (grp i page : Nat) (out : List Byte) : State :=
  match s.physRead (s.descAddr grp i) 32 with
  | none => s.descEnd grp i 0x21 0
  | some d =>
    if le d 0 1 = 3 then s.descEnd grp i 0 0
    else
      match s.physWrite (le d 16 8) out with
      | none => (s.dmaSeen page (le d 16 8) out.length).descEnd grp i 0x21 0
      | some s => s.descEnd grp i 0 out.length

/-! ### Compression -/

/-- A write's frame is made: what it reserved for the grain beyond it is given back (R205). -/
def State.giveRoom (s : State) (n surplus : Nat) : State :=
  { s with flash := { s.flash with resv := SMap.updD 0 s.flash.resv n fun x => x - surplus } }

/-- What a frame made becomes: a writing item's grain, or a frame of the drain. -/
def State.frameFor (s : State) (w : FrameWork) (frame : List Byte) : State :=
  match w.who with
  | some (.unit u) =>
    let n := s.flash.arrivals
    { s with flash := { s.flash with arrivals := n + 1 } }.modUnit u fun x => { x with frame := frame, arr := n, data := [] }
  | some (.item n) =>
    let given := if (s.item n).any fun it => decide (it.op = 0x02) then w.data.length + 64 else 64
    (s.modGw (.item n) w.grain fun g => { g with st := .done, data := frame }).giveRoom n (given - frame.length)
  | _ => s

/-- A frame leaves a compression engine (R243): the frame, whether step 3 of R243 stored it plain, whether its check failed. -/
def State.frameOut (s : State) (e : Nat) (w : FrameWork) (r : List Byte × Bool × Bool) : State :=
  let pg := 0x110 + e
  let s := ((s.count pg 0x044).countPair pg 0x048 w.data.length).countPair pg 0x050 r.1.length
  let s := if r.2.1 then s.count pg 0x058 else s
  let s := if r.2.2 then ((s.count pg 0x05C).raise pg 1).post 0x0006 e pg w.grain else s
  match w.desc with
  | some i => s.descOut 0 i pg r.1
  | none => s.frameFor w (padFrame r.1)

/-- Whether an engine's encoder can have made a payload for its frame (R231, R241): an all-zero frame and level 0 need none. -/
def FrameWork.makes (w : FrameWork) (cand : List Byte) : Bool :=
  decide (w.level = 0) || w.data.all (· == 0) || encoderMakes w.level w.deflate w.data cand

/-- A descriptor whose source is poisoned in DRAM ends (R244, R389) with a STATUS that the spec does not state. -/
def State.descPoison (s : State) (grp i : Nat) : State := s.descEnd grp i (Config.poisonStatus grp i % 256) 0

/-- A compression engine ends its frame (R231, R243): `cand` is the encoder's payload, `poison` an uncorrectable input from buffer SRAM. A payload
that the engine's encoder cannot make of the frame (R241) ends nothing. A poisoned input ends the write with `INTEGRITY`, and leaves the cache records of a merge or a pack in place (R245). -/
def State.frameMade (s : State) (e : Nat) (cand : List Byte) (poison : Bool) : State :=
  match SMap.find s.eng.ceRun e with
  | none => s
  | some w =>
   if !poison && !w.poison && !w.makes cand then s
   else
    let s := s.setRun 0 e none
    if poison ∨ w.poison then
      match w.desc with
      | some i => if w.poison then s.descPoison 0 i else s.descEnd 0 i dPoison 0
      | none =>
        match w.who with
        | some (.item n) => s.failGrain (.item n) w.grain stIntegrity dPoison (firstBlock w.mask)
        | some (.unit u) => s.unitFail u (mapKey w.inst w.grain)
        | _ => s
    else
      s.frameOut e w (makeFrame w.level w.deflate w.data cand)

/-! ### Decompression -/

/-- A grain's bytes from its decoded base frame, its cached frames and staged blocks; or its first failing block and the detail code. -/
def grainData (g : GrainWork) (base : Dec (List Byte)) : Except (Nat × Nat) (List Byte) :=
  (overlay g.frames g.need (base.map fun d => grainOf g.entry d)).map fun bs =>
    (bs.zipIdx.flatMap fun e => ((g.over e.2).map (·.data)).getD e.1)

/-- The last check of R244: input from buffer SRAM that was reported uncorrectable. -/
def checkPoison {α : Type} (poison : Bool) (r : Dec α) : Dec α :=
  match r with
  | .ok d => if poison then .error dPoison else .ok d
  | .error e => .error e

/-- The checks of a decode for a command's grain or a descriptor, in the order of R244: `arrived` is the frame as it reached the engine, where
it differs from what was stored. -/
def decodeArrived (w : FrameWork) (arrived : Option (List Byte)) (poison : Bool) : Dec (List Byte) :=
  checkPoison poison (decodeFrame (arrived.getD w.data))

/-- Count a decode (R252): its detail code, 0 for poisoned DRAM, where it failed. -/
def State.countDecode (s : State) (e : Nat) (r : Dec (List Byte)) (key : Nat) : State :=
  let pg := 0x130 + e
  let s := s.count pg 0x044
  match r with
  | .ok d => s.countPair pg 0x048 d.length
  | .error d =>
    if d = 0 then s
    else ((s.count pg (0x060 + 4 * (d - 1))).raise pg 2).post 0x0005 e pg key

/-- A frame read in the background has been decoded, or has failed (R199, R245). -/
def State.bgDecoded (s : State) (b : Nat) (r : Dec (List Byte)) : State :=
  match r, SMap.find s.flash.bg b with
  | .ok d, some x => (if x.kind = .merge then s.unitBase x.unit x.keys d else s).bgOver b true
  | _, _ => s.bgOver b false

/-- A reading item's grain lands in its staging buffer, from flash or from the write cache (R15). -/
def State.landFor (s : State) (w : Who) (grain : Nat) (d : List Byte) : State :=
  match w with
  | .item n => match s.item n with
    | some it => s.landGrain n (grain - it.lba / 4) d
    | none => s
  | _ => s

/-- A decompression engine ends its frame (R244, R245): the grain is done or failed. -/
def State.frameDecoded (s : State) (e : Nat) (arrived : Option (List Byte)) (poison : Bool) : State :=
  match SMap.find s.eng.deRun e with
  | none => s
  | some w =>
    let s := s.setRun 1 e none
    match w.desc with
    | some i =>
      let r := if w.poison then Except.error 0 else decodeArrived w arrived poison
      let s := s.countDecode e r i
      match r with
      | .ok d => s.descOut 1 i (0x130 + e) d
      | .error d => if d = 0 then s.descPoison 1 i else s.descEnd 1 i d 0
    | none =>
      let who := w.who.getD (.unit 0)
      match s.gw who w.grain, who with
      | none, _ => s
      | some g, .bg b =>
        let r := decodeArrived w arrived poison
        (s.countDecode e r (mapKey g.inst g.grain)).bgDecoded b r
      | some g, _ =>
        let base := if g.entry = 0 then .ok [] else decodeArrived w arrived poison
        let r : Except (Nat × Nat) (List Byte) := match grainData g base with
          | .ok d => if g.entry = 0 ∧ poison then .error (firstBlock g.need, dPoison) else .ok d
          | .error x => .error x
        let k := mapKey g.inst g.grain
        let s := s.countDecode e (match r with
          | .ok d => .ok d
          | .error x => .error x.2) k
        match r with
        | .ok d => (s.modGw who w.grain fun g => { g with st := .done, data := d }).landFor who w.grain d
        | .error (b, 0) => s.failGrain who w.grain stDram 0 b
        | .error (b, d) => (if nbit g.baseNeed b then s.queueReread k else s).failGrain who w.grain stIntegrity d b

/-! ### Commands -/

/-- `ENGINE_DISPATCH` (R249): of group 0, compression, or 1, decompression. -/
def execEngineDispatch (grp : Nat) (s : State) : Host.Outcome State Fault Refusal :=
  .next (if grp < 2 then s.engineDispatch grp else s)
/-- `FWQ_DESCRIPTOR_DONE` (R251). -/
def execFwqDescriptorDone (grp i : Nat) (s : State) : Host.Outcome State Fault Refusal := .next (s.descBack grp i)

end Sys2Proof.Machine
end

