-- ==== Sys2Proof/Machine/Digest.lean ====
section
/-! DEFINITION. Digest engines and key slots (R253 to R270). -/

namespace Sys2Proof.Machine

/-! ### Key slots (R260, R261) -/

/-- Offset of `KS_SLOT`k. -/
def ksOff (k : Nat) : Nat := 0x100 + 4 * k
/-- `USERS`. -/
def State.ksUsers (s : State) (k : Nat) : Nat := s.fld 0x198 (ksOff k) 16 0
/-- `LOCKED`. -/
def State.ksLocked (s : State) (k : Nat) : Bool := decide (s.fld 0x198 (ksOff k) 30 30 = 1)
/-- `HOLD`. -/
def State.ksHold (s : State) (k : Nat) : Bool := decide (s.fld 0x198 (ksOff k) 31 31 = 1)
/-- `LOADED`. -/
def State.ksLoaded (s : State) (k : Nat) : Bool := decide (s.fld 0x198 (ksOff k) 29 29 = 1)
/-- The ALG of R253 a loaded slot holds. -/
def State.ksAlg (s : State) (k : Nat) : Nat := 0x10 + s.fld 0x198 (ksOff k) 28 27

/-- End a key operation: `KS_RESULT` and `KEY_DONE`; a refusal zeroes the staging registers (R261). -/
def State.ksEnd (s : State) (reason : Option Nat) : State :=
  let s := match reason with
    | none => s.setReg 0x198 0x048 1
    | some r => { s with dig := { s.dig with staged := [] } }.setReg 0x198 0x048 (BitVec.ofNat 32 (r * 256 + 2))
  s.raise 0x198 0

/-- The staged key bytes (R270). -/
def State.stagedKey (s : State) (len : Nat) : List Byte :=
  ((List.range 32).flatMap fun w => leBytes 4 (SMap.getD 0 s.dig.staged w).toNat).take len

/-- `LOAD` (R260). -/
def State.ksLoad (s : State) (k : Nat) : State :=
  let alg := s.fld 0x198 0x044 9 8
  let len := s.fld 0x198 0x044 7 0
  if s.ksUsers k > 0 then s.ksEnd (some 1)
  else if s.ksLocked k then s.ksEnd (some 2)
  else if s.ksHold k = false then s.ksEnd (some 3)
  else if alg = 0 ∨ len = 0 then s.ksEnd (some 0)
  else
    let key := s.stagedKey len
    let st : KeyState := { inner := hmacState (0x10 + alg) key 0x36, outer := hmacState (0x10 + alg) key 0x5C }
    let s := { s with dig := { s.dig with keys := SMap.put s.dig.keys k st, staged := [] } }
    (((s.setFld 0x198 (ksOff k) 29 29 1).setFld 0x198 (ksOff k) 28 27 alg).setFld 0x198 (ksOff k) 24 17 len).ksEnd none

/-- `ERASE` (R260). -/
def State.ksErase (s : State) (k : Nat) : State :=
  if s.ksUsers k > 0 then s.ksEnd (some 1)
  else if s.ksLocked k then s.ksEnd (some 2)
  else
    let s := { s with dig := { s.dig with keys := SMap.del s.dig.keys k } }
    (s.setFld 0x198 (ksOff k) 29 17 0).ksEnd none

/-- `LOCK` (R260). -/
def State.ksLock (s : State) (k : Nat) : State :=
  if s.ksLocked k then s.ksEnd (some 2)
  else if s.ksLoaded k = false then s.ksEnd (some 4)
  else (s.setFld 0x198 (ksOff k) 30 30 1).ksEnd none

/-- A key operation by its `KS_CMD` code. -/
def State.ksDo (s : State) (op k : Nat) : State :=
  match op with
  | 1 => s.ksLoad k
  | 2 => s.ksErase k
  | 3 => s.ksLock k
  | _ => s

/-- A key operation that `KS_CMD` asks for: it waits while the block's `ENABLE` is 0 (R551). -/
def State.ksCmd (s : State) (op k : Nat) : State :=
  if s.enabled 0x198 then s.ksDo op k else { s with dig := { s.dig with ksWait := s.dig.ksWait ++ [(op, k)] } }

/-- The key operations that have waited for `ENABLE` (R551). -/
def State.ksRun (s : State) : State :=
  if s.enabled 0x198 then s.dig.ksWait.foldl (fun s e => s.ksDo e.1 e.2) { s with dig := { s.dig with ksWait := [] } } else s

/-- A write to `KS_CMD`, `KS_DATA` or `KS_LOAD` from the management port or JTAG is refused (R261): whether it is, and the
state with the refusal recorded. -/
def State.ksRefused (s : State) (req : Nat) : Bool × State :=
  if req = reqMgmt ∨ req = reqJtag then (true, s.capture 0x198 0x10 0 0x040) else (false, s)

/-- A reset that covers PD10 or a life-cycle transition (R263): slots and contexts are zeroed. -/
def State.wipeDigest (s : State) : State :=
  let s := (List.range 64).foldl (fun s k => s.setReg 0x198 (ksOff k) 0) s
  { s with dig := {} }

/-! ### Contexts (R257, R258) -/

/-- Order class of a context (R259). -/
def DigCtx.cls (c : DigCtx) : Nat := if c.item = 0 then 3 else if c.booked then 1 else 2

/-- Contexts unbooked messages hold. -/
def State.unbookedCtxs (s : State) : Nat := (s.dig.ctxs.filter fun e => decide (e.2.cls ≠ 1)).length

/-- The lowest-numbered free context that a message may take (R258). -/
def State.freeCtx (s : State) (booked : Bool) : Option Nat :=
  if booked = false ∧ s.unbookedCtxs ≥ 448 then none
  else (List.range 512).find? fun n => (SMap.find s.dig.ctxs n).isNone

/-- Write a context. -/
def State.setCtx (s : State) (n : Nat) (c : DigCtx) : State :=
  { s with dig := { s.dig with ctxs := SMap.put s.dig.ctxs n c } }

/-- Free a context. -/
def State.delCtx (s : State) (n : Nat) : State := { s with dig := { s.dig with ctxs := SMap.del s.dig.ctxs n } }

/-- The context of a command. -/
def State.ctxOf (s : State) (item : Nat) : Option (Nat × DigCtx) := s.dig.ctxs.find? fun e => decide (e.2.item = item + 1)

/-- A fresh context of an algorithm; an HMAC copies its slot's states (R262). -/
def State.newCtx (s : State) (alg slot : Nat) : DigCtx :=
  if algHmac alg then
    let k := SMap.getD {} s.dig.keys slot
    { alg := alg, state := k.inner, outer := k.outer }
  else { alg := alg, state := algInit alg }

/-- Add message bytes to a context; with the last of them, the padding of FIPS 180-4 follows. -/
def DigCtx.push (c : DigCtx) (data : List Byte) (final : Bool) : DigCtx :=
  let total := c.total + data.length
  let before := if algHmac c.alg then algBlock c.alg else 0
  { c with total := total, final := c.final || final, pass := if final then 1 else c.pass,
           ready := c.ready ++ data ++ (if final then shaPad c.alg (before + total) else []) }

/-- Whether a context has a whole block ready. -/
def DigCtx.hasBlock (c : DigCtx) : Bool := decide (c.part.length + c.ready.length ≥ algBlock c.alg)

/-- Absorb one block. -/
def DigCtx.absorb (c : DigCtx) : DigCtx :=
  let bl := algBlock c.alg
  let all := c.part ++ c.ready
  let rest := all.drop bl
  let fed := if c.pass = 2 then 0 else min bl (c.total - c.len)
  { c with state := shaBlock (algBig c.alg) c.state (all.take bl), len := c.len + fed,
           part := if rest.length < bl then rest else [], ready := if rest.length < bl then [] else rest }

/-- The outer pass of an HMAC follows its inner pass (R254). -/
def DigCtx.outerPass (c : DigCtx) : DigCtx :=
  let d := algDigest c.alg c.state
  { c with state := c.outer, pass := 2, part := [], ready := d ++ shaPad c.alg (algBlock c.alg + d.length) }

/-- Whether a context's message has ended. -/
def DigCtx.done (c : DigCtx) : Bool :=
  c.final && c.part.isEmpty && c.ready.isEmpty && (decide (c.pass = 2) || !algHmac c.alg)

/-- Message bytes that wait on a `DIGEST` or `COMPARE_DIGEST` reach the group: the command takes a context with the
first of them, or waits for one (R257, R258). -/
def State.digFeed (s : State) (n : Nat) : State :=
  match s.item n with
  | none => s
  | some it =>
    if it.finished then s
    else
      let give := fun (s : State) (k : Nat) (c : DigCtx) =>
        (s.setCtx k (c.push it.out (it.outDone && !c.final))).modItem n fun x => { x with out := [] }
      match s.ctxOf n with
      | some (k, c) => if it.out = [] ∧ (it.outDone = false ∨ c.final) then s else give s k c
      | none =>
        if it.out = [] ∧ it.outDone = false then s
        else
          match s.freeCtx it.promised with
          | some k =>
            let c := s.newCtx (le it.params 0 1) it.keySlot
            give s k { c with item := n + 1, booked := it.promised, cmp := decide (it.op = 0x11),
                              expected := if it.op = 0x11 then (cut it.params 16 64).take (algLen c.alg) else [],
                              rank := if it.promised then (s.bookedSlot n 2178).getD it.deadline else it.asn }
          | none =>
            if it.pos = 0 then (s.count 0x190 0x064).modItem n fun x => { x with pos := 1 } else s

/-- Commands that wait for a context try again, lowest ASN first. -/
def State.digRetry (s : State) : State :=
  (s.cmd.items.filter fun e => decide (e.2.op = 0x10 ∨ e.2.op = 0x11) && decide (e.2.out ≠ []) && (s.ctxOf e.1).isNone).foldl
    (fun s e => s.digFeed e.1) s

/-! ### Compare (R267) -/

/-- The compare word: what the two comparators give, `upA` and `upB` upsetting one of them. -/
def compareWord (eq upA upB : Bool) : Nat :=
  2 ^ 16 * (if eq != upA then 0x5A5A else 0xA5A5) + (if eq != upB then 0xA5A5 else 0x5A5A)

/-- The comparators disagree. -/
def compareFault (w : Nat) : Bool := w = 0x5A5A5A5A || w = 0xA5A5A5A5

/-! ### Blocks (R259) -/

/-- Deliver a finished message's result and free its context. -/
def State.digDeliver (s : State) (e n : Nat) (c : DigCtx) (upA upB : Bool) : State :=
  let d := algDigest c.alg c.state
  let w := compareWord (d == c.expected) upA upB
  let pg := 0x190 + e
  let s := s.delCtx n
  let s := if c.cmp && compareFault w then ((s.count pg 0x054).fault 0x0033 pg 0x11 e n).raise pg 1 else s
  let s :=
    if c.item ≠ 0 then s.finish (c.item - 1) stSuccess (if c.cmp then beBytes 4 w else d)
    else if c.cmp then s.descEnd 2 c.desc 0 w
    else
      match s.physRead (s.descAddr 2 c.desc) 32 with
      | none => s.descEnd 2 c.desc 0x21 0
      | some x =>
        match s.physWrite (le x 16 8) d with
        | none => (s.dmaSeen pg (le x 16 8) d.length).descEnd 2 c.desc 0x21 0
        | some s => s.descEnd 2 c.desc 0 0
  s.digRetry

/-- Show an engine's context. -/
def State.heStat (s : State) (e : Nat) (x : Option (Nat × DigCtx)) : State :=
  s.setReg (0x190 + e) 0x040 (match x with
    | none => 0
    | some (n, c) => BitVec.ofNat 32 (2 ^ 31 + 2 ^ 28 * c.cls + n))

/-- The first eligible context (R259), `held` also counting as free. -/
def State.nextCtx (s : State) (held : Nat) : Option (Nat × DigCtx) :=
  let on := (s.dig.ctxs.filter fun e => decide (e.2.engine ≠ 0) && decide (e.2.engine ≠ held) && decide (e.2.cls ≠ 1)).length
  let ok := fun (c : DigCtx) => c.hasBlock && (decide (c.engine = 0) || decide (c.engine = held)) &&
    (decide (c.cls = 1) || s.unbookedOk 2 on)
  (s.dig.ctxs.filter fun e => ok e.2).foldl (fun acc e => match acc with
    | none => some e
    | some a =>
      let before := decide (e.2.cls < a.2.cls) || (decide (e.2.cls = a.2.cls) && decide (e.2.rank < a.2.rank))
      let tie := decide (e.2.cls = a.2.cls) && decide (e.2.rank = a.2.rank) && decide (e.2.engine = held) && decide (held ≠ 0)
      if before || tie then some e else acc) none

/-- Engine `e` takes a context, or falls idle. An engine whose `ENABLE` is 0 takes no other message, and ends the one it is on (R551). -/
def State.heTake (s : State) (e : Nat) (was : Option Nat) : State :=
  let own := was.bind fun n => (SMap.find s.dig.ctxs n).map fun c => (n, c)
  match (if s.engOn 2 e then s.nextCtx (e + 1) else own) with
  | none =>
    let s := match was.bind fun n => (SMap.find s.dig.ctxs n).map fun c => (n, c) with
      | some (n, c) => s.setCtx n { c with engine := 0 }
      | none => s
    s.heStat e none
  | some (n, c) =>
    let s := match was.bind fun m => (SMap.find s.dig.ctxs m).map fun c => (m, c) with
      | some (m, c) => if m = n then s else (s.setCtx m { c with engine := 0 }).count (0x190 + e) 0x050
      | none => s
    (s.setCtx n { c with engine := e + 1 }).heStat e (some (n, c))

/-- A digest engine ends a block, or is idle (R259): the block is absorbed, a finished message is delivered, and the
engine takes the first eligible context, which `SWITCH_CNT` counts where it is another; of several idle engines the lowest-numbered takes it. -/
def State.digestBlockEnd (s : State) (e : Nat) (upA upB : Bool) : State :=
  if e ≥ 8 then s
  else
    match s.dig.ctxs.find? fun x => decide (x.2.engine = e + 1) with
    | none =>
      let idle := (List.range 8).find? fun i => s.engOn 2 i && !(s.dig.ctxs.any fun x => decide (x.2.engine = i + 1))
      match idle with
      | some i => s.heTake i none
      | none => s
    | some (n, c) =>
      if c.hasBlock = false then s.heTake e (some n) else
      let c' := c.absorb
      let pg := 0x190 + e
      let s := (s.count pg 0x044).countPair pg 0x048 (c'.len - c.len)
      if c'.done then
        let s := (s.digDeliver e n c' upA upB).heTake e none
        if s.dig.ctxs.any fun x => decide (x.2.engine = e + 1) then s.count pg 0x050 else s
      else
        let c' := if c'.final ∧ c'.hasBlock = false then c'.outerPass else c'
        (s.setCtx n c').heTake e (some n)

/-! ### The firmware queue (R269) -/

/-- Start the next descriptor of the digest group. -/
def State.digDescStart (s : State) : State :=
  if s.ringReady 2 = false then s
  else
    let i := s.ringNext 2
    let desc := s.physRead (s.descAddr 2 i) 32
    let d := desc.getD []
    let op := le d 0 1
    let alg := le d 1 1
    let slot := le d 2 1
    let len := le d 4 4
    let src := le d 8 8
    let dst := le d 16 8
    let took := fun (s : State) =>
      ({ s with dig := { s.dig with fwWaited := false } }.ringTake 2).dmaSeen 0x190 (s.descAddr 2 i) 32
    let back := fun (s : State) (st : Nat) => ((took s).descEnd 2 i st 0).descBack 2 i
    if desc.isNone then (took s).descEnd 2 i 0x21 0
    else if !(decide (op = 1 ∨ op = 2) && algOk alg && (if algHmac alg then decide (slot < 64) else decide (slot = 0xFF)) &&
        decide (le d 28 4 = 0)) then back s 0x22
    else if algHmac alg && (!s.ksLoaded slot || s.ksHold slot || decide (s.ksAlg slot ≠ alg)) then back s 0x23
    else
      match s.freeCtx false with
      | none => if s.dig.fwWaited then s else { s with dig := { s.dig with fwWaited := true } }.count 0x190 0x064
      | some k =>
        let s := ((took s).dmaSeen 0x190 src len).dmaSeen 0x190 dst (if op = 2 then algLen alg else 0)
        let s := if algHmac alg then
            let s := s.setFld 0x198 (ksOff slot) 16 0 (s.ksUsers slot + 1)
            { s with eng := { s.eng with fwqSlot := SMap.put s.eng.fwqSlot (2 * 4096 + i) (slot + 1) } }
          else s
        match (if s.physPoison src len then none else s.physRead src len), (if op = 2 then s.physRead dst (algLen alg) else some []) with
        | some m, some ex =>
          s.setCtx k ({ s.newCtx alg slot with desc := i, cmp := decide (op = 2), expected := ex, rank := i }.push m true)
        | _, _ => if s.physPoison src len then s.descPoison 2 i else s.descEnd 2 i 0x21 0

/-! ### Commands -/

/-- A write of `KS_CMD` by a requester: an error while PD10 is not on (R28), refused from the management port or JTAG (R261), else the
operation. -/
def State.ksWrite (s : State) (req op slot : Nat) : State :=
  if s.pageOn 0x198 = false then s.count 0x003 0x020
  else if (s.ksRefused req).1 then (s.ksRefused req).2 else s.ksCmd op (slot % 64)

/-- `FWQ_DESCRIPTOR_START` (R251, R269). -/
def execFwqDescriptorStart (grp : Nat) (s : State) : Host.Outcome State Fault Refusal :=
  .next (if grp = 2 then s.digDescStart else if grp < 2 then s.descStart grp else s)
/-- `LOAD` (R260), through `KS_CMD` by a requester. -/
def execLoad (slot req : Nat) (s : State) : Host.Outcome State Fault Refusal := .next (s.ksWrite req 1 slot)
/-- `ERASE` (R260). -/
def execErase (slot req : Nat) (s : State) : Host.Outcome State Fault Refusal := .next (s.ksWrite req 2 slot)
/-- `LOCK` (R260). -/
def execLock (slot req : Nat) (s : State) : Host.Outcome State Fault Refusal := .next (s.ksWrite req 3 slot)
/-- `DIGEST_BLOCK_END` (R259): `upA` and `upB` say that a comparator is upset (R267). -/
def execDigestBlockEnd (e : Nat) (upA upB : Bool) (s : State) : Host.Outcome State Fault Refusal :=
  .next (s.digestBlockEnd e upA upB)

end Sys2Proof.Machine
end

