-- ==== Sys2Proof/Machine/Flags.lean ====
section
/-! DEFINITION. Nollek's arithmetic (R304 to R308): each function's result and the flags V and DZ it raises. Operands are
converted to integers, the exact result is computed, and it is narrowed at the end. -/

namespace Sys2Proof.Machine

/-- A result and the flags an operation sets. -/
structure Alu where
  /-- Value written. -/
  val : W32
  /-- It sets V. -/
  v : Bool := false
  /-- It sets DZ. -/
  dz : Bool := false
  deriving DecidableEq, Repr

/-- An exact signed result wrapped to 32 bits, with V where it does not fit (R304, R305). -/
def wrapV (r : Int) : Alu := { val := BitVec.ofInt 32 r, v := decide (r < -2 ^ 31) || decide (r ≥ 2 ^ 31) }

/-- An exact signed result saturated to 32 bits. -/
def saturate (r : Int) : Alu :=
  { val := if r < -2 ^ 31 then 0x80000000 else if r ≥ 2 ^ 31 then 0x7FFFFFFF else BitVec.ofInt 32 r }

/-- ADD. -/
def aluAdd (a b : W32) : Alu := wrapV (a.toInt + b.toInt)
/-- SUB. -/
def aluSub (a b : W32) : Alu := wrapV (a.toInt - b.toInt)
/-- ADDS. -/
def aluAdds (a b : W32) : Alu := saturate (a.toInt + b.toInt)
/-- SUBS. -/
def aluSubs (a b : W32) : Alu := saturate (a.toInt - b.toInt)
/-- AND. -/
def aluAnd (a b : W32) : Alu := { val := a &&& b }
/-- OR. -/
def aluOr (a b : W32) : Alu := { val := a ||| b }
/-- XOR. -/
def aluXor (a b : W32) : Alu := { val := a ^^^ b }
/-- ANDN. -/
def aluAndn (a b : W32) : Alu := { val := a &&& ~~~b }

/-- Shift amount of a register shift (R307). -/
def shAmt (b : W32) : Nat := b.toNat % 256
/-- A left shift by an amount. -/
def shlBy (a : W32) (n : Nat) : W32 := a <<< n
/-- A logical right shift. -/
def shrBy (a : W32) (n : Nat) : W32 := a >>> n
/-- An arithmetic right shift. -/
def sarBy (a : W32) (n : Nat) : W32 := a.sshiftRight n
/-- A right rotation, modulo 32. -/
def rotBy (a : W32) (n : Nat) : W32 := (a >>> (n % 32)) ||| (a <<< (32 - n % 32))
/-- SHL. -/
def aluShl (a b : W32) : Alu := { val := shlBy a (shAmt b) }
/-- SHR. -/
def aluShr (a b : W32) : Alu := { val := shrBy a (shAmt b) }
/-- SAR. -/
def aluSar (a b : W32) : Alu := { val := sarBy a (shAmt b) }
/-- ROT. -/
def aluRot (a b : W32) : Alu := { val := rotBy a (shAmt b) }

/-- MIN. -/
def aluMin (a b : W32) : Alu := { val := if a.toInt < b.toInt then a else b }
/-- MAX. -/
def aluMax (a b : W32) : Alu := { val := if a.toInt < b.toInt then b else a }
/-- MINU. -/
def aluMinu (a b : W32) : Alu := { val := if a.toNat < b.toNat then a else b }
/-- MAXU. -/
def aluMaxu (a b : W32) : Alu := { val := if a.toNat < b.toNat then b else a }

/-- NEG (R305: V at 0x8000_0000). -/
def aluNeg (a : W32) : Alu := wrapV (-a.toInt)
/-- NEGS. -/
def aluNegs (a : W32) : Alu := saturate (-a.toInt)
/-- ABS. -/
def aluAbs (a : W32) : Alu := wrapV a.toInt.natAbs
/-- Leading zeros of a word, counted from bit `n` − 1 down. -/
def clzGo (a : W32) : Nat → Nat
  | 0 => 0
  | n + 1 => if a.toNat.testBit n then 0 else 1 + clzGo a n
/-- CLZ. -/
def aluClz (a : W32) : Alu := { val := BitVec.ofNat 32 (clzGo a 32) }
/-- Bits set among the low `n`. -/
def popGo (a : W32) : Nat → Nat
  | 0 => 0
  | n + 1 => (if a.toNat.testBit n then 1 else 0) + popGo a n
/-- POPC. -/
def aluPopc (a : W32) : Alu := { val := BitVec.ofNat 32 (popGo a 32) }
/-- BSWAP. -/
def aluBswap (a : W32) : Alu :=
  let n := a.toNat
  { val := BitVec.ofNat 32 (2 ^ 24 * (n % 256) + 2 ^ 16 * (n / 256 % 256) + n / 65536 % 256 * 256 + n / 2 ^ 24) }
/-- SEXTB. -/
def aluSextb (a : W32) : Alu := { val := (a.truncate 8).signExtend 32 }
/-- SEXTH. -/
def aluSexth (a : W32) : Alu := { val := (a.truncate 16).signExtend 32 }
/-- ZEXTH. -/
def aluZexth (a : W32) : Alu := { val := a &&& 0xFFFF }

/-- MUL. -/
def aluMul (a b : W32) : Alu := wrapV (a.toInt * b.toInt)
/-- MULH. -/
def aluMulh (a b : W32) : Alu := { val := BitVec.ofInt 32 (a.toInt * b.toInt / 2 ^ 32) }
/-- MULHU. -/
def aluMulhu (a b : W32) : Alu := { val := BitVec.ofNat 32 (a.toNat * b.toNat / 2 ^ 32) }
/-- MAC. -/
def aluMac (d a b : W32) : Alu := wrapV (d.toInt + a.toInt * b.toInt)

/-- DIV (R304, R305). -/
def aluDiv (a b : W32) : Alu :=
  if b = 0 then { val := if a.toInt < 0 then 0x80000000 else 0x7FFFFFFF, dz := true }
  else wrapV (a.toInt.tdiv b.toInt)
/-- DIVU. -/
def aluDivu (a b : W32) : Alu :=
  if b = 0 then { val := 0xFFFFFFFF, dz := true } else { val := BitVec.ofNat 32 (a.toNat / b.toNat) }
/-- REM. -/
def aluRem (a b : W32) : Alu :=
  if b = 0 then { val := a, dz := true } else { val := BitVec.ofInt 32 (a.toInt.tmod b.toInt) }
/-- REMU. -/
def aluRemu (a b : W32) : Alu :=
  if b = 0 then { val := a, dz := true } else { val := BitVec.ofNat 32 (a.toNat % b.toNat) }

/-- The condition of code 0 to 7 of R308. -/
def cond (code : Nat) (a b : W32) : Bool :=
  match code with
  | 0 => a == b
  | 1 => a != b
  | 2 => decide (a.toInt < b.toInt)
  | 3 => decide (b.toInt ≤ a.toInt)
  | 4 => decide (a.toNat < b.toNat)
  | 5 => decide (b.toNat ≤ a.toNat)
  | 6 => a &&& b != 0
  | _ => a &&& b == 0

end Sys2Proof.Machine
end

