-- ==== Sys2Proof/Machine/Nollek.lean ====
section
/-! DEFINITION. What Nollek instructions share (R297 to R337): registers, guards, the loop-end check, the repeat prefix,
faults, CSRs, the profile maps, translation and the legality of instruction words. A core's commands carry the
instruction it has at its PC; executing one is `State.runInstr`, in Machine/NollekRun.lean. -/

namespace Sys2Proof.Machine

/-- Fault codes of R325. -/
def fIllegal : Nat := 0x01
/-- ALIGN. -/
def fAlign : Nat := 0x02
/-- BOUNDS. -/
def fBounds : Nat := 0x03
/-- STACK. -/
def fStack : Nat := 0x04
/-- DIV0. -/
def fDiv0 : Nat := 0x05
/-- BUDGET. -/
def fBudget : Nat := 0x06
/-- UCODE. -/
def fUcode : Nat := 0x07
/-- PAGE. -/
def fPage : Nat := 0x08
/-- PRIV. -/
def fPriv : Nat := 0x09
/-- ACCESS. -/
def fAccess : Nat := 0x0A
/-- TRAP. -/
def fTrap : Nat := 0x0B

/-- A fault: its code and EADDR. -/
structure NFault where
  /-- Code of R325. -/
  code : Nat
  /-- EADDR; 0 where R325 gives none. -/
  addr : W32 := 0
  deriving DecidableEq, Repr

/-- A control core's number; stream cores lie below 256. -/
def isCtl (c : Nat) : Bool := decide (256 ≤ c)

/-! ### Registers (R297) -/

/-- A general register: g0 reads 0. -/
def Core.rg (x : Core) (r : GReg) : W32 := if r = 0 then 0 else SMap.getD 0 x.g r
/-- Write a general register: writes to g0 are discarded. -/
def Core.wg (x : Core) (r : GReg) (v : W32) : Core := if r = 0 then x else { x with g := SMap.setD 0 x.g r v }
/-- A predicate: p0 reads 1. -/
def Core.rp (x : Core) (r : PReg) : Bool := r = 0 || x.p.getLsbD r
/-- Write a predicate: writes to p0 are discarded. -/
def Core.wp (x : Core) (r : PReg) (b : Bool) : Core :=
  if r = 0 then x else { x with p := if b then x.p ||| (1#8 <<< r.val) else x.p &&& ~~~(1#8 <<< r.val) }
/-- The stack pointer. -/
def spReg : GReg := 31
/-- Loop start of a level. -/
def Core.lsOf (x : Core) (n : Nat) : W32 := SMap.getD 0 x.ls n
/-- Loop end of a level. -/
def Core.leOf (x : Core) (n : Nat) : W32 := SMap.getD 0 x.le n
/-- Loop count of a level. -/
def Core.lcOf (x : Core) (n : Nat) : W32 := SMap.getD 0 x.lc n
/-- Write a loop level. -/
def Core.setLoop (x : Core) (n : Nat) (s e c : W32) : Core :=
  { x with ls := SMap.setD 0 x.ls n s, le := SMap.setD 0 x.le n e, lc := SMap.setD 0 x.lc n c }
/-- Write a loop count. -/
def Core.setLc (x : Core) (n : Nat) (c : W32) : Core := { x with lc := SMap.setD 0 x.lc n c }
/-- The guard of R302. -/
def Core.guard (x : Core) (g : Guard) : Bool := x.rp g.psel != g.neg
/-- SUPER mode. -/
def Core.super (x : Core) : Bool := x.pstat.getLsbD 4
/-- `PSTAT.MMU`. -/
def Core.mmu (x : Core) : Bool := x.pstat.getLsbD 5

/-! ### Control flow (R311, R316, R319) -/

/-- How an instruction ends: in sequence, or by a taken transfer. -/
inductive Flow where
  | seq | jump (a : W32) | stay
  deriving DecidableEq, Repr

/-- Whether an address is a multiple of 4. -/
def aligned4 (a : W32) : Bool := decide (a.toNat % 4 = 0)

/-- The loop-end check from level `n` − 1 down (R316): the core with its counts and the next address. -/
def loopEnd (x : Core) (pc : W32) : Nat → Core × W32
  | 0 => (x, pc + 4)
  | n + 1 =>
    if x.lcOf n ≠ 0 ∧ x.leOf n = pc then
      let y := x.setLc n (x.lcOf n - 1)
      if y.lcOf n ≠ 0 then (y, y.lsOf n) else loopEnd y pc n
    else loopEnd x pc n

/-- Complete at an address: the check of all four levels; a loop-back to a misaligned address raises ALIGN (R316). -/
def Core.completeAt (x : Core) (pc : W32) : Except NFault Core :=
  let r := loopEnd x pc 4
  if aligned4 r.2 then .ok { r.1 with pc := r.2 } else .error { code := fAlign, addr := r.2 }

/-- End an instruction at its own address: a governed one counts a repetition (R319). -/
def Core.finishInstr (x : Core) (f : Flow) : Except NFault Core :=
  match f with
  | .stay => .ok x
  | .jump a => if aligned4 a then .ok { x with pc := a } else .error { code := fAlign, addr := a }
  | .seq =>
    if x.repeating then
      let y := { x with rcnt := x.rcnt - 1 }
      if y.rcnt = 0 then { y with repeating := false }.completeAt x.pc else .ok y
    else x.completeAt x.pc

/-! ### The profile C exception (R330) -/

/-- Take an exception: status saved with RACT, EPC, ECAUSE and EADDR written, SUPER with IE at 0, PC at the handler. -/
def Core.except (x : Core) (int : Bool) (code : Nat) (epc eaddr : W32) : Core :=
  { x with esave := x.pstat, ract := x.repeating, repeating := false, epc := epc, ecauseInt := int,
           ecause := BitVec.ofNat 8 code, eaddr := eaddr, pstat := (x.pstat ||| 0x10) &&& 0x3E, pc := x.evec }

/-- ERET (R330). -/
def Core.eret (x : Core) : Core :=
  { x with pstat := x.esave, pc := x.epc, repeating := x.ract && decide (x.rcnt ≠ 0) }

/-- The state of a control core after a reset (R337). -/
def ctlReset : Core := { pc := 0xFFF00000, shi := 0xFFFFFFFF }

/-! ### CSRs (R323) -/

/-- The CSR numbers of profile C from 0x100 up that exist. -/
def ctlCsr (n : Nat) : Bool :=
  (decide (0x100 ≤ n) && decide (n ≤ 0x106)) || n = 0x108 || n = 0x109 || n = 0x10C || n = 0x10D || n = 0x10F

/-- A CSR number that exists in a profile. -/
def csrExists (ctl : Bool) (n : Nat) : Bool :=
  n = 0x000 || n = 0x001 || n = 0x002 || n = 0x004 || n = 0x005 || (decide (0x010 ≤ n) && decide (n < 0x01C)) ||
    n = 0x020 || n = 0x021 || (!ctl && (n = 0x022 || n = 0x023)) || (ctl && ctlCsr n)

/-- A CSR that is RO in a profile. -/
def csrReadOnly (ctl : Bool) (n : Nat) : Bool :=
  (!ctl && (n = 0x001 || n = 0x004 || n = 0x005)) || (decide (0x020 ≤ n) && decide (n ≤ 0x023)) || n = 0x10F

/-- The fault a CSR access meets (R323): ILLEGAL before PRIV. -/
def csrFault (x : Core) (ctl write : Bool) (n : Nat) : Option Nat :=
  if csrExists ctl n = false ∨ (write ∧ csrReadOnly ctl n) then some fIllegal
  else if x.super = false ∧ ctl ∧ (0x100 ≤ n ∨ (write ∧ (n = 0x001 ∨ n = 0x004 ∨ n = 0x005))) then some fPriv
  else none

/-- The low half of a 64-bit number. -/
def lo32 (v : W64) : W32 := v.truncate 32
/-- The high half. -/
def hi32 (v : W64) : W32 := (v >>> 32).truncate 32
/-- A number from halves. -/
def of32 (hi lo : W32) : W64 := hi ++ lo

/-- The high CSR of a pair: 0x021 of 0x020, 0x023 of 0x022; PTBR and TCMP pairs are plain words (R323). -/
def csrPairLo (n : Nat) : Bool := n = 0x020 || n = 0x022

/-- The value of a CSR, and the core after reading it: reading the low word of a pair holds its high word (R27). -/
def csrRead (x : Core) (id n : Nat) : W32 × Core :=
  let b := fun (b : Bool) (k : Nat) => BitVec.ofNat 32 (b2n b * 2 ^ k)
  let pair := fun (v : W64) => (lo32 v, { x with pairHi := SMap.put x.pairHi (n + 1) (hi32 v) })
  let held := fun (v : W64) => match SMap.find x.pairHi n with
    | some h => (h, { x with pairHi := SMap.del x.pairHi n })
    | none => (hi32 v, x)
  if n = 0x000 then (b x.v 0 ||| b x.dz 1 ||| b x.dzt 8, x)
  else if n = 0x001 then (x.rcnt.zeroExtend 32, x)
  else if n = 0x002 then ((x.p ||| 1).zeroExtend 32, x)
  else if n = 0x004 then (x.slo, x)
  else if n = 0x005 then (x.shi, x)
  else if 0x010 ≤ n ∧ n < 0x014 then (x.lsOf (n - 0x010), x)
  else if 0x014 ≤ n ∧ n < 0x018 then (x.leOf (n - 0x014), x)
  else if 0x018 ≤ n ∧ n < 0x01C then (x.lcOf (n - 0x018), x)
  else if n = 0x020 then pair x.cycle
  else if n = 0x021 then held x.cycle
  else if n = 0x022 then pair x.budget
  else if n = 0x023 then held x.budget
  else if n = 0x100 then (x.pstat.zeroExtend 32, x)
  else if n = 0x101 then (x.esave.zeroExtend 32 ||| b x.ract 8, x)
  else if n = 0x102 then (x.epc, x)
  else if n = 0x103 then (x.ecause.zeroExtend 32 ||| b x.ecauseInt 31, x)
  else if n = 0x104 then (x.eaddr, x)
  else if n = 0x105 then (x.evec, x)
  else if n = 0x106 then (x.scratch, x)
  else if n = 0x108 then (lo32 x.ptbr, x)
  else if n = 0x109 then (hi32 x.ptbr, x)
  else if n = 0x10C then (lo32 x.tcmp, x)
  else if n = 0x10D then (hi32 x.tcmp, x)
  else (BitVec.ofNat 32 id, x)

/-- Write a CSR (R323): reserved bits ignore writes. -/
def csrWrite (x : Core) (n : Nat) (v : W32) : Core :=
  if n = 0x000 then { x with v := v.getLsbD 0, dz := v.getLsbD 1, dzt := v.getLsbD 8 }
  else if n = 0x001 then { x with rcnt := v.truncate 16 }
  else if n = 0x002 then { x with p := v.truncate 8 ||| 1 }
  else if n = 0x004 then { x with slo := v }
  else if n = 0x005 then { x with shi := v }
  else if 0x010 ≤ n ∧ n < 0x014 then { x with ls := SMap.setD 0 x.ls (n - 0x010) v }
  else if 0x014 ≤ n ∧ n < 0x018 then { x with le := SMap.setD 0 x.le (n - 0x014) v }
  else if 0x018 ≤ n ∧ n < 0x01C then { x with lc := SMap.setD 0 x.lc (n - 0x018) v }
  else if n = 0x100 then { x with pstat := v.truncate 6 &&& 0x37 }
  else if n = 0x101 then { x with esave := v.truncate 6, ract := v.getLsbD 8 }
  else if n = 0x102 then { x with epc := v }
  else if n = 0x103 then { x with ecause := v.truncate 8, ecauseInt := v.getLsbD 31 }
  else if n = 0x104 then { x with eaddr := v }
  else if n = 0x105 then { x with evec := v &&& 0xFFFFFFFC }
  else if n = 0x106 then { x with scratch := v }
  else if n = 0x108 then { x with ptbr := of32 (hi32 x.ptbr) (v &&& 0xFFFFE000) }
  else if n = 0x109 then { x with ptbr := of32 (v &&& 0xFFF) (lo32 x.ptbr) }
  else if n = 0x10C then { x with tcmp := of32 (hi32 x.tcmp) v }
  else if n = 0x10D then { x with tcmp := of32 v (lo32 x.tcmp) }
  else x

/-! ### The profile S map (R328, R352) -/

/-- Start of the window. -/
def winVa : Nat := 0x40000000

/-- Whether the bytes of a data access lie in data memory. -/
def inDmem (a n : Nat) : Bool := decide (0x10000 ≤ a) && decide (a + n ≤ 0x30000)

/-- Load bytes on a stream core: data memory, or the window of a grain job. -/
def sLoad (x : Core) (a n : Nat) : Except NFault (List Byte) :=
  if inDmem a n then .ok (readBytes x.dmem (a - 0x10000) n)
  else
    match x.job with
    | some j =>
      if winVa ≤ a ∧ a + n ≤ winVa + 16384 ∧ j.closing = false then .ok (cut j.window (a - winVa) n)
      else .error { code := fBounds, addr := BitVec.ofNat 32 a }
    | none => .error { code := fBounds, addr := BitVec.ofNat 32 a }

/-- Store bytes on a stream core: data memory only. -/
def sStore (x : Core) (a : Nat) (d : List Byte) : Except NFault Core :=
  if inDmem a d.length then .ok { x with dmem := writeBytes x.dmem (a - 0x10000) d }
  else .error { code := fBounds, addr := BitVec.ofNat 32 a }

/-! ### Translation (R332, R333) -/

/-- Kinds of access. -/
inductive Acc3 where
  | fetch | load | store
  deriving DecidableEq, Repr

/-- The fixed map with the MMU off (R332). -/
def flatMap (va : Nat) : Option Nat :=
  if va < 0xF0000000 then some va
  else if va < 0xF1000000 then some (regBase + (va - 0xF0000000))
  else if va ≥ 0xFFF00000 then some (romBase + (va - 0xFFF00000))
  else none

/-- A byte as control cores see it: their own stores first (R336). -/
def State.ctlByte (s : State) (a : Nat) : Option Byte :=
  match s.physByte a, SMap.find s.ctlStores a with
  | some _, some (_, b) => some b
  | r, _ => r

/-- Bytes as control cores see them; poisoned DRAM is an error response (R389). -/
def State.ctlRead (s : State) (a n : Nat) : Option (List Byte) :=
  if s.physPoison a n then none
  else (List.range n).foldr (fun i acc => match s.ctlByte (a + i), acc with
    | some b, some l => some (b :: l)
    | _, _ => none) (some [])

/-- The two entries of a virtual page, from the cache or by a walk; none where a table cannot be read. -/
def State.walk (s : State) (x : Core) (va : Nat) : Option ((W64 × W64) × Core) :=
  let vp := va / 4096
  match SMap.find x.tlb vp with
  | some e => some (e, x)
  | none =>
    match s.ctlRead (x.ptbr.toNat + va / 2 ^ 22 * 8) 8 with
    | none => none
    | some b1 =>
      let l1 := ofLe b1
      if l1 % 2 = 0 then some ((BitVec.ofNat 64 l1, 0), x)
      else
        match s.ctlRead (2 ^ 13 * nbits l1 43 13 + va / 4096 % 1024 * 8) 8 with
        | none => none
        | some b2 =>
          let e := (BitVec.ofNat 64 l1, BitVec.ofNat 64 (ofLe b2))
          some (e, { x with tlb := SMap.put x.tlb vp e })

/-- Translate a virtual address (R332, R333): the physical address and the core with what it cached. -/
def State.translate (s : State) (x : Core) (va : W32) (k : Acc3) : Except NFault (Nat × Core) :=
  if x.mmu = false then
    match flatMap va.toNat with
    | some pa => .ok (pa, x)
    | none => .error { code := fAccess, addr := va }
  else
    match s.walk x va.toNat with
    | none => .error { code := fAccess, addr := va }
    | some ((l1, l2), y) =>
      let a := l1.toNat
      let b := l2.toNat
      let bad := decide (a % 2 = 0) || decide (nbits a 12 1 ≠ 0) || decide (nbits a 63 44 ≠ 0) || decide (b % 2 = 0) ||
        decide (nbits b 11 6 ≠ 0) || decide (nbits b 63 44 ≠ 0)
      let perm := match k with
        | .load => nbit b 1
        | .store => nbit b 2
        | .fetch => nbit b 3
      if bad || !perm || (!x.super && !nbit b 4) then .error { code := fPage, addr := va }
      else .ok (4096 * nbits b 43 12 + va.toNat % 4096, y)

/-- TLBINV (R333): g0 drops every cached translation without G, another register the page of its address. -/
def Core.tlbInv (x : Core) (r : GReg) : Core :=
  if r = 0 then { x with tlb := x.tlb.filter fun e => nbit e.2.2.toNat 5 }
  else { x with tlb := SMap.del x.tlb ((x.rg r).toNat / 4096) }

/-! ### Fetch -/

/-- Fetch the word at an address: the fault a fetch meets (R328, R332 to R334), the word and the core with what it
cached. -/
def State.fetchWord (s : State) (c : Nat) (x : Core) (pc : W32) : Except NFault (W32 × Core) :=
  if isCtl c then
    match s.translate x pc .fetch with
    | .error f => .error f
    | .ok (pa, y) =>
      match s.ctlRead pa 4 with
      | none => .error { code := fAccess, addr := pc }
      | some l => .ok (BitVec.ofNat 32 (ofLe l), y)
  else if pc.toNat + 4 ≤ 0x10000 then .ok (BitVec.ofNat 32 (ofLe (readBytes x.imem pc.toNat 4)), x)
  else .error { code := fBounds, addr := pc }

/-! ### Budget cycles (R324) -/

/-- Charge an instruction: clock and, on a stream core, budget. -/
def Core.charge (x : Core) (ctl : Bool) (n : Nat) : Core :=
  { x with cycle := x.cycle + BitVec.ofNat 64 n, budget := if ctl then x.budget else x.budget + BitVec.ofNat 64 n,
           job := x.job.map fun j => { j with clock := j.clock + n } }

/-! ### Legality of words (R299, R300, R303) -/

/-- Whether a word is one that R300 and R303 make ILLEGAL in a profile, whatever its guard. -/
def wordIllegal (ctl : Bool) (w : W32) : Bool :=
  let n := w.toNat
  let major := nbits n 27 22
  let d := nbits n 21 17
  let a := nbits n 16 12
  let b := nbits n 11 7
  let f := nbits n 6 0
  let no := fun (ok : Bool) => !ok
  match major with
  | 0x00 =>
    if f ≤ 0x0F then false
    else if 0x10 ≤ f ∧ f ≤ 0x18 then decide (b ≠ 0)
    else no (decide (0x20 ≤ f) && decide (f ≤ 0x27))
  | 0x01 | 0x02 | 0x03 | 0x04 => false
  | 0x07 => no (decide (f ≤ 3))
  | 0x08 => no (decide (f ≤ 7) && decide (d < 8))
  | 0x09 => false
  | 0x0C =>
    if f ≤ 3 then no (decide (d < 8) && decide (a < 8) && decide (b < 8))
    else if f = 4 then no (decide (d < 8) && decide (a < 8) && decide (b = 0))
    else if f = 5 then no (decide (d < 8) && decide (b = 0))
    else if f = 6 then no (decide (a = 0) && decide (b = 0))
    else no (decide (f = 7) && decide (d = 0) && decide (b = 0))
  | 0x0D | 0x0E => nbit n 16
  | 0x10 | 0x11 | 0x12 | 0x13 | 0x14 | 0x18 | 0x19 | 0x1A => false
  | 0x15 =>
    no (decide (f / 32 = 0) && decide (f % 8 ≤ 4))
  | 0x1B => no (decide (f / 32 = 0) && (decide (f % 8 = 0) || decide (f % 8 = 2) || decide (f % 8 = 4)))
  | 0x20 | 0x21 => false
  | 0x22 => no (decide (f ≤ 2) && decide (d = 0) && decide (b = 0) && (decide (f ≠ 2) || decide (a = 0)))
  | 0x23 => decide (nbits n 19 17 ≠ 0)
  | 0x24 => false
  | 0x25 => decide (nbits n 21 16 ≠ 0)
  | 0x26 => no (decide (d = 0) && decide (b = 0) && decide (f = 0))
  | 0x27 => decide (nbits n 21 4 ≠ 0)
  | 0x28 => no (decide (f ≤ 3) && decide (a = 0) && decide (b = 0) && (decide (f ≤ 1) || decide (d = 0)))
  | 0x29 =>
    if ctl then no ((f = 0 || (decide (2 ≤ f) && decide (f ≤ 6))) && decide (d = 0) && decide (b = 0) && (decide (f = 6) || decide (a = 0)))
    else no ((f = 0 || f = 1 || f = 5) && decide (d = 0) && decide (a = 0) && decide (b = 0))
  | 0x2A => decide (a ≠ 0)
  | 0x2B => decide (d ≠ 0)
  | 0x2C => !ctl || decide (f ≠ 0)
  | 0x30 =>
    ctl || no ((f = 0 && decide (a = 0) && decide (b = 0)) || (f = 1 && decide (d = 0)) || (f = 2 && decide (a = 0)) ||
      (f = 3 && decide (a = 0) && decide (b = 0)))
  | 0x3E => ctl || decide (f / 32 ≠ 0)
  | _ => true

/-- Majors a repeat prefix cannot govern (R319). -/
def notGoverned (w : W32) : Bool := decide (0x20 ≤ nbits w.toNat 27 22) && decide (nbits w.toNat 27 22 ≤ 0x29)

end Sys2Proof.Machine
end

