-- ==== Sys2Proof/Machine/Scan.lean ====
section
/-! DEFINITION. Scans (R338 to R369): filter images, record front ends, clusters, jobs, custom instructions, the result
collector and the ends of a scan. -/

namespace Sys2Proof.Machine

/-! ### Filter images (R338 to R341) -/

/-- IMAGE_LEN. -/
def imgLen (m : List Byte) : Nat := le m 8 4
/-- ENTRY. -/
def imgEntry (m : List Byte) : Nat := le m 12 4
/-- TEXT_LEN. -/
def imgText (m : List Byte) : Nat := le m 16 4
/-- DATA_LEN. -/
def imgData (m : List Byte) : Nat := le m 20 4
/-- STACK_LEN. -/
def imgStack (m : List Byte) : Nat := le m 24 4
/-- UCODE_LEN. -/
def imgUcode (m : List Byte) : Nat := le m 28 2
/-- REC_MIN. -/
def imgRecMin (m : List Byte) : Nat := le m 30 2
/-- SPB. -/
def imgSpb (m : List Byte) : Nat := le m 34 2
/-- CPR. -/
def imgCpr (m : List Byte) : Nat := le m 36 4
/-- J_g of R356. -/
def imgJg (m : List Byte) : Nat := le m 40 4 + cdiv (16384 * le m 32 2) 256
/-- FINAL_CYC. -/
def imgFinalCyc (m : List Byte) : Nat := le m 44 4
/-- OUT_PER_REC. -/
def imgOutPerRec (m : List Byte) : Nat := le m 48 4
/-- FINAL_OUT. -/
def imgFinalOut (m : List Byte) : Nat := le m 52 4
/-- The front-end section (R343). -/
def imgFront (m : List Byte) : List Byte := cut m 64 256
/-- Decode slot `i` (R359). -/
def imgSlot (m : List Byte) (i : Nat) : W64 := BitVec.ofNat 64 (le m (320 + 8 * i) 8)
/-- Micro-operation `i` (R360). -/
def imgUop (m : List Byte) (i : Nat) : W64 := BitVec.ofNat 64 (le m (576 + 8 * i) 8)
/-- The text section. -/
def imgTextBytes (m : List Byte) : List Byte := cut m (576 + 8 * imgUcode m) (imgText m)
/-- The data section. -/
def imgDataBytes (m : List Byte) : List Byte := cut m (576 + 8 * imgUcode m + imgText m) (imgData m)

/-- FIELD f of a front-end section. -/
def feField (fe : List Byte) (f : Nat) : Nat := le fe (8 + 4 * f) 4
/-- TAP t. -/
def feTap (fe : List Byte) (t : Nat) : Nat := le fe (72 + 4 * t) 4

/-- Whether a front-end section keeps R343 to R346. -/
def feOk (fe : List Byte) (recMin : Nat) : Bool :=
  let framing := le fe 0 1
  let recLen := le fe 2 2
  decide (framing ≤ 2) &&
  (if framing = 0 then decide (16 ≤ recLen) && decide (recLen ≤ 16384) && decide (recMin ≤ recLen) else decide (recLen = 0)) &&
  (if framing = 1 then decide (le fe 4 2 + 2 ≤ recMin) else true) &&
  decide (le fe 6 2 = 0) &&
  ((List.range 16).all fun f => decide (nbits (feField fe f) 18 16 ≤ 4) && decide (nbits (feField fe f) 31 21 = 0)) &&
  ((List.range 8).all fun t => decide (nbits (feTap fe t) 31 7 = 0)) &&
  ((fe.drop 104).all fun b => b == 0)

/-- Whether a decode slot keeps R359. -/
def slotFits (ucLen : Nat) (w : W64) : Bool :=
  let n := w.toNat
  !nbit n 63 ||
    (decide (1 ≤ nbits n 24 20) && decide (nbits n 24 20 ≤ 24) && decide (nbits n 19 10 + nbits n 24 20 ≤ ucLen) &&
     decide (nbits n 62 27 = 0) && decide (nbits n 9 4 = 0) && decide (nbits n 26 25 ≠ 3) && decide (nbits n 1 0 ≠ 3))

/-- OPs of R361. -/
def uopAssigned (op : Nat) : Bool :=
  decide (op ≤ 0x15) || (decide (0x18 ≤ op) && decide (op ≤ 0x1A)) || (decide (0x1C ≤ op) && decide (op ≤ 0x1E)) ||
    (decide (0x20 ≤ op) && decide (op ≤ 0x23))

/-- Whether a micro-operation has an assigned OP and its reserved bits at 0 (R360, R361). -/
def uopFits (w : W64) : Bool :=
  let n := w.toNat
  uopAssigned (nbits n 63 56) && decide (nbits n 11 1 = 0) && (nbits n 63 56 ≠ 0x15 || !nbit n 47)

/-- The load error code of an image sent with COUNT (R340), 0 where it is good; `full`: a program limit is reached. The
first broken rule in the order of the table is reported. -/
def loadCode (m : List Byte) (count : Nat) (full : Bool) : Nat :=
  let text := imgText m
  let data := imgData m
  let stack := imgStack m
  let uc := imgUcode m
  if cut m 0 4 ≠ [0x46, 0x56, 0x46, 0x50] ∨ le m 4 2 ≠ 1 ∨ le m 6 2 ≠ 0 ∨ le m 56 4 ≠ 0 then 1
  else if crc32c (m.take 60 ++ m.drop 64) ≠ le m 60 4 then 2
  else if text < 4 ∨ text > 65536 ∨ text % 4 ≠ 0 ∨ data > 130816 ∨ stack < 256 ∨ stack > 130816 ∨ stack % 4 ≠ 0 ∨
      uc > 1024 ∨ imgLen m ≠ 576 + 8 * uc + text + data ∨ imgLen m ≠ count ∨ 256 + data + stack > 131072 then 3
  else if imgEntry m % 4 ≠ 0 ∨ imgEntry m ≥ text then 4
  else if imgRecMin m < 16 ∨ imgRecMin m > 16384 ∨ imgSpb m > 1024 ∨ imgOutPerRec m < 1 ∨ imgOutPerRec m > 65536 ∨
      imgFinalOut m > 1048576 then 5
  else if feOk (imgFront m) (imgRecMin m) = false then 6
  else if ((List.range 32).all fun i => slotFits uc (imgSlot m i)) = false then 7
  else if ((List.range uc).all fun i => uopFits (imgUop m i)) = false then 8
  else if full then 9
  else 0

/-- Key of a program. -/
def progKey (inst handle : Nat) : Nat := 2 ^ 32 * inst + handle
/-- Programs of an instance that have not been unloaded. -/
def State.progsOf (s : State) (i : Nat) : Nat :=
  (s.scan.progs.filter fun e => decide (e.2.inst = i) && !e.2.unloaded).length
/-- Programs of the device that have not been unloaded. -/
def State.progsAll (s : State) : Nat := (s.scan.progs.filter fun e => !e.2.unloaded).length

/-- `LOAD_PROGRAM` checks its image and loads it (R340): RESULT holds the handle and the load error code. -/
def State.loadProgram (s : State) (n : Nat) (it : Item) (m : List Byte) : State :=
  let full := decide (s.progsOf it.inst ≥ 16) || decide (s.progsAll ≥ 256)
  let code := loadCode m it.count full
  if code ≠ 0 then s.finish n stSuccess (beBytes 4 0 ++ beBytes 4 code)
  else
    let h := (s.inst it.inst).nextHandle
    let s := s.modInst it.inst fun x => { x with nextHandle := h + 1 }
    let p : Program := { inst := it.inst, image := m }
    ({ s with scan := { s.scan with progs := SMap.put s.scan.progs (progKey it.inst h) p } }).finish n stSuccess
      (beBytes 4 h ++ beBytes 4 0)

/-- Free an unloaded image no scan uses (R341). -/
def State.freeProg (s : State) (k : Nat) : State :=
  match SMap.find s.scan.progs k with
  | some p =>
    if p.unloaded && s.scan.scans.all (fun e => e.2.prog ≠ k) then
      { s with scan := { s.scan with progs := SMap.del s.scan.progs k } }
    else s
  | none => s

/-- `UNLOAD_PROGRAM` (R341). -/
def State.unloadProgram (s : State) (inst handle : Nat) : State :=
  let k := progKey inst handle
  ({ s with scan := { s.scan with progs := SMap.modify s.scan.progs k fun p => { p with unloaded := true } } }).freeProg k

/-- A loaded program a `SCAN` may name. -/
def State.hasProg (s : State) (inst handle : Nat) : Bool :=
  match SMap.find s.scan.progs (progKey inst handle) with
  | some p => !p.unloaded
  | none => false

/-! ### Record front ends (R344 to R346) -/

/-- The framing of R344 as a function that finds the end of the record at an offset: its end, the end of the grain's
records without error, or a bad grain. -/
inductive Framed where
  | to (e : Nat) | stop | bad
  deriving DecidableEq, Repr

/-- The record that begins at `o`. -/
def frameAt (fe g : List Byte) (o : Nat) : Framed :=
  match le fe 0 1 with
  | 0 => if o + le fe 2 2 ≤ 16384 then .to (o + le fe 2 2) else .stop
  | 1 =>
    let off := le fe 4 2
    if o ≥ 16384 then .stop
    else if o + off + 2 > 16384 then .bad
    else
      let l := le g (o + off) 2
      if l = 0 then .stop else if l < off + 2 ∨ o + l > 16384 then .bad else .to (o + l)
  | _ =>
    match (g.drop o).findIdx? fun b => b.toNat == le fe 1 1 with
    | some i => .to (o + i + 1)
    | none => .stop

/-- The records of a grain in order, as offset and length, and whether the grain is bad. -/
def cutGo (fe g : List Byte) : Nat → Nat → List (Nat × Nat) → List (Nat × Nat) × Bool
  | 0, _, acc => (acc.reverse, false)
  | n + 1, o, acc =>
    match frameAt fe g o with
    | .to e => cutGo fe g n e ((o, e - o) :: acc)
    | .stop => (acc.reverse, false)
    | .bad => (acc.reverse, true)

/-- Sign-extend a number of `w` bits to 64 bits. -/
def sext64 (v w : Nat) : W64 := (BitVec.ofNat 64 v <<< (64 - w)).sshiftRight (64 - w)

/-- A field's value and whether it reaches past the record (R345). -/
def fieldVal (fe r : List Byte) (f : Nat) : W64 × Bool :=
  let d := feField fe f
  let w := nbits d 18 16
  if w = 0 then (0, false)
  else
    let n := 2 ^ (w - 1)
    let o := nbits d 15 0
    if o + n > r.length then (0, true)
    else
      let v := if nbit d 20 then be r o n else le r o n
      (if nbit d 19 then sext64 v (8 * n) else BitVec.ofNat 64 v, false)

/-- The comparison of a tap (R346, R308). -/
def tapCond (c : Nat) (a b : W64) : Bool :=
  match c with
  | 0 => a == b
  | 1 => a != b
  | 2 => decide (a.toInt < b.toInt)
  | 3 => decide (b.toInt ≤ a.toInt)
  | 4 => decide (a.toNat < b.toNat)
  | 5 => decide (b.toNat ≤ a.toNat)
  | 6 => a &&& b != 0
  | _ => a &&& b == 0

/-- A record with its fields and taps; `params` are the `SCAN`'s PARAMS (R366). -/
def mkRecord (fe params g : List Byte) (o l : Nat) : Record :=
  let r := cut g o l
  let vs := (List.range 16).map fun f => fieldVal fe r f
  let fields := vs.map (·.1)
  let taps := (List.range 8).foldl (fun a t =>
    let d := feTap fe t
    let k := BitVec.ofNat 64 (be params (48 + 8 * t) 8)
    a + b2n (tapCond (nbits d 6 4) (fields.getD (nbits d 3 0) 0) k) * 2 ^ t) 0
  { off := o, len := l, fields := fields, short := vs.any (·.2), taps := taps }

/-- Whether a record passes the scan's TAP_LUT. -/
def tapPass (params : List Byte) (taps : Nat) : Bool := nbit (le params (16 + taps / 8) 1) (taps % 8)

/-- What the front end makes of a grain. -/
structure FrontOut where
  /-- Records that pass, in order. -/
  recs : List Record
  /-- Records shorter than REC_MIN. -/
  skipped : Nat
  /-- Records the taps cut. -/
  cut : Nat
  /-- The grain is bad. -/
  bad : Bool

/-- The front end's work on a grain (R342, R344 to R346). -/
def frontEnd (image params g : List Byte) : FrontOut :=
  let fe := imgFront image
  let r := cutGo fe g 16385 0 []
  let long := r.1.filter fun e => decide (imgRecMin image ≤ e.2)
  let all := long.map fun e => mkRecord fe params g e.1 e.2
  let pass := all.filter fun x => tapPass params x.taps
  { recs := pass, skipped := r.1.length - long.length, cut := all.length - pass.length, bad := r.2 }

/-! ### Scans and clusters -/

/-- Page of a cluster. -/
def scPage (cc : Nat) : Nat := 0x1B0 + cc
/-- Page of a cluster's decode registers. -/
def ucPage (cc : Nat) : Nat := 0x1C0 + cc
/-- A cluster. -/
def State.cluster (s : State) (cc : Nat) : Cluster := SMap.getD {} s.scan.clusters cc
/-- Write a cluster. -/
def State.setCluster (s : State) (cc : Nat) (x : Cluster) : State :=
  { s with scan := { s.scan with clusters := SMap.setD {} s.scan.clusters cc x } }
/-- A scan. -/
def State.scanOf (s : State) (n : Nat) : Option ScanSt := SMap.find s.scan.scans n
/-- Change a scan. -/
def State.modScan (s : State) (n : Nat) (f : ScanSt → ScanSt) : State :=
  { s with scan := { s.scan with scans := SMap.modify s.scan.scans n f } }
/-- The image a scan runs. -/
def State.scanImage (s : State) (x : ScanSt) : List Byte :=
  match SMap.find s.scan.progs x.prog with
  | some p => p.image
  | none => []
/-- The cores of a cluster, ascending. -/
def coresOf (cc : Nat) : List Nat := (List.range 12).map fun k => 12 * cc + k
/-- Whether a core runs a job. -/
def State.busy (s : State) (c : Nat) : Bool := (s.core c).job.isSome

/-- `SC_STAT` and `CORE_STAT.RUN` of a cluster as it stands (R370). -/
def State.syncCluster (s : State) (cc : Nat) : State :=
  let b := (List.range 12).foldl (fun a k => a + b2n (s.busy (12 * cc + k)) * 2 ^ k) 0
  let idle := decide ((s.cluster cc).run = 0) && decide (b = 0)
  let s := (s.setFld (scPage cc) 0x044 31 31 (b2n idle)).setFld (scPage cc) 0x044 11 0 b
  (List.range 12).foldl (fun s k => s.setFld (scPage cc) (0x080 + 4 * k) 31 31 (b2n (s.busy (12 * cc + k)))) s

/-- `SCAN` starts its run (R366): the program it passed check 7 with. -/
def State.startScan (s : State) (n : Nat) (it : Item) : State :=
  let x : ScanSt := { prog := progKey it.inst (be it.params 0 4) }
  { s with scan := { s.scan with scans := SMap.put s.scan.scans n x } }

/-- A core's memories wiped (R155, R348). -/
def Core.wiped (x : Core) : Core := { x with imem := [], dmem := [], lastInst := 0, ranJob := 0 }

/-- Wipe a cluster at the start of a run of another instance (R348). -/
def State.wipeCluster (s : State) (cc : Nat) : State :=
  let s := (coresOf cc).foldl (fun s c => s.setCore c (s.core c).wiped) s
  (s.setCluster cc { s.cluster cc with decode := [], ucode := [], ucLen := 0 }).count (scPage cc) 0x060

/-- Load a cluster for a run (R348): decode table, microcode store, instruction memories. -/
def State.loadCluster (s : State) (cc : Nat) (m : List Byte) : State :=
  let dec := (List.range 32).foldl (fun d i => SMap.setD 0 d i (imgSlot m i)) ([] : SMap W64)
  let uc := (List.range (imgUcode m)).foldl (fun d i => SMap.setD 0 d i (imgUop m i)) ([] : SMap W64)
  let s := s.setCluster cc { s.cluster cc with decode := dec, ucode := uc, ucLen := imgUcode m }
  let t := writeBytes [] 0 (imgTextBytes m)
  (coresOf cc).foldl (fun s c => s.setCore c { s.core c with imem := t }) s

/-- Clusters in which a booking stands within the next `us` microseconds (R350): resources 2,183 to 2,198. -/
def State.clusterBooked (s : State) (cc us : Nat) : Bool :=
  s.cad.bookings.any fun b => decide (b.res = 2183 + cc) &&
    (if b.coarse then decide (s.now < 1000 * (b.slot + 1)) && decide (1000 * b.slot ≤ s.now + us)
     else decide (s.now ≤ b.slot) && decide (b.slot ≤ s.now + us))

/-- Clock limit of a job whose `RNEXT`s return `r` records, in microseconds of its cluster's clock (R356). -/
def State.jobUs (s : State) (image : List Byte) (r : Nat) (closing : Bool) : Nat :=
  let budget := if closing then imgFinalCyc image else imgJg image + imgCpr image * r
  cdiv (cdiv (budget * (256 + imgSpb image)) 256) (scMhz (s.fld 0x010 0x058 3 0))

/-- A best-effort scan of the same instance with a lower ASN that may still take clusters (R350). -/
def State.scanAhead (s : State) (it : Item) : Bool :=
  s.cmd.items.any fun e => decide (e.2.op = 0x08) && !e.2.promised && decide (e.2.inst = it.inst) && decide (e.2.asn < it.asn) &&
    decide (e.2.state = .running) && !e.2.finished && match s.scanOf e.1 with
      | some x => !x.stopped && !x.closingBegun && decide (x.clusters.length < 4)
      | none => false

/-- `RUN_START`: the run of a scan starts on a cluster (R347, R348, R350): the wipe and load of a run that is not booked need 2 us. -/
def State.runStart (s : State) (n cc : Nat) : State :=
  match s.item n, s.scanOf n with
  | some it, some x =>
    let mine := s.cad.bookings.any fun b => decide (b.item = n) && decide (b.res = 2183 + cc)
    let room := if it.port ≥ 32 then !s.clusterBooked cc 2
      else if it.promised then mine
      else !s.clusterBooked cc 2 && decide (x.clusters.length < 4) && !s.scanAhead it
    if it.state ≠ .running ∨ it.finished ∨ x.stopped ∨ x.closingBegun ∨ cc ≥ 16 ∨ (s.cluster cc).run ≠ 0 ∨
        s.fld (scPage cc) 0x040 0 0 = 1 ∨ s.enabled (scPage cc) = false ∨ room = false then s
    else
      let other := (coresOf cc).any fun c =>
        decide ((s.core c).lastInst ≠ 0) && decide ((s.core c).lastInst ≠ it.inst + 1)
      let s := if other then s.wipeCluster cc else s
      let s := s.loadCluster cc (s.scanImage x)
      let s := s.setCluster cc { s.cluster cc with run := n + 1 }
      let s := s.modScan n fun x => { x with clusters := insertBy (fun a b => decide (b < a)) cc x.clusters }
      (s.setFld (scPage cc) 0x044 25 16 it.inst).syncCluster cc
  | _, _ => s

/-! ### Jobs (R351 to R354) -/

/-- Data memory as laid out before a core's first job of a scan (R339). -/
def layData (image params : List Byte) : SMap Byte :=
  let p := cut params 112 (be params 14 2)
  writeBytes [] 0 (p ++ zeros (256 - p.length) ++ imgDataBytes image)

/-- The state of a core at a job's start (R352). -/
def startCore (x : Core) (image : List Byte) (idx flags : Nat) (j : Job) : Core :=
  let g : SMap W32 := SMap.setD 0 (SMap.setD 0 (SMap.setD 0 (SMap.setD 0 [] 1 (BitVec.ofNat 32 idx)) 2
    (BitVec.ofNat 32 flags)) 3 0x40000000) 31 0x30000
  { x with g := g, p := 1, ls := [], le := [], lc := [], rcnt := 0, v := false, dz := false, dzt := false, budget := 0,
           repeating := false, waiting := false, running := true, pc := BitVec.ofNat 32 (imgEntry image),
           slo := BitVec.ofNat 32 (0x30000 - imgStack image), shi := 0x30000, job := some j }

/-- Start a job on a core: data memory is laid out before the core's first job of the scan. -/
def State.jobOn (s : State) (n c : Nat) (it : Item) (x : ScanSt) (idx : Nat) (j : Job) : State :=
  let m := s.scanImage x
  let k := s.core c
  let first := decide (k.ranJob ≠ n + 1)
  let k := if first then { k with dmem := layData m it.params } else k
  let k := startCore { k with ranJob := n + 1, lastInst := it.inst + 1 } m idx (b2n first + 2 * b2n j.closing) j
  (s.setCore c k).syncCluster (c / 12)

/-- The idle core the next job of a scan goes to (R351). -/
def State.idleCore (s : State) (x : ScanSt) : Option Nat :=
  (x.clusters.flatMap coresOf).find? fun c => !s.busy c

/-- `JOB_START`: the next decoded grain of a scan goes to a core (R351). -/
def State.jobStart (s : State) (n : Nat) : State :=
  match s.item n, s.scanOf n with
  | some it, some x =>
    match x.ready, s.idleCore x with
    | (idx, g) :: rest, some c =>
      let recs := (frontEnd (s.scanImage x) it.params g).recs
      if x.stopped || (!it.promised && s.clusterBooked (c / 12) (s.jobUs (s.scanImage x) recs.length false)) then s
      else
        let s := s.modScan n fun x => { x with ready := rest }
        s.jobOn n c it x idx { item := n, grain := idx, window := g, recs := recs }
    | _, _ => s
  | _, _ => s

/-- The front end takes a decoded grain of a scan (R342): its counts, and the grain's wait for a core. -/
def State.scanGrain (s : State) (n idx : Nat) (g : List Byte) : State :=
  match s.item n, s.scanOf n with
  | some it, some x =>
    if x.stopped then s
    else
      let f := frontEnd (s.scanImage x) it.params g
      s.modScan n fun x => { x with ready := x.ready ++ [(idx, g)], skipped := x.skipped + f.skipped, cut := x.cut + f.cut,
                                    badGrains := x.badGrains + b2n f.bad }
  | _, _ => s

/-- Cores that run a job of a scan. -/
def State.jobsOf (s : State) (n : Nat) : List Nat :=
  (s.cores.filter fun e => match e.2.job with
    | some j => decide (j.item = n)
    | none => false).map (·.1)

/-- Records of a scan in the collector's FIFOs. -/
def State.fifoHas (s : State) (n : Nat) : Bool := s.scan.clusters.any fun e => e.2.fifo.any fun r => decide (r.item = n)

/-- The grains of a scan's extent. -/
def Item.scanGrains (it : Item) : Nat := it.count / 4

/-- RESUME_GRAIN (R368): the lowest grain whose job has not ended or whose records have not all been sent. -/
def resumeGrain (g sent : Nat) (x : ScanSt) (fifo : List Nat) : Nat :=
  match (List.range g).find? fun i => !x.ended.contains i || fifo.contains i ||
      x.marks.any (fun m => decide (m.1 = i) && decide (sent < m.2)) with
  | some i => i
  | none => 0xFFFFFFFF

/-- RESULT of a `SCAN` (R369). -/
def scanResult (x : ScanSt) (resume : Nat) : List Byte :=
  beBytes 4 resume ++ beBytes 4 x.flags ++ beBytes 8 x.cut ++ beBytes 8 x.delivered ++ beBytes 4 x.results ++
    beBytes 4 x.skipped ++ beBytes 4 x.badGrains ++ beBytes 4 x.faultGrain ++ beBytes 4 x.faultPc ++
    beBytes 1 x.faultCode ++ beBytes 1 x.faultCore ++ zeros 2

/-- The clusters of a scan become free at the end of its run. -/
def State.freeClusters (s : State) (n : Nat) : State :=
  match s.scanOf n with
  | none => s
  | some x =>
    let s := x.clusters.foldl (fun s cc => (s.setCluster cc { s.cluster cc with run := 0 }).syncCluster cc) s
    let s := { s with scan := { s.scan with scans := SMap.del s.scan.scans n } }
    s.freeProg x.prog

/-- Squash every job of a scan (R155): the cores' memories are wiped, records in the FIFOs dropped. -/
def State.squashScan (s : State) (n : Nat) : State :=
  let s := (s.jobsOf n).foldl (fun s c =>
    (s.setCore c { (s.core c).wiped with job := none, running := false }).count (scPage (c / 12)) 0x060) s
  { s with scan := { s.scan with clusters := s.scan.clusters.map fun e =>
      (e.1, { e.2 with fifo := e.2.fifo.filter fun r => r.item ≠ n }) } }

/-- A scan ends early (R368): its jobs are squashed, unsent records discarded, its RESULT fixed. -/
def State.scanStop (s : State) (n status flags : Nat) : State :=
  match s.item n, s.scanOf n with
  | some it, some x =>
    if x.stopped then s
    else
      let fifo := s.scan.clusters.flatMap fun e => (e.2.fifo.filter fun r => decide (r.item = n)).map (·.grain)
      let x := { x with stopped := true, flags := x.flags ||| flags }
      let resume := resumeGrain it.scanGrains it.sent x fifo
      let s := (s.modScan n fun _ => x).squashScan n
      let s := s.modItem n fun it => { it with out := [] }
      (s.finish n status (scanResult x resume)).freeClusters n
  | _, _ => s

/-- A grain of a scan ends with a media error (R355). -/
def State.scanFail (s : State) (n idx status : Nat) : State :=
  (s.modScan n fun x => { x with faultGrain := idx }).scanStop n status 0

/-- A scan moves on (R354): closing jobs begin when every grain job has ended; the scan ends when every closing job has
ended and the collector holds none of its records. -/
def State.scanAdvance (s : State) (n : Nat) : State :=
  match s.item n, s.scanOf n with
  | some it, some x =>
    if x.stopped then s
    else
      let ran := (x.clusters.flatMap coresOf).filter fun c => decide ((s.core c).ranJob = n + 1)
      let s := if x.closingBegun = false ∧ x.ended.length ≥ it.scanGrains then
          s.modScan n fun x => { x with closingBegun := true, closingLeft := ran }
        else s
      match s.scanOf n with
      | none => s
      | some y =>
        if y.closingBegun && y.closingLeft.isEmpty && (s.jobsOf n).isEmpty && !s.fifoHas n then
          (s.finish n stSuccess (scanResult y 0xFFFFFFFF)).freeClusters n
        else s
  | _, _ => s

/-- A grain of a scan needs no job (R351): its map entry is `UNMAPPED`. -/
def State.scanSkip (s : State) (n idx : Nat) : State :=
  (s.modScan n fun x => { x with ended := x.ended ++ [idx] }).scanAdvance n

/-- `CLOSING_JOB_START` on a core (R354). -/
def State.closingJobStart (s : State) (c : Nat) : State :=
  match s.scan.scans.find? fun e => e.2.closingLeft.contains c with
  | none => s
  | some (n, x) =>
    match s.item n with
    | none => s
    | some it =>
      if x.stopped || s.busy c || (!it.promised && s.clusterBooked (c / 12) (s.jobUs (s.scanImage x) 0 true)) then s
      else
        let s := s.modScan n fun x => { x with closingLeft := x.closingLeft.filter (· ≠ c) }
        s.jobOn n c it x 0xFFFFFFFF { item := n, grain := 0xFFFFFFFF, closing := true }

/-- A job ends (R354): its core is idle, `JOBS` counts it. -/
def State.jobEnd (s : State) (c : Nat) : State :=
  match (s.core c).job with
  | none => s
  | some j =>
    let s := s.setCore c { s.core c with job := none, running := false }
    let s := (s.count (scPage (c / 12)) 0x048).syncCluster (c / 12)
    let s := if j.closing then s else s.modScan j.item fun x => { x with ended := x.ended ++ [j.grain] }
    s.scanAdvance j.item

/-- A fault of a stream core (R327, R355): code, PC and EADDR recorded, the fault fields of the first, the job ended, the
scan stopped. `BUDGET_CNT` or `FAULT_CNT` counts it. -/
def State.jobFault (s : State) (c : Nat) (f : NFault) : State :=
  match (s.core c).job with
  | none => s
  | some j =>
    let k := s.core c
    let s := s.setCore c { k with faultCode := f.code, faultPc := k.pc, faultAddr := f.addr, job := none, running := false }
    let pg := scPage (c / 12)
    let s := s.setFld pg (0x080 + 4 * (c % 12)) 23 16 f.code
    let s := if f.code = fBudget then (s.count pg 0x054).raise pg 0 else (s.count pg 0x058).raise pg 1
    let s := (s.count pg 0x048).syncCluster (c / 12)
    let s := s.modScan j.item fun x =>
      if x.stopped ∨ x.faultGrain ≠ 0xFFFFFFFF ∨ x.faultCode ≠ 0 then x
      else { x with faultGrain := j.grain, faultPc := k.pc.toNat, faultCode := f.code, faultCore := c }
    s.scanStop j.item (if f.code = fBudget then stBudget else stProgramFault) 0

/-! ### Limits of a job (R356, R357) -/

/-- Budget limit. -/
def budgetLimit (m : List Byte) (j : Job) : Nat := if j.closing then imgFinalCyc m else imgJg m + imgCpr m * j.r
/-- Clock limit. -/
def clockLimit (m : List Byte) (j : Job) : Nat := cdiv (budgetLimit m j * (256 + imgSpb m)) 256
/-- Output limit. -/
def outLimit (m : List Byte) (j : Job) : Nat := if j.closing then imgFinalOut m else imgOutPerRec m * j.r
/-- D of R357. -/
def recLimit (m : List Byte) (it : Item) : Nat :=
  cdiv (it.scanGrains * (16384 / imgRecMin m) * be it.params 4 4) 1000000

/-- The image of the scan a core's job belongs to. -/
def State.jobImage (s : State) (j : Job) : List Byte :=
  match s.scanOf j.item with
  | some x => s.scanImage x
  | none => []

/-- Whether a stream core's job has reached its budget or clock limit (R356). -/
def State.exhausted (s : State) (c : Nat) : Bool :=
  let k := s.core c
  match k.job with
  | none => false
  | some j =>
    let m := s.jobImage j
    decide (budgetLimit m j ≤ k.budget.toNat) || decide (clockLimit m j ≤ j.clock)

/-- `BUDGET_EXHAUSTED`: after `stall` cluster clock cycles of stalls, a job stands at one of its limits (R324, R356). -/
def State.budgetExhausted (s : State) (c stall : Nat) : State :=
  let k := s.core c
  let s := s.setCore c { k with job := k.job.map fun j => { j with clock := j.clock + stall },
                                cycle := if k.job.isSome then k.cycle + BitVec.ofNat 64 stall else k.cycle }
  if s.exhausted c then s.jobFault c { code := fBudget } else s

/-! ### The result collector (R363, R364, R367) -/

/-- Whether a scan's output is `FRAMED`. -/
def Item.framed (it : Item) : Bool := decide (be it.params 12 1 = 0)

/-- The output bytes of a result record (R367). -/
def recOut (framed : Bool) (r : ColRec) : List Byte :=
  if framed then
    leBytes 2 r.bytes.length ++ leBytes 1 r.core ++ leBytes 1 (b2n r.closing) ++ leBytes 4 r.grain ++ r.bytes
  else r.bytes

/-- Room of a `RING` command's egress for bytes not yet produced (R75). -/
def Item.ringRoom (it : Item) : Nat := it.inLen + it.released - (it.sent + it.out.length)

/-- Whether the head record of a FIFO can go (R364): the scan's egress has room. -/
def State.headGoes (s : State) (r : ColRec) : Bool :=
  match s.item r.item with
  | none => true
  | some it => !it.ring || decide ((recOut it.framed r).length ≤ it.ringRoom)

/-- Move the head record of a FIFO to its scan's egress. Without `RING`, a record that would not fit whole stops the
scan with `BUF_FULL` (R368). -/
def State.moveRec (s : State) (cc : Nat) (r : ColRec) : State :=
  let x := s.cluster cc
  let s := s.setCluster cc { x with fifo := x.fifo.drop 1 }
  let s := s.setReg 0x1B0 0x0C0 (BitVec.ofNat 32 cc)
  match s.item r.item with
  | none => s
  | some it =>
    let o := recOut it.framed r
    let pos := it.sent + it.out.length + o.length
    if it.ring = false ∧ pos > it.inLen then
      (s.setCluster cc x).scanStop r.item stSuccess 2
    else
      let s := s.countPair 0x1B0 0x0C4 o.length
      let s := s.modItem r.item fun it => { it with out := it.out ++ o }
      (s.modScan r.item fun z => { z with results := z.results + 1, marks := z.marks ++ [(r.grain, pos)] }).scanAdvance
        r.item

/-- The collector looks at `n` FIFOs from `cc` on: a head that cannot go is passed over and counted. -/
def State.grantFrom (s : State) : Nat → Nat → State
  | 0, _ => s
  | n + 1, cc =>
    match (s.cluster cc).fifo with
    | [] => s.grantFrom n ((cc + 1) % 16)
    | r :: _ =>
      if s.headGoes r then s.moveRec cc r else (s.count 0x1B0 0x0CC).grantFrom n ((cc + 1) % 16)

/-- `COLLECTOR_GRANT` (R364): the first FIFO after the last one granted whose head can go. -/
def State.collectorGrant (s : State) : State := s.grantFrom 16 ((s.fld 0x1B0 0x0C0 3 0 + 1) % 16)

/-- `RING_STALL` (R368): a scan holds output that waits only for ring room at its deadline less 20 us. -/
def State.ringStall (s : State) (n : Nat) : State :=
  match s.item n, s.scanOf n with
  | some it, some _ =>
    let waits := s.scan.clusters.any (fun e => match e.2.fifo with
      | r :: _ => decide (r.item = n) && !s.headGoes r
      | [] => false) || (decide (it.out ≠ []) && decide (it.sent - it.released ≥ it.inLen))
    if it.ring && it.promised && decide (it.deadline ≤ s.now + 20) && waits then s.scanStop n stSuccess 1 else s
  | _, _ => s

/-! ### STRM operations (R353) -/

/-- What a STRM operation does besides its registers. -/
inductive StrmRes where
  /-- It completes with the core as it stands and the state's change. -/
  | done (s : State) (x : Core)
  /-- It waits. -/
  | wait (s : State)
  /-- It faults. -/
  | fault (f : NFault)

/-- RNEXT: the next record becomes current; the window address of its first byte, 0 at the end (R353, R357). -/
def State.rnext (s : State) (c : Nat) (x : Core) (d : GReg) : StrmRes :=
  match x.job with
  | none => .wait s
  | some j =>
    match j.recs with
    | [] => .done s ({ x with job := some { j with cur := none } }.wg d 0)
    | r :: rest =>
      match s.item j.item, s.scanOf j.item with
      | some it, some z =>
        if recLimit (s.scanImage z) it ≤ z.delivered then .fault { code := fBudget }
        else
          let s := (s.modScan j.item fun z => { z with delivered := z.delivered + 1 }).count (scPage (c / 12)) 0x04C
          .done s ({ x with job := some { j with recs := rest, cur := some r, r := j.r + 1 } }.wg d
            (BitVec.ofNat 32 (winVa + r.off)))
      | _, _ => .wait s

/-- RPUT: a result record goes to the cluster's FIFO (R353, R356, R363). -/
def State.rput (s : State) (c : Nat) (x : Core) (ga gb : W32) : StrmRes :=
  match x.job with
  | none => .wait s
  | some j =>
    let n := gb.toNat % 65536
    let a := ga.toNat
    if n < 1 ∨ n > 1024 ∨ inDmem a n = false then .fault { code := fBounds, addr := ga }
    else
      match s.item j.item with
      | none => .wait s
      | some it =>
        let r : ColRec := { item := j.item, core := c, closing := j.closing, grain := j.grain,
                            bytes := readBytes x.dmem (a - 0x10000) n }
        let o := (recOut it.framed r).length
        if outLimit (s.jobImage j) j < j.outB + o then .fault { code := fBudget }
        else
          let q := s.cluster (c / 12)
          if q.fifo.length ≥ 64 then .wait (s.count (scPage (c / 12)) 0x050)
          else
            .done (s.setCluster (c / 12) { q with fifo := q.fifo ++ [r] })
              { x with job := some { j with outB := j.outB + o } }

/-- FLDX: a half of a field of the current record. -/
def fldx (x : Core) (b : Nat) : W32 :=
  match x.job.bind (·.cur) with
  | none => 0
  | some r =>
    let v := r.fields.getD (b % 16) 0
    if b < 16 then lo32 v else hi32 v

/-- TAPR. -/
def tapr (x : Core) : W32 :=
  match x.job.bind (·.cur) with
  | none => 0
  | some r => BitVec.ofNat 32 (65536 * r.len + b2n r.short * 256 + r.taps)

/-! ### Custom instructions (R321, R322, R359 to R362) -/

/-- The working state of a custom instruction. -/
structure Cust where
  /-- t0 to t15. -/
  t : SMap W32
  /-- F. -/
  f : Bool
  /-- The core, whose data memory its stores write. -/
  x : Core
  /-- DZ set by a division by 0. -/
  dz : Bool

/-- A temporary. -/
def Cust.get (k : Cust) (i : Nat) : W32 := SMap.getD 0 k.t i
/-- Write a temporary. -/
def Cust.set (k : Cust) (i : Nat) (v : W32) : Cust := { k with t := SMap.setD 0 k.t i v }

/-- A micro-operation's load of `n` bytes. -/
def Cust.load (k : Cust) (dt n : Nat) (a : W32) : Except NFault Cust :=
  if a.toNat % n ≠ 0 then .error { code := fAlign, addr := a }
  else
    match sLoad k.x a.toNat n with
    | .error f => .error f
    | .ok l => .ok (k.set dt (BitVec.ofNat 32 (ofLe l)))

/-- A micro-operation's store of `n` bytes. -/
def Cust.store (k : Cust) (n : Nat) (a v : W32) : Except NFault Cust :=
  if a.toNat % n ≠ 0 then .error { code := fAlign, addr := a }
  else
    match sStore k.x a.toNat (leBytes n v.toNat) with
    | .error f => .error f
    | .ok x => .ok { k with x := x }

/-- One micro-operation at a store address (R361). -/
def uopStep (k : Cust) (addr : Nat) (w : W64) : Except NFault Cust :=
  let n := w.toNat
  let dt := nbits n 55 52
  let a := k.get (nbits n 51 48)
  let b := k.get (nbits n 47 44)
  let immN := nbits n 43 12
  let imm : W32 := BitVec.ofNat 32 immN
  let put := fun (v : W32) => (.ok (k.set dt v) : Except NFault Cust)
  match nbits n 63 56 with
  | 0x00 => .ok k
  | 0x01 => put (a + b)
  | 0x02 => put (a - b)
  | 0x03 => put (a &&& b)
  | 0x04 => put (a ||| b)
  | 0x05 => put (a ^^^ b)
  | 0x06 => put (aluShl a b).val
  | 0x07 => put (aluShr a b).val
  | 0x08 => put (aluSar a b).val
  | 0x09 => put (aluRot a b).val
  | 0x0A => put (aluMinu a b).val
  | 0x0B => put (aluMaxu a b).val
  | 0x0C => put (aluMul a b).val
  | 0x0D => put (aluMulhu a b).val
  | 0x0E => put (aluClz a).val
  | 0x0F => put (aluPopc a).val
  | 0x10 => put (aluBswap a).val
  | 0x11 => put (a + imm)
  | 0x12 =>
    let wd := nbits immN 10 5
    if wd < 1 ∨ wd > 32 then .error { code := fUcode, addr := BitVec.ofNat 32 addr }
    else put (BitVec.ofNat 32 (a.toNat / 2 ^ (immN % 32) % 2 ^ wd))
  | 0x13 => put (if k.f then a else b)
  | 0x14 => .ok { k with f := cond (immN % 8) a b }
  | 0x15 => .ok { k with f := cond (nbits n 46 44) a imm }
  | 0x18 => k.load dt 1 (a + imm)
  | 0x19 => k.load dt 2 (a + imm)
  | 0x1A => k.load dt 4 (a + imm)
  | 0x1C => k.store 1 (a + imm) b
  | 0x1D => k.store 2 (a + imm) b
  | 0x1E => k.store 4 (a + imm) b
  | 0x20 => put (fldx k.x (immN % 32))
  | 0x21 => put (BitVec.ofNat 32 (crcByte a.toNat (b.truncate 8)))
  | 0x22 => put (BitVec.ofNat 32 ((leBytes 4 b.toNat).foldl crcByte a.toNat))
  | 0x23 =>
    if b = 0 ∧ k.x.dzt then .error { code := fDiv0 }
    else .ok { k.set dt (aluDivu a b).val with dz := k.dz || (aluDivu a b).dz }
  | _ => .error { code := fUcode, addr := BitVec.ofNat 32 addr }

/-- Even parity of a micro-operation (R360). -/
def parityOk (w : W64) : Bool := decide (((List.range 64).filter fun i => w.getLsbD i).length % 2 = 0)

/-- Micro-operations in store order: the end or the fault, with the work done so far and the address of a parity
error. -/
def uopsGo (uc : SMap W64) : Nat → Nat → Cust → Cust × Option (NFault × Bool)
  | 0, _, k => (k, none)
  | n + 1, a, k =>
    let w := SMap.getD 0 uc a
    if parityOk w = false then (k, some ({ code := fUcode, addr := BitVec.ofNat 32 a }, true))
    else
      match uopStep k a w with
      | .ok k => uopsGo uc n (a + 1) k
      | .error f => ({ k with dz := k.dz || decide (f.code = fDiv0) }, some (f, false))

end Sys2Proof.Machine
end

