-- ==== Sys2Proof/Machine/Work.lean ====
section
/-! DEFINITION. The work of reading and writing commands (R94 to R98, R174 to R178, R196 to R198): what a reader sees,
look-ups, delivery in order, block commits. -/

namespace Sys2Proof.Machine

/-! ### What a reader sees (R94 to R96) -/

/-- Blocks an item covers. -/
def Item.covers' (it : Item) (lba : Nat) : Bool := decide (it.lba ≤ lba) && decide (lba < it.lba + it.count)

/-- A writer that still counts for a block: outstanding, accepted, not aborted, and the block neither committed nor taken
over by a writer of higher ASN. -/
def Item.writes (it : Item) (inst lba : Nat) : Bool :=
  isWriting it.op && decide (it.inst = inst) && it.outstanding && decide (it.state ≠ .deciding) && !it.aborted &&
    !it.finished && it.covers' lba && !it.wrote.contains lba && !it.beaten.contains lba

/-- The bytes a writer gives a block. -/
def Item.blockData (it : Item) (lba : Nat) : List Byte :=
  if it.op = 0x02 then readBytes it.wdata (4096 * (lba - it.lba)) 4096 else zeros 4096

/-- The writer of highest ASN below `asn` among writers that still count for a block, of those for which `p` holds. -/
def State.topWriter (s : State) (inst lba asn : Nat) (p : Item → Bool) : Option (Nat × Item) :=
  (s.cmd.items.filter fun e => e.2.writes inst lba && p e.2 && decide (e.2.asn < asn)).foldl (fun acc e =>
    match acc with
    | none => some e
    | some a => if a.2.asn < e.2.asn then some e else some a) none

/-- A writer still in its data phase: one marked aborted has left it (R95). -/
def Item.inData (it : Item) : Bool := decide (it.state = .dataPhase) && !it.aborted

/-- The ordering hazard of R95 for a reading command not yet accepted: a covered block's newest writer is in its data
phase. Answers that writer's number. -/
def State.hazard (s : State) (inst lba count : Nat) : Option Nat :=
  (List.range count).findSome? fun i =>
    match s.topWriter inst (lba + i) (2 ^ 64) fun _ => true with
    | some (n, w) => if w.inData then some n else none
    | none => none

/-- The grains of an extent with their block masks (R174). -/
def grainsOf (lba count : Nat) : List (Nat × Nat) :=
  if count = 0 then []
  else
    (List.range ((lba + count - 1) / 4 - lba / 4 + 1)).map fun i =>
      let g := lba / 4 + i
      (g, (List.range 4).foldl (fun m b => m + b2n (decide (lba ≤ 4 * g + b) && decide (4 * g + b < lba + count)) * 2 ^ b) 0)

/-- The look-up of a grain for a reader of an ASN (R94, R177, R197): the staged data of every writer of lower ASN, cache records, the
map entry at the end of the chain; writers in their data phase are waited for (R95). A segment lost to a DRAM error is not
looked up (R181). -/
def State.lookUp (s : State) (asn : Nat) (g : GrainWork) : State × GrainWork :=
  let k := mapKey g.inst g.grain
  if s.segIsLost k then (s, g)
  else
    let bs := maskBlocks g.mask
    let below := fun (b : Nat) => s.cmd.items.filter fun e => e.2.writes g.inst (4 * g.grain + b) && decide (e.2.asn < asn)
    let staged := bs.flatMap fun b => ((below b).filter fun e => !e.2.inData).map fun e =>
      ({ block := b, asn := e.2.asn, data := e.2.blockData (4 * g.grain + b) } : Staged)
    let waits := bs.flatMap fun b => ((below b).filter fun e => e.2.inData).map fun e => (b, e.1)
    let ch := s.chainAt k asn
    let lost := bs.foldl (fun m b => m + b2n ((s.inst g.inst).lostBlocks.contains (4 * g.grain + b)) * 2 ^ b) 0
    let fl := eKind ch.2 = 1
    let g := { g with taken := true, entry := ch.2, frames := ch.1.map fun r => frameSrc r.2, lost := lost, waits := waits,
                      overlay := staged, reading := fl }
    let b := blkKey (eDie ch.2) (eBlock ch.2)
    (if fl then s.setBlk b { s.blk b with reads := (s.blk b).reads + 1 } else s, g)

/-- The grains of an extent that this device owns (R427, R429). -/
def State.ownGrains (s : State) (inst lba count : Nat) : List (Nat × Nat) :=
  (grainsOf lba count).filter fun g => decide (s.ownerOf inst g.1 = s.selfId)

/-- Take up a reading item's grains at the instant it takes its ASN (R93, R94). Grains of another owner are filled by its
part (R429); a part received from a peer covers only the grains owned here. -/
def State.takeReads (s : State) (n : Nat) : State :=
  match s.item n with
  | none => s
  | some it =>
    let r := (grainsOf it.lba it.count).foldl (fun (acc : State × List GrainWork) (e : Nat × Nat) =>
      let g : GrainWork := { grain := e.1, inst := it.inst, mask := e.2 }
      let far := decide (s.ownerOf it.inst e.1 ≠ s.selfId)
      let x := if far then (acc.1, g) else acc.1.lookUp it.asn g
      (x.1, if far && decide (it.port ≥ 32) then acc.2 else acc.2 ++ [x.2])) (s, [])
    r.1.modItem n fun it => { it with grains := r.2 }

/-- A writer's data is complete: readers of higher ASN that waited for it take its blocks (R95). -/
def State.staged (s : State) (n : Nat) : State :=
  match s.item n with
  | none => s
  | some w =>
    s.mapItems fun _ it =>
      if it.outstanding && isReading it.op && decide (it.inst = w.inst) then
        { it with grains := it.grains.map fun g =>
            { g with
              overlay := g.overlay ++ ((g.waits.filter fun e => decide (e.2 = n)).map fun e =>
                ({ block := e.1, asn := w.asn, data := w.blockData (4 * g.grain + e.1) } : Staged))
              waits := g.waits.filter fun e => e.2 ≠ n } }
      else it

/-- A reading grain waits for a writer still in its data phase whose ASN is above every staged writer's of the block (R94, R95). -/
def State.grainWaits (s : State) (g : GrainWork) : Bool :=
  g.waits.any fun e => match s.item e.2 with
    | some w => w.inData && w.outstanding && (g.overlay.all fun o => decide (o.block ≠ e.1) || decide (o.asn < w.asn))
    | none => false

/-- A queued reader still waits for a writer in its data phase (R95). -/
def State.readWaits (s : State) (it : Item) : Bool := it.grains.any s.grainWaits

/-! ### Ending work -/

/-- Stop what an item still has in the flash back end: the reads of its grains end, its queued senses go (R155). -/
def State.dropWork (s : State) (n : Nat) : State :=
  match s.item n with
  | none => s
  | some it =>
    let s := it.grains.foldl (fun s g => s.endRead (.item n) g.grain) s
    let dies := s.flash.dies.map fun e => (e.1, { e.2 with queue := e.2.queue.filter fun o => decide (o.who ≠ some (.item n)) })
    { s with flash := { s.flash with dies := dies } }.modItem n fun it => { it with grains := [] }

/-- Free the digest context of an item. -/
def State.dropCtx (s : State) (n : Nat) : State :=
  match s.ctxOf n with
  | some (k, _) => (s.delCtx k).digRetry
  | none => s

/-! ### Delivery (R90, R245, R355) -/

/-- RESULT of a reading command that ends with a failed grain (R90, R245): its first failing block, which is the command's first in the
failed frame, and the detail code of a frame check. -/
def failResult (g : GrainWork) : List Byte :=
  if g.err = stIntegrity then beBytes 8 (4 * g.grain + g.bad) ++ beBytes 1 g.detail ++ zeros 7
  else beBytes 8 (4 * g.grain + g.bad)

/-- Bytes of the blocks of a mask. -/
def maskBytes (mask : Nat) (data : List Byte) : List Byte := (maskBlocks mask).flatMap fun b => cut data (4096 * b) 4096

/-- Deliver what the item's grains hold, in ascending order (R74, R254, R351); the first failed grain ends the item. -/
def State.deliver : Nat → State → Nat → State
  | 0, s, _ => s
  | f + 1, s, n =>
    match s.item n with
    | none => s
    | some it =>
      match it.grains with
      | [] => s
      | g :: rest =>
        let idx := g.grain - it.lba / 4
        if it.finished then s
        else if g.st = .failed then
          if it.op = 0x08 then (s.scanFail n idx g.err).dropWork n
          else ((s.dropWork n).dropCtx n).finish n g.err (failResult g)
        else if g.st ≠ .done ∨ isReading it.op = false then s
        else
          let s := s.modItem n fun it => { it with grains := rest }
          let s := match it.op with
            | 0x01 =>
              let s := s.modItem n fun it => { it with out := it.out ++ maskBytes g.mask g.data }
              if rest = [] then s.finish n stSuccess else s
            | 0x08 => if g.data = [] then s.scanSkip n idx else s.scanGrain n idx g.data
            | _ =>
              (s.modItem n fun it => { it with out := it.out ++ maskBytes g.mask g.data, outDone := decide (rest = []) }).digFeed n
          State.deliver f s n

/-- Deliver for every item. -/
def State.deliverAll (s : State) : State := s.cmd.items.foldl (fun s e => s.deliver 65537 e.1) s

/-! ### Starting (R105, R197) -/

/-- Whether an item holds a booking on a resource. -/
def State.bookedOn (s : State) (n res : Nat) : Bool := s.cad.bookings.any fun b => decide (b.item = n) && decide (b.res = res)

/-- Whether a read of an entry goes as a rebuild from the start: its die has failed (R188), or Cadence planned it so, with bookings on other
members and none on its own die (R194). -/
def State.planRebuild (s : State) (n : Nat) (it : Item) (e : W64) : Bool :=
  !s.dieGood (eDie e) ||
    (it.promised && !s.bookedOn n (eDie e) && ((s.others e).any fun d => s.bookedOn n d))

/-- A looked-up grain's work starts: from staged data alone, from cached frames, or by a sense of its base. -/
def State.startGrain (s : State) (n : Nat) (it : Item) (g : GrainWork) : State :=
  if g.st ≠ .lookup ∨ g.taken = false ∨ s.grainWaits g then s
  else if g.lost &&& g.need ≠ 0 then s.failGrain (.item n) g.grain stMedia 0 (firstBlock (g.lost &&& g.need))
  else if g.baseNeed ≠ 0 ∧ eKind g.entry = 3 then s.failGrain (.item n) g.grain stMedia 0 (firstBlock g.baseNeed)
  else if g.baseNeed ≠ 0 ∧ eKind g.entry = 1 then
    if s.planRebuild n it g.entry then
      if s.canRebuild g.entry then s.rebuildAll (.item n) g 0 else s.failCw (.item n) g
    else s.senseOf (.item n) g
  else if g.settled = false then s
  else
    let s := s.endRead (.item n) g.grain
    let cached := (maskBlocks g.need).any fun b => g.frames.any fun f => nbit f.mask b
    if cached then s.modGw (.item n) g.grain fun g => { g with st := .frame, entry := 0, reading := false }
    else
      let unmapped := it.op = 0x08 ∧ g.overlay = []
      let data := (List.range 4).flatMap fun b => ((g.over b).map (·.data)).getD (zeros 4096)
      (s.modGw (.item n) g.grain fun g => { g with st := .done, data := if unmapped then [] else data, reading := false }).landFor (.item n)
        g.grain (if unmapped then [] else data)

/-- The reading work of an item starts. -/
def State.startReads (s : State) (n : Nat) : State :=
  match s.item n with
  | none => s
  | some it => ((it.grains.foldl (fun s g => s.startGrain n it g) s).deliver 65537 n)

/-- Readers of an instance whose look-ups wait for staged blocks go on. -/
def State.wakeReads (s : State) (inst : Nat) : State :=
  (s.cmd.items.filter fun e => isReading e.2.op && decide (e.2.inst = inst) && decide (e.2.state = .running) && !e.2.finished &&
    !e.2.aborted).foldl (fun s e => s.startReads e.1) s

/-- A writer ends: what it staged and has not written counts for no reader (R94, R103). -/
def State.endWriter (s : State) (n : Nat) : State :=
  match s.item n with
  | none => s
  | some it => if isWriting it.op then (s.unstage it.inst it.asn fun _ => true).wakeReads it.inst else s

/-- A failed grain of a writing item ends it (R245). -/
def State.writeFail (s : State) (n : Nat) : State :=
  match s.item n with
  | none => s
  | some it =>
    match it.grains.find? fun g => decide (g.st = .failed) with
    | some g =>
      if isWriting it.op && !it.finished then
        (s.dropWork n).endWriter n |>.finish n g.err (beBytes 8 (g.firstLba g.mask) ++ beBytes 1 g.detail ++ zeros 7)
      else s
    | none => s

/-- The writing work of an item starts once its data is complete (R175, R196): whole grains of `WRITE_ZEROES` and
`DEALLOCATE` need no frame. -/
def State.startWrites (s : State) (n : Nat) : State :=
  s.modItem n fun it => { it with grains := (s.ownGrains it.inst it.lba it.count).map fun e =>
    { grain := e.1, inst := it.inst, mask := e.2, st := if it.op ≠ 0x02 ∧ e.2 = 15 then .done else .frame } }

/-! ### Block commits (R88, R96, R98, R176, R178, R196, R198) -/

/-- Blocks of a grain under a retention lock (R178, R407). -/
def State.lockedMask (s : State) (inst grain : Nat) : Nat :=
  (List.range 4).foldl (fun m b => m + b2n (s.flash.locks.any fun l => decide (l.2.inst = inst) &&
    decide (l.2.lba ≤ 4 * grain + b) && decide (4 * grain + b < l.2.lba + l.2.count)) * 2 ^ b) 0

/-- Key of a block in the memory of newest writes. -/
def blockKey (inst lba : Nat) : Nat := 4 * mapKey inst (lba / 4) + lba % 4

/-- A block is committed: it is no longer lost, its newest ASN is remembered, writers of lower ASN no longer count for it, and readers
that hold it staged from its writer, or from a writer of lower ASN, may send it (R94, R96). -/
def State.blockWritten (s : State) (n : Nat) (inst asn lba : Nat) : State :=
  let s := if (s.inst inst).lostBlocks.contains lba then
      s.modInst inst fun x => { x with lostBlocks := x.lostBlocks.filter (· ≠ lba) } else s
  let s := { s with flash := { s.flash with lastAsn := SMap.updD 0 s.flash.lastAsn (blockKey inst lba) (max asn) } }
  s.mapItems fun m it =>
    if m = n then { it with wrote := it.wrote ++ [lba] }
    else if it.writes inst lba && decide (it.asn < asn) then { it with beaten := it.beaten ++ [lba] }
    else if isReading it.op && it.outstanding && decide (it.inst = inst) then
      { it with grains := it.grains.map fun g =>
          if g.grain = lba / 4 then
            { g with overlay := g.overlay.map fun o => if o.block = lba % 4 ∧ o.asn ≤ asn then { o with sure := true } else o }
          else g }
    else it

/-- Blocks of a grain that a writer of higher ASN has written, wherever their data lies now (R94, R96, R435). -/
def State.laterBlocks (s : State) (inst grain asn : Nat) : Nat :=
  (List.range 4).foldl (fun m b => m + b2n (decide (asn < SMap.getD 0 s.flash.lastAsn (blockKey inst (4 * grain + b)))) * 2 ^ b) 0

/-- Write a grain's blocks of a mask: a cache record with the frame, or `UNMAPPED` for a whole grain without one
(R175, R196). -/
def State.putGrain (s : State) (k mask made asn : Nat) (frame : List Byte) : State :=
  let s := if s.isKnot (keyInst k) then
      let p : PrevEntry := { key := k, asn := asn, entry := s.mapAt k, us := s.now }
      { s with flash := { s.flash with prevs := s.flash.prevs ++ [p] } }
    else s
  if frame = [] then
    if mask = 15 then ((s.chain k).1.foldl (fun s r => s.dropRec r.1) s).mapSet k 0
    else s.addRec k mask mask asn (padFrame (zeroFrame (s.inst (keyInst k)).compLevel (zeros (4096 * (maskBlocks mask).length))))
  else s.addRec k mask made asn frame

/-- Whether an instance's cached writes are mirrored to a buddy that is in step (R438, R440): `MIRROR` set in its flags and
mirroring not suspended. -/
def State.mirrored (s : State) (inst : Nat) : Bool :=
  nbit (s.inst inst).iflags 3 && decide (s.fld 0x040 0x0CC 16 16 = 0)

/-- A new cache record of a mirrored instance goes to the buddy, whose report its write awaits (R438). -/
def State.mirrorNew (s : State) (n k : Nat) : State :=
  if eKind (s.mapAt k) ≠ 2 then s
  else
    match s.cacheRec (eCaddr (s.mapAt k)) with
    | none => s
    | some r =>
      let s := { s with knot := { s.knot with credit := s.knot.credit - r.frame.length } }
      (s.modItem n fun it => { it with mirrorWait := it.mirrorWait + 1 }).knotSend (s.selfId ^^^ 1)
        (.mirror (eCaddr (s.mapAt k)) r.inst r.grain r.mask r.made r.asn r.frame)

/-- The bookings of a write's later programming shrink to the frames made of its data (R133). -/
def State.trimLate (s : State) (n : Nat) (it : Item) : State :=
  let size := 4096 * ((s.ownGrains it.inst it.lba it.count).map fun g => (maskBlocks g.2).length).sum
  if size = 0 ∨ it.frameBytes ≥ size then s
  else
    { s with cad := { s.cad with bookings := s.cad.bookings.map fun b =>
        if b.late ∧ b.item = n then { b with amt := cdiv (b.amt * it.frameBytes) size } else b } }

/-- A writing item whose grains are all committed and whose forwarded parts have all ended (R88, R429). -/
def State.writeDone (s : State) (n : Nat) : State :=
  match s.item n with
  | none => s
  | some x =>
    if x.grains ≠ [] ∨ x.parts ≠ 0 then s
    else
      let s := { s with flash := { s.flash with resv := SMap.del s.flash.resv n } }.trimLate n x
      if x.firstFail ≠ 0 then s.finish n stRetentionLocked (beBytes 8 (x.firstFail - 1)) else s.finish n stSuccess

/-- Commit a writing item's grain. -/
def State.commitGrain (s : State) (n : Nat) (it : Item) (g : GrainWork) : State :=
  let k := mapKey g.inst g.grain
  let lock := s.lockedMask g.inst g.grain &&& g.mask
  let beat := (maskBlocks g.mask).foldl (fun m b => m + b2n (it.beaten.contains (4 * g.grain + b)) * 2 ^ b) 0
  let mask := g.mask &&& (15 - (lock ||| beat ||| s.newerBlocks k it.asn ||| s.laterBlocks g.inst g.grain it.asn) % 16)
  let s := if lock ≠ 0 then
      s.modItem n fun it => if it.firstFail = 0 ∨ g.firstLba lock + 1 < it.firstFail then
        { it with firstFail := g.firstLba lock + 1 } else it
    else s
  let s := if mask = 0 then s
    else
      let s := s.putGrain k mask g.mask it.asn g.data
      let s := (maskBlocks mask).foldl (fun s b => s.blockWritten n g.inst it.asn (4 * g.grain + b)) s
      if s.mirrored g.inst then s.mirrorNew n k else s
  let s := s.modItem n fun it =>
    { it with grains := it.grains.filter fun x => x.grain ≠ g.grain, frameBytes := it.frameBytes + g.data.length }
  let s := (s.giveRoom n g.data.length).unstage g.inst it.asn fun b => decide (b / 4 = g.grain)
  (s.wakeReads g.inst).writeDone n

/-- `REPLAY_END` has arrived since the last mailbox reset (R409): writing commands may commit blocks. -/
def State.replayed (s : State) : Bool := decide (s.fld 0x1D0 0x050 6 6 = 1)

/-- `MAP_UPDATE`: a grain of a writing item (`item` not 0) commits, or a relocation swaps an entry (R176). A lost segment is
first rebuilt (R181); until the lock replay has ended no writing command commits (R409). -/
def State.mapUpdate (s : State) (n key : Nat) (old new : W64) : State :=
  if s.segIsLost key then s
  else if n = 0 then (s.mapSwap key old new).1
  else
    match s.item n with
    | none => s
    | some it =>
      match it.grains.find? fun g => decide (mapKey g.inst g.grain = key) with
      | none => s
      | some g => if isWriting it.op && decide (g.st = .done) && s.replayed then s.commitGrain n it g else s

/-- `MAP_SEGMENT_REBUILD` (R181): reads that waited for the segment are looked up and start. -/
def State.segmentRebuild (s : State) (seg : Nat) : State :=
  let s := s.rebuildSegment seg
  s.cmd.items.foldl (fun s e =>
    match s.item e.1 with
    | none => s
    | some it =>
      if isReading it.op && it.outstanding then
        let s := it.grains.foldl (fun s g =>
          if g.taken ∨ s.ownerOf g.inst g.grain ≠ s.selfId then s
          else
            let r := s.lookUp it.asn g
            r.1.modGw (.item e.1) g.grain fun _ => r.2) s
        if it.state = .running then s.startReads e.1 else s
      else s) s

/-! ### Commands -/

/-- `CODEWORD_DECODE` (R189 to R192). -/
def execCodewordDecode (d : DecodeIn) (s : State) : Host.Outcome State Fault Refusal :=
  .next (if d.bg then s.decodeEnd d else (s.decodeEnd d).deliver 65537 d.item)

/-- The item whose frame is on an engine; 0, no item, where there is none. -/
def runItem (m : SMap FrameWork) (e : Nat) : Nat :=
  match (SMap.find m e).bind (·.who) with
  | some (.item n) => n
  | _ => 0

/-- `FRAME_COMPRESSED` (R231, R243, R245): engine `e` ends its frame, whose encoder made the payload `cand`. -/
def execFrameCompressed (e : Nat) (cand : List Byte) (poison : Bool) (s : State) : Host.Outcome State Fault Refusal :=
  .next ((s.frameMade e cand poison).writeFail (runItem s.eng.ceRun e))

/-- `FRAME_DECODED` (R244, R245): engine `e` ends its frame; `arrived` is the frame as it reached the engine, where it differs
from what was stored. -/
def execFrameDecoded (e : Nat) (arrived : Option (List Byte)) (poison : Bool) (s : State) :
    Host.Outcome State Fault Refusal :=
  .next ((s.frameDecoded e arrived poison).deliver 65537 (runItem s.eng.deRun e))

/-- `DIE_TIMEOUT` (R202). -/
def execDieTimeout (die : Nat) (s : State) : Host.Outcome State Fault Refusal := .next (s.dieTimeout die).deliverAll

/-- `MAP_UPDATE` (R88, R176, R178, R196, R198). -/
def execMapUpdate (item key : Nat) (old new : BitVec 64) (s : State) : Host.Outcome State Fault Refusal :=
  .next (s.mapUpdate item key old new)

/-- `SUPERSEDED_RECORD_EXPIRY` (R435). -/
def execSupersededRecordExpiry (s : State) : Host.Outcome State Fault Refusal := .next s.expireKept.eraseReady

/-- `MAP_SEGMENT_REBUILD` (R181). -/
def execMapSegmentRebuild (seg : Nat) (s : State) : Host.Outcome State Fault Refusal := .next (s.segmentRebuild seg)

end Sys2Proof.Machine
end

