-- ==== Sys2Proof/Machine/Cadence.lean ====
section
/-! DEFINITION. Cadence (R115 to R141): deadlines, capacities, calendars and the admission decision. The plan of a command is
an operand of `ADMISSION_DECISION`: the spec leaves it to the device. -/

namespace Sys2Proof.Machine

/-! ### Steps (R128, R454) -/

/-- The power-limit step and the time since the last descent, us, as Cadence has them (R141, R453). -/
def State.cadStep (s : State) : Nat := s.fld 0x010 0x058 3 0
/-- *a* of R128. -/
def State.sinceDescent (s : State) : Nat := s.fld 0x010 0x058 18 8
/-- Floor step of slot time `t` us after now (R128). -/
def State.floorStep (s : State) (t : Nat) : Nat := min 15 (s.cadStep + (t + s.sinceDescent) / 2000)
/-- Scan rate at a step, bytes per us. -/
def scanRate (st : Nat) : Nat := 800000 - 32000 * st
/-- Bus factor, percent. -/
def busPct (st : Nat) : Nat := 100 - 3 * st

/-- Least time, us and rounded up, in which a rate that depends on the floor step reaches an amount (R121): piece `i` of the
descent, its length and the time so far. -/
def State.timeFor (s : State) (rate : Nat → Nat) : Nat → Nat → Nat → Nat → Nat
  | 0, _, t, left => t + cdiv left (rate 15)
  | f + 1, i, t, left =>
    let st := min 15 (s.cadStep + i)
    let len := 2000 * (i + 1) - s.sinceDescent - t
    if st = 15 ∨ left ≤ rate st * len then t + cdiv left (rate st) else s.timeFor rate f (i + 1) (t + len) (left - rate st * len)

/-- The least time from the decision. -/
def State.leastTime (s : State) (rate : Nat → Nat) (amount : Nat) : Nat :=
  s.timeFor rate 17 (s.sinceDescent / 2000) 0 amount

/-! ### Capacities (R125, R194, R247, R381, R551) -/

/-- Data rate of a sub-interface's egress in bytes per us, 0 where the mode does not provide it (R44, R125). -/
def State.egressCap (s : State) (n sub : Nat) : Nat :=
  match s.fld (0x030 + n) 0x040 1 0 with
  | 0 => if sub = 0 then 25000 else 0
  | 1 => if sub < 2 then 12500 else 0
  | 2 => 6250
  | _ => 3125

/-- Capacity of a DRAM class: its figure summed over the channels in use, scaled by their data rate (R381). -/
def State.dramCap (s : State) (perChan : Nat) : Nat :=
  ((List.range 8).map fun c => if s.dcState c = 2 then perChan * s.fld (0x060 + c) 0x048 27 16 / 6400 else 0).sum

/-- Sense time that R193 leaves open in the fine slot `t` us from now on a die whose program or erase `o` runs or is suspended (R194):
each suspension still allowed opens a window of 4 senses and the suspend latency, `MIN_RESUME_US` after the resume before it.
Once they are spent nothing is left until the operation's longest time from its start has passed. DESIGN CHOICE (log entry
127): the windows are counted as early as R193 allows. -/
def State.senseRoom (s : State) (d t : Nat) (o : DieOp) : Nat :=
  let x := s.die d
  let pg := fcPage (dieCh d)
  let most := if o.kind = .program then s.fld pg 0x044 31 16 else s.fld pg 0x048 31 16
  let max' := if o.kind = .program then s.fld pg 0x04C 31 24 else s.fld pg 0x04C 23 16
  let gap := s.fld pg 0x04C 15 0
  let width := cdiv (4 * s.trNs (dieCh d) + s.tsusNs (dieCh d)) 1000
  let at' := s.now + t
  if at' ≥ x.startUs + most then 1000
  else if x.susp.isSome ∨ x.suspending then (if t < width then 1000 else 0)
  else
    let from' := max s.now (x.resumeUs + gap)
    if at' < from' then 0
    else if (at' - from') / (width + gap) < max' - x.suspN ∧ (at' - from') % (width + gap) < width then 1000
    else 0

/-- Capacity of a die in the fine slot `t` us from now (R125, R194). -/
def State.dieCap (s : State) (d t : Nat) : Nat :=
  if s.dieGood d = false ∨ s.chanOn (dieCh d) = false then 0
  else
    let x := s.die d
    match (x.susp.toList ++ x.op.toList).find? fun o => decide (o.kind ≠ .sense) with
    | some o => s.senseRoom d t o
    | none => 1000

/-- Capacity of a resource per 1 us at a step, in the slot `t` us from now. -/
def State.capAt (s : State) (r st t : Nat) : Nat :=
  if r < 2048 then s.dieCap r t
  else if r < 2176 then
    if s.enabled (fcPage (r - 2048)) then s.rateMts (r - 2048) * busPct st / 100 else 0
  else if r = 2176 then 1000 * s.engCount 0
  else if r = 2177 then 1000 * s.engCount 1
  else if r = 2178 then 1000 * s.engCount 2
  else if r < 2183 then if s.enabled (0x1A0 + (r - 2179)) || r = 2179 then searchCap st else 0
  else if r < 2199 then
    if s.enabled (scPage (r - 2183)) && decide (s.fld (scPage (r - 2183)) 0x040 0 0 = 0) then 12 * scMhz st else 0
  else if r = 2199 then 200000
  else if r = 2200 then s.dramCap 10240
  else if r = 2201 then s.dramCap 20480
  else if r = 2202 then s.dramCap 10240
  else if r < 2267 then s.egressCap ((r - 2203) / 4) ((r - 2203) % 4)
  else if r = 2267 then s.poolCount 2
  else 0

/-- Resources of a lease copy (R430, R431): peer `j`'s resource `q` is (j + 1) × 4,096 + q, and 2,268 and 2,269 are its link out
and in. -/
def leaseRes (j q : Nat) : Nat := 4096 * (j + 1) + q

/-- Floor step of a peer's slot `t` us from now: at the step its idle flits carry, a descent counted as possible at once. -/
def State.peerFloor (s : State) (j t : Nat) : Nat :=
  min 15 ((SMap.getD ({} : LinkSt) s.knot.links j).peerStep + (t + 2000) / 2000)

/-- Capacity of a resource, own or of a peer, per 1 us in the slot `t` us from now. -/
def State.capNow (s : State) (r t : Nat) : Nat :=
  if r < 4096 then s.capAt r (s.floorStep t) t
  else
    let j := r / 4096 - 1
    let q := r % 4096
    if q ≥ 2268 then (if (SMap.getD ({} : LinkSt) s.knot.links j).half then 25000 else 50000) else s.capAt q (s.peerFloor j t) t

/-- A resource that books a level. -/
def isLevel (r : Nat) : Bool := decide (r % 4096 = 2267)

/-- A resource whose bookings are runs: one engine of the group in each of consecutive slots (R247, R255). -/
def isRun (r : Nat) : Bool := decide (2176 ≤ r % 4096) && decide (r % 4096 ≤ 2178)

/-- Percent of the bookable capacity leased to peers whose links are up (R430). -/
def State.leasedPct (s : State) : Nat :=
  ((List.range 8).map fun j => if s.fld (0x040 + j) 0x040 3 0 = 3 then s.fld (0x040 + j) 0x048 7 0 else 0).sum

/-- The reserve under which a resource is booked: pool 2 keeps the one a commit has lowered until *UNB2* is at or below *CAP2* (R220). -/
def State.reserveOf (s : State) (r : Nat) : Nat :=
  if isLevel r ∧ s.cad.heldPct ≠ 0 ∧ s.cap2 < s.unb2 then s.cad.heldPct else s.reservePct

/-- The part of a resource's capacity that own admissions may book (R130, R430). -/
def State.bookable (s : State) (r cap : Nat) : Nat := cap * (100 - s.reserveOf r) / 100 * (100 - s.leasedPct) / 100

/-- The part of a resource's capacity that admissions here may book: of a peer's, its lease (R430); of a link, 90 % (R431). -/
def State.admitCap (s : State) (r cap : Nat) : Nat :=
  if r < 4096 then s.bookable r cap
  else if r % 4096 ≥ 2268 then cap * 90 / 100
  else cap * (100 - s.reservePct) / 100 * s.fld (0x040 + (r / 4096 - 1)) 0x048 7 0 / 100

/-- Capacity of a resource in a slot, absolute, before the reserve: a fine slot, or a coarse slot at the floor step of its
last us (R126, R128). -/
def State.slotCap (s : State) (r : Nat) (coarse : Bool) (k : Nat) : Nat :=
  if coarse then
    let t := 1000 * (k + 1) - 1 - s.now
    s.capNow r t * (if isLevel r then 1 else 1000)
  else s.capNow r (k - s.now)

/-! ### The pending-write pool's reservation (R133) -/

/-- Rates of compression by level, 0.1 GB/s (R246): stored frames and levels 1 to 4. -/
def ceRate (level : Nat) : Nat := [128, 64, 40, 20, 8].getD level 8

/-- Engine time of a frame of `n` original bytes at a level and a step, ns (R246, R454). -/
def ceNs (level st n : Nat) : Nat := 250 + cdiv (n * 10 * 1200) (ceRate level * (1200 - 48 * st))

/-- Engine time of a decompressed frame of `n` original bytes, ns (R246, R454). -/
def deNs (st n : Nat) : Nat := 250 + cdiv (n * 10 * 1200) (96 * (1200 - 48 * st))

/-- Blocks of a message of `n` bytes (R254). -/
def msgBlocks (alg n : Nat) : Nat :=
  (if algBig alg then cdiv (n + 17) 128 else cdiv (n + 9) 64) + b2n (algHmac alg)

/-- Engine time of a message of `n` bytes, ns (R253, R254, R454). -/
def msgNs (alg st n : Nat) : Nat := 250 + cdiv (msgBlocks alg n * (if algBig alg then 22 else 18) * 1000) (1200 - 48 * st)

/-- Engine time in whole slots of 1,000 engine-ns (R247). -/
def slotNs (ns : Nat) : Nat := 1000 * cdiv ns 1000

/-- The slowest compression level bound to an instance. -/
def State.slowLevel (s : State) : Nat := (s.insts.map fun e => if e.2.state = .free then 0 else e.2.compLevel).foldl max 0

/-- Wire bytes of a PDU of `n` payload bytes on a connection: its Ethernet header with tag and FCS, its IP, UDP and Pasesar headers
(R125). -/
def State.wireLen (s : State) (x : Conn) (n : Nat) : Nat :=
  14 + (if (s.tagOf x.port x.subif x.localIp).isSome then 4 else 0) + (if x.localIp / 2 ^ 32 = 0xFFFF then 20 else 40) + 8 + 32 + n + 4

/-- What the pool reserves of a resource in every 1 us slot (R133): that the data of `C0_KIB`, in commands of one block, is compressed at
step 15, written and reported within 60 us, and that of `C1_MIB`, in commands of 17 blocks, within 2,000 us. DESIGN CHOICE (log
entry 128): the device sizes the pool; this is the least size that holds what R133 asks. -/
def State.poolAmt (s : State) (r : Nat) : Nat :=
  let c0 := 1024 * s.fld 0x010 0x050 15 0
  let c1 := 2 ^ 20 * s.fld 0x010 0x050 31 16
  let l := s.slowLevel
  if r = 2176 then cdiv (c0 / 4096 * slotNs (ceNs l 15 4096)) 60 + cdiv (cdiv c1 16384 * slotNs (ceNs l 15 16384)) 2000
  else if r = 2201 then cdiv c0 60 + cdiv c1 2000
  else if 2203 ≤ r ∧ r < 2267 then
    if s.egressCap ((r - 2203) / 4) ((r - 2203) % 4) = 0 then 0
    else cdiv (c0 / 4096 * 122) 60 + cdiv (cdiv c1 (17 * 4096) * 122) 2000
  else 0

/-! ### Calendars (R126) -/

/-- Sum of amounts. -/
def amtSum (bs : List Booking) : Nat := (bs.map (·.amt)).sum

/-- Amount booked in a slot among bookings `bs`. A level stands in every slot; an amount in a coarse slot counts with the
fine bookings of its span. -/
def bookedIn (bs : List Booking) (r : Nat) (coarse : Bool) (k : Nat) : Nat :=
  let mine := bs.filter fun b => decide (b.res = r)
  if coarse then
    let c := amtSum (mine.filter fun b => b.coarse && decide (b.slot = k))
    let fine := mine.filter fun b => !b.coarse && decide (b.slot / 1000 = k)
    if isLevel r then c + (fine.map fun b => amtSum (fine.filter fun x => decide (x.slot = b.slot))).foldl max 0
    else c + amtSum fine
  else
    amtSum (mine.filter fun b => !b.coarse && decide (b.slot = k)) +
      (if isLevel r then amtSum (mine.filter fun b => b.coarse && decide (b.slot = k / 1000)) else 0)

/-- Room in a slot under a limit per slot kind: in a fine slot also what its span leaves (R126). -/
def State.roomIn (s : State) (bs : List Booking) (lim : Nat → Nat) (r : Nat) (coarse : Bool) (k : Nat) : Nat :=
  let here := lim (s.slotCap r coarse k) - bookedIn bs r coarse k
  if coarse ∨ isLevel r then here else min here (lim (s.slotCap r true (k / 1000)) - bookedIn bs r true (k / 1000))

/-- Bookings of an instance's commands. -/
def State.instBookings (s : State) (bs : List Booking) (n inst : Nat) : List Booking :=
  bs.filter fun b => decide (b.item = n) || match s.item b.item with
    | some it => decide (it.inst = inst)
    | none => false

/-- `SHARE_PCT` of an instance (R141). -/
def State.sharePct (s : State) (inst : Nat) : Nat := s.fld 0x011 (4 * inst) 6 0

/-- The standing reservation of update slots on a search bank (R288). -/
def State.updRes (s : State) (r : Nat) (coarse : Bool) : Nat :=
  if 2179 ≤ r ∧ r < 2183 then s.fld (sbPage (r - 2179)) 0x060 9 0 * (if coarse then 1000 else 1) else 0

/-- What of the pool's reservation in a slot no write has been given (R133). -/
def State.poolLeft (s : State) (bs : List Booking) (r : Nat) (coarse : Bool) (k : Nat) : Nat :=
  let mine := bs.filter fun b => b.pool && decide (b.res = r)
  if coarse then 1000 * s.poolAmt r - amtSum (mine.filter fun b => if b.coarse then decide (b.slot = k) else decide (b.slot / 1000 = k))
  else s.poolAmt r - amtSum (mine.filter fun b => !b.coarse && decide (b.slot = k))

/-- A slot lies on the resource's calendars: 4,096 fine slots, 8,192 coarse ones (R126). -/
def State.onCalendar (s : State) (coarse : Bool) (k : Nat) : Bool :=
  if coarse then decide (k < s.now / 1000 + 8192) else decide (k < s.now + 4096)

/-- Room a command of an instance finds in a slot: of the capacity, and of its instance's share (R134). -/
def State.capRoom (s : State) (bs : List Booking) (r : Nat) (coarse : Bool) (k : Nat) : Nat :=
  s.roomIn bs (s.admitCap r) r coarse k - s.updRes r coarse - s.poolLeft bs r coarse k
/-- Room of the share. -/
def State.shareRoom (s : State) (bs : List Booking) (n inst pct r : Nat) (coarse : Bool) (k : Nat) : Nat :=
  if r ≥ 4096 then s.capRoom bs r coarse k
  else s.roomIn (s.instBookings bs n inst) (fun c => s.bookable r c * pct / 100) r coarse k

/-- Who books: the item, its instance, the share of it, and whether for the later programming of its data (R133, R134). -/
structure Booker where
  /-- The item. -/
  n : Nat
  /-- Its instance. -/
  inst : Nat
  /-- Share that bounds it, percent. -/
  pct : Nat
  /-- For later programming. -/
  late : Bool := false
  deriving DecidableEq, Repr

/-- Room a booker finds in a slot of the calendars. -/
def State.bookRoom (s : State) (bs : List Booking) (w : Booker) (r : Nat) (coarse : Bool) (k : Nat) : Nat :=
  if s.onCalendar coarse k then min (s.capRoom bs r coarse k) (s.shareRoom bs w.n w.inst w.pct r coarse k) else 0

/-- Floor step a slot is checked at (R128). -/
def State.slotStep (s : State) (r : Nat) (coarse : Bool) (k : Nat) : Nat :=
  let t := if coarse then 1000 * (k + 1) - 1 - s.now else k - s.now
  if r < 4096 then s.floorStep t else s.peerFloor (r / 4096 - 1) t

/-- A booking, with the floor step it was checked against (R139). -/
def State.booking (s : State) (w : Booker) (r : Nat) (coarse : Bool) (k amt : Nat) : Booking :=
  { item := w.n, res := r, coarse := coarse, slot := k, amt := amt, step := s.slotStep r coarse k, late := w.late }

/-- Fill a demand's slots earliest first: `f` slots from `k`. What is left, the slot after the last looked at, and the
bookings with what was held. -/
def State.fill (s : State) (w : Booker) (r : Nat) (coarse : Bool) : Nat → Nat → Nat → List Booking → Nat × Nat × List Booking
  | 0, k, left, bs => (left, k, bs)
  | f + 1, k, left, bs =>
    if left = 0 then (0, k, bs)
    else
      let take := min left (s.bookRoom bs w r coarse k)
      let bs := if take = 0 then bs else bs ++ [s.booking w r coarse k take]
      s.fill w r coarse f (k + 1) (left - take) bs

/-- Hold a level in every slot of a span: none where some slot lacks room. -/
def State.fillLevel (s : State) (w : Booker) (r amt : Nat) (coarse : Bool) : Nat → Nat → List Booking → Option (List Booking)
  | 0, _, bs => some bs
  | f + 1, k, bs =>
    if s.bookRoom bs w r coarse k < amt then none
    else s.fillLevel w r amt coarse f (k + 1) (bs ++ [s.booking w r coarse k amt])

/-- The reason a demand finds no room (R134, R135, R432). -/
def State.shortReason (s : State) (bs : List Booking) (w : Booker) (r : Nat) (coarse : Bool) (k : Nat) : Nat :=
  if r ≥ 4096 then 8 else if s.shareRoom bs w.n w.inst w.pct r coarse k < s.capRoom bs r coarse k then 2 else 1

/-- Try a plan from the present slot: the bookings with the plan's held, or the `BUSY` reason (R134). Demands for later programming go to
the coarse calendar (R133). -/
def State.tryPlan (s : State) (w : Booker) (coarse : Bool) : List Demand → List Booking → Except Nat (List Booking)
  | [], bs => .ok bs
  | q :: rest, bs =>
    let w' := { w with late := q.late }
    let c := coarse || q.late
    let k := (if c then s.now / 1000 else s.now) + q.first
    let span := q.last + 1 - q.first
    if isLevel q.res || isRun q.res then
      match s.fillLevel w' q.res q.amt c span k bs with
      | some bs => s.tryPlan w coarse rest bs
      | none => .error (s.shortReason bs w' q.res c k)
    else
      let r := s.fill w' q.res c span k q.amt bs
      if r.1 = 0 then s.tryPlan w coarse rest r.2.2
      else .error (s.shortReason r.2.2 w' q.res c r.2.1)

/-! ### Deadlines (R119 to R123) -/

/-- Bytes of cached writes, of one instance or of all (R122): a write is cached once it is reported (R105). DESIGN CHOICE (log entry 129):
the bytes are those of the stored frames, which a flush programs. -/
def State.cachedBytes (s : State) (inst : Option Nat) : Nat :=
  ((s.flash.recs.filter fun r => (match inst with
    | some i => decide (r.2.inst = i)
    | none => true) && !s.cmd.items.any fun e => e.2.outstanding && decide (e.2.inst = r.2.inst) && decide (e.2.asn = r.2.asn)).map
    fun r => r.2.frame.length).sum

/-- *L* of R122: the latest remaining deadline among covered items, from this command's clock start. -/
def State.latest (s : State) (it : Item) (p : Item → Bool) : Nat :=
  (s.cmd.items.map fun e => if e.2.outstanding && e.2.promised && e.2.clockOn && p e.2 then e.2.deadline - it.startUs else 0).foldl max 0

/-- Stored bytes of an extent (R179). -/
def State.storedBytes (s : State) (inst lba count : Nat) : Nat :=
  let a := lba / 4
  let b := (lba + count - 1) / 4
  ((List.range (b / 2 ^ 18 - a / 2 ^ 18 + 1)).map fun i =>
    let g := a / 2 ^ 18 + i
    let lo := max a (2 ^ 18 * g)
    let hi := min b (2 ^ 18 * g + 2 ^ 18 - 1)
    if hi + 1 - lo = 2 ^ 18 then 64 * SMap.getD 0 s.flash.segLen (2 ^ 16 * inst + g) else 16448 * (hi + 1 - lo)).sum

/-- A commit that sets a cluster's `HOLD` has been taken and has not applied (R349). -/
def State.holdComing (s : State) (page : Nat) : Bool :=
  (SMap.getD 0 s.cfg.comMask (rkey page 0x040)).getLsbD 0 && (SMap.getD 0 s.cfg.comVal (rkey page 0x040)).getLsbD 0

/-- Free clusters of R121: `HOLD` 0, enabled, and no booking from the next fine slot on. -/
def State.freeClusters' (s : State) : Nat :=
  ((List.range 16).filter fun cc => decide (s.fld (scPage cc) 0x040 0 0 = 0) && !s.holdComing (scPage cc) && s.enabled (scPage cc) &&
    !((s.cad.bookings.any fun b => decide (b.res = 2183 + cc) && (if b.coarse then decide ((s.now + 1) / 1000 ≤ b.slot) else decide (s.now < b.slot))) ||
      s.cad.standing.any fun b => decide (b.res = 2183 + cc))).length

/-- *r*0 of R121, in units of 1,000 bytes per us. -/
def State.freeMedia (s : State) : Nat :=
  let room := ((List.range 128).map fun c => s.capRoom s.cad.bookings (2048 + c) false (s.now + 1)).sum
  min 415 (1000 * room / 1125 / 1000)

/-- The pair of cores and media rate that Cadence tries at turn `k` (R121). -/
def State.scanChoice (s : State) (k : Nat) : Nat × Nat :=
  (12 * max 1 (s.freeClusters' / 2 ^ k), max 1000 (1000 * (1000 * s.freeMedia / (1000 * 2 ^ k))))

/-- Worst-case cycles of a scan (R358). -/
def scanCycles (m : List Byte) (it : Item) (nc : Nat) : Nat :=
  let g := it.scanGrains
  let rg := 16384 / imgRecMin m
  let d := recLimit m it
  let jmax := imgJg m + imgCpr m * min rg d
  cdiv ((g * imgJg m + imgCpr m * d + nc * (imgFinalCyc m + jmax)) * (256 + imgSpb m)) 256

/-- Image of a scan's program. -/
def State.progImage (s : State) (it : Item) : List Byte :=
  (SMap.find s.scan.progs (progKey it.inst (be it.params 0 4))).elim [] (·.image)

/-- Deadline of a `SCAN` under a choice (R121). -/
def State.scanDeadline (s : State) (it : Item) (c : Nat × Nat) : Nat :=
  let m := s.progImage it
  let tm := cdiv (s.storedBytes it.inst it.lba it.count) c.2
  let td := s.leastTime scanRate (4096 * it.count)
  let tc := s.leastTime (fun st => c.1 * scMhz st) (scanCycles m it c.1)
  5000 + max tm (max td tc)

/-- Service class (R82, R83). -/
def Item.clsOf (it : Item) : Nat :=
  if it.op = 0x01 ∨ it.op = 0x02 then if it.count ≤ 16 then 0 else 1
  else if it.op = 0x0B ∨ it.op = 0x0C then 0
  else if it.op = 0x03 ∨ it.op = 0x04 ∨ it.op = 0x10 ∨ it.op = 0x11 then 1
  else if it.op = 0x08 then 2
  else 3

/-- Deadline of a class C0, C1 or C3 command without forwarded parts (R119, R120, R122). -/
def State.plainDeadline (s : State) (it : Item) : Nat :=
  let r1 := s.fld 0x010 0x044 15 0
  let inst := fun (x : Item) => decide (x.inst = it.inst)
  let run := fun (x : Item) => decide (x.state = .running)
  match it.op with
  | 0x01 => if it.count ≤ 16 then 160 + 5 * (it.count - 1) else 2000 + cdiv (4096 * it.count) r1
  | 0x02 => if it.count ≤ 16 then 60 else 2000 + cdiv (4096 * it.count) r1
  | 0x0B => 40
  | 0x0C => 60
  | 0x03 | 0x04 => 2000 + cdiv (it.count * 64) r1
  | 0x10 | 0x11 => 2000 + cdiv (4096 * it.count) r1
  | 0x05 =>
    let l := s.latest it fun x => inst x && (run x || decide (x.state = .queued))
    max 5000 (l + 10) + (if it.cflags % 2 = 1 then cdiv (s.cachedBytes (some it.inst)) (s.fld 0x010 0x048 15 0) else 0)
  | 0x41 | 0x42 =>
    let l := s.latest it fun x => (decide (x.inst = it.count) && run x) ||
      ((x.op = 0x41 || x.op = 0x42) && decide (x.count = it.count) && decide (x.asn ≠ 0))
    max 5000 (l + 10) + 1000
  | 0x4C => max 5000 (s.latest it run + 10) + cdiv (s.cachedBytes none) (1000 * s.fld 0x010 0x04C 7 0)
  | 0x49 => 10000 + 2500000
  | _ => 5000 + cdiv (it.outLen + it.inLen) 1000

/-! ### Parts of a knot instance (R123, R429) -/

/-- Peers that own a part of a command (R123, R429). -/
def State.partPeers (s : State) (it : Item) : List Nat :=
  if s.isKnot it.inst = false then []
  else if isReading it.op || isWriting it.op then
    (((grainsOf it.lba it.count).map fun g => s.ownerOf it.inst g.1).eraseDups).filter (· ≠ s.selfId)
  else if it.op = 0x05 then (List.range 8).filter fun j => j ≠ s.selfId && nbit (s.fld 0x040 0x0CC 7 0) j
  else []

/-- The deadline of a command at turn `k` of its plans. -/
def State.deadlineOf (s : State) (it : Item) (k : Nat) : Nat :=
  (if it.op = 0x08 then s.scanDeadline it (s.scanChoice k) else s.plainDeadline it) + 10 * (s.partPeers it).length

/-! ### The pending-write pool (R133, R205, R206, R438) -/

/-- Effective cache less what is in use and reserved, bytes (R204, R205). -/
def State.cacheRoom (s : State) : Nat :=
  2 ^ 20 * s.fld 0x100 0x0C4 28 16 - s.flash.cacheUsed - (s.flash.resv.map (·.2)).sum

/-- The dump reserve that a replayed dump had used has been erased: the device accepts no write before (R203). -/
def State.reserveErased (s : State) : Bool := s.flash.dies.all fun e => e.2.dumped.isEmpty || !s.dieGood e.1

/-- What a write reserves in the cache (R205). -/
def Item.cacheNeed (it : Item) : Nat :=
  if isWriting it.op then it.outLen + 64 * ((grainsOf it.lba it.count).filter fun g => decide (it.op = 0x02 ∨ g.2 ≠ 15)).length
  else 0

/-- Bytes of accepted writes of a class in their data phase. -/
def State.poolUsed (s : State) (cls : Nat) : Nat :=
  ((s.cmd.items.filter fun e => e.2.inData && decide (e.2.op = 0x02) && decide (e.2.cls = cls)).map fun e => e.2.outLen).sum

/-- `pool_fits` (R133, R203, R205, R206, R440). -/
def State.poolFits (s : State) (it : Item) : Bool :=
  let cls := it.clsOf
  let pool := if cls = 0 then 1024 * s.fld 0x010 0x050 15 0 else 2 ^ 20 * s.fld 0x010 0x050 31 16
  (decide (it.op ≠ 0x02) || decide (s.poolUsed cls + it.outLen ≤ pool)) && decide (it.cacheNeed ≤ s.cacheRoom) &&
    !s.flash.gcRefuse && s.reserveErased &&
    (!nbit (s.inst it.inst).iflags 3 ||
      (if s.fld 0x040 0x0C4 0 0 = 1 ∧ s.fld (0x040 + (s.selfId ^^^ 1)) 0x040 3 0 = 3 then decide (it.cacheNeed ≤ s.knot.credit)
       else decide (s.fld 0x040 0x0C4 1 1 = 0)))

/-! ### The decision (R132, R134, R135) -/

/-- What Cadence decides. -/
inductive Verdict where
  /-- No decision now: an admission hold, an empty queue, an admission that has been stopped. -/
  | wait
  /-- Refused with a status (R106). -/
  | refuse (status : Nat)
  /-- `BUSY` with a reason and a retry hint. -/
  | busy (reason retry : Nat)
  /-- `BUSY` whose retry hint the spec does not give. -/
  | busyOpen (reason : Nat)
  /-- Admitted: deadline, class, bookings, standing reservations. -/
  | grant (deadline cls : Nat) (bs : List Booking) (st : List Standing)

/-- Time from now to an instant, at least 1 us. -/
def State.until (s : State) (t : Nat) : Nat := max 1 (t - s.now)

/-- The least of some instants as a wait, or `BUSY` without a stated hint where there is none. -/
def State.busyUntil (s : State) (reason : Nat) : List Nat → Verdict
  | [] => .busyOpen reason
  | t :: l => .busy reason (s.until (l.foldl min t))

/-- Data timeout of an item's writer, us (R73). -/
def State.dataTimeoutAt (s : State) (it : Item) : Nat :=
  it.stagedUs + ((s.conn it.conn).elim 2000 (·.dataTimeoutUs))

/-- At the home of a knot instance: a covered block has a writer whose completion has not been reported (R434). -/
def State.knotHazard (s : State) (inst lba count : Nat) : Bool :=
  s.knot.granted.any fun g => decide (g.1 = inst) && decide (g.2.2.1 < lba + count) && decide (lba < g.2.2.1 + g.2.2.2)

/-- The reading hazard of a command (R95), at the home also over ASNs granted and not reported complete (R434). -/
def State.readHazard (s : State) (it : Item) : Option Verdict :=
  if isReading it.op = false then none
  else
    match s.hazard it.inst it.lba it.count with
    | some n => (s.item n).map fun w => .busy 3 (s.until (s.dataTimeoutAt w))
    | none => if s.knotHazard it.inst it.lba it.count then some (.busyOpen 3) else none

/-- A `SEARCH` meets a `TABLE_UPDATE` of its instance and bank still in its data phase (R289). -/
def State.updateInData (s : State) (it : Item) : Bool :=
  s.cmd.items.any fun e => decide (e.2.op = 0x0C) && decide (e.2.inst = it.inst) && e.2.inData && e.2.outstanding && !e.2.aborted &&
    decide (s.srchBank e.2 = s.srchBank it)

/-- A `TABLE_UPDATE`'s records find room beside the unwritten records of accepted updates on its bank (R288). -/
def State.updateRoom (s : State) (it : Item) : Bool :=
  let b := s.srchBank it
  let left := ((s.cmd.items.filter fun e => decide (e.2.op = 0x0C) && decide (e.2.state ≠ .deciding) && e.2.outstanding && !e.2.finished &&
    decide (s.srchBank e.2 = b)).map fun e => e.2.count - e.2.givenTo).sum
  decide (it.count + left ≤ s.fld (sbPage b) 0x060 9 0 * 30)

/-- Standing reservations of a plan beyond the coarse horizon (R126): each is booked in every coarse slot of the calendar, and beyond it
checked at step 15 against those that stand. The demands of later programming are booked as in any plan. -/
def State.standPlan (s : State) (w : Booker) (last : Nat) :
    List Demand → List Booking → List Standing → Except Nat (List Booking × List Standing)
  | [], bs, st => .ok (bs, st)
  | q :: rest, bs, st =>
    if q.late then
      match s.tryPlan w true [q] bs with
      | .ok bs => s.standPlan w last rest bs st
      | .error e => .error e
    else
      let k := s.now / 1000
      let all := if isRun q.res then q.amt * (q.last + 1 - q.first) else q.amt
      let x : Standing := { item := w.n, res := q.res, amt := if isLevel q.res then q.amt else cdiv all (last - k + 1), lastMs := last }
      let lim := s.admitCap x.res (s.capAt (x.res % 4096) 15 (2 ^ 23) * (if isLevel x.res then 1 else 1000))
      let mine := fun (y : Standing) => decide (y.res = x.res)
      let own := fun (y : Standing) => decide (y.item = w.n) || match s.item y.item with
        | some it => decide (it.inst = w.inst)
        | none => false
      let held := fun (p : Standing → Bool) => (((s.cad.standing ++ st).filter fun y => mine y && p y).map (·.amt)).sum + x.amt
      if held (fun _ => true) > lim then .error 1
      else if x.res < 4096 ∧ held own > lim * w.pct / 100 then .error 2
      else
        match s.fillLevel w q.res x.amt true 8192 k bs with
        | some bs => s.standPlan w last rest bs (st ++ [x])
        | none => .error (s.shortReason bs w q.res true k)

/-- The share that bounds a command's bookings (R134). The commands that R154 lets a management-port connection send whatever the state of
the instance it is bound to are not held to the share of an instance that is not `ACTIVE`. DEDUCED (log entry 39). -/
def State.shareOf (s : State) (it : Item) : Nat :=
  if it.port = 16 ∧ (s.inst it.inst).state ≠ .active then 100 else s.sharePct it.inst

/-- One plan at turn `k`, from the present instant: deadline, bookings and standing reservations, or the `BUSY` reason (R126, R134). -/
def State.tryOne (s : State) (n : Nat) (it : Item) (k : Nat) (plan : List Demand) : Except Nat (Nat × List Booking × List Standing) :=
  let d := s.deadlineOf it k
  let w : Booker := { n := n, inst := it.inst, pct := s.shareOf it }
  if d > 8192000 then (s.standPlan w ((s.now + d) / 1000) plan s.cad.bookings []).map fun r => (d, r.1, r.2)
  else (s.tryPlan w (decide (d > 4096)) plan s.cad.bookings).map fun bs => (d, bs, [])

/-- The state as a plan started `us` later would find it: the bookings as they are, released slot by slot (R135). -/
def State.later (s : State) (us : Nat) : State :=
  { s with cad := { s.cad with nowUs := s.now + us } }.setFld 0x010 0x058 18 8 (min 2000 (s.sinceDescent + us))

/-- The first of the delays 1, 2, 4 … 2^23 us at which a plan fits, its deadline computed afresh (R135). -/
def State.firstFit (s : State) (n : Nat) (it : Item) (k : Nat) (plan : List Demand) : Nat :=
  match (List.range 24).find? fun j =>
      match (s.later (2 ^ j)).tryOne n { it with startUs := s.now + 2 ^ j } k plan with
      | .ok _ => true
      | .error _ => false with
  | some j => 2 ^ j
  | none => 0xFFFFFFFF

/-- Try a command's plans in turn (R121, R134). -/
def State.tryPlans (s : State) (n : Nat) (it : Item) : List (List Demand) → Nat → Verdict → Verdict
  | [], _, v => v
  | plan :: rest, k, _ =>
    if s.deadlineOf it k > 0xFFFFFFFF then .busy 7 0xFFFFFFFF
    else
      match s.tryOne n it k plan with
      | .ok (d, bs, st) => .grant d it.clsOf bs st
      | .error why => s.tryPlans n it rest (k + 1) (.busy (if it.op = 0x08 then 1 else why) (s.firstFit n it k plan))

/-! ### What a plan must book (R121, R123, R125, R133, R134, R194) -/

/-- Sum of what a plan books on some resources. -/
def planSum (plan : List Demand) (p : Demand → Bool) : Nat := ((plan.filter p).map (·.amt)).sum

/-- Length of the RESULT a command may end with, where a rule gives one (R82, R86, R147, R365, R398, R497). -/
def resultLen (op : Nat) : Nat :=
  match op with
  | 0x05 | 0x09 | 0x11 => 4
  | 0x08 => 48
  | 0x10 => 64
  | 0x18 | 0x19 | 0x1A => 232
  | 0x23 | 0x40 | 0x49 => 8
  | 0x4A | 0x4B => 240
  | _ => 0

/-- The most output a command sends (R82, R358). -/
def State.outBytes (s : State) (it : Item) (nc : Nat) : Nat :=
  if it.op = 0x08 then
    let m := s.progImage it
    let most := imgOutPerRec m * recLimit m it + nc * imgFinalOut m
    if it.ring then most else min most it.inLen
  else it.inLen

/-- Wire bytes of every PDU a command causes (R125): `ACCEPT`, `XFER_RDY`, `DATA_IN` and `RESP`; the `RESP` of a write is booked from the
pool when its data completes (R133). -/
def State.egressNeed (s : State) (it : Item) (x : Conn) (nc : Nat) : Nat :=
  let out := s.outBytes it nc
  s.wireLen x 8 + cdiv it.outLen (2 ^ 20) * s.wireLen x 8 + out + cdiv out (x.maxPayload - 16) * s.wireLen x 16 +
    (if it.op = 0x02 then 0 else s.wireLen x (16 + resultLen it.op))

/-- Egress is booked for every PDU; a sub-interface without capacity, and the management port, hold no booking (R117, R125). -/
def State.egressOk (s : State) (it : Item) (nc : Nat) (plan : List Demand) : Bool :=
  match s.conn it.conn with
  | none => true
  | some x =>
    decide (x.port ≥ 16) || decide (s.egressCap x.port x.subif = 0) ||
      decide (s.egressNeed it x nc ≤ planSum plan fun q => !q.late && decide (q.res = 2203 + 4 * x.port + x.subif))

/-- A scan's plan books the cores and the media rate of its turn (R121). -/
def State.scanOk (s : State) (it : Item) (k : Nat) (plan : List Demand) : Bool :=
  let c := s.scanChoice k
  let cc := (plan.filter fun q => !q.late && decide (2183 ≤ q.res) && decide (q.res < 2199)).map (·.res)
  let b := s.storedBytes it.inst it.lba it.count
  decide (12 * cc.eraseDups.length = c.1) &&
    decide (scanCycles (s.progImage it) it c.1 ≤ planSum plan fun q => !q.late && decide (2183 ≤ q.res) && decide (q.res < 2199)) &&
    decide (b + b / 8 ≤ planSum plan fun q => !q.late && decide (2048 ≤ q.res) && decide (q.res < 2176))

/-- Blocks of a command that a device owns (R427). -/
def State.blocksAt (s : State) (it : Item) (j : Nat) : Nat :=
  (((grainsOf it.lba it.count).filter fun g => decide (s.ownerOf it.inst g.1 = j)).map fun g => (maskBlocks g.2).length).sum

/-- A plan books each part on its owner's lease, within the owner's working deadline, and its payload on the link (R123, R430, R431). -/
def State.partsOk (s : State) (it : Item) (d : Nat) (plan : List Demand) : Bool :=
  (s.partPeers it).all fun j =>
    let on := plan.filter fun q => decide (q.res / 4096 = j + 1)
    let n := 4096 * s.blocksAt it j
    let slot := if d > 4096 then 1000 else 1
    (it.op = 0x05 || on.any fun q => decide (q.res % 4096 < 2268) && decide (q.amt ≠ 0)) &&
      (it.op ≠ 0x02 || decide (n ≤ planSum on fun q => decide (q.res % 4096 = 2268))) &&
      (!(it.op = 0x01 || it.op = 0x10 || it.op = 0x11) || decide (n ≤ planSum on fun q => decide (q.res % 4096 = 2269))) &&
      on.all fun q => decide (slot * q.last + 10 ≤ d)

/-- Original bytes of the frame behind a mapped grain (R246): a long frame is decoded whole. -/
def State.frameBytes (s : State) (inst : Nat) : Nat := if nbit (s.inst inst).iflags 1 then 65536 else 16384

/-- Engine times of the frames and the message that a command's plan books, by resource, as functions of the floor step (R246, R254). -/
def State.runsOf (s : State) (it : Item) : List (Nat × (Nat → Nat)) :=
  let own := (grainsOf it.lba it.count).filter fun g => !s.isKnot it.inst || decide (s.ownerOf it.inst g.1 = s.selfId)
  let ce := if it.op = 0x03 ∨ it.op = 0x04 then own.filter fun g => decide (g.2 ≠ 15) else []
  let de := if isReading it.op ∧ it.op ≠ 0x08 then own.filter fun g => decide (eKind (s.mapAt (mapKey it.inst g.1)) ≠ 0) else []
  let he := if it.op = 0x10 ∨ it.op = 0x11 then [(2178, fun st => msgNs (le it.params 0 1) st (4096 * it.count))] else []
  (ce.map fun g => (2176, fun st => ceNs 0 st (4096 * (maskBlocks g.2).length))) ++
    (de.map fun _ => (2177, fun st => deNs st (s.frameBytes it.inst))) ++ he

/-- Each of a command's runs stands in its plan, in order, as long as its engine time at the floor step of its first slot (R247, R255). -/
def State.runsOk (s : State) (it : Item) (d : Nat) (plan : List Demand) : Bool :=
  let slot := if d > 4096 then 1000 else 1
  [2176, 2177, 2178].all fun r =>
    let want := (s.runsOf it).filter fun e => decide (e.1 = r)
    let have' := plan.filter fun q => !q.late && decide (q.res = r)
    decide (have'.length = want.length) && (want.zip have').all fun e =>
      decide (e.2.amt = 1000 * slot) &&
        decide (e.2.last + 1 - e.2.first = cdiv (e.1.2 (s.slotStep r (decide (d > 4096)) ((if d > 4096 then s.now / 1000 else s.now) + e.2.first))) (1000 * slot))

/-- A `SEARCH` books a slot of its bank for each key (R285, R289). -/
def State.keysOk (s : State) (it : Item) (plan : List Demand) : Bool :=
  decide (it.op ≠ 0x0B) || decide (it.count ≤ planSum plan fun q => !q.late && decide (q.res = 2179 + s.srchBank it))

/-- A write's plan books the later programming of its own data at the uncompressed size: bus bytes with their parity, DRAM BE bytes and
die program time (R133); no other plan books any. -/
def State.lateOk (s : State) (it : Item) (plan : List Demand) : Bool :=
  let late := plan.filter (·.late)
  if it.op ≠ 0x02 then late.isEmpty
  else
    let size := if s.isKnot it.inst then 4096 * s.blocksAt it s.selfId else it.outLen
    let chans := ((late.filter fun q => decide (2048 ≤ q.res) && decide (q.res < 2176)).map fun q => q.res - 2048).eraseDups
    let data := 31 - s.fld (grpPage (chans.headD 0 / 32)) 0x040 0 0
    decide (cdiv (size * 9 * 32) (8 * data) ≤ planSum late fun q => decide (2048 ≤ q.res) && decide (q.res < 2176)) &&
      decide (size ≤ planSum late fun q => decide (q.res = 2202)) &&
      (chans.all fun c =>
        let units := cdiv (planSum late fun q => decide (q.res = 2048 + c)) (s.unitLen c * 72)
        decide (units * 1000 * s.fld (fcPage c) 0x044 31 16 ≤ planSum late fun q => decide (q.res < 2048) && decide (dieCh q.res = c))) &&
      late.all fun q => decide (q.last < s.fld 0x010 0x054 15 0)

/-- A plan stands in order, earliest first, each demand within the calendars and the deadline; a sense is booked at its length, on a die
that may be programming with the suspend latency (R134, R194). -/
def State.slotsOk (s : State) (it : Item) (d : Nat) (plan : List Demand) : Bool :=
  let now := plan.filter fun q => !q.late
  let lastUs := (if it.outLen = 0 then it.startUs else s.now) + d
  let sorted := (now.zip (now.drop 1)).all fun e => decide (e.1.first ≤ e.2.first)
  sorted && (plan.all fun q => decide (q.first ≤ q.last)) &&
    now.all fun q =>
      (if d > 8192000 then true
       else if d > 4096 then decide (1000 * (s.now / 1000 + q.last) < lastUs) && decide (q.last < 8192)
       else decide (s.now + q.last < lastUs) && decide (q.last < 4096)) &&
      (decide (q.res ≥ 2048) || !isReading it.op ||
        decide (s.trNs (dieCh q.res) + (if (s.die q.res).op.any fun o => decide (o.kind ≠ .sense) then s.tsusNs (dieCh q.res) else 0) ≤ q.amt))

/-- A plan books what the rules say a command's plan books. -/
def State.goodPlan (s : State) (it : Item) (k : Nat) (plan : List Demand) : Bool :=
  let d := s.deadlineOf it k
  s.slotsOk it d plan && s.egressOk it (if it.op = 0x08 then (s.scanChoice k).1 else 0) plan && (it.op ≠ 0x08 || s.scanOk it k plan) &&
    s.partsOk it d plan && s.lateOk it plan && s.keysOk it plan && (it.op = 0x08 || s.runsOk it d plan)

/-- The plans of a decision: one for each of the four turns of a `SCAN`, otherwise one (R121, R134), each booking what it must. -/
def State.plansOk (s : State) (it : Item) (plans : List (List Demand)) : Bool :=
  decide (plans.length = if it.op = 0x08 then 4 else 1) && plans.zipIdx.all fun e => s.goodPlan it e.2 e.1

/-- Commands in flight: accepted or queued and not yet at their completion point. -/
def State.acceptedCount (s : State) : Nat :=
  (s.cmd.items.filter fun e => e.2.outstanding && decide (e.2.state ≠ .deciding)).length

/-- The decision on an item of a 1.2 or 1.3 connection. `late`: it would wait longer than its bound (R132). -/
def State.decide' (s : State) (n : Nat) (it : Item) (plans : List (List Demand)) (late : Bool) : Verdict :=
  let x := s.inst it.inst
  if s.cmd.resetting then .refuse stDeviceReset
  else if x.state = .resetting ∧ it.ofInst it.inst then .refuse stInstanceReset
  else if x.state = .deleting ∧ it.ofInst it.inst then .refuse stInstanceReset
  else if late then .busy 6 2
  else if s.enabled 0x010 = false ∨ s.fld 0x1E0 0x04C 0 0 = 1 then .busy 1 0xFFFFFFFF
  else if s.shareOf it = 0 then .busy 2 0xFFFFFFFF
  else if s.acceptedCount ≥ 131072 then
    s.busyUntil 5 (s.cmd.items.filterMap fun e => if e.2.promised && e.2.clockOn && e.2.outstanding then some e.2.deadline else none)
  else if s.cmd.activating ≠ 0 ∧ isDataPath it.op it.cflags = false then .busy 4 (s.until s.cmd.actEndUs)
  else
    match s.readHazard it with
    | some v => v
    | none =>
      if it.op = 0x0B ∧ s.updateInData it then .busyOpen 3
      else if it.op = 0x0C ∧ (s.updateRoom it = false ∨ s.enabled (sbPage (s.srchBank it)) = false) then .busy 1 (s.firstFit n it 0 (plans.headD []))
      else if (s.partPeers it).any fun j => decide (s.fld (0x040 + j) 0x040 3 0 ≠ 3) && !nbit s.knot.evicted j then .busy 8 (s.fld 0x040 0x0C4 31 16)
      else if it.op ≠ 0x08 ∧ s.deadlineOf it 0 > 0xFFFFFFFF then .busy 7 0xFFFFFFFF
      else if isWriting it.op ∧ s.poolFits it = false then
        s.busyUntil 1 (s.cmd.items.filterMap fun e =>
          if e.2.inData && decide (e.2.op = 0x02) && decide (e.2.cls = it.clsOf) then some (s.dataTimeoutAt e.2) else none)
      else if it.op = 0x08 ∧ s.freeClusters' = 0 then
        let ends := s.cmd.items.filterMap fun e =>
          if e.2.promised && e.2.outstanding && decide (e.2.op = 0x08) &&
              ((List.range 16).any fun cc => s.bookedOn e.1 (2183 + cc) && decide (s.fld (scPage cc) 0x040 0 0 = 0)) then some e.2.deadline
          else none
        if ends = [] then .busy 1 0xFFFFFFFF else s.busyUntil 1 ends
      else if it.op = 0x08 ∧ s.freeMedia = 0 then .busy 1 (s.firstFit n it 0 (plans.headD []))
      else if s.plansOk it plans = false then .wait
      else s.tryPlans n it plans 0 (.busy 1 0xFFFFFFFF)

/-- Count and send a `BUSY` (R135, R136): its tag is free. -/
def State.sendBusy (s : State) (n : Nat) (it : Item) (reason retry : Nat) : State :=
  let s := s.count 0x010 (0x080 + 4 * reason)
  let s := if reason = 6 then s.raise 0x010 2 else s
  let s := (s.releaseItem n).delItem n
  let s := s.sendSeq it.conn tBusy 0 it.tag (beBytes 2 reason ++ zeros 2 ++ beBytes 4 retry)
  State.answerAborts it.aborters s it.conn it.tag 3

/-! ### The work of a write whose data is complete (R133) -/

/-- Carve an amount from the pool's reservation on a resource: `f` slots from `k`, earliest first. -/
def State.carve (s : State) (n r : Nat) (coarse : Bool) : Nat → Nat → Nat → List Booking → List Booking
  | 0, _, _, bs => bs
  | f + 1, k, left, bs =>
    if left = 0 then bs
    else
      let take := min left (s.poolLeft bs r coarse k)
      let b : Booking := { s.booking { n := n, inst := 0, pct := 0 } r coarse k take with pool := true }
      s.carve n r coarse f (k + 1) (left - take) (if take = 0 then bs else bs ++ [b])

/-- The remaining work of a write is booked from the pool, from now to its deadline: engine time of its frames, DRAM LL bytes of its data
and its `RESP`; its share of the pool is free again (R133). -/
def State.carveWrite (s : State) (n : Nat) : State :=
  match s.item n, (s.item n).bind fun it => s.conn it.conn with
  | some it, some x =>
    if it.op ≠ 0x02 ∨ it.promised = false then s
    else
      let coarse := decide (it.deadlineUs > 4096)
      let k := if coarse then s.now / 1000 else s.now
      let f := if coarse then it.deadlineUs / 1000 + 1 else it.deadlineUs
      let fr := grainsOf it.lba it.count
      let l := (s.inst it.inst).compLevel
      let ns := (fr.map fun g => slotNs (ceNs l (s.floorStep 0) (4096 * (maskBlocks g.2).length))).sum
      let bs := s.carve n 2176 coarse f k ns s.cad.bookings
      let bs := s.carve n 2201 coarse f k (it.outLen + 64 * fr.length) bs
      let bs := if x.port ≥ 16 then bs else s.carve n (2203 + 4 * x.port + x.subif) coarse f k (s.wireLen x 16) bs
      { s with cad := { s.cad with bookings := bs } }
  | _, _ => s

/-! ### Best-effort capacity (R131, R137) -/

/-- Resources the work of a best-effort command starts with. -/
def State.firstRes (s : State) (it : Item) : List Nat :=
  let e := match s.conn it.conn with
    | some x => if x.port < 16 then [2203 + 4 * x.port + x.subif] else []
    | none => []
  e ++ (if it.op = 0x02 then [2176, 2201] else if it.op = 0x0B ∨ it.op = 0x0C then [2179 + s.srchBank it]
    else (it.grains.filter fun g => decide (eKind g.entry = 1)).map fun g => eDie g.entry)

/-- Whether the present slot has capacity that no booking holds and that is not the background scheduler's minimum share on every
resource a best-effort command starts with (R131). -/
def State.bestCap (s : State) (it : Item) : Bool :=
  let bg := min (s.fld 0x1F0 0x040 7 0) s.reservePct
  (s.firstRes it).eraseDups.all fun r =>
    let cap := s.slotCap r false s.now
    decide (cap = 0) && decide (2203 ≤ r) ||
      decide (bookedIn s.cad.bookings r false s.now + s.updRes r false + cap * bg / 100 < cap)

/-! ### Time (R126) -/

/-- Spread a coarse booking over its fine slots: an amount evenly, the remainder in the first slots; a level as it is. -/
def spread (b : Booking) : List Booking :=
  (List.range 1000).filterMap fun i =>
    let a := if isLevel b.res then b.amt else b.amt / 1000 + (if i < b.amt % 1000 then 1 else 0)
    if a = 0 then none else some { b with coarse := false, slot := 1000 * b.slot + i, amt := a }

/-- `us` microseconds pass: past bookings end, coarse slots the fine horizon reaches are spread, coarse slots that enter the
coarse horizon take the standing reservations that reach them; *a* of R128 grows with time. The search banks begin a window (R277). -/
def State.advance (s : State) (us : Nat) : State :=
  let t := s.now + us
  let live := s.cad.bookings.filter fun b => if b.coarse then decide (t / 1000 ≤ b.slot) else decide (t ≤ b.slot)
  let bs := live.flatMap fun b => if b.coarse && decide (1000 * b.slot < t + 4096) then spread b else [b]
  let bs := bs.filter fun b => b.coarse || decide (t ≤ b.slot)
  let old := s.now / 1000 + 8192
  let new := (List.range (t / 1000 + 8192 - old)).flatMap fun i =>
    (s.cad.standing.filter fun x => decide (old + i ≤ x.lastMs)).map fun x =>
      ({ item := x.item, res := x.res, coarse := true, slot := old + i, amt := x.amt } : Booking)
  let s := { s with cad := { s.cad with nowUs := t, bookings := bs ++ new,
                                        standing := s.cad.standing.filter fun x => decide (t / 1000 + 8192 ≤ x.lastMs) } }.setFld 0x010 0x058 18 8
    (min 2000 (s.sinceDescent + us))
  if us = 0 then s else s.nextWindow (searchCap s.cadStep)

end Sys2Proof.Machine
end

