-- ==== Sys2Proof/Machine/Fates.lean ====
section
/-! DEFINITION. The fates of work (R59, R100 to R107, R138, R155, R156): stopping an item, aborts, failed connections,
deadline faults, and the ends of items that resets and deletions meet. -/

namespace Sys2Proof.Machine

/-! ### Stopping work (R155, R156) -/

/-- An item whose remaining work lies wholly in draining units (R155): only its report, only map updates, or a seal request
the sealed record domain holds (R416). -/
def Item.drains (it : Item) : Bool :=
  (it.finished && it.out.isEmpty) || (isSeal it.op && decide (it.state = .running)) ||
    (isWriting it.op && decide (it.state = .running) && it.parts == 0 && it.grains.all fun g => decide (g.st = .done))

/-- Frames of an item leave their engines. -/
def State.dropFrames (s : State) (n grp : Nat) : State :=
  ((s.grpRun grp).filter fun e => decide (e.2.who = some (.item n))).foldl (fun s e => s.setRun grp e.1 none) s

/-- The home device: `KN_STAT.HOME` (R422). -/
def State.home (s : State) : Nat := s.fld 0x040 0x0CC 10 8

/-- Aborts go to the owners of an item's forwarded parts (R155), whose results still come. -/
def State.abortParts (s : State) (n : Nat) : State :=
  ((s.knot.fwd.filter fun e => decide (e.1 = n)).map (·.2)).eraseDups.foldl (fun s j => s.knotSend j (.abort n)) s

/-- A request for an ASN is cancelled (R433): a grant that still comes is returned. -/
def State.cancelAsn (s : State) (n : Nat) : State :=
  match s.knot.asnReqs.find? fun r => decide (r.item = n) && !r.cancelled with
  | none => s
  | some r =>
    let reqs := s.knot.asnReqs.map fun (r : AsnReq) => if r.item = n then { r with cancelled := true } else r
    { s with knot := { s.knot with asnReqs := reqs } }.knotSend s.home (.cancel n r.inst)

/-- The home is told that a writing command of a knot instance has ended (R434). -/
def State.tellHome (s : State) (it : Item) : State :=
  if isWriting it.op && decide (it.port < 32) && decide (it.asn ≠ 0) && s.isKnot it.inst && decide (s.home ≠ s.selfId) then
    s.knotSend s.home (.complete it.inst it.asn)
  else s

/-- The squashing units stop an item's work (R155, R156): its reads, frames, message, jobs, update records, output, parts and buffer hitches. What it staged
and has not written counts for no reader any more (R94). -/
def State.stopWork (s : State) (n : Nat) : State :=
  let s := ((((s.dropWork n).dropFrames n 0).dropFrames n 1).endWriter n).freeHitches n
  let s := s.dropCtx n
  let s := if (s.scanOf n).isSome then (s.squashScan n).freeClusters n else s
  let s := (s.abortParts n).cancelAsn n
  let s := { s with
    srch := { s.srch with updQ := s.srch.updQ.filter (· != n) }
    cmd := { s.cmd with bestQ := s.cmd.bestQ.filter (· != n) } }
  let s := s.modItem n fun it => { it with out := [], outDone := true, grants := [], mirrorWait := 0, givenTo := it.count }
  s.searchAll

/-- The map updates that are all that is left of a writing item finish (R155): its draining units end their pieces. -/
def State.drainMaps (s : State) (n : Nat) : State :=
  match s.item n with
  | none => s
  | some it =>
    let s := if isWriting it.op && s.replayed then it.grains.foldl (fun s g => match s.item n with
        | some x => if s.segIsLost (mapKey g.inst g.grain) then s else s.commitGrain n x g
        | none => s) s
      else s
    s.endWriter n

/-- A part received from a peer ends: its status and data go back over the link (R429). -/
def State.endPart (s : State) (n status : Nat) (result data : List Byte) : State :=
  let ps := s.knot.parts.filter fun p => p.item = n
  let s := (s.releaseItem n).delItem n
  let s := { s with knot := { s.knot with parts := s.knot.parts.filter fun p => p.item ≠ n } }
  ps.foldl (fun s p => s.knotSend p.peer (.result p.tag p.lba p.count status result data)) s

/-- Report an item: its `RESP`, or the end of a peer's part. -/
def State.report (s : State) (n status : Nat) (result : List Byte) (front : Bool := false) : State :=
  match s.item n with
  | none => s
  | some it =>
    if it.port ≥ 32 then s.endPart n status result it.out else (s.tellHome it).commitResp n status result front

/-- RESULT of an item that ends without running to completion: a `READ` gives its first block not sent (R90, R138), a
`TABLE_UPDATE` the records written (R291). -/
def Item.cutResult (it : Item) : List Byte :=
  if it.op = 0x01 then beBytes 8 (it.lba + it.sent / 4096)
  else if it.op = 0x0C then updResult it.pos 0xFFFFFFFF 0
  else []

/-- A reset or deletion that still waits for its turn gives up its place (R159). -/
def State.leaveResets (s : State) (n : Nat) (it : Item) : State :=
  if (it.op = 0x41 ∨ it.op = 0x42) ∧ it.state = .running ∧ (s.inst it.target).resetQ.head? ≠ some n then
    s.modInst it.target fun x => { x with resetQ := x.resetQ.filter (· != n) }
  else s

/-- An item meets a reset, a deletion or a shutdown of admission (R106): refused before its acceptance, reported at once in its
data phase or queue, drained or squashed while it runs. -/
def State.meet (s : State) (n status : Nat) : State :=
  match s.item n with
  | none => s
  | some it =>
    match it.state with
    | .reported => s
    | .deciding =>
      let s := { s with cmd := { s.cmd with decideQ := s.cmd.decideQ.filter (· != n) } }
      (s.stopWork n).refuseItem n status
    | _ => if it.aborted || it.drains then s else ((s.stopWork n).leaveResets n it).report n status it.cutResult

/-- Items for which `p` holds meet an event. -/
def State.meetAll (s : State) (status : Nat) (p : Nat → Item → Bool) : State :=
  (s.cmd.items.filter fun e => p e.1 e.2).foldl (fun s e => s.meet e.1 status) s

/-! ### Aborts (R100 to R104) -/

/-- An outstanding item is marked aborted (R101) and its work stops (R102). -/
def State.markAborted (s : State) (n : Nat) : State :=
  match s.item n with
  | none => s
  | some it =>
    let s := s.modItem n fun x => { x with aborted := true }
    if it.drains then s else s.stopWork n

/-- `ABORT` of a tag of a connection (R100). -/
def State.abortTag (s : State) (c tag : Nat) : State :=
  match s.findTag c tag with
  | some n =>
    match s.item n with
    | none => s
    | some it =>
      if it.state = .deciding ∨ it.aborted then s.modItem n fun x => { x with aborters := x.aborters + 1 }
      else if notAbortable it.op then s.sendAbortResp c tag 4
      else (s.modItem n fun x => { x with aborters := x.aborters + 1 }).markAborted n
  | none => s.sendAbortResp c tag (if (s.findReported c tag).isSome then 1 else 3)

/-- The `ABORT`s that waited for an item's decision, once it has been accepted (R100). -/
def State.lateAborts (s : State) (n : Nat) : State :=
  match s.item n with
  | none => s
  | some it =>
    if it.aborters = 0 then s
    else if notAbortable it.op then
      State.answerAborts it.aborters (s.modItem n fun x => { x with aborters := 0 }) it.conn it.tag 4
    else s.markAborted n

/-- Whether an item holds no engine work here or at a knot peer, no buffer hitch and no outstanding grant (R102). -/
def State.idleItem (s : State) (n : Nat) (it : Item) : Bool :=
  it.grains.isEmpty && it.grants.isEmpty && it.out.isEmpty && decide (it.parts = 0) && (s.hitchesFor n).isEmpty &&
    !(s.eng.ceRun.any fun e => decide (e.2.who = some (.item n))) && !(s.eng.deRun.any fun e => decide (e.2.who = some (.item n)))

/-- `ABORT_COMPLETE`: an aborted item has let go of its work (R102). -/
def State.abortComplete (s : State) (n : Nat) : State :=
  match s.item n with
  | none => s
  | some it =>
    if it.aborted && it.outstanding && s.idleItem n it then
      if it.port ≥ 32 then s.endPart n stAborted [] [] else (s.tellHome it).commitAborted n
    else s

/-! ### Deadlines (R138, R436) -/

/-- The link to a peer has delivered no flit for 2 us (R436). -/
def State.linkQuiet (s : State) (j : Nat) : Bool := decide ((SMap.getD ({} : LinkSt) s.knot.links j).lastFlit + 2 ≤ s.now)

/-- `DEADLINE_WATCHDOG` of an item: 4 us before its deadline its completion point has not passed (R138); what remains of its work is
drained or squashed. A command that awaits a part over a quiet link ends with `KNOT_PEER_LOST` (R436). `unit` is the resource
that delivered less than was booked (R500). -/
def State.watchdog (s : State) (n unit : Nat) : State :=
  match s.item n with
  | none => s
  | some it =>
    if it.promised && it.clockOn && it.outstanding && !it.aborted && decide (it.deadline ≤ s.now + 4) then
      let quiet := it.parts ≠ 0 ∧ s.knot.fwd.any fun e => decide (e.1 = n) && s.linkQuiet e.2
      let s := (if it.drains then s.drainMaps n else s.stopWork n).leaveResets n it
      if quiet then s.report n stPeerLost it.cutResult true
      else (s.report n stDeadline it.cutResult true).countFault unit
    else s

/-- The next watchdog that fires by instant `t`: its instant and its item (R138). -/
def State.nextWatch (s : State) (t : Nat) : Option (Nat × Nat) :=
  ((s.cmd.items.filter fun e => e.2.promised && e.2.clockOn && e.2.outstanding && !e.2.aborted && decide (e.2.deadline ≤ t + 4)).map
    fun e => (max s.now (e.2.deadline - 4), e.1)).foldl (fun acc e => match acc with
      | none => some e
      | some a => if e.1 < a.1 then some e else some a) none

/-- Time passes to instant `t` (R126); a watchdog whose instant comes fires at it (R138), so that no command's `RESP` is committed after
its deadline (R115). The resource it names is a free value (log entry 130). -/
def State.passTime : Nat → State → Nat → State
  | 0, s, t => s.advance (t - s.now)
  | f + 1, s, t =>
    match s.nextWatch t with
    | none => s.advance (t - s.now)
    | some (u, n) =>
      let r := (s.advance (u - s.now)).free
      State.passTime f (r.2.watchdog n (r.1 % 2268)) t

/-- A command awaiting write data reaches its data timeout (R73): it ends with `LENGTH_MISMATCH` and writes nothing. -/
def State.lengthMismatch (s : State) (n : Nat) : State := (s.stopWork n).report n stLengthMismatch []

/-! ### Failed connections (R59) -/

/-- The outcome of a report that was not acknowledged goes to log page 0x02. -/
def State.logPdu (s : State) (c : Nat) (x : Conn) (p : TxPdu) : State :=
  let it := (if p.item = 0 then none else s.item (p.item - 1)).getD { conn := c, inst := x.inst, tag := p.tag }
  if p.type = tResp then s.logOutcome { it with sent := be p.payload 4 4 } (be p.payload 0 2)
  else if p.type = tAbortResp ∧ be p.payload 4 2 = 2 then s.logOutcome it stAborted
  else s

/-- The fate of one command of a failed connection. -/
def State.orphan (s : State) (n : Nat) : State :=
  match s.item n with
  | none => s
  | some it =>
    let s := s.modItem n fun x => { x with lost := true, aborters := 0 }
    match it.state with
    | .reported => s.delItem n
    | .deciding =>
      let s := { s with cmd := { s.cmd with decideQ := s.cmd.decideQ.filter (· != n) } }
      (((s.stopWork n).releaseItem n).logOutcome it stAborted).delItem n
    | .dataPhase => if it.aborted then s else s.lengthMismatch n
    | _ => if it.aborted ∨ notAbortable it.op then s else s.markAborted n

/-- A connection fails (R59): outcomes are logged, its commands meet their fates, one `CLOSE` is sent without retransmission and
the context is freed. -/
def State.failConn (s : State) (c reason : Nat) : State :=
  match s.conn c with
  | none => s
  | some x =>
    let s := (x.unacked ++ x.waiting).foldl (fun s p => s.logPdu c x p) s
    let s := (s.cmd.items.filter fun e => decide (e.2.conn = c) && !e.2.lost).foldl (fun s e => s.orphan e.1) s
    let s := s.pushFrame x.port x.subif false (connFrame c x tClose 0 x.nextPsn 0 (beBytes 2 reason ++ zeros 2) 0)
    let s := if x.port < 16 then s.raise (0x030 + x.port) 1 else s
    s.freeConn c

/-- Every connection of a host port fails (R79, R145). -/
def State.failPort (s : State) (port : Nat) : State :=
  (s.host.conns.filter fun e => decide (e.2.port = port)).foldl (fun s e => s.failConn e.1 6) s

/-- The device sends `CLOSE` on a connection, which moves to CLOSING (R58). -/
def State.sendClose (s : State) (c reason : Nat) : State :=
  match s.conn c with
  | none => s
  | some x =>
    if x.closeSent then s
    else
      (s.sendSeq c tClose 0 0 (beBytes 2 reason ++ zeros 2)).modConn c fun x => { x with state := .closing, closeSent := true }

/-! ### Instance context loss (R389) -/

/-- An instance's context was read poisoned: its commands end with `DRAM_UNCORRECTABLE` until firmware rebuilds it. -/
def State.ctxLost (s : State) (i : Nat) : State :=
  let s := s.modInst i fun x => { x with ctxBad := true }
  (s.cmd.items.filter fun e => e.2.outstanding && decide (e.2.state ≠ .deciding) && decide (e.2.inst = i) && !e.2.aborted).foldl
    (fun s e => (s.stopWork e.1).report e.1 stDram e.2.cutResult) s

/-! ### Commands -/

/-- `ABORT_COMPLETE` (R102, R104). -/
def execAbortComplete (item : Nat) (s : State) : Host.Outcome State Fault Refusal := .next (s.abortComplete item)

/-- `CALENDAR_SLOT_ADVANCE`: time passes by `us` microseconds (R126). -/
def execCalendarSlotAdvance (us : Nat) (s : State) : Host.Outcome State Fault Refusal :=
  .next (s.passTime (s.cmd.items.length + 1) (s.now + us))

/-- `DEADLINE_WATCHDOG` (R138, R436). -/
def execDeadlineWatchdog (item unit : Nat) (s : State) : Host.Outcome State Fault Refusal := .next (s.watchdog item unit)

end Sys2Proof.Machine
end

