-- ==== Sys2Proof/Machine/Inst.lean ====
section
/-! DEFINITION. Virtual instances (R146 to R163): creation, quotas, resets, deletion, migration logs, and the logs and identity an
instance answers with (R84, R91). -/

namespace Sys2Proof.Machine

/-! ### Parameters (R147) -/

/-- PORT_MASK. -/
def pPorts (p : List Byte) : Nat := be p 0 2
/-- SHARE_PCT. -/
def pShare (p : List Byte) : Nat := be p 2 1
/-- IFLAGS. -/
def pFlags (p : List Byte) : Nat := be p 3 1
/-- COMP_LEVEL. -/
def pComp (p : List Byte) : Nat := be p 4 1
/-- SEARCH_BANK. -/
def pBank (p : List Byte) : Nat := be p 5 1
/-- SEARCH_SEGS. -/
def pSegs (p : List Byte) : Nat := be p 6 2
/-- CONN_QUOTA. -/
def pConns (p : List Byte) : Nat := be p 8 4
/-- CMD_QUOTA. -/
def pCmds (p : List Byte) : Nat := be p 12 4
/-- BUF_MIN_KIB. -/
def pMin (p : List Byte) : Nat := be p 16 4
/-- BUF_MAX_KIB. -/
def pMax (p : List Byte) : Nat := be p 20 4
/-- KEY_SLOTS. -/
def pKeys (p : List Byte) : Nat := be p 24 8

/-- Class of a host port in the port-authority map (R144): 0 `NONE`, 1 `HOST`, 2 `MGMT`. -/
def State.hpClass (s : State) (n : Nat) : Nat := s.fld 0x050 0x040 (2 * n + 1) (2 * n)
/-- Class of a knot link: 0 `NONE`, 3 `PEER`. -/
def State.klClass (s : State) (n : Nat) : Nat := s.fld 0x050 0x044 (2 * n + 1) (2 * n)

/-- Port bindings that are refused (R147): to a port of class `NONE` or `MGMT`. -/
def State.portsBad (s : State) (mask : Nat) : Bool := (List.range 16).any fun n => nbit mask n && decide (s.hpClass n ≠ 1)

/-- A buddy exists (R437). -/
def State.hasBuddy (s : State) : Bool := decide (s.fld 0x040 0x0C4 0 0 = 1)

/-- Whether row `r` of the table of R147 is out of its range. -/
def State.rowBad (s : State) (p : List Byte) : Nat → Bool
  | 0 => s.portsBad (pPorts p)
  | 1 => decide (pShare p > 100)
  | 2 => decide (pFlags p > 15) || (nbit (pFlags p) 3 && !s.hasBuddy)
  | 3 => decide (pComp p > 4)
  | 4 => decide (pBank p > 3)
  | 5 => decide (pSegs p > 16) || (decide (pSegs p ≠ 0) && decide (pBank p = 0))
  | 6 => decide (pConns p < 1) || decide (pConns p > 65536)
  | 7 => decide (pCmds p < 1) || decide (pCmds p > 131072)
  | 9 => decide (pMax p > 196608)
  | _ => false

/-! ### Capacity and minima -/

/-- Blocks of a capacity that this device owns (R427, R428). -/
def State.ownBlocks (s : State) (inst cap : Nat) : Nat :=
  if s.isKnot inst = false then cap
  else
    let p := s.placeOf inst
    let ms := (List.range 8).filter fun j => nbit p.1 j
    let sz := 4 * 2 ^ p.2
    match ms.idxOf? s.selfId with
    | none => 0
    | some r =>
      let m := ms.length
      let full := cap / sz
      (full / m + (if r < full % m then 1 else 0)) * sz + (if full % m = r then cap % sz else 0)

/-- User capacity taken by instances other than `but`. -/
def State.capUsed (s : State) (but : Nat) : Nat :=
  (s.insts.map fun e => if e.2.state = .free ∨ e.1 = but then 0 else s.ownBlocks e.1 e.2.capacity).sum

/-- The most the reserved minima may hold together, 256 B units (R221). -/
def State.minLimit (s : State) : Nat :=
  (([0, 1, 3, 4].map fun p => s.poolCount p * poolSize p).sum * s.fld 0x020 0x0A0 7 0 / 100) / 256

/-- The sum of all `QUOTA_MIN` but one requester's; an instance in CREATING counts with what its transaction will give it. -/
def State.minSum (s : State) (but : Nat) : Nat :=
  (s.minRequesters.map fun r => if r = but then 0
    else if r < 1024 ∧ (s.inst r).state = .creating then max (s.minOf r) (4 * (s.inst r).bufMin) else s.minOf r).sum

/-- Firmware commits an instance's share and quotas through one configuration transaction (R149 step 5, R152, R160, R221): `bmin` and `bmax` in
units of 256 B. -/
def State.quotaTxn (s : State) (i share bmin bmax : Nat) : State :=
  let s := s.txnBegin fwRequester
  let s := s.shadow (rkey 0x011 (4 * i)) 6 0 share
  let s := s.shadow (rkey (reqWord 0x021 i).1 (reqWord 0x021 i).2) 19 0 bmax
  let s := s.shadow (rkey (reqWord 0x023 i).1 (reqWord 0x023 i).2) 19 0 bmin
  ((s.setFld 0x010 0x024 0 0 1).setFld 0x020 0x024 0 0 1).txnCommit fwRequester

/-! ### Creation (R147 to R149, R280) -/

/-- Segments of a bank that instances hold, or whose sweep has not ended. -/
def State.segTaken (s : State) (b seg : Nat) : Bool :=
  (s.insts.any fun e => decide (e.2.state ≠ .free) && decide (e.2.bank = b) && decide (e.2.segStart ≤ seg) &&
    decide (seg < e.2.segStart + e.2.segs)) || s.sweeping b seg 1

/-- The lowest run of free segments (R280). -/
def State.freeSegs (s : State) (b n : Nat) : Option Nat :=
  if n = 0 then some 0
  else (List.range (17 - n)).find? fun a => (List.range n).all fun i => !s.segTaken b (a + i)

/-- The lowest `FREE` number. -/
def State.freeInst (s : State) : Option Nat := (List.range 1024).find? fun i => decide ((s.inst i).state = .free)

/-- An instance's cached writes are discarded and its grains handed to garbage collection (R160 steps 2 and 5). -/
def State.dropGrains (s : State) (i : Nat) : State :=
  let ks := (s.flash.map.filter fun e => decide (keyInst e.1 = i)).map (·.1)
  let s := ks.foldl (fun s k => (s.freeChain (s.chain k).1).mapSet k 0) s
  let f := s.flash
  { s with flash := { f with lastAsn := SMap.dropIf (fun k => decide (keyInst (k / 4) = i)) f.lastAsn } }.eraseReady

/-- RESULT of `CREATE_INSTANCE`. -/
def createResult (i : Nat) (x : InstSt) : List Byte :=
  beBytes 2 i ++ zeros 2 ++ beBytes 4 (if x.segs = 0 then 0xFFFFFFFF else 65536 * x.bank + 4096 * x.segStart)

/-- `CREATE_INSTANCE` runs (R148, R149): it ends with a refusal, or the instance enters CREATING; `COMMAND_COMPLETE` makes it
ACTIVE once its region is swept. -/
def State.createInst (s : State) (n : Nat) (it : Item) : State :=
  let p := it.params
  let bad := (List.range 11).any (s.rowBad p) || decide (pMin p > pMax p) || decide (it.lba = 0)
  let any := decide (it.count = 0xFFFFFFFF)
  let num := if any then s.freeInst else if it.count < 1024 then some it.count else none
  if s.lc ≠ 2 ∨ s.fld 0x002 0x040 31 31 = 1 then s.finish n stPermission
  else if bad ∨ (any = false ∧ num.isNone) ∨ (any = false ∧ (s.inst it.count).state ≠ .free) then s.finish n stInvalidField
  else
    match num, s.freeSegs (pBank p) (pSegs p) with
    | some i, some seg =>
      if s.capUsed i + s.ownBlocks i it.lba > s.deviceCap ∨ s.minSum i + 4 * pMin p > s.minLimit then s.finish n stQuota
      else
        let k := s.otp.draws + 1
        let x : InstSt :=
          { state := .creating, capacity := it.lba, portMask := pPorts p, iflags := pFlags p, compLevel := pComp p,
            bank := pBank p, segStart := seg, segs := pSegs p, connQuota := pConns p, cmdQuota := pCmds p, bufMin := pMin p,
            bufMax := pMax p, keySlots := BitVec.ofNat 64 (pKeys p), key := k }
        let s := ({ s with otp := { s.otp with draws := k + 2 } }.dropGrains i).setInst i x
        let s := s.startSweep (pBank p) seg (pSegs p)
        (s.modItem n fun y => { y with target := i }).finish n stSuccess (createResult i x)
    | _, _ => s.finish n stQuota

/-- A creation whose region is swept commits its instance's quotas, once firmware can run the transaction (R149 step 5). -/
def State.createStep (s : State) (n : Nat) (it : Item) : State :=
  let x := s.inst it.target
  if it.op = 0x40 ∧ it.outstanding ∧ it.finished ∧ it.status = stSuccess ∧ it.txn = 0 ∧ s.sweeping x.bank x.segStart x.segs = false ∧
      s.fwTxnFree then
    let s := s.quotaTxn it.target (pShare it.params) (4 * x.bufMin) (4 * x.bufMax)
    s.modItem n fun y => { y with txn := s.txnId }
  else s

/-- The transaction of a creation or of a change of quotas has ended (R149 step 6, R152). -/
def State.txnDone (s : State) (it : Item) : Bool :=
  if it.status ≠ stSuccess then true
  else if it.op = 0x40 then decide (it.txn ≠ 0) && s.txnOver it.txn
  else it.txn = 0 || s.txnOver it.txn

/-! ### `SET_QUOTA` (R152) -/

/-- `SET_QUOTA` runs (R152), once firmware can run its transaction; its `RESP` follows the end of that. -/
def State.setQuota (s : State) (n : Nat) (it : Item) : State :=
  let p := it.params
  let i := it.count
  let x := s.inst i
  let sel := fun (r : Nat) => nbit it.lba r
  let bmin := if sel 8 then pMin p else x.bufMin
  let bmax := if sel 9 then pMax p else x.bufMax
  let cap := if sel 11 then be p 32 8 else x.capacity
  let bad := ((List.range 11).any fun r => sel r && decide (r ≠ 5) && s.rowBad p r) || decide (i ≥ 1024) ||
    decide (x.state ≠ .active ∧ x.state ≠ .resetting) || (sel 4 && decide (pBank p ≠ x.bank)) ||
    (sel 5 && decide (pSegs p ≠ x.segs)) || decide (it.lba ≥ 4096) || decide (bmin > bmax) || decide (cap < x.capacity) ||
    decide (s.minSum i + 4 * bmin > s.minLimit) || (sel 11 && decide (s.capUsed i + s.ownBlocks i cap > s.deviceCap))
  if bad then s.finish n stInvalidField
  else if s.fwTxnFree = false then s
  else
    let ports := if sel 0 then pPorts p else x.portMask
    let gone := (List.range 16).foldl (fun m b => m + b2n (nbit x.portMask b && !nbit ports b) * 2 ^ b) 0
    let y := { x with
      capacity := cap, portMask := ports, iflags := if sel 2 then pFlags p else x.iflags,
      compLevel := if sel 3 then pComp p else x.compLevel, connQuota := if sel 6 then pConns p else x.connQuota,
      cmdQuota := if sel 7 then pCmds p else x.cmdQuota, bufMin := bmin, bufMax := bmax,
      keySlots := if sel 10 then BitVec.ofNat 64 (pKeys p) else x.keySlots }
    let s := (s.setInst i y).quotaTxn i (if sel 1 then pShare p else s.sharePct i) (4 * bmin) (4 * bmax)
    ((s.dropClassifier i gone).modItem n fun y => { y with txn := s.txnId }).finish n stSuccess

/-- What `COMMAND_COMPLETE` first does for a command whose firmware runs a transaction: begin it, where it could not begin before. -/
def State.txnStep (s : State) (n : Nat) : State :=
  match s.item n with
  | none => s
  | some it =>
    if it.op = 0x44 ∧ it.state = .running ∧ it.finished = false ∧ it.aborted = false then s.setQuota n it else s.createStep n it

/-! ### Resets and deletions (R109, R155 to R160) -/

/-- Stream cores that ran a job of an instance since their last wipe (R157). -/
def State.wipePending (s : State) (i : Nat) : List Nat :=
  (s.cores.filter fun e => decide (e.2.lastInst = i + 1)).map (·.1)

/-- Wipe those cores. -/
def State.wipeCores (s : State) (i : Nat) : State :=
  (s.wipePending i).foldl (fun s c => (s.setCore c (s.core c).wiped).count (scPage (c / 12)) 0x060) s

/-- Unload every filter program of an instance (R158). -/
def State.unloadAll (s : State) (i : Nat) : State :=
  let ks := (s.scan.progs.filter fun e => decide (e.2.inst = i)).map (·.1)
  let s := { s with scan := { s.scan with progs := s.scan.progs.map fun e => if e.2.inst = i then (e.1, { e.2 with unloaded := true }) else e } }
  ks.foldl (fun s k => s.freeProg k) s

/-- Items of an instance meet its reset or deletion (R106, R155). -/
def State.resetItems (s : State) (i : Nat) : State :=
  ((s.meetAll stInstanceReset fun n it => it.ofInst i && !s.ownReset i n).wipeCores i).unloadAll i

/-- A `RESET_INSTANCE` or `DELETE_INSTANCE` whose turn has come begins (R109, R159, R160). -/
def State.beginReset (s : State) (n : Nat) : State :=
  match s.item n with
  | none => s
  | some it =>
    let i := it.target
    let x := s.inst i
    match x.state with
    | .free => ((s.finish n stInvalidField).modInst i fun x => { x with resetQ := x.resetQ.filter (· != n) })
    | .active =>
      if it.op = 0x42 then (s.modInst i fun x => { x with state := .resetting, closeSent := false }).resetItems i
      else
        let s := (s.modInst i fun x => { x with state := .deleting, closeSent := false }).resetItems i
        let s := ((s.dropGrains i).dropClassifier i 0xFFFF).startSweep x.bank x.segStart x.segs
        s.modInst i fun x => { x with key := 0 }
    | _ => s

/-- Begin the first reset that waits for an instance; those that find it `FREE` end (R159). -/
def State.nextReset : Nat → State → Nat → State
  | 0, s, _ => s
  | f + 1, s, i =>
    match (s.inst i).resetQ with
    | [] => s
    | n :: q =>
      if (s.item n).isNone then State.nextReset f (s.modInst i fun x => { x with resetQ := q }) i
      else if (s.inst i).state = .free then State.nextReset f (s.beginReset n) i
      else s.beginReset n

/-- `RESET_INSTANCE` or `DELETE_INSTANCE` is accepted (R159). -/
def State.queueReset (s : State) (n : Nat) (it : Item) : State :=
  let i := it.target
  let s := s.modInst i fun x => { x with resetQ := x.resetQ ++ [n] }
  if (s.inst i).resetQ.length = 1 then s.nextReset 1 i else s

/-- A created instance is ACTIVE from its `RESP` (R149 step 6); a reset or deletion that waited for its creation begins (R159). -/
def State.created (s : State) (i : Nat) : State := if (s.inst i).state = .active then s.nextReset 1 i else s

/-- Buffer hitches an instance holds (R223). -/
def State.instHitches (s : State) (i : Nat) : Nat := s.hitchesOf i

/-- A deletion commits the release of its share and quotas (R160 step 6), once firmware can run the transaction. -/
def State.releaseQuotas (s : State) (i : Nat) : State :=
  if s.fwTxnFree then
    let s := s.quotaTxn i 0 0 0xFFFFF
    s.modInst i fun x => { x with txn := s.txnId }
  else s

/-- The end of a reset or deletion, as far as it has come (R109, R157, R160): the `CLOSE`s once every item is reported, the `RESP`
once the conditions of R157 hold; a watchdog that has ended the command with its own `RESP` (R138) leaves the rest to run on. A command that
waits for a creation that has failed begins here (R159). -/
def State.resetDone (s : State) (i op : Nat) : State :=
  let x := s.inst i
  match x.resetQ with
  | [] => s
  | n :: _ =>
    let going := if op = 0x42 then x.state = .resetting else op = 0x41 ∧ x.state = .deleting
    if x.state = .free ∨ x.state = .active then s.nextReset (x.resetQ.length + 1) i
    else if ¬ going ∨ s.outstandingOf i ≠ 0 then s
    else
      let s := if x.closeSent then s
        else
          ((s.host.conns.filter fun e => decide (e.2.inst = i) && decide (e.2.port < 16)).foldl (fun s e => s.sendClose e.1 5) s).modInst i
            fun x => { x with closeSent := true }
      if s.instHitches i ≠ 0 ∨ s.wipePending i ≠ [] ∨ (op = 0x41 ∧ (s.sweeping x.bank x.segStart x.segs ∨ s.clsSweeping i)) then s
      else if op = 0x41 ∧ x.txn = 0 then s.releaseQuotas i
      else if op = 0x41 ∧ s.txnOver x.txn = false then s
      else
        let q := x.resetQ.filter (· != n)
        let s := if op = 0x42 then (s.modInst i fun x => { x with state := .active, resetQ := q }).raise 0x050 0
          else ((s.dropGrains i).setInst i { resetQ := q }).raise 0x050 1
        let open' := match s.item n with
          | some it => it.outstanding
          | none => false
        (if open' then (s.finish n stSuccess).report n stSuccess [] else s).nextReset (q.length + 1) i

/-! ### Migration logs (R161 to R163) -/

/-- Range record `r` of `START` (R161). -/
def migRange (p : List Byte) (r : Nat) : MigRange :=
  { key := be p (16 + 24 * r) 4, base := be p (24 + 24 * r) 8, len := be p (32 + 24 * r) 8 }

/-- Whether the PARAMS of `START` are valid (R161). -/
def migStartOk (p : List Byte) : Bool :=
  let mode := be p 0 1
  let n := be p 8 1
  decide (mode = 1 ∨ mode = 2) && decide (4096 ≤ be p 4 4) && decide (be p 4 4 ≤ 1048576) && decide (n ≤ 16) &&
    decide (p.length ≥ 16 + 24 * n) && (p.drop (16 + 24 * n)).all (fun b => decide (b = 0)) && decide (be p 1 3 = 0) && decide (be p 9 7 = 0) &&
    (List.range n).all fun r =>
      let x := migRange p r
      decide (be p (20 + 24 * r) 4 = 0) && decide (x.base % 4096 = 0) && decide (x.len % 4096 = 0) && decide (x.len ≤ 2 ^ 30)

/-- The bitmap of a range as bytes. -/
def migBitmap (x : InstSt) (r : Nat) : List Byte :=
  let len := (x.migRanges.getD r { key := 0, base := 0, len := 0 }).len
  (List.range (cdiv len 32768)).map fun j =>
    BitVec.ofNat 8 ((List.range 8).foldl (fun a b => a + b2n (SMap.getD false x.migBits (2 ^ 18 * r + 8 * j + b)) * 2 ^ b) 0)

/-- The output of a read of the log (R162). -/
def migOutput (x : InstSt) : List Byte :=
  beBytes 32 (Config.migHeader x.migMode x.migList.length x.migOvf) ++
    ((List.range x.migRanges.length).flatMap fun r => migBitmap x r) ++
    x.migList.flatMap fun e => beBytes 4 e.key ++ beBytes 4 e.pages ++ beBytes 8 e.addr

/-- A `READ_CLEAR` whose snapshot is still to be taken (R163). -/
def Item.unread (it : Item) : Bool :=
  it.op = 0x43 && it.cflags % 4 = 3 && it.pos = 0 && it.finished && it.status = stSuccess

/-- `READ_CLEAR` takes its snapshot as its first `DATA_IN` is offered (R163). -/
def State.migSnapshot (s : State) (n : Nat) : State :=
  match s.item n with
  | none => s
  | some it =>
    if it.unread then
      let x := s.inst it.target
      let o := migOutput x
      let s := s.modInst it.target fun x => { x with migBits := [], migList := [], migOvf := decide (o.length > it.inLen) }
      s.modItem n fun y => { y with out := o.take it.inLen, pos := 1 }
    else s

/-- `MIGRATION_LOG` runs (R161): operation 0 `STOP`, 1 `START`, 2 `READ`, 3 `READ_CLEAR`. -/
def State.migLog (s : State) (n : Nat) (it : Item) : State :=
  let i := it.count
  let x := s.inst i
  let s := s.modItem n fun y => { y with target := i }
  if i ≥ 1024 ∨ x.state = .free then s.finish n stInvalidField
  else
    match it.cflags % 4 with
    | 0 => (s.setInst i { x with migMode := 0, migCap := 0, migRanges := [], migBits := [], migList := [], migOvf := false }).finish n stSuccess
    | 1 =>
      let p := it.params
      if migStartOk p then
        let y := { x with migMode := be p 0 1, migCap := be p 4 4, migRanges := (List.range (be p 8 1)).map (migRange p),
                          migBits := [], migList := [], migOvf := false }
        (s.setInst i y).finish n stSuccess
      else s.finish n stInvalidField
    | op =>
      if x.migMode = 0 then s.finish n stInvalidField
      else
        let o := (migOutput x).take it.inLen
        (s.modItem n fun y => { y with out := if op = 2 then o else y.out }).finish n stSuccess

/-! ### Identity and logs (R84, R91, R92, R505) -/

/-- `IDENTIFY` data (R84). -/
def State.identify (s : State) (it : Item) : List Byte :=
  let members := ((List.range 8).filter fun j => nbit (s.fld 0x040 0x0CC 7 0) j || decide (j = s.selfId)).length
  padTo 4096 ([0x46, 0x56, 0x39, 0x34, 0x31, 0x30] ++ zeros 10 ++ [0xB0] ++ beBytes 1 s.selfId ++ beBytes 1 members ++ [0x13] ++
    beBytes 2 it.inst ++ zeros 2 ++ beBytes 8 (s.inst it.inst).capacity ++ beBytes 4 4096)

/-- An entry of page 0x01. -/
def defBytes (e : DeferredEnt) : List Byte :=
  beBytes 8 e.seq ++ beBytes 2 e.status ++ beBytes 1 e.origin ++ zeros 1 ++ beBytes 4 e.blocks ++ beBytes 8 e.firstLba ++ beBytes 8 e.asn
/-- An entry of page 0x02. -/
def outBytes (e : OutcomeEnt) : List Byte :=
  beBytes 4 e.tag ++ beBytes 2 e.conn ++ beBytes 2 e.status ++ beBytes 8 e.asn ++ beBytes 4 e.inBytes ++ zeros 12
/-- An entry of page 0x03. -/
def journalBytes (e : JournalEnt) : List Byte :=
  beBytes 4 e.tag ++ beBytes 2 e.conn ++ beBytes 2 e.status ++ beBytes 8 e.asn ++ beBytes 4 e.inBytes ++ beBytes 1 e.opcode ++
    beBytes 1 e.jflags ++ beBytes 2 e.restart ++ beBytes 8 e.lba

/-- A log page of an instance. -/
def logPage (x : InstSt) (page : Nat) : List Byte :=
  match page with
  | 1 => beBytes 4 x.deferred.length ++ beBytes 4 x.defOvf ++ zeros 24 ++ x.deferred.flatMap defBytes
  | 2 => beBytes 4 x.outcomes.length ++ beBytes 4 x.outOvf ++ zeros 24 ++ x.outcomes.flatMap outBytes
  | _ =>
    beBytes 4 x.journal.length ++ beBytes 4 x.jOvf ++ beBytes 8 x.jRestart ++ beBytes 1 x.jCause ++ beBytes 1 (b2n x.jUnknown) ++
      zeros 14 ++ x.journal.flatMap journalBytes

/-- The numbers of a page's entries, in order: SEQ on page 0x01, the entries' own numbers on the others. -/
def logNumbers (x : InstSt) (page : Nat) : List Nat :=
  match page with
  | 1 => x.deferred.map (·.seq)
  | 2 => x.outcomes.map (·.id)
  | _ => x.journal.map (·.id)

/-- `GET_LOG` reads its page (R91): the entries it returns are those that lie whole in what it reads. -/
def State.getLog (s : State) (n : Nat) (it : Item) : State :=
  let x := s.inst it.inst
  let page := it.count % 256
  let o := ((logPage x page).drop it.lba).take it.inLen
  let ids := (((logNumbers x page).zipIdx).filter fun e =>
    decide (it.lba ≤ 32 + 32 * e.2) && decide (64 + 32 * e.2 ≤ it.lba + o.length)).map (·.1)
  (s.modItem n fun y => { y with out := o, logIds := ids }).finish n stSuccess

/-- With `CLEAR`, the entries a `GET_LOG` returned are removed once its `RESP` is committed (R91); a read that empties a page
clears its overflow count. -/
def State.clearLog (s : State) (it : Item) : State :=
  if it.op ≠ 0x21 ∨ nbit it.cflags 0 = false ∨ it.status ≠ stSuccess then s
  else
    s.modInst it.inst fun x =>
      match it.count % 256 with
      | 1 =>
        let l := x.deferred.filter fun e => !it.logIds.contains e.seq
        { x with deferred := l, defOvf := if l = [] then 0 else x.defOvf }
      | 2 =>
        let l := x.outcomes.filter fun e => !it.logIds.contains e.id
        { x with outcomes := l, outOvf := if l = [] then 0 else x.outOvf }
      | _ =>
        let l := x.journal.filter fun e => !it.logIds.contains e.id
        { x with journal := l, jOvf := if l = [] then 0 else x.jOvf, jUnknown := if l = [] then false else x.jUnknown }

/-! ### Commands -/

/-- `INSTANCE_RESET_COMPLETE` (R109, R157, R158). -/
def execInstanceResetComplete (inst : Nat) (s : State) : Host.Outcome State Fault Refusal := .next (s.resetDone inst 0x42)

/-- `INSTANCE_DELETE_COMPLETE` (R160). -/
def execInstanceDeleteComplete (inst : Nat) (s : State) : Host.Outcome State Fault Refusal := .next (s.resetDone inst 0x41)

end Sys2Proof.Machine
end

