-- ==== Sys2Proof/Machine/Knot.lean ====
section
/-! DEFINITION. Knots of devices (R420 to R445): links, membership, the home's acceptance order, mirroring, the loss of a peer. What a
forwarded part does is in Machine/Parts.lean. -/

namespace Sys2Proof.Machine

/-! ### Links (R420, R423 to R426) -/

/-- What a link holds beyond its page. -/
def State.link (s : State) (j : Nat) : LinkSt := SMap.getD {} s.knot.links j
/-- Change it. -/
def State.modLink (s : State) (j : Nat) (f : LinkSt → LinkSt) : State :=
  { s with knot := { s.knot with links := SMap.updD {} s.knot.links j f } }
/-- State of a link. -/
def State.linkState (s : State) (j : Nat) : Nat := s.fld (klPage j) 0x040 3 0

/-- `KN_STAT.MEMBERS` follows the links (R422). -/
def State.setMembers (s : State) : State :=
  let m := (List.range 8).foldl (fun m j => m + b2n (decide (j = s.selfId) || s.linkUp j) * 2 ^ j) 0
  s.setFld 0x040 0x0CC 7 0 m

/-- A link enters a state. -/
def State.setLinkState (s : State) (j st : Nat) : State :=
  if s.linkState j = st then s else ((s.setFld (klPage j) 0x040 3 0 st).raise (klPage j) 0).setMembers

/-- The lowest-numbered member. -/
def State.lowestMember (s : State) : Nat :=
  ((List.range 8).find? fun j => nbit (s.fld 0x040 0x0CC 7 0) j).getD s.selfId

/-- The buddy (R437). -/
def State.buddy (s : State) : Nat := s.selfId ^^^ 1

/-- A link with a signal trains (R423); one whose `ENABLE` is 0 waits until it is 1 (R551). -/
def State.startTraining (s : State) (j : Nat) : State :=
  if (s.link j).sig ∧ s.linkState j = 0 ∧ s.klClass j = 3 ∧ j ≠ s.selfId ∧ j < 8 ∧ s.enabled (klPage j) then
    (s.modLink j fun l => { l with half := decide (s.fld (klPage j) 0x044 0 0 = 1) }).setLinkState j 1
  else s

/-- A peer's signal is detected (R423). -/
def State.signalDetect (s : State) (j : Nat) : State := (s.modLink j fun l => { l with sig := true }).startTraining j

/-- All eight lanes lock (R423, R424): where the peer alone asks for the half rate, both sides train again. -/
def State.laneLock (s : State) (j : Nat) (peerHalf : Bool) : State :=
  if s.linkState j ≠ 1 then s
  else if peerHalf ∧ (s.link j).half = false then s.modLink j fun l => { l with half := true }
  else s.setLinkState j 2

/-- A lane fails to lock within 20 ms (R424). -/
def State.laneTimeout (s : State) (j : Nat) : State :=
  if s.linkState j ≠ 1 then s
  else if (s.link j).half = false then s.modLink j fun l => { l with half := true }
  else s.setLinkState j 4

/-- The peer's identity: version (major × 16 + minor), KNOT_ID, `KN_SIG`, its home where it has one, `BUDDY_EN`. -/
def State.identOk (s : State) (j ver id sig : Nat) (buddy : Bool) : Bool :=
  decide (id = j) && decide (sig = (s.reg 0x040 0x0C0).toNat) && decide (ver / 16 = 1) &&
    decide (b2n buddy = s.fld 0x040 0x0C4 0 0)

/-- Mirror records held are sent back to their owner (R439). -/
def State.mirrorResend (s : State) (j : Nat) : State :=
  if j ≠ s.buddy ∨ s.hasBuddy = false then s
  else s.knot.mirror.foldl (fun s e => s.knotSend j (.mirror e.1 e.2.inst e.2.grain e.2.mask e.2.made e.2.asn e.2.frame)) s

/-- The identities are compared (R425): the link comes `UP`, or `MISMATCH`. -/
def State.knotIdent (s : State) (j ver id sig : Nat) (home : Option Nat) (buddy : Bool) : State :=
  if s.linkState j ≠ 2 then s
  else
    let s := (s.setFld (klPage j) 0x040 31 24 ver).setFld (klPage j) 0x040 18 16 id
    if s.identOk j ver id sig buddy = false then
      ((s.setLinkState j 5).raise (klPage j) 2).post 0x0061 0 (klPage j) j
    else
      let s := s.setFld (klPage j) 0x040 4 4 (b2n (s.link j).half)
      let s := s.modLink j fun l => { l with rxSeq := 0, txSeq := 0, replay := false, lastFlit := s.now, peerKnown := true }
      let s := s.setLinkState j 3
      let s := if s.knot.homeKnown then s
        else { s.setFld 0x040 0x0CC 10 8 (home.getD s.lowestMember) with knot := { s.knot with homeKnown := true } }
      let s := if j = s.buddy ∧ s.hasBuddy then s.setFld 0x040 0x0CC 16 16 0 else s
      s.mirrorResend j

/-- The home changes (R442): requests that await a grant go to the new one. -/
def State.takeHome (s : State) (home : Nat) : State :=
  if s.home = home then s
  else
    let s := s.setFld 0x040 0x0CC 10 8 home
    s.knot.asnReqs.foldl (fun s r =>
      match s.item r.item with
      | some it => if r.cancelled then s else s.knotSend home (.asnReq r.item it.op r.inst it.lba it.count)
      | none => s) s

/-- A flit arrives (R426): with a CRC that does not match it is replayed; an idle flit carries the peer's step and the home. -/
def State.flit (s : State) (j seq : Nat) (crcOk : Bool) (idle : Option (Nat × Nat)) (latNs : Nat) : State :=
  if s.linkUp j = false then s
  else if !crcOk then (s.modLink j fun l => { l with replay := true }).count (klPage j) 0x054
  else if seq ≠ (s.link j).rxSeq then s
  else
    let s := s.modLink j fun l => { l with rxSeq := l.rxSeq + 1, replay := false, lastFlit := s.now }
    let s := s.setFld (klPage j) 0x05C 15 0 (max (s.fld (klPage j) 0x05C 15 0) (min latNs 0xFFFF))
    match idle with
    | none => s
    | some (step, home) => (s.modLink j fun l => { l with peerStep := step }).takeHome home

/-- An idle flit leaves (R426, R430, R442): what was handed to the link before has gone. -/
def State.idleFlit (s : State) (j : Nat) : State :=
  if s.linkUp j = false then s
  else
    let n := (SMap.getD [] s.knot.out j).length
    let s := s.modLink j fun l => { l with txSeq := l.txSeq + n + 1, idleSent := l.idleSent + 1 }
    { s with knot := { s.knot with out := SMap.put s.knot.out j [.idle s.cadStep s.home] } }

/-! ### Loss of a peer (R436, R440 to R443) -/

/-- The writes that await a lost buddy's report, and mirroring from then on (R440). -/
def State.buddyLost (s : State) : State :=
  let waits := s.cmd.items.filter fun e => decide (e.2.mirrorWait ≠ 0) && e.2.outstanding
  if s.fld 0x040 0x0C4 1 1 = 0 then
    let s := waits.foldl (fun s e => s.modItem e.1 fun it => { it with mirrorWait := 0 }) s
    (((s.setFld 0x040 0x0CC 16 16 1).raise 0x040 3).post 0x0062 0 0x040 s.buddy).async 5
      (fun c => nbit (s.inst c.inst).iflags 3) (beBytes 1 s.buddy)
  else
    waits.foldl (fun s e => if e.2.aborted then s.modItem e.1 fun it => { it with mirrorWait := 0 } else
      (s.stopWork e.1).report e.1 stPeerLost []) s

/-- A command whose part forwarded to `j` is lost ends; its other parts are aborted at their owners. -/
def State.partLost (s : State) (j n : Nat) : State :=
  match s.item n with
  | none => s
  | some it =>
    let lost := (s.knot.fwd.filter fun e => decide (e = (n, j))).length
    let s := s.modItem n fun x => { x with parts := x.parts - lost }
    if it.aborted ∨ it.outstanding = false then s else (s.stopWork n).report n stPeerLost it.cutResult

/-- The home restarts the counters of a knot's instances (R442). -/
def State.restartAsn (s : State) : State :=
  s.insts.foldl (fun s e =>
    if s.isKnot e.1 then s.modInst e.1 fun x => { x with asn := max x.asn (SMap.getD 0 s.knot.maxAsn e.1) + 2 ^ 32 } else s) s

/-- The home is lost (R441, R442): the lowest remaining member takes its place; where that is this device, requests that await a
grant are answered `BUSY`. -/
def State.homeLost (s : State) : State :=
  if s.lowestMember ≠ s.selfId then s
  else
    let asked := s.knot.asnReqs
    let s := (s.setFld 0x040 0x0CC 10 8 s.selfId).restartAsn
    let s := { s with knot := { s.knot with asnReqs := [] } }
    asked.foldl (fun (s : State) (r : AsnReq) =>
      match s.item r.item with
      | some it =>
        let old := match s.conn it.conn with
          | some x => decide (x.version < 0x12)
          | none => true
        if r.cancelled || old then s else s.sendBusy r.item it 8 (s.fld 0x040 0x0C4 31 16)
      | none => s) s

/-- A peer is lost (R441): the link goes `DOWN` and everything tied to the peer meets its fate. -/
def State.peerLost (s : State) (j : Nat) : State :=
  if s.linkUp j = false then s
  else
    let s := (s.setLinkState j 0).raise (klPage j) 1 |>.count (klPage j) 0x058
    let s := s.modLink j fun l => { l with sig := false }
    let s := { s with knot := { s.knot with out := SMap.del s.knot.out j } }
    let s := (s.post 0x0060 0 (klPage j) j).async 4 (fun c => s.isKnot c.inst) (beBytes 1 j)
    let gone := s.knot.fwd.filter fun e => decide (e.2 = j)
    let s := (gone.map (·.1)).eraseDups.foldl (fun (s : State) n => s.partLost j n) s
    let s := { s with knot := { s.knot with fwd := s.knot.fwd.filter fun e => e.2 ≠ j } }
    let s := (s.knot.parts.filter fun p => decide (p.peer = j)).foldl (fun (s : State) (p : PartSt) =>
      match s.item p.item with
      | some it => if it.drains then s else (s.stopWork p.item).endPart p.item 0 [] []
      | none => s) s
    let s := if s.home = j then s.homeLost else s
    if s.hasBuddy && decide (j = s.buddy) then s.buddyLost else s

/-- `RETRAIN` (R423). -/
def State.retrain (s : State) (j : Nat) : State :=
  if j ≥ 8 then s else if s.linkUp j then s.peerLost j else s.setLinkState j 0

/-- No flit for `PEER_TIMEOUT_US` (R441). -/
def State.peerTimeout (s : State) (j : Nat) : State :=
  if (s.link j).lastFlit + s.fld 0x040 0x0C4 31 16 ≤ s.now then s.peerLost j else s

/-! ### Mirroring (R437 to R439) -/

/-- Bytes of the mirror region in use. -/
def State.mirrorUsed (s : State) : Nat := (s.knot.mirror.map fun e => e.2.frame.length).sum
/-- Room in the mirror region. -/
def State.mirrorRoom (s : State) : Nat := 2 ^ 20 * s.fld 0x040 0x0C8 12 0 - s.mirrorUsed
/-- `KN_MIRROR_USED` follows (R445). -/
def State.syncMirror (s : State) : State := s.setFld 0x040 0x0D8 12 0 (cdiv s.mirrorUsed (2 ^ 20))

/-- A record of the buddy's is written to the mirror region and reported held (R438). -/
def State.mirrorTake (s : State) (j caddr : Nat) (r : MirRec) : State :=
  if s.linkUp j = false ∨ j ≠ s.buddy ∨ s.hasBuddy = false ∨ r.frame.length > s.mirrorRoom then s
  else
    let s := { s with knot := { s.knot with mirror := SMap.put s.knot.mirror caddr r } }.syncMirror
    s.knotSend j (.held caddr s.mirrorRoom)

/-- A record comes back to its owner, which commits it by its ASN (R198, R439). -/
def State.mirrorBack (s : State) (r : MirRec) : State :=
  let k := mapKey r.inst r.grain
  let mask := r.mask &&& (15 - s.newerBlocks k r.asn % 16)
  if mask = 0 then s
  else
    let s := s.putGrain k mask r.made r.asn r.frame
    (maskBlocks mask).foldl (fun s b => s.blockWritten 0 r.inst r.asn (4 * r.grain + b)) s

/-- Give a peer up for good (R443). -/
def State.evict (s : State) (j : Nat) : State :=
  if j = s.selfId ∨ s.linkUp j then s
  else
    let s := { s with knot := { s.knot with evicted := s.knot.evicted ||| 2 ^ j } }
    if s.hasBuddy ∧ j = s.buddy then
      let s := s.knot.mirror.foldl (fun s e =>
        s.deferredError e.2.inst 3 stPeerLost (maskBlocks e.2.mask).length (4 * e.2.grain + (maskBlocks e.2.mask).headD 0) e.2.asn) s
      { s with knot := { s.knot with mirror := [] } }.syncMirror
    else s

/-! ### The home (R433, R434) -/

/-- The home hands out an instance's next ASN, never one that was skipped. -/
def State.nextAsn (s : State) (inst : Nat) (writing : Bool) (lba count : Nat) : State × Nat :=
  let a := (s.inst inst).asn + 1
  let s := s.modInst inst fun x => { x with asn := a }
  let k := s.knot
  let g := if writing then k.granted ++ [(inst, a, lba, count)] else k.granted
  ({ s with knot := { k with maxAsn := SMap.put k.maxAsn inst a, granted := g } }, a)

/-- The home checks a request's hazards and grants or refuses (R434). -/
def State.asnRequest (s : State) (j item op inst lba count : Nat) : State :=
  if s.home ≠ s.selfId ∨ s.linkUp j = false ∨ s.isKnot inst = false then s
  else if isReading op ∧ s.knotHazard inst lba count then s.knotSend j (.refused item 3)
  else
    let r := s.nextAsn inst (isWriting op) lba count
    r.1.knotSend j (.grant item r.2)

/-- A cancelled request's ASN counts for nothing and is never used again (R433). -/
def State.asnCancel (s : State) (inst asn : Nat) : State :=
  if s.home ≠ s.selfId then s
  else
    let k := s.knot
    { s with knot := { k with granted := k.granted.filter (fun g => decide (g.1 ≠ inst) || decide (g.2.1 ≠ asn)),
                              skipped := if k.skipped.contains (inst, asn) then k.skipped else k.skipped ++ [(inst, asn)] } }

/-! ### Commands -/

/-- `KNOT_SIGNAL_DETECT` (R423). -/
def execKnotSignalDetect (link : Nat) (s : State) : Host.Outcome State Fault Refusal := .next (s.signalDetect link)
/-- `LANE_LOCK` (R423, R424). -/
def execLaneLock (link : Nat) (peerHalf : Bool) (s : State) : Host.Outcome State Fault Refusal := .next (s.laneLock link peerHalf)
/-- `LANE_LOCK_TIMEOUT` (R424). -/
def execLaneLockTimeout (link : Nat) (s : State) : Host.Outcome State Fault Refusal := .next (s.laneTimeout link)
/-- `KNOT_IDENT` (R422, R425, R439). -/
def execKnotIdent (link ver id sig : Nat) (home : Option Nat) (buddy : Bool) (s : State) : Host.Outcome State Fault Refusal :=
  .next (s.knotIdent link ver id sig home buddy)
/-- `FLIT_RECEIVE` (R426, R430, R442). -/
def execFlitReceive (link seq : Nat) (crcOk : Bool) (idle : Option (Nat × Nat)) (latNs : Nat) (s : State) :
    Host.Outcome State Fault Refusal := .next (s.flit link seq crcOk idle latNs)
/-- `IDLE_FLIT` (R426). -/
def execIdleFlit (link : Nat) (s : State) : Host.Outcome State Fault Refusal := .next (s.idleFlit link)
/-- `RETRAIN` (R423, R441). -/
def execRetrain (link : Nat) (s : State) : Host.Outcome State Fault Refusal := .next (s.retrain link)
/-- `EVICT` (R443). -/
def execEvict (device : Nat) (s : State) : Host.Outcome State Fault Refusal := .next (s.evict device)
/-- `ASN_REQUEST` (R433, R434). -/
def execAsnRequest (peer item op inst lba count : Nat) (s : State) : Host.Outcome State Fault Refusal :=
  .next (s.asnRequest peer item op inst lba count)
/-- `ASN_CANCEL` (R433). -/
def execAsnCancel (inst asn : Nat) (s : State) : Host.Outcome State Fault Refusal := .next (s.asnCancel inst asn)
/-- `WRITE_COMPLETE_REPORT` (R434). -/
def execWriteCompleteReport (inst asn : Nat) (s : State) : Host.Outcome State Fault Refusal :=
  let k := s.knot
  .next { s with knot := { k with granted := k.granted.filter fun g => decide (g.1 ≠ inst) || decide (g.2.1 ≠ asn) } }
/-- `MIRROR_RECORD` (R438, R439): a record of the buddy's, or (`back`) one of this device's own that the buddy returns. -/
def execMirrorRecord (peer caddr : Nat) (r : MirrorIn) (back : Bool) (s : State) : Host.Outcome State Fault Refusal :=
  let m : MirRec := { inst := r.inst, grain := r.grain, mask := r.mask, made := r.made, asn := r.asn, frame := r.frame }
  .next (if back then s.mirrorBack m else s.mirrorTake peer caddr m)
/-- `MIRROR_HELD` (R438): one record of a writing command is held; the buddy returns its room. -/
def execMirrorHeld (item credit : Nat) (s : State) : Host.Outcome State Fault Refusal :=
  let s := s.modItem item fun it => { it with mirrorWait := it.mirrorWait - 1 }
  .next { s with knot := { s.knot with credit := credit } }
/-- `MIRROR_RELEASE` (R438): a freed record's copy is released: by this device as its owner, or here as the buddy. -/
def execMirrorRelease (caddr : Nat) (owner : Bool) (s : State) : Host.Outcome State Fault Refusal :=
  .next (if owner then (if (s.cacheRec caddr).isNone then s.knotSend s.buddy (.release caddr) else s)
         else { s with knot := { s.knot with mirror := SMap.del s.knot.mirror caddr } }.syncMirror)
/-- `PEER_TIMEOUT` (R441). -/
def execPeerTimeout (link : Nat) (s : State) : Host.Outcome State Fault Refusal := .next (s.peerTimeout link)
/-- `UP_LINK_FAILURE` (R423, R441). -/
def execUpLinkFailure (link : Nat) (s : State) : Host.Outcome State Fault Refusal := .next (s.peerLost link)

end Sys2Proof.Machine
end

