-- ==== Sys2Proof/Machine/Ec.lean ====
section
/-! DEFINITION. ECDSA over P-384 as FIPS 186-5 gives it, for the signing key of the sealed record domain (R392, R405). -/

namespace Sys2Proof.Machine

/-- The field prime of P-384. -/
def ecP : Nat := 2 ^ 384 - 2 ^ 128 - 2 ^ 96 + 2 ^ 32 - 1
/-- The order of P-384's base point. -/
def ecN : Nat := 0xffffffffffffffffffffffffffffffffffffffffffffffffc7634d81f4372ddf581a0db248b0a77aecec196accc52973
/-- The base point of P-384. -/
def ecG : Nat × Nat :=
  (0xaa87ca22be8b05378eb1c71ef320ad746e1d3b628ba79b9859f741e082542a385502f25dbf55296c3a545e3872760ab7,
   0x3617de4a96262c6f5d9e98bf9292dc29f8f41dbd289a147ce9da3113b5f0b8c00a60b1ce1d7e819d7a431d7c90ea0e5f)

/-- `b` to the power of the low `f` bits of `e`, modulo `m`. -/
def powMod (m : Nat) : Nat → Nat → Nat → Nat
  | 0, _, _ => 1 % m
  | f + 1, b, e =>
    let r := powMod m f (b * b % m) (e / 2)
    if e % 2 = 1 then b * r % m else r

/-- The inverse modulo a prime. -/
def invMod (m x : Nat) : Nat := powMod m 384 (x % m) (m - 2)

/-- A point: `none` is the point at infinity. -/
abbrev EcPoint := Option (Nat × Nat)

/-- Addition of points of P-384. -/
def ecAdd (a b : EcPoint) : EcPoint :=
  match a, b with
  | none, b => b
  | a, none => a
  | some (x1, y1), some (x2, y2) =>
    let sum := fun (l : Nat) =>
      let x3 := (l * l + 2 * ecP - x1 - x2) % ecP
      some (x3, (l * (x1 + ecP - x3) + ecP - y1) % ecP)
    if x1 = x2 then
      if (y1 + y2) % ecP = 0 then none
      else sum ((3 * (x1 * x1) + ecP - 3) * invMod ecP (2 * y1) % ecP)
    else sum ((y2 + ecP - y1) * invMod ecP (x2 + ecP - x1) % ecP)

/-- The multiple of a point by the low `f` bits of `k`. -/
def ecMul : Nat → Nat → EcPoint → EcPoint
  | 0, _, _ => none
  | f + 1, k, p =>
    let r := ecMul f (k / 2) (ecAdd p p)
    if k % 2 = 1 then ecAdd p r else r

/-- A private key or per-message number from random bits: 1 to n − 1. -/
def ecScalar (x : Nat) : Nat := x % (ecN - 1) + 1

/-- The uncompressed public key of a private key: 0x04, X, Y (R415). -/
def ecPublic (d : Nat) : List Byte :=
  match ecMul 384 d (some ecG) with
  | none => zeros 97
  | some (x, y) => 0x04 :: (beBytes 48 x ++ beBytes 48 y)

/-- The signature r, then s, of a message under private key `d` with the per-message number `k` (R405). -/
def ecSign (d k : Nat) (msg : List Byte) : List Byte :=
  match ecMul 384 k (some ecG) with
  | none => zeros 96
  | some (x, _) =>
    let r := x % ecN
    beBytes 48 r ++ beBytes 48 (invMod ecN k * (ofBe (shaHash 2 msg) + r * d) % ecN)

/-- The curve's coefficient b. -/
def ecB : Nat := 0xb3312fa7e23ee7e4988e056be3f82d19181d9c6efe8141120314088f5013875ac656398d8a2ed19d2a85c8edd3ec2aef

/-- Whether a signature is valid for a message under an uncompressed public key (R487). -/
def ecVerify (pub sig msg : List Byte) : Bool :=
  let x := be pub 1 48
  let y := be pub 49 48
  let r := be sig 0 48
  let t := be sig 48 48
  let onCurve := decide (be pub 0 1 = 4) && decide (x < ecP) && decide (y < ecP) &&
    decide (y * y % ecP = (x * x * x + 3 * (ecP - x) + ecB) % ecP)
  let w := invMod ecN t
  let p := ecAdd (ecMul 384 (ofBe (shaHash 2 msg) * w % ecN) (some ecG)) (ecMul 384 (r * w % ecN) (some (x, y)))
  onCurve && decide (1 ≤ r) && decide (r < ecN) && decide (1 ≤ t) && decide (t < ecN) &&
    (match p with
      | none => false
      | some (px, _) => decide (px % ecN = r))

end Sys2Proof.Machine
end

