-- ==== Sys2Proof/Machine/Srd.lean ====
section
/-! DEFINITION. The sealed record domain (R392 to R419): time base, tamper loops, seal chains, retention locks, mailboxes, console. -/

namespace Sys2Proof.Machine

/-- Write the domain's state. -/
def State.setSrd (s : State) (x : SrdSt) : State := { s with srd := x }

/-! ### Time base (R396 to R398) -/

/-- Code of `UNSET`. -/
def tsUnset : Nat := 0
/-- Code of `DISCIPLINED`. -/
def tsDisciplined : Nat := 1
/-- Code of `HOLDOVER`. -/
def tsHoldover : Nat := 2

/-- `dt` ticks of 10 ns pass. -/
def SrdSt.tick (x : SrdSt) (dt : Nat) : SrdSt :=
  if !x.powered ∨ x.tstate = tsUnset then x
  else { x with time := x.time + 10 * dt, holdoverNs := if x.tstate = tsHoldover then x.holdoverNs + 10 * dt else x.holdoverNs }

/-- The UTC second count: TAI less `LEAP`. -/
def SrdSt.utc (x : SrdSt) : Int := (x.time / 10 ^ 9 : Nat) - x.leap

/-- The TAI hour. -/
def SrdSt.hour (x : SrdSt) : Nat := x.time / (3600 * 10 ^ 9)

/-- TSTAT (R402). -/
def SrdSt.tstat (x : SrdSt) : Byte :=
  BitVec.ofNat 8 (x.tstate + 4 * b2n x.tamper +
    8 * (if x.tstate = tsHoldover then min 31 (x.holdoverNs / (3600 * 10 ^ 9)) else 0))

/-! ### Keys (R400, R401) -/

/-- A private number of two draws. -/
def srdScalar (n : Nat) : Nat := ecScalar (2 ^ 256 * Config.srdDraw n + Config.srdDraw (n + 1))

/-- Generate a seal key, kept under the present seal-break count, and a signing key. -/
def SrdSt.genKeys (x : SrdSt) : SrdSt :=
  { x with sealKeys := SMap.setD 0 x.sealKeys x.sealBreak (x.draws + 1), signKey := x.draws + 2, draws := x.draws + 3 }

/-- The seal key in force at a seal-break count: the newest one made at or before it. -/
def SrdSt.sealKeyAt (x : SrdSt) (b : Nat) : Nat :=
  (x.sealKeys.filter fun e => decide (e.1 ≤ b)).foldl (fun _ e => e.2) 0

/-- HMAC-SHA-256 under a stored seal key. -/
def srdMac (key : Nat) (msg : List Byte) : List Byte := hmac 0x11 (beBytes 32 (Config.srdDraw (key - 1))) msg

/-! ### Messages (R410, R411) -/

/-- Messages the control cores' firmware consumes. -/
def OutMsg.fw (m : OutMsg) : Bool := decide (m.type < 0x90)

/-- Bytes of an outbound message. -/
def OutMsg.bytes (m : OutMsg) : List Byte :=
  beBytes 1 m.type ++ beBytes 1 m.sstat ++ beBytes 2 m.inst ++ beBytes 4 m.req ++ beBytes 8 m.lba ++ beBytes 4 m.count ++
    beBytes 2 m.lock ++ zeros 10 ++ padTo 224 m.data

/-- The mailbox status registers follow the mailboxes (R419). -/
def State.mbSync (s : State) : State :=
  let s := s.setFld 0x1D0 0x040 4 0 (16 - s.srd.inbox.length)
  let hd : Nat := match s.srd.outbox with
    | m :: _ => if m.fw then 2 ^ 31 + 2 ^ 16 * m.type else 0
    | [] => 0
  s.setReg 0x1D0 0x048 (BitVec.ofNat 32 (hd + s.srd.outbox.length))

/-- A message has reached the head: `OUT_READY` for one that firmware consumes. -/
def State.headNew (s : State) : State :=
  match s.srd.outbox with
  | m :: _ => if m.fw then s.raise 0x1D0 0 else s
  | [] => s

/-- Messages that wait enter the outbound mailbox as slots are free. -/
def State.outFill (s : State) : State :=
  let room := 16 - s.srd.outbox.length
  let empty := s.srd.outbox.isEmpty
  let s := s.setSrd { s.srd with outbox := s.srd.outbox ++ s.srd.outWait.take room, outWait := s.srd.outWait.drop room }
  (if empty then s.headNew else s).mbSync

/-- Post an outbound message. -/
def State.outPost (s : State) (m : OutMsg) : State := (s.setSrd { s.srd with outWait := s.srd.outWait ++ [m] }).outFill

/-- Take the head message off. -/
def State.outTake (s : State) : State :=
  let s := (s.setSrd { s.srd with outbox := s.srd.outbox.drop 1 }).headNew
  s.outFill

/-- Free outbound slots that nothing waits for. -/
def State.outFree (s : State) : Nat := 16 - s.srd.outbox.length - s.srd.outWait.length

/-! ### STATUS (R411) -/

/-- STATE flags of a `STATUS`: as `SRD_STAT` [4:2]. -/
def SrdSt.flags (x : SrdSt) : Nat := b2n x.verify + 2 * b2n x.tamper + 4 * b2n x.jumper

/-- The fields of a `STATUS` message, with SRD_ID after them. -/
def SrdSt.statusData (x : SrdSt) : List Byte :=
  beBytes 8 x.time ++ [x.tstat] ++ beBytes 1 x.flags ++ beBytes 4 x.swVersion ++ beBytes 4 x.sealBreak ++
    beBytes 4 x.tamperCnt ++ beBytes 2 x.locks.length ++ x.swDigest ++ beBytes 8 x.srdId

/-- Post a `STATUS`. -/
def State.postStatus (s : State) : State :=
  if s.srd.powered then s.outPost { type := 0x90, data := s.srd.statusData } else s

/-- Change the domain's state and post a `STATUS` where the time state, verification mode, the jumper or the tamper flag changes. -/
def State.srdTo (s : State) (x : SrdSt) : State :=
  let old := s.srd
  let s := s.setSrd x
  if old.tstate ≠ x.tstate ∨ old.flags ≠ x.flags then s.postStatus else s

/-- Page hardware latches a `STATUS` (R419). -/
def State.latchStatus (s : State) (d : List Byte) : State :=
  let old := s.fld 0x1D0 0x050 4 0
  let now := nbits (be d 8 1) 1 0 + be d 9 1 * 4
  let cnt := (s.reg 0x1D0 0x05C).toNat
  let s := (s.setFld 0x1D0 0x050 4 0 now).setFld 0x1D0 0x050 28 16 (be d 22 2)
  let s := s.setFld 0x1D0 0x050 7 7 1
  let s := s.setReg 0x1D0 0x054 (BitVec.ofNat 32 (be d 10 4))
  let s := s.setReg 0x1D0 0x058 (BitVec.ofNat 32 (be d 14 4))
  let s := s.setReg 0x1D0 0x05C (BitVec.ofNat 32 (be d 18 4))
  let s := (s.setPair 0x1D0 0x060 (be d 56 8)).setPair 0x1D0 0x068 (be d 0 8)
  let s := (List.range 8).foldl (fun s w => s.setReg 0x1D0 (0x080 + 4 * w) (BitVec.ofNat 32 (le d (24 + 4 * w) 4))) s
  let s := if be d 18 4 > cnt then s.raise 0x1D0 2 else s
  if old = now then s
  else
    ((s.raise 0x1D0 1).post 0x0070 0 0x1D0 (s.fld 0x1D0 0x050 7 0)).async 7
      (fun c => nbit (s.inst c.inst).iflags 0) (beBytes 1 (s.fld 0x1D0 0x050 7 0))

/-! ### Tokens and checkpoints (R402 to R406) -/

/-- The next value of the monotonic counter (R399). -/
def SrdSt.next (x : SrdSt) : Nat := x.counter + 1

/-- A chain. -/
def SrdSt.chain (x : SrdSt) (i : Nat) : Chain := SMap.getD {} x.chains i

/-- A seal token (R402). -/
def SrdSt.token (x : SrdSt) (i : Nat) (digest : List Byte) : List Byte :=
  let body := beBytes 1 1 ++ [x.tstat] ++ beBytes 2 i ++ beBytes 8 x.next ++ beBytes 8 x.time ++ digest ++
    padTo 32 (x.chain i).head ++ beBytes 4 x.sealBreak ++ beBytes 8 x.srdId
  body ++ srdMac (x.sealKeyAt x.sealBreak) body

/-- The lowest free lock index (R407). -/
def SrdSt.freeLock (x : SrdSt) : Option Nat := (List.range 4096).find? fun i => (SMap.find x.locks i).isNone

/-- Commit a token to its chain (R403, R404). -/
def SrdSt.commitToken (x : SrdSt) (i : Nat) (tok : List Byte) : SrdSt :=
  let c := x.chain i
  let c := { c with head := sha256 tok, headSeq := x.next, tokens := (tok :: c.tokens).take 8, since := c.since + 1,
                    lastTime := x.time }
  { x with chains := SMap.setD {} x.chains i c, counter := x.next, maxIssued := max x.maxIssued x.time }

/-- Sign a checkpoint of a chain (R405). -/
def SrdSt.checkpoint (x : SrdSt) (i : Nat) : SrdSt :=
  let c := x.chain i
  let body := beBytes 1 1 ++ [x.tstat] ++ beBytes 2 i ++ beBytes 4 (c.cpNum + 1) ++ beBytes 8 x.time ++ beBytes 8 x.next ++
    beBytes 8 c.headSeq ++ padTo 32 c.head ++ beBytes 4 c.since ++ beBytes 4 x.sealBreak ++ beBytes 8 x.srdId ++
    beBytes 4 x.swVersion ++ beBytes 4 x.tamperCnt ++ padTo 32 x.swDigest ++ zeros 8
  let sig := ecSign (srdScalar (x.signKey - 1)) (srdScalar x.draws) body
  let c := { c with cpNum := c.cpNum + 1, cp := body ++ sig, since := 0 }
  { x with chains := SMap.setD {} x.chains i c, counter := x.next, maxIssued := max x.maxIssued x.time, draws := x.draws + 2 }

/-- Sign a checkpoint of every chain that holds a token (R406). -/
def SrdSt.checkpoints (x : SrdSt) : SrdSt :=
  (x.chains.filter fun e => e.2.head ≠ []).foldl (fun x e => x.checkpoint e.1) x

/-! ### Requests (R403, R404, R413 to R415) -/

/-- A malformed inbound message (R413). -/
def srdMalformed (m : List Byte) : Bool :=
  let t := be m 0 1
  let f := be m 1 1
  let lock := decide (f % 2 = 1)
  !(decide (1 ≤ t) && decide (t ≤ 3)) || decide (be m 2 2 ≥ 1024) || decide (be m 24 8 ≠ 0) ||
    (decide (t = 1) && (decide (f > 1) ||
      (if lock then !(decide (1 ≤ be m 16 4) && decide (be m 16 4 ≤ 262144) && decide (1 ≤ be m 20 4) && decide (be m 20 4 ≤ 36525))
       else decide (be m 16 4 ≠ 0) || decide (be m 20 4 ≠ 0)))) ||
    (decide (t = 2) && decide (f ≠ 0)) || (decide (t = 3) && decide (f ≥ 3))

/-- A lock message. -/
def lockMsg (type idx : Nat) (l : LockEnt) : OutMsg :=
  { type := type, inst := l.inst, lba := l.lba, count := l.count, lock := idx }

/-- Take the request in hand off the inbound mailbox. -/
def State.inTake (s : State) : State := (s.setSrd { s.srd with inbox := s.srd.inbox.drop 1 }).mbSync

/-- The SRD answers a `SEAL` (R404): it commits, or says why not; without the outbound slots it needs, the request waits. -/
def State.srdSeal (s : State) (dt : Nat) : State :=
  let x := s.srd.tick dt
  let s := s.setSrd x
  match x.inbox with
  | [] => s
  | (m, at') :: _ =>
    if !x.powered ∨ be m 0 1 ≠ 1 then s
    else
      let lock := be m 1 1 % 2 = 1
      let i := be m 2 2
      let refuse := fun (c : Nat) => if s.outFree = 0 then s else s.inTake.outPost { type := 0x81, sstat := c, inst := i, req := be m 4 4 }
      if srdMalformed m then refuse 6
      else if x.verify then refuse 2
      else if x.tstate = tsUnset then refuse 1
      else if s.now > at' + 3500 then refuse 4
      else if lock ∧ x.freeLock.isNone then refuse 3
      else if s.outFree < 1 + b2n lock then s
      else
        let tok := x.token i (cut m 32 32)
        let ent : LockEnt := { inst := i, lba := be m 8 8, count := be m 16 4, expiry := cdiv x.time (10 ^ 9) + 86400 * be m 20 4 }
        let idx := x.freeLock.getD 0
        let y := x.commitToken i tok
        let s := s.setSrd (if lock then { y with locks := SMap.put y.locks idx ent } else y)
        let s := s.inTake
        let s := if lock then s.outPost (lockMsg 0x91 idx ent) else s
        s.outPost { type := 0x81, inst := i, req := be m 4 4, data := tok }

/-- REASON of a token's check (R414). -/
def SrdSt.verifyReason (x : SrdSt) (tok : List Byte) : Nat :=
  if be tok 0 1 ≠ 1 then 2
  else if be tok 88 8 ≠ x.srdId then 3
  else if be tok 84 4 > x.sealBreak ∨ x.sealKeyAt (be tok 84 4) = 0 then 4
  else if cut tok 96 32 ≠ srdMac (x.sealKeyAt (be tok 84 4)) (cut tok 0 96) then 1
  else 0

/-- The SRD answers a `VERIFY` (R414). -/
def State.srdVerify (s : State) : State :=
  match s.srd.inbox with
  | [] => s
  | (m, _) :: _ =>
    if !s.srd.powered ∨ be m 0 1 ≠ 2 ∨ s.outFree = 0 then s
    else
      let msg : OutMsg := { type := 0x82, inst := be m 2 2, req := be m 4 4 }
      if srdMalformed m then s.inTake.outPost { msg with sstat := 6 }
      else
        let r := s.srd.verifyReason (cut m 32 128)
        s.inTake.outPost { msg with data := beBytes 4 (if r = 0 then 0x5A5AA5A5 else 0xA5A55A5A) ++ beBytes 1 r }

/-- Key information (R415). -/
def SrdSt.keyInfo (x : SrdSt) : List Byte :=
  beBytes 8 x.srdId ++ beBytes 4 x.swVersion ++ beBytes 4 x.sealBreak ++ padTo 32 x.swDigest ++ ecPublic (srdScalar (x.signKey - 1))

/-- What a `GET` names, where the SRD holds it. -/
def SrdSt.getData (x : SrdSt) (sel i lba : Nat) : Option (List Byte) :=
  if sel = 0 then (if (x.chain i).cp = [] then none else some (x.chain i).cp)
  else if sel = 1 then (x.chain i).tokens.find? fun t => decide (be t 4 8 = lba)
  else some x.keyInfo

/-- The SRD answers a `GET`, or a message whose TYPE is unknown (R413, R415). -/
def State.srdGet (s : State) : State :=
  match s.srd.inbox with
  | [] => s
  | (m, _) :: _ =>
    if !s.srd.powered ∨ be m 0 1 = 1 ∨ be m 0 1 = 2 ∨ s.outFree = 0 then s
    else
      let msg : OutMsg := { type := 0x83, inst := be m 2 2, req := be m 4 4 }
      if srdMalformed m then s.inTake.outPost { msg with sstat := 6 }
      else
        match s.srd.getData (be m 1 1 % 4) (be m 2 2) (be m 8 8) with
        | none => s.inTake.outPost { msg with sstat := 5 }
        | some d => s.inTake.outPost { msg with data := d }

/-! ### Mailbox registers and the firmware that carries seal commands (R416, R419) -/

/-- A mailbox reset notice (R409, R419): both mailboxes and the mapping engine's copy are empty, and the SRD replays its locks. -/
def State.mailboxReset (s : State) : State :=
  let live := s.srd.locks.filter fun e => decide (s.srd.tstate = tsUnset) || decide (s.srd.time ≤ e.2.expiry * 10 ^ 9)
  let msgs := (live.map fun e => lockMsg 0x91 e.1 e.2) ++ [{ type := 0x93 : OutMsg }]
  let s := s.setSrd { s.srd with inbox := [], outbox := [], outWait := if s.srd.powered then msgs else [], staged := [] }
  let s := { s with flash := { s.flash with locks := [] } }
  ((s.setFld 0x1D0 0x050 6 6 0).setFld 0x1D0 0x050 7 7 0).outFill

/-- The bytes of the staged message (R419). -/
def SrdSt.stagedBytes (x : SrdSt) : List Byte :=
  (List.range 40).flatMap fun w => leBytes 4 (SMap.getD 0 x.staged w).toNat

/-- Post a message to the SRD: it is stamped as it arrives. -/
def State.inPost (s : State) (m : List Byte) : State :=
  if !s.srd.powered then s
  else (s.setSrd { s.srd with inbox := s.srd.inbox ++ [(m, s.now)] }).mbSync

/-- A write of `POST` (R419). -/
def State.mbInPost (s : State) (req : Nat) : State :=
  if req ≥ 0x18 then s.capture 0x1D0 0x11 0 0x044
  else if s.srd.inbox.length ≥ 16 then s.capture 0x1D0 0x10 0 0x044
  else s.inPost s.srd.stagedBytes

/-- The request that carries a seal command (R410, R412). -/
def Item.sealMsg (it : Item) (req : Nat) : List Byte :=
  let p := it.params
  let hd := fun (t f lba count days : Nat) =>
    beBytes 1 t ++ beBytes 1 f ++ beBytes 2 it.inst ++ beBytes 4 req ++ beBytes 8 lba ++ beBytes 4 count ++ beBytes 4 days ++ zeros 8
  if it.op = 0x18 then hd 1 (it.cflags % 2) it.lba it.count (be p 32 4) ++ cut p 0 32 ++ zeros 96
  else if it.op = 0x19 then hd 2 0 0 0 0 ++ cut p 0 128
  else hd 3 (it.cflags % 4) it.lba 0 0 ++ zeros 128

/-- Length of the RESULT of a seal command after its header (R412). -/
def sealLen (op : Nat) : Nat := if op = 0x18 then 128 else if op = 0x19 then 8 else 224

/-- A seal command ends with SSTAT `st` (R413). -/
def State.sealEnd (s : State) (n st : Nat) (data : List Byte) : State :=
  match s.item n with
  | none => s
  | some it =>
    let ts := if it.op = 0x18 ∧ st = 0 then be data 1 1 else s.fld 0x1D0 0x050 1 0 + 4 * s.fld 0x1D0 0x050 3 3
    s.finish n stSuccess (beBytes 1 st ++ beBytes 1 ts ++ zeros 6 ++ padTo (sealLen it.op) data)

/-- Firmware posts the request of a seal command (R416): within 800 µs of its clock start, and not once `FW_ACTIVATE` has been
accepted. -/
def State.sealPost (s : State) (n : Nat) : State :=
  match s.item n with
  | none => s
  | some it =>
    if !isSeal it.op ∨ it.state ≠ .queued ∨ it.finished then s
    else if s.now > it.startUs + 800 then s.sealEnd n 7 []
    else if s.cmd.activating ≠ 0 ∨ s.srd.inbox.length ≥ 16 then s
    else
      let req := (s.srd.reqId + 1) % 2 ^ 32
      let s := s.setSrd { s.srd with reqId := req, waitCmd := SMap.put s.srd.waitCmd req (n, s.now) }
      (s.modItem n fun it => { it with state := .running }).inPost (it.sealMsg req)

/-- Posted requests whose 4,000 µs have passed without a response (R416). -/
def State.sealExpire (s : State) : State :=
  (s.srd.waitCmd.filter fun e => decide (s.now > e.2.2 + 4000)).foldl (fun s e =>
    (s.setSrd { s.srd with waitCmd := SMap.del s.srd.waitCmd e.1 }).sealEnd e.2.1 7 []) s

/-- A write of `POP` (R416, R419): firmware takes the head message; a response whose REQ_ID names no waiting command is
discarded. -/
def State.mbOutPop (s : State) : State :=
  match s.srd.outbox with
  | [] => s
  | m :: _ =>
    if !m.fw then s
    else
      let s := s.sealExpire.outTake
      match SMap.find s.srd.waitCmd m.req with
      | none => s
      | some (n, _) => (s.setSrd { s.srd with waitCmd := SMap.del s.srd.waitCmd m.req }).sealEnd n m.sstat m.data

/-- A hardware consumer takes the head message where its TYPE is `t` (R411). -/
def State.hwTake (s : State) (t : Nat) (f : State → OutMsg → State) : State :=
  match s.srd.outbox with
  | [] => s
  | m :: _ => if m.type = t then (f s m).outTake else s

/-! ### Tamper loops and the jumper (R395) -/

/-- One loop's sample: the number of tamper events it makes. -/
def SrdSt.loopSample (x : SrdSt) (i : Nat) (high : Bool) : SrdSt × Nat :=
  let h := if high then min 2 (SMap.getD 0 x.loopHigh i + 1) else 0
  let l := if high then 0 else min 2 (SMap.getD 0 x.loopLow i + 1)
  let was := SMap.getD false x.loopCounted i
  let ev := decide (h = 2) && !was
  let cnt := if ev then true else if l = 2 then false else was
  ({ x with loopHigh := SMap.setD 0 x.loopHigh i h, loopLow := SMap.setD 0 x.loopLow i l,
            loopCounted := SMap.setD false x.loopCounted i cnt }, b2n ev)

/-- The 1 ms sample. `sealN`, `t0`, `t1`: the pins are high. -/
def State.tamperSample (s : State) (sealN t0 t1 : Bool) (dt : Nat) : State :=
  let x := s.srd.tick dt
  if !x.powered then s
  else
    let (x, a) := x.loopSample 0 t0
    let (x, b) := x.loopSample 1 t1
    let x := if a + b = 0 then x else { x with tamperCnt := satAdd 32 x.tamperCnt (a + b), tamper := true }
    let fitted := !sealN
    let run := if fitted = x.jumpLevel then min 1000 (x.jumpRun + 1) else 1
    let x := { x with jumpLevel := fitted, jumpRun := run, jumper := if run ≥ 1000 then fitted else x.jumper }
    s.srdTo x

/-! ### References (R397, R398) -/

/-- The base leaves `DISCIPLINED`. -/
def SrdSt.holdover (x : SrdSt) : SrdSt :=
  if x.tstate = tsDisciplined then { x with tstate := tsHoldover, holdoverNs := 0 } else x

/-- A PPS edge: `good`, an interval of 1 s ± 1 µs since the last edge; `ref`, the 10 MHz input is present; `err`, how far the base
lies behind the reference, in ns. A `TIME_SET` that waits takes effect at the edge. -/
def State.ppsEdge (s : State) (good ref : Bool) (err : Int) (dt : Nat) : State :=
  let x := s.srd.tick dt
  if !x.powered then s
  else
    let x := { x with ppsPresent := true, tenMhz := ref, goodPps := if good then min 10 (x.goodPps + 1) else 0 }
    match x.pendTime with
    | some (utc, leap) =>
      let t : Int := (utc + leap) * 10 ^ 9
      let x := { x with pendTime := none }
      if t < x.maxIssued then s.srdTo x
      else
        let x := { x with time := t.toNat, leap := leap, tstate := if ref then tsDisciplined else tsHoldover, holdoverNs := 0 }
        s.srdTo { x with lastHour := x.hour }
    | none =>
      if x.tstate = tsHoldover ∧ x.goodPps ≥ 10 ∧ ref then
        if err > 10 ^ 6 then s.srdTo { x with time := x.time + (err / 10).toNat * 10 }
        else if err.natAbs < 1000 then s.srdTo { x with tstate := tsDisciplined, holdoverNs := 0 }
        else s.srdTo x
      else s.srdTo (if ref then x else x.holdover)

/-! ### Locks (R407, R408) -/

/-- The SRD removes a lock its time base has passed and posts `LOCK_CLEAR` (R408). -/
def State.lockExpiry (s : State) (idx dt : Nat) : State :=
  let x := s.srd.tick dt
  let s := s.setSrd x
  match SMap.find x.locks idx with
  | none => s
  | some l =>
    if !x.powered ∨ x.tstate = tsUnset ∨ x.time ≤ l.expiry * 10 ^ 9 then s
    else (s.setSrd { x with locks := SMap.del x.locks idx }).outPost (lockMsg 0x92 idx l)

/-! ### Power and console (R406, R417, R418) -/

/-- The SRD's power-on reset (R393, R406): what its store holds stays; the time base restarts `UNSET`. -/
def State.srdPowerOn (s : State) : State :=
  let x := s.srd
  let y : SrdSt := { counter := x.counter, tamperCnt := x.tamperCnt, tamper := x.tamper, verify := x.verify, sealBreak := x.sealBreak,
                     provisioned := x.provisioned, srdId := x.srdId, authDigest := x.authDigest, storeWrap := x.storeWrap,
                     sealKeys := x.sealKeys, signKey := x.signKey, swVersion := x.swVersion, image := x.image,
                     swDigest := sha256 x.image, chains := x.chains, locks := x.locks, maxIssued := x.maxIssued, draws := x.draws,
                     lcSeen := x.lcSeen, waitCmd := x.waitCmd, reqId := x.reqId }
  (s.setSrd y.checkpoints).mbSync.postStatus

/-- VDD_SRD is lost (R393): the island stops and the ring clamps its signals. -/
def State.srdLoss (s : State) : State :=
  (s.setSrd { s.srd with powered := false, tstate := tsUnset, inbox := [], outbox := [], outWait := [], nonce := none,
                         pendTime := none, pendLeap := none }).mbSync

/-- An authorised command takes the nonce; it is carried out only with a valid signature (R417). -/
def State.authorised (s : State) (ok : Bool) (f : State → State) : State :=
  if !s.srd.powered ∨ s.srd.nonce = none then s
  else
    let s := s.setSrd { s.srd with nonce := none }
    if ok then f s else s

/-- `TIME_SET` (R417). -/
def State.timeSet (s : State) (utc : Nat) (leap : Int) : State :=
  if !(s.srd.tenMhz && s.srd.ppsPresent) ∨ (utc + leap) * 10 ^ 9 < s.srd.maxIssued then s
  else s.setSrd { s.srd with pendTime := some (utc, leap) }

/-- `LEAP_SET` (R417): refused where TAI would move backwards. -/
def State.leapSet (s : State) (utc : Nat) (leap : Int) : State :=
  if leap < s.srd.leap then s else s.setSrd { s.srd with pendLeap := some (utc, leap) }

/-- A new `LEAP` takes effect at its UTC second (R396, R417). -/
def State.leapApply (s : State) (dt : Nat) : State :=
  let x := s.srd.tick dt
  let s := s.setSrd x
  match x.pendLeap with
  | none => s
  | some (utc, leap) =>
    if !x.powered ∨ x.tstate = tsUnset ∨ x.utc < utc then s
    else if leap < x.leap then s.setSrd { x with pendLeap := none }
    else s.setSrd { x with pendLeap := none, time := x.time + (leap - x.leap).toNat * 10 ^ 9, leap := leap }

/-- `VERIFY_ENTER` (R418): `bad` bits of SEAL_BREAK fail before one verifies. -/
def State.verifyEnter (s : State) (bad : Nat) : State :=
  if s.srd.jumper then s
  else if s.srd.sealBreak + bad + 1 > 256 then s.setSrd { s.srd with sealBreak := min 256 (s.srd.sealBreak + bad) }
  else (s.setSrd { s.srd with sealBreak := s.srd.sealBreak + bad + 1, verify := true }).postStatus

/-- `VERIFY_EXIT` (R418). -/
def State.verifyExit (s : State) : State :=
  if !(s.srd.verify && s.srd.jumper) then s
  else
    let x := { s.srd with verify := false, tamper := false, swDigest := sha256 s.srd.image, nonce := none }
    (s.setSrd x.checkpoints).postStatus

/-- `PROVISION` (R400, R417). -/
def State.srdProvision (s : State) (id : Nat) (auth : List Byte) : State :=
  if s.srd.lcSeen ≠ 1 ∨ s.srd.provisioned then s
  else
    let x := { s.srd with provisioned := true, srdId := id % 2 ^ 64, authDigest := padTo 48 auth, storeWrap := s.srd.draws + 1,
                          draws := s.srd.draws + 1 }
    s.setSrd x.genKeys

/-! ### Commands -/

/-- `SRD_POWER_ON` (R393, R396, R406). -/
def execSrdPowerOn (s : State) : Host.Outcome State Fault Refusal := .next s.srdPowerOn

/-- `VDD_SRD_LOSS` (R393). -/
def execVddSrdLoss (s : State) : Host.Outcome State Fault Refusal := .next s.srdLoss

/-- `TAMPER_SAMPLE` (R395). -/
def execTamperSample (sealN t0 t1 : Bool) (dt : Nat) (s : State) : Host.Outcome State Fault Refusal :=
  .next (s.tamperSample sealN t0 t1 dt)

/-- `PPS_EDGE` (R396 to R398, R417). -/
def execPpsEdge (good ref : Bool) (err : Int) (dt : Nat) (s : State) : Host.Outcome State Fault Refusal :=
  .next (s.ppsEdge good ref err dt)

/-- `REFERENCE_LOSS` (R397). -/
def execReferenceLoss (dt : Nat) (s : State) : Host.Outcome State Fault Refusal :=
  .next (s.srdTo { (s.srd.tick dt).holdover with tenMhz := false })

/-- `PPS_TIMEOUT` (R397). -/
def execPpsTimeout (dt : Nat) (s : State) : Host.Outcome State Fault Refusal :=
  .next (s.srdTo { (s.srd.tick dt).holdover with ppsPresent := false, goodPps := 0 })

/-- `MB_IN_POST` (R410, R416, R419): the write of `POST` by a requester, or (item not 0) firmware's posting of a seal command's
request. -/
def execMbInPost (req item : Nat) (s : State) : Host.Outcome State Fault Refusal :=
  .next (if item = 0 then s.mbInPost req else s.sealPost item)

/-- `MB_OUT_POP` (R411, R416, R419). -/
def execMbOutPop (s : State) : Host.Outcome State Fault Refusal := .next s.mbOutPop

/-- `SRD_SEAL` (R399, R402 to R404, R407). -/
def execSrdSeal (dt : Nat) (s : State) : Host.Outcome State Fault Refusal := .next (s.srdSeal dt)

/-- `SRD_VERIFY` (R414). -/
def execSrdVerify (s : State) : Host.Outcome State Fault Refusal := .next s.srdVerify

/-- `SRD_GET` (R415). -/
def execSrdGet (s : State) : Host.Outcome State Fault Refusal := .next s.srdGet

/-- `HOUR_CHECKPOINT` (R405, R406). -/
def execHourCheckpoint (dt : Nat) (s : State) : Host.Outcome State Fault Refusal :=
  let x := s.srd.tick dt
  .next (s.setSrd (if x.powered ∧ x.tstate ≠ tsUnset ∧ x.hour > x.lastHour then { x.checkpoints with lastHour := x.hour } else x))

/-- `LOCK_EXPIRY` (R408). -/
def execLockExpiry (idx dt : Nat) (s : State) : Host.Outcome State Fault Refusal := .next (s.lockExpiry idx dt)

/-- `MAILBOX_RESET` (R409, R419). -/
def execMailboxReset (s : State) : Host.Outcome State Fault Refusal := .next s.mailboxReset

/-- `LOCK_SET` (R407, R409, R411): the message carries no expiry. -/
def execLockSet (s : State) : Host.Outcome State Fault Refusal :=
  .next (s.hwTake 0x91 fun s m =>
    let l : LockEnt := { inst := m.inst, lba := m.lba, count := m.count }
    { s with flash := { s.flash with locks := SMap.put s.flash.locks m.lock l } })

/-- `LOCK_CLEAR` (R408, R411). -/
def execLockClear (s : State) : Host.Outcome State Fault Refusal :=
  .next (s.hwTake 0x92 fun s m => { s with flash := { s.flash with locks := SMap.del s.flash.locks m.lock } })

/-- `REPLAY_END` (R409, R411). -/
def execReplayEnd (s : State) : Host.Outcome State Fault Refusal := .next (s.hwTake 0x93 fun s _ => s.setFld 0x1D0 0x050 6 6 1)

/-- `STATUS_POST` (R411). -/
def execStatusPost (dt : Nat) (s : State) : Host.Outcome State Fault Refusal := .next (s.setSrd (s.srd.tick dt)).postStatus

/-- `STATUS_MESSAGE` (R411, R419, R500, R503). -/
def execStatusMessage (s : State) : Host.Outcome State Fault Refusal := .next (s.hwTake 0x90 fun s m => s.latchStatus m.data)

/-- Console `STATUS` (R417). -/
def execStatus (dt : Nat) (s : State) : Host.Outcome State Fault Refusal :=
  let x := s.srd.tick dt
  .next (s.setSrd (if x.powered then { x with answer := x.statusData } else x))

/-- Console `IDENT` (R417). -/
def execIdent (s : State) : Host.Outcome State Fault Refusal :=
  .next (s.setSrd (if s.srd.powered then { s.srd with answer := s.srd.keyInfo } else s.srd))

/-- Console `NONCE` (R417). -/
def execNonce (s : State) : Host.Outcome State Fault Refusal :=
  let n := beBytes 32 (Config.srdDraw s.srd.draws)
  .next (s.setSrd (if s.srd.powered then { s.srd with nonce := some n, answer := n, draws := s.srd.draws + 1 } else s.srd))

/-- `NONCE_LAPSE` (R417). -/
def execNonceLapse (s : State) : Host.Outcome State Fault Refusal := .next (s.setSrd { s.srd with nonce := none })

/-- `TIME_SET` (R417). -/
def execTimeSet (utc : Nat) (leap : Int) (ok : Bool) (s : State) : Host.Outcome State Fault Refusal :=
  .next (s.authorised ok fun s => s.timeSet utc leap)

/-- `LEAP_SET` (R417). -/
def execLeapSet (utc : Nat) (leap : Int) (ok : Bool) (s : State) : Host.Outcome State Fault Refusal :=
  .next (s.authorised ok fun s => s.leapSet utc leap)

/-- `LEAP_APPLY` (R396, R417). -/
def execLeapApply (dt : Nat) (s : State) : Host.Outcome State Fault Refusal := .next (s.leapApply dt)

/-- `VERIFY_ENTER` (R417, R418). -/
def execVerifyEnter (bad : Nat) (ok : Bool) (s : State) : Host.Outcome State Fault Refusal :=
  .next (s.authorised ok fun s => s.verifyEnter bad)

/-- `VERIFY_EXIT` (R406, R417, R418). -/
def execVerifyExit (dt : Nat) (ok : Bool) (s : State) : Host.Outcome State Fault Refusal :=
  .next ((s.setSrd (s.srd.tick dt)).authorised ok fun s => s.verifyExit)

/-- `FW_LOAD` (R417): `imgOk`, the image is signed by the authority key. -/
def execFwLoad (image : List Byte) (version : Nat) (imgOk ok : Bool) (s : State) : Host.Outcome State Fault Refusal :=
  .next (s.authorised ok fun s =>
    if s.srd.verify && imgOk then s.setSrd { s.srd with image := image, swVersion := version % 2 ^ 32 } else s)

/-- `KEYGEN` (R401, R417). -/
def execKeygen (ok : Bool) (s : State) : Host.Outcome State Fault Refusal :=
  .next (s.authorised ok fun s => if s.srd.verify then s.setSrd s.srd.genKeys else s)

/-- `PROVISION` (R400, R401, R417). -/
def execProvision (id : Nat) (auth : List Byte) (ok : Bool) (s : State) : Host.Outcome State Fault Refusal :=
  .next (s.authorised ok fun s => s.srdProvision id auth)

end Sys2Proof.Machine
end

