-- ==== Sys2Proof/Machine/Thermal.lean ====
section
/-! DEFINITION. Temperature and the power limit (R446 to R458): the model, sensor failure, the step. The latched shutdown's sequence is in
Machine/Power.lean. -/

namespace Sys2Proof.Machine

/-- Page THERM. -/
def pgTherm : Nat := 0x006

/-! ### Sensors and regions (R446) -/

/-- Region of a sensor. -/
def regionOf (n : Nat) : Nat := if n < 32 then 0 else (n - 32) / 8 + 1
/-- First sensor and size of a region. -/
def regionSpan (r : Nat) : Nat × Nat := if r = 0 then (0, 32) else (32 + 8 * (r - 1), 8)
/-- The neighbours of a sensor: one below and one above in its region's ring. -/
def neighbours (n : Nat) : List Nat :=
  let (b, k) := regionSpan (regionOf n)
  [b + (n - b + k - 1) % k, b + (n - b + 1) % k]

/-- A sensor. -/
def State.sensor (s : State) (n : Nat) : Sensor := SMap.getD {} s.therm.sensors n
/-- 1/16 °C as millionths of a degree. -/
def microC (t : Int) : Int := t * 62500
/-- Degrees as millionths. -/
def degC (d : Int) : Int := d * 1000000

/-- A sensor's model value, millionths of a degree (R447). -/
def ThermSt.model (x : ThermSt) (n : Nat) : Int :=
  SMap.getD 0 x.rise (regionOf n) + (SMap.getD {} x.sensors n).off

/-! ### The model (R447) -/

/-- TAU of a region, ms. -/
def State.tau (s : State) (r : Nat) : Nat := s.fld pgTherm (0x0E0 + 4 * (r / 4)) (8 * (r % 4) + 7) (8 * (r % 4))
/-- THETA of a region and a domain, m°C per W. -/
def State.theta (s : State) (r d : Nat) : Nat :=
  let j := 24 * r + d
  s.fld pgTherm (0x100 + 4 * (j / 2)) (16 * (j % 2) + 15) (16 * (j % 2))

/-- The model after a sample: the first after the reset sets every offset, later ones move the rises and the offsets. -/
def State.modelStep (s : State) (x : ThermIn) : ThermSt :=
  let y := s.therm
  let t := fun (n : Nat) => (x.temps.getD n none)
  if y.samples = 0 then
    { y with sensors := (List.range 64).map fun n =>
        let z := SMap.getD ({} : Sensor) y.sensors n
        (n, { z with off := microC ((t n).getD 0), temp := (t n).getD 0, conv := (t n).isNone }) }
  else
    let rise := (List.range 5).map fun r =>
      let d := SMap.getD 0 y.rise r
      let heat : Int := (((List.range 24).map fun i => s.theta r i * x.pmon.getD i 0).sum : Nat)
      (r, d + (heat - d) * 50 / ((s.tau r : Nat) * 1000 : Int))
    let y := { y with rise := rise }
    { y with sensors := (List.range 64).map fun n =>
        let z := SMap.getD ({} : Sensor) y.sensors n
        let z := { z with conv := (t n).isNone, temp := (t n).getD z.temp }
        (n, if z.failed ∨ z.count ≠ 0 ∨ z.conv then z
            else { z with off := z.off + (microC z.temp - y.model n) / 4096 }) }

/-! ### Sensor failure (R448, R449) -/

/-- A sensor fails its range or conversion check. -/
def Sensor.rangeBad (z : Sensor) : Bool := z.conv || decide (z.temp < -640) || decide (z.temp > 2400)

/-- The sensors after the range checks. -/
def rangeCheck (ss : SMap Sensor) : SMap Sensor := ss.map fun e => (e.1, if e.2.rangeBad then { e.2 with failed := true } else e.2)

/-- The sensors after the disagreement checks, made against the sensors as the range checks left them and the model values `md`. -/
def disagree (settled : Bool) (md : Nat → Int) (ss : SMap Sensor) : SMap Sensor :=
  let at' := fun (n : Nat) => SMap.getD {} ss n
  let res := fun (n : Nat) => microC (at' n).temp - md n
  ss.map fun e =>
    let n := e.1
    let z := e.2
    if z.failed then e
    else
      let dm := (res n).natAbs > 6000000
      let dn := ((neighbours n).filter fun m => !(at' m).failed).all fun m => decide ((res n - res m).natAbs > 6000000)
      let z := if settled ∧ dm ∧ dn then { z with count := z.count + 1 } else { z with count := 0, lastOk := z.temp }
      (n, if z.count ≥ 3 then { z with failed := true } else z)

/-- A sensor's effective value, millionths of a degree (R449). -/
def effective (settled : Bool) (md : Nat → Int) (ss : SMap Sensor) (n : Nat) : Int :=
  let at' := fun (n : Nat) => SMap.getD ({} : Sensor) ss n
  let z := at' n
  if z.failed then
    if settled then
      (((neighbours n).filter fun m => !(at' m).failed).map fun m => microC (at' m).temp).foldl max (md n) + degC 4
    else degC 150
  else if z.count ≠ 0 then max (microC z.temp) (microC z.lastOk)
  else microC z.temp

/-- The highest effective value and its sensor, the lowest number among equals. -/
def tmaxOf (eff : Nat → Int) : Int × Nat :=
  (List.range 63).foldl (fun a i => if eff (i + 1) > a.1 then (eff (i + 1), i + 1) else a) (eff 0, 0)

/-! ### The limit (R451) -/

/-- *W*(*s*), mW. -/
def State.limitMw (s : State) (st : Nat) : Int :=
  ((s.fld pgTherm 0x044 7 0 : Nat) : Int) * 1000 -
    (((List.range st).map fun k => s.fld pgTherm (0x048 + 4 * (k / 4)) (8 * (k % 4) + 7) (8 * (k % 4))).sum : Nat) * 1000

/-- *P*: the sum of the monitors averaged over the last 20 samples, mW. -/
def ThermSt.power (x : ThermSt) : Nat := if x.pHist = [] then 0 else x.pHist.sum / x.pHist.length

/-! ### The step (R452, R453) -/

/-- The step: `STAT.STEP`. -/
def State.step' (s : State) : Nat := s.fld pgTherm 0x058 3 0

/-- The step takes a new value: Cadence learns of it, a step change is reported. -/
def State.setStep (s : State) (st : Nat) : State :=
  let s := ((s.setFld pgTherm 0x058 3 0 st).setFld 0x010 0x058 3 0 st).raise pgTherm 2
  (s.post 0x0042 0 pgTherm st).async 2 anyConn (beBytes 1 st)

/-- *a* as Cadence has it. -/
def State.setA (s : State) (a : Nat) : State := s.setFld 0x010 0x058 18 8 a

/-- A descent. -/
def State.descend (s : State) : State :=
  let st := s.step'
  let s := ((s.setA 0).setStep (st + 1)).count pgTherm 0x06C
  if st = 0 then s.raise pgTherm 1 else s

/-- `HELD` or `CLAMPED`. -/
def State.stepHeld (s : State) : Bool := decide (s.fld pgTherm 0x058 6 5 ≠ 0)

/-- Set `up`. -/
def State.setUp (s : State) (up : Nat) : State := { s with therm := { s.therm with upUs := up } }

/-- The step moves at a sample: `tmax` in millionths of a degree. *a* grows with the calendar's time; where that has not moved
since the last sample, by the sample's own 50 us. -/
def State.stepSample (s : State) (tmax : Int) : State :=
  let p : Int := (s.therm.power : Nat)
  let s := if s.now = s.therm.lastUs then s.setA (min 2000 (s.sinceDescent + 50)) else s
  let s : State := { s with therm := { s.therm with lastUs := s.now } }
  let st := s.step'
  let thr := degC (s.fld pgTherm 0x040 15 8 : Nat)
  let hyst := degC (s.fld pgTherm 0x040 23 16 : Nat)
  let guard' : Int := (s.fld pgTherm 0x044 15 8 * 1000 : Nat)
  let s := if p ≤ s.limitMw 15 then s.setFld pgTherm 0x058 4 4 0 else s
  if tmax ≥ thr ∨ p > s.limitMw st then
    let s := { s.setUp 0 with therm := { s.therm with upUs := 0, rising := false } }
    if st < 15 ∧ s.sinceDescent = 2000 then s.descend
    else if st = 15 ∧ p > s.limitMw 15 ∧ s.fld pgTherm 0x058 4 4 = 0 then
      ((s.setFld pgTherm 0x058 4 4 1).raise pgTherm 5).post 0x0044 0 pgTherm s.therm.power
    else s
  else if st > 0 ∧ tmax < thr - hyst ∧ p < s.limitMw (st - 1) - guard' ∧ s.stepHeld = false then
    if s.therm.upUs + 50 ≥ 50000 then { s with therm := { s.therm with upUs := 0, rising := true } } else s.setUp (s.therm.upUs + 50)
  else s.setUp 0

/-- Every unit has reported the higher capacities (R453): the rise takes effect. -/
def State.riseDone (s : State) : State :=
  if s.therm.rising = false ∨ s.step' = 0 then s
  else
    let s := { s with therm := { s.therm with rising := false } }
    if s.stepHeld then s else (s.setStep (s.step' - 1)).count pgTherm 0x070

/-! ### A sample -/

/-- 16 bits of a two's complement value. -/
def low16 (i : Int) : Nat := (i % 65536).toNat

/-- A sensor's registers. -/
def State.showSensor (s : State) (n : Nat) : State :=
  let z := s.sensor n
  let s := s.setReg pgTherm (0x200 + 4 * n) (BitVec.ofNat 32 (b2n z.failed * 2 ^ 31 + b2n (decide (z.count ≠ 0)) * 2 ^ 30 +
    (if z.conv then 0x8000 else low16 z.temp)))
  s.setReg pgTherm (0x300 + 4 * n) (BitVec.ofNat 32 (low16 (s.therm.model n / 62500)))

/-- Failed sensors of a region. -/
def State.failedIn (s : State) (r : Nat) : Nat :=
  ((List.range 64).filter fun n => regionOf n = r && (s.sensor n).failed).length

/-- A sensor fails (R450): `tmax` is the sample's. -/
def State.sensorFail (s : State) (tmax : Int) (n : Nat) : State :=
  let s := (s.fault 0x0040 pgTherm 0x11 0 n).raise pgTherm 3
  let s := s.setFld pgTherm (0x064 + 4 * (n / 32)) (n % 32) (n % 32) 1
  let s := if s.step' > 0 ∨ tmax ≥ degC (s.fld pgTherm 0x040 15 8 : Nat) then s.setFld pgTherm 0x058 6 6 1 else s
  let r := regionOf n
  if s.failedIn r ≥ 2 ∧ SMap.getD false s.therm.clamped r = false then
    let s := { s with therm := { s.therm with clamped := SMap.put s.therm.clamped r true } }
    ((s.setFld pgTherm 0x058 5 5 1).fault 0x0041 pgTherm 0x12 0 r).raise pgTherm 4
  else s

/-- A sample boundary (R447 to R455): answers also `TMAX`, millionths of a degree. -/
def State.thermSample (s : State) (x : ThermIn) : State × Int :=
  let settled := decide (s.therm.samples ≥ 20000)
  let old := s.therm.sensors
  let y := s.modelStep x
  let md := fun (n : Nat) => y.model n
  let ss := disagree settled md (rangeCheck y.sensors)
  let (tmax, who) := tmaxOf (effective settled md ss)
  let s := { s with therm := { y with sensors := ss, samples := y.samples + 1,
                                      pHist := ((x.pmon.take 24).sum :: y.pHist).take 20 } }
  let s := (List.range 24).foldl (fun s d => s.setReg pgTherm (0x080 + 4 * d) (BitVec.ofNat 32 (min (x.pmon.getD d 0) 0xFFFFF))) s
  let s := s.setReg pgTherm 0x060 (BitVec.ofNat 32 (min s.therm.power 0xFFFFF))
  let w := s.fld pgTherm 0x05C 15 0
  let was : Int := if w ≥ 32768 then (w : Int) - 65536 else (w : Int)
  let s := (List.range 64).foldl (fun s n => s.showSensor n) s
  let s := s.setReg pgTherm 0x05C (BitVec.ofNat 32 (who * 65536 + low16 (tmax / 62500)))
  let new : List Nat := (List.range 64).filter fun n => (s.sensor n).failed && !(SMap.getD ({} : Sensor) old n).failed
  let s := new.foldl (fun (s : State) n => s.sensorFail tmax n) s
  let warn : Int := degC (s.fld pgTherm 0x040 7 0 : Nat)
  let s := s.setFld pgTherm 0x058 7 7 (b2n (decide (tmax ≥ warn - degC 2)))
  let s := if tmax ≥ warn ∧ (microC was < warn ∨ s.therm.samples ≤ 1) then
      ((s.raise pgTherm 0).post 0x0043 0 pgTherm (low16 (tmax / 62500))).async 3 anyConn (beBytes 2 (low16 (tmax / 62500)))
    else s
  (s.stepSample tmax, tmax)

/-- `RISE_COMPLETE` (R453). -/
def execRiseComplete (s : State) : Host.Outcome State Fault Refusal := .next s.riseDone

end Sys2Proof.Machine
end

