-- ==== Sys2Proof/Machine/Power.lean ====
section
/-! DEFINITION. Power domains, clocks, resets and the power-fail sequence (R459 to R481), the latched shutdown and the analogue trip (R456,
R457), the in-flight journal (R476, R504 to R506). -/

namespace Sys2Proof.Machine

/-- Page PWR. -/
def pgPwr : Nat := 0x003
/-- Page CLK. -/
def pgClk : Nat := 0x004
/-- Page RST. -/
def pgRst : Nat := 0x005

/-- `PF_STAT.PHASE`. -/
def State.phase (s : State) : Nat := s.fld pgPwr 0x054 3 0
/-- Set it. -/
def State.setPhase (s : State) (p : Nat) : State := s.setFld pgPwr 0x054 3 0 p
/-- Set a bit of `RST_CAUSE`. -/
def State.cause (s : State) (b : Nat) : State := s.setFld pgRst 0x040 b b 1

/-! ### Resetting registers (R469) -/

/-- Power domain of a register key's page; the placement words belong to KL0. -/
def keyDomain (k : Nat) : Nat := if k / 1024 ≥ knPlacePage then 15 else pageDomain (k / 1024)

/-- Registers of the pages for which `p` holds of a key take their reset values; their shadows and apply requests go. -/
def State.resetKeys (s : State) (p : Nat → Bool) : State :=
  let c := s.cfg
  let pg := fun (page : Nat) => p (1024 * page)
  { s with regs := SMap.dropIf p s.regs, shVal := SMap.dropIf p s.shVal, shMask := SMap.dropIf p s.shMask,
           pairHi := SMap.dropIf (fun k => p (k % 2 ^ 22)) s.pairHi,
           cfg := { c with reqs := SMap.dropIf pg c.reqs, await := c.await.filter fun x => !pg x,
                           comVal := SMap.dropIf p c.comVal, comMask := SMap.dropIf p c.comMask } }

/-! ### What a domain holds (R464, R469) -/

/-- A control core in reset, or (`run`) as it leaves reset (R337). -/
def State.resetCore (s : State) (n : Nat) (run : Bool) : State := s.setCore (256 + n) { ctlReset with running := run }

/-- Cores of control cluster `k` leave reset unless `CORE_HOLD` holds them. -/
def State.coreHeld (s : State) (n : Nat) : Bool := decide (n ≠ 0) && nbit (s.reg pgRst 0x044).toNat n

/-- The logic and memories of a domain lose their content. -/
def State.domainLost (s : State) (d : Nat) : State :=
  if d = 2 ∨ d = 3 ∨ d = 4 then
    (List.range 8).foldl (fun s i => s.resetCore (8 * (d - 2) + i) false) s
  else if 5 ≤ d ∧ d ≤ 8 then
    (List.range 4).foldl (fun s i =>
      let cc := 4 * (d - 5) + i
      let s := s.setCluster cc {}
      (List.range 12).foldl (fun s k => s.setCore (12 * cc + k) {}) s) s
  else if d = 9 then { s with eng := {} }
  else if d = 10 then { s with dig := {} }
  else if d = 11 ∨ d = 12 then
    let mine := fun (b : Nat) => decide (b / 2 = d - 11)
    let x := s.srch
    { s with srch := { x with entries := SMap.dropIf (fun g => mine (g / 65536)) x.entries,
                              sweeps := x.sweeps.filter fun e => !mine (e.1 / 65536),
                              clsSweeps := if d = 11 then [] else x.clsSweeps,
                              pipe := x.pipe.filter fun e => !mine e.1 } }
  else if d = 13 then { s with buf := {} }
  else s

/-- A domain's registers and content take their reset values. -/
def State.domainReset (s : State) (d : Nat) : State := (s.resetKeys fun k => decide (keyDomain k = d)).domainLost d

/-! ### Domain requests (R35, R462 to R465) -/

/-- `REQ` of a domain. -/
def State.domReq (s : State) (d : Nat) : Nat := s.fld pgPwr (0x040 + 4 * (d / 16)) (2 * (d % 16) + 1) (2 * (d % 16))
/-- `DOM_WAIT` of a domain. -/
def State.setWait (s : State) (d : Nat) (b : Bool) : State := s.setFld pgPwr 0x050 d d (b2n b)

/-- An engine page is off and idle. -/
def State.engOff (s : State) (p : Nat) : Bool := decide (s.fld p 0x008 0 0 = 0) && decide (s.fld p 0x040 31 31 = 0)
/-- Every host port's class is `NONE`. -/
def State.noHostPorts (s : State) : Bool := (List.range 16).all fun n => decide (s.hpClass n = 0)

/-- The condition of R463 for a domain to go off or to retention. -/
def State.domIdle (s : State) (d : Nat) : Bool :=
  if d = 3 ∨ d = 4 then (List.range 8).all fun i => s.coreHeld (8 * (d - 2) + i)
  else if 5 ≤ d ∧ d ≤ 8 then (List.range 4).all fun i => s.fld (scPage (4 * (d - 5) + i)) 0x040 0 0 = 1 && decide (s.fld (scPage (4 * (d - 5) + i)) 0x044 31 31 = 1)
  else if d = 9 then
    ((List.range 24).all fun e => s.engOff (0x110 + e)) && ((List.range 96).all fun e => s.engOff (0x130 + e)) &&
      s.eng.ceRun.isEmpty && s.eng.deRun.isEmpty
  else if d = 10 then ((List.range 8).all fun e => s.engOff (0x190 + e)) && s.dig.ctxs.isEmpty
  else if d = 11 then s.noHostPorts && decide (s.fld 0x1A0 0x008 0 0 = 0) && decide (s.fld 0x1A1 0x008 0 0 = 0)
  else if d = 12 then
    (s.insts.all fun e => decide (e.2.segs = 0) || !(e.2.bank = 2 || e.2.bank = 3)) &&
      decide (s.fld 0x1A2 0x008 0 0 = 0) && decide (s.fld 0x1A3 0x008 0 0 = 0)
  else if d = 13 then decide (s.fld 0x020 0x008 0 0 = 0) && s.buf.recs.isEmpty
  else if d = 19 then s.noHostPorts
  else if d = 20 then (List.range 8).all fun j => decide (s.klClass j = 0)
  else false

/-- No block of a domain holds shadows, open or committed (R35). -/
def State.domClean (s : State) (d : Nat) : Bool :=
  (s.shMask.all fun e => decide (keyDomain e.1 ≠ d)) && s.cfg.comMask.all fun e => decide (keyDomain e.1 ≠ d)

/-- The request of a domain is held, withdrawn, or begun. -/
def State.domTake (s : State) (d : Nat) : State :=
  let r := s.domReq d
  let st := s.domStat d
  if d < 2 then s
  else if r = 0 then
    let s := s.setWait d false
    if st = 1 then s.setDomStat d 3
    else if st = 2 then
      let p := s.pwr
      { s with pwr := { p with switching := p.switching ++ [d] } }.setDomStat d 3
    else s
  else if st = 0 then s.setWait d true
  else s

/-- `DOM_REQ` has been written. -/
def State.domRequest (s : State) : State := (List.range 24).foldl (fun s d => s.domTake d) s

/-- A held request's condition is met (R463, R464): the domain goes off, or PD13 to retention. -/
def State.domainOff (s : State) (d : Nat) : State :=
  if nbit (s.fld pgPwr 0x050 23 0) d = false ∨ s.domIdle d = false ∨ s.domClean d = false then s
  else
    let r := s.domReq d
    let s := (s.setWait d false).raise pgPwr 0
    if r = 1 then s.setDomStat d 1
    else ((s.resetKeys fun k => decide (keyDomain k = d)).domainLost d).setDomStat d 2

/-- A switch-on completes (R464): the domain's blocks leave reset; a return from retention is no reset (R465). A request that was changed
meanwhile is taken up. A power-fail sequence has abandoned it (R480). -/
def State.domainOn (s : State) (d : Nat) : State :=
  if s.domStat d ≠ 3 ∨ s.pwr.pf then s
  else
    let kept := !s.pwr.switching.contains d
    let s := { s with pwr := { s.pwr with switching := s.pwr.switching.filter (· ≠ d) } }
    let s := if kept then s else s.domainReset d
    ((s.setDomStat d 0).raise pgPwr 0).domTake d

/-! ### What a reset ends -/

/-- Programs and erases under way are abandoned (R475): the frames of their blocks are read back at the next start (R201). -/
def State.abandonOps (s : State) : State :=
  let hit := s.flash.dies.filterMap fun e =>
    let o := match e.2.op with
      | some o => some o
      | none => e.2.susp
    match o with
    | some o => if o.kind = .program then (SMap.find s.flash.skeins o.skein).map fun k => (e.1, k.block) else none
    | none => none
  let here := (hit.flatMap fun h => s.readsOf h.1 h.2).map (·.1)
  let dies := s.flash.dies.map fun e => (e.1, { e.2 with op := none, susp := none, suspN := 0, suspending := false, queue := [] })
  let f := s.flash
  { s with flash := { f with dies := dies, skeins := (f.skeins.filter (fun e => e.2.left.isEmpty)).map (fun e => (e.1, { e.2 with moves := [] })),
                             blks := f.blks.map (fun e => (e.1, { e.2 with reads := 0 })), resv := [], kept := [], prevs := [],
                             bg := [], units := [], vols := [], readbackQ := (f.readbackQ ++ here).eraseDups } }

/-- Instances across a restart (R157): an unfinished creation never began, an unfinished deletion is complete, a reset leaves the instance
`ACTIVE`. -/
def restartInst (x : InstSt) : InstSt :=
  match x.state with
  | .creating | .deleting | .free => {}
  | _ => { x with state := .active, resetQ := [], closeSent := false, ctxBad := false, migMode := 0, migCap := 0, migRanges := [],
                  migBits := [], migList := [], migOvf := false }

/-- The working state of PD02 to PD23 is lost; registers are not touched. -/
def State.logicLost (s : State) : State :=
  let s := s.abandonOps
  let k := s.knot
  { s with host := {}, cmd := { next := s.cmd.next }, cad := { nowUs := s.cad.nowUs }, buf := {}, eng := {}, dig := {}, srch := { cap := s.srch.cap },
           cores := ctlCores, ctlStores := [], scan := {}, insts := (s.insts.map fun e => (e.1, restartInst e.2)).filter (fun e => decide (e.2 ≠ {})),
           knot := { mirror := k.mirror, evicted := k.evicted, maxAsn := k.maxAsn },
           tel := { s.tel with live := [], asyncLast := [], waitEv := [], snapWait := false, ready := false } }

/-- What DRAM held is lost: the map, the cache, the map-delta log, the mirror region, programs, a staged image. -/
def State.dramLost (s : State) : State :=
  let f := s.flash
  { s with dram := { x4 := s.dram.x4 },
           flash := { f with map := [], recs := [], nextRec := 0, cacheUsed := 0, delta := [], segLen := [], segLost := [], segDirty := [] },
           knot := { s.knot with mirror := [] },
           otp := { s.otp with stage := [], stageLen := 0, actItem := 0, wdArmed := false, warmJournal := [] } }

/-- Domains PD02 to PD23 for which `p` holds go off. -/
def State.switchOff (s : State) (p : Nat → Bool) : State :=
  (List.range 24).foldl (fun s d => if d ≥ 2 ∧ p d then (s.setDomStat d 2).domainLost d else s) s

/-! ### The in-flight journal (R476, R504 to R506) -/

/-- An entry of an item. -/
def Item.journal (it : Item) (status jflags restart : Nat) : JournalEnt :=
  { tag := it.tag, conn := it.conn, status := status, asn := it.asn, inBytes := it.sent, opcode := it.op, jflags := jflags,
    restart := restart % 65536, lba := it.lba }

/-- The journal: items whose completion point has not passed take `status`; items reported and not acknowledged carry their own. -/
def State.journalOf (s : State) (status restart : Nat) : List (Nat × JournalEnt) :=
  s.cmd.items.filterMap fun e =>
    let it := e.2
    if it.port ≥ 32 then none
    else if it.outstanding then some (it.inst, it.journal status 0 restart)
    else some (it.inst, it.journal it.status (if it.aborted then 3 else 1) restart)

/-- Capacity of the journal. -/
def journalCap : Nat := 262144

/-- Entries beyond the journal's capacity, by instance (R504). -/
def journalOver (j : List (Nat × JournalEnt)) : SMap Nat := (j.drop journalCap).foldl (fun m e => SMap.updD 0 m e.1 (· + 1)) []

/-! ### The power-fail sequence (R473 to R480) -/

/-- Hold an event record for the next start. -/
def State.holdEvent (s : State) (code page detail : Nat) : State :=
  let e : EvRec := { code := code, sev := severity code, unit := 0, page := page, detail := detail, time := s.timeNs }
  { s with tel := { s.tel with heldEv := s.tel.heldEv ++ [e] } }

/-- A power-fail sequence starts with a cause (R473): 1 `PFAIL`, 2 `SYS_RESET`, 3 `THERMAL`, 4 `CLOCK`; during a sequence nothing more
starts (R480). -/
def State.pfBegin (s : State) (cause : Nat) : State :=
  if s.pwr.pf then s
  else
    let s := ((s.setFld pgPwr 0x054 7 4 cause).setReg pgPwr 0x050 0).setPhase 1 |>.count pgPwr 0x05C
    let s := if cause = 4 then s.cause 6 else s
    let s := s.holdEvent (if cause = 3 then 0x0045 else 0x0050) (if cause = 3 then pgTherm else pgPwr) cause
    { s with pwr := { s.pwr with pf := true, frozen := false, seq := 0, dumpBad := false, switching := [],
                                 pfStatus := if cause = 3 then stThermal else stPowerFail },
             cmd := { s.cmd with stopped := true } }

/-- The freeze (R475, R476): every unit stops; the journal and the map-delta log are complete in the protected region. -/
def State.freeze (s : State) : State :=
  if s.pwr.pf = false ∨ s.pwr.frozen then s
  else
    let j := s.journalOf s.pwr.pfStatus s.otp.runNum
    let s := s.setPhase 2
    let d : Dump := { seq := s.otp.runNum, cause := s.fld pgPwr 0x054 7 4, lc := s.lc, journal := j.take journalCap, jOver := journalOver j }
    let s := if s.txnState = 2 then s else { s with cfg := {}, shVal := [], shMask := [] }
    let s := s.logicLost
    { s with otp := { s.otp with dump := some d }, pwr := { s.pwr with frozen := true }, cmd := { s.cmd with stopped := true } }

/-- A die's share of a dump goes into its reserve (R203, R477). -/
def State.useReserve (s : State) (i bytes : Nat) : State :=
  let x := s.die i
  let n := s.shareBlocks i bytes
  s.setDie i { x with dumped := x.dumped ++ x.reserve.take n, reserve := x.reserve.drop n }

/-- The dump begins (R474, R477): the domains it does not need go off; the protected region goes to the dump reserve, encrypted under the device
key (log entry 132). -/
def State.dumpStart (s : State) : State :=
  if s.pwr.frozen = false ∨ s.phase ≠ 2 then s
  else
    let s := (s.switchOff fun d => decide (d ≤ 13) || d = 19 || d = 20 || d = 23).setPhase 3
    match s.otp.dump with
    | none => s
    | some d =>
      let recs := s.flash.recs.map fun e => (e.1, { e.2 with frame := s.devCipher true e.1 e.2.frame })
      let mirror := if s.hasBuddy then s.knot.mirror.map fun e => (e.1, { e.2 with frame := s.devCipher true e.1 e.2.frame }) else []
      let d := { d with delta := s.flash.delta, recs := recs, mirror := mirror }
      let bytes := s.flash.cacheUsed + Config.deltaBytes * d.delta.length + 64 * d.journal.length + (mirror.map fun e => e.2.frame.length).sum
      s.allGood.foldl (fun s i => s.useReserve i bytes) { s with otp := { s.otp with dump := some d } }

/-! ### Resets -/

/-- The straps are latched (R482, R533). -/
def State.latchStraps (s : State) : State :=
  let s := { s with otp := { s.otp with testEn := s.otp.pinTest } }
  s.setReg 0x002 0x078 (BitVec.ofNat 32 (s.otp.strapId % 8 * 4 + s.otp.strapBoot % 4))

/-- The main reset (R469): every block in PD02 to PD23 and PD00 but `PF_STAT`, `PF_CNT` and `RST_CAUSE`; DRAM is lost. Power-up begins,
unless THERMTRIP_N is latched. `sys`: SYS_RESET_N caused it. -/
def State.mainReset (s : State) (sys : Bool) : State :=
  let keep := [rkey pgPwr 0x054, rkey pgPwr 0x05C, rkey pgRst 0x040]
  let early := s.pwr.dumpBad
  let s := s.progLost.logicLost.dramLost
  let s := s.resetKeys fun k => !keep.contains k
  let s := { s with cfg := {} }
  let s := (s.cause 1).latchStraps
  let s := if sys then s.cause 3 else s
  let s := if early then s.cause 8 else s
  let s := if s.therm.latched then s.cause 5 else s
  let s := (List.range 24).foldl (fun s d => if d ≥ 2 then s.setDomStat d 2 else s) s
  let t := s.therm
  let s := { s with therm := { tripN := t.tripN, latched := t.latched }, tel := { s.tel with resetUs := s.now },
                    pwr := { s.pwr with pf := false, frozen := false, pfStatus := 0, dumpBad := false, mainWait := false, sysCause := false,
                                        switching := [], seq := if t.latched then 0 else 1, warmStart := false, started := false },
                    otp := { s.otp with fellBack := false } }
  let x := s.srd
  { s with srd := { x with lcSeen := 7 } }.mailboxReset

/-- A main reset follows once the sequence has ended, PWR_GOOD is high and SYS_RESET_N is high (R470, R479). -/
def State.resetIfDue (s : State) : State :=
  if s.pwr.mainWait ∧ s.pwr.sysResetN ∧ s.pwr.pwrGood ∧ (s.pwr.pf = false ∨ s.phase = 4) then s.mainReset s.pwr.sysCause else s

/-- The closing record has passed program status (R477, R479): the dump is valid and PD02 to PD23 are off. -/
def State.dumpDone (s : State) : State :=
  if s.pwr.pf = false ∨ s.phase ≠ 3 ∨ s.pwr.dumpBad then s
  else
    let s := ((s.setPhase 4).switchOff fun _ => true).cause 4
    let s := { s with otp := { s.otp with dump := s.otp.dump.map (fun (d : Dump) => { d with valid := true }) } }
    s.resetIfDue

/-- Main power goes at once: nothing of PD02 to PD23 is left (R457, R479), and a slot being programmed fails (R43). -/
def State.cutMain (s : State) : State := s.progLost.logicLost.dramLost.switchOff fun _ => true

/-- PWR_GOOD falls (R479): a sequence that has not ended loses its dump. -/
def State.pwrGoodFall (s : State) : State :=
  let s := { s with pwr := { s.pwr with pwrGood := false, seq := 0 } }
  if s.pwr.pf ∧ s.phase ≠ 4 then
    let s := s.cutMain
    { s with pwr := { s.pwr with dumpBad := true, frozen := true } }
  else s.cutMain

/-- PWR_GOOD rises and holds for 1 µs (R471, R482): straps as the pins give them. -/
def State.pwrGoodRise (s : State) (id boot : Nat) (test : Bool) : State :=
  let s := { s with otp := { s.otp with strapId := id % 8, strapBoot := boot % 4, pinTest := test },
                    pwr := { s.pwr with pwrGood := true } }
  if s.pwr.supplyAon = false then s
  else if s.pwr.sysResetN ∧ (s.pwr.pf = false ∨ s.phase = 4 ∨ s.pwr.dumpBad) then s.mainReset false
  else { s with pwr := { s.pwr with mainWait := true } }

/-- PFAIL_N has been low for 0.2 µs (R473). -/
def State.pfail (s : State) : State :=
  let s := { s with pwr := { s.pwr with pfailN := false, pfUs := s.now } }
  if s.pwr.pwrGood then s.pfBegin 1 else s

/-- PFAIL_N has been high for 10 ms (R479). -/
def State.pfailRestart (s : State) : State :=
  let s := { s with pwr := { s.pwr with pfailN := true } }
  if s.pwr.pf ∧ s.phase = 4 ∧ s.pwr.pwrGood ∧ s.pwr.sysResetN then s.mainReset false else s

/-- An edge of SYS_RESET_N (R470). -/
def State.sysReset (s : State) (level : Bool) : State :=
  let was := s.pwr.sysResetN
  let s := { s with pwr := { s.pwr with sysResetN := level } }
  if was = level then s
  else if level then
    let p := s.pwr
    let s := if p.pwrGood then { s with pwr := { p with mainWait := true, sysCause := true } } else s
    s.resetIfDue
  else if s.pwr.pwrGood = false ∨ (s.pwr.pfailN = false ∧ s.pwr.pfUs + 20000 ≤ s.now) then s
  else (s.cause 7).pfBegin 2

/-- A row of the power-up table (R471) comes due: CLK's check, stages 1 to 8, the PLLs, buffer SRAM, the release. -/
def State.powerStage (s : State) : State :=
  let next := fun (s : State) => { s with pwr := { s.pwr with seq := s.pwr.seq + 1 } }
  let on := fun (l : List Nat) => next (l.foldl (fun s d => s.setDomStat d 0) s)
  match s.pwr.seq with
  | 1 => if s.fld pgClk 0x040 31 31 = 1 then next s else s
  | 2 => on [14]
  | 3 => on [15, 16, 17, 18]
  | 4 => on [21, 22]
  | 5 => on [2, 3, 4]
  | 6 => on [5, 6, 7, 8]
  | 7 => on [9, 10, 11, 12]
  | 8 => on [13]
  | 9 => on [19, 20, 23]
  | 10 => next (s.setFld pgClk 0x040 12 0 0x1FFF)
  | 11 =>
    if s.fld 0x002 0x048 31 31 = 0 then s
    else
      let s := { s with buf := {}, pwr := { s.pwr with seq := 0 } }
      (List.range 24).foldl (fun s n => s.resetCore n (decide (n = 0))) s
  | _ => s

/-- The RO fields of the DRAM pages that hold trained settings survive the warm reset (R472). -/
def State.trained (s : State) : List (Nat × W32) :=
  (s.regs.filter fun e => decide (0x060 ≤ e.1 / 1024) && decide (e.1 / 1024 ≤ 0x068)).map fun e =>
    let rows := (pageRows (e.1 / 1024) (e.1 % 1024 * 4)).filter fun r => r.acc = .ro && !r.cnt && decide (e.1 % 1024 ≥ 16)
    (e.1, rows.foldl (fun w r => fset w r.hi r.lo (fget e.2 r.hi r.lo)) (regReset e.1))

/-- A reset that covers CFG ends any transaction (R41): every uncommitted shadow goes, and the blocks that still hold committed ones keep
them pending. A block that had not yet reached the end of its commit counts as committed (DEDUCED, log entry 149: its `COMMIT` was taken). -/
def State.txnReset (s : State) : State :=
  let s := s.dropShadows
  let c := s.cfg
  c.reqs.foldl (fun s e => s.pendApply e.1) { s with cfg := { reqs := c.reqs, comVal := c.comVal, comMask := c.comMask } }

/-- The warm reset (R469, R472): PD02 to PD23, CFG, IRQ0 to IRQ7 and `DOM_REQ`; DRAM is kept. Unacknowledged outcomes have been
journalled (R110). -/
def State.warmReset (s : State) : State :=
  let j := s.journalOf stDeviceReset 0
  let kept := s.trained
  let step := s.reg 0x010 0x058
  let hits := fun (k : Nat) => decide (keyDomain k ≥ 2) || decide (k / 1024 = 1) || (decide (0x008 ≤ k / 1024) && decide (k / 1024 < 0x010)) ||
    k = rkey pgPwr 0x040 || k = rkey pgPwr 0x044
  let links := (List.range 8).filter fun l => s.linkUp l
  let s := links.foldl (fun s l => s.setLinkState l 0) s
  let s := s.progLost.logicLost
  let s := (s.resetKeys hits).txnReset
  let s := kept.foldl (fun s e => s.setRegAt e.1 e.2) s
  let s := (s.setReg 0x010 0x058 step).cause 2
  let s := (List.range 24).foldl (fun s d => if d ≥ 2 then s.setDomStat d 0 else s) s
  let s := s.setReg pgPwr 0x050 0
  let s := s.loadPortAuth
  let s := (List.range 16).foldl (fun s n => s.loadMacs n) s
  let chans := s.dram.chans.map fun e => (e.1, { e.2 with rq := [], wq := [], ranks := [], retry := [], alert := false, replays := 0, openRow := [] })
  let s := { s with dram := { s.dram with chans := chans }, scan := {},
                    otp := { s.otp with warmJournal := j.take journalCap, warmOver := journalOver j },
                    pwr := { s.pwr with warmStart := true, started := false, switching := [] } }
  let s := (List.range 24).foldl (fun s n => s.resetCore n (decide (n = 0))) s
  s.mailboxReset

/-- `DEVICE_RESET` takes effect (R110 steps 5 to 7): its own `RESP` has been committed, so no item is outstanding. -/
def State.deviceResetEffect (s : State) : State :=
  if s.cmd.resetting ∧ !(s.cmd.items.any fun e => e.2.outstanding) then s.warmReset else s

/-- VDD_AON rises through its threshold (R469): every block outside PD01; the device stands by until PWR_GOOD rises. -/
def State.aonPor (s : State) : State :=
  let s := s.progLost.logicLost.dramLost
  let s := { s with regs := [], shVal := [], shMask := [], pairHi := [], cfg := {}, resp := [], therm := {}, jtag := {},
                    tel := { heldEv := s.tel.heldEv, resetUs := s.now },
                    pwr := { pwrGood := false, pfailN := s.pwr.pfailN, sysResetN := s.pwr.sysResetN, pfUs := s.pwr.pfUs, started := false } }
  let s := (List.range 24).foldl (fun s d => if d ≥ 2 then s.setDomStat d 2 else s) s
  let x := s.srd
  { s with srd := { x with lcSeen := 7 } }.mailboxReset

/-- VDD_AON falls below its threshold: only the SRD is powered, THERMTRIP_N is released (R456). -/
def State.aonLoss (s : State) : State :=
  let s := s.progLost.logicLost.dramLost.switchOff fun _ => true
  let k := s.pwr
  { s with therm := { s.therm with tripN := true, latched := false }, jtag := {},
           pwr := { k with supplyAon := false, pwrGood := false, seq := 0, pf := false, frozen := false, dumpBad := false, mainWait := false },
           srd := { s.srd with lcSeen := 7 } }

/-- Reset of named control cores (R469): each restarts at the boot ROM unless held; the owner of an open transaction loses it (R41). -/
def State.coreReset (s : State) (mask : Nat) : State :=
  ((List.range 24).filter fun n => nbit mask n).foldl (fun s n => (s.resetCore n (!s.coreHeld n)).ownerReset n) s

/-- `CORE_HOLD` takes a value (R481): a core newly held is put in reset, one released leaves it. -/
def State.coreHold (s : State) (v : Nat) : State :=
  let old := (s.reg pgRst 0x044).toNat
  let s := s.setReg pgRst 0x044 (BitVec.ofNat 32 (v % 2 ^ 24 / 2 * 2))
  ((List.range 24).filter fun n => decide (n ≠ 0) && nbit old n != nbit v n).foldl (fun s n =>
    if nbit v n then (s.resetCore n false).ownerReset n else s.resetCore n (decide (s.domStat (2 + n / 8) = 0))) s

/-! ### Clocks (R468) -/

/-- The check of a 10 µs window: the deviation in ppm, none without an edge. -/
def State.clockCheck (s : State) (ppm : Option Int) : State :=
  if s.pwr.aonLost ∨ s.pwr.pwrGood = false then s
  else
    let s := s.setFld pgClk 0x040 30 30 1
    let s := match ppm with
      | some p => s.setFld pgClk 0x044 15 0 (low16 p)
      | none => s
    let ok := match ppm with
      | some p => decide (p.natAbs ≤ 500)
      | none => false
    if ok then s.setFld pgClk 0x040 31 31 1
    else
      let s := s.setFld pgClk 0x040 31 31 0
      if s.pwr.pf ∨ s.pwr.seq ≠ 0 then s else ((s.count pgClk 0x048).raise pgClk 0).pfBegin 4

/-- AON_CLK stops. -/
def State.aonClkLoss (s : State) : State :=
  let p := s.pwr
  { s with pwr := { p with aonLost := true } }.setFld pgClk 0x040 30 30 0
/-- AON_CLK returns. -/
def State.aonClkReturn (s : State) : State :=
  let p := s.pwr
  { s with pwr := { p with aonLost := false } }.setFld pgClk 0x040 30 30 1

/-! ### The latched shutdown and the analogue trip (R456, R457) -/

/-- 112 °C at a sample: THERMTRIP_N latches and everything stops at once. -/
def State.thermTrip (s : State) : State :=
  if s.therm.latched then s
  else
    let s := { s with therm := { s.therm with tripN := false, latched := true } }
    if s.pwr.pf then s else (s.pfBegin 3).freeze

/-- The 118 °C comparator trips: no dump, no record; the main domains lose power. -/
def State.analogueTrip (s : State) : State :=
  let s := { s with therm := { s.therm with tripN := false, latched := true } }
  let bad := s.phase ≠ 4
  let s := s.cutMain
  { s with pwr := { s.pwr with frozen := true, seq := 0, dumpBad := s.pwr.pf && bad }, cmd := { s.cmd with stopped := true } }

/-! ### Commands -/

/-- `THERMAL_SAMPLE` (R447 to R456). -/
def execThermalSample (x : ThermIn) (s : State) : Host.Outcome State Fault Refusal :=
  let r := s.thermSample x
  .next (if r.2 ≥ degC 112 then r.1.thermTrip else r.1)
/-- `ANALOGUE_TRIP` (R457). -/
def execAnalogueTrip (s : State) : Host.Outcome State Fault Refusal := .next s.analogueTrip
/-- `PWR_GOOD_RISE` (R469, R471, R482). -/
def execPwrGoodRise (id boot : Nat) (test : Bool) (s : State) : Host.Outcome State Fault Refusal := .next (s.pwrGoodRise id boot test)
/-- `POWER_UP_STAGE` (R471). -/
def execPowerUpStage (s : State) : Host.Outcome State Fault Refusal := .next s.powerStage
/-- `PWR_GOOD_FALL` (R479). -/
def execPwrGoodFall (s : State) : Host.Outcome State Fault Refusal := .next s.pwrGoodFall
/-- `PFAIL` (R473). -/
def execPfail (s : State) : Host.Outcome State Fault Refusal := .next s.pfail
/-- `FREEZE` (R475, R476). -/
def execFreeze (s : State) : Host.Outcome State Fault Refusal := .next s.freeze
/-- `DUMP_START` (R474, R477). -/
def execDumpStart (s : State) : Host.Outcome State Fault Refusal := .next s.dumpStart
/-- `DUMP_DONE` (R474, R477, R479). -/
def execDumpDone (s : State) : Host.Outcome State Fault Refusal := .next s.dumpDone
/-- `PFAIL_RESTART` (R479). -/
def execPfailRestart (s : State) : Host.Outcome State Fault Refusal := .next s.pfailRestart
/-- `SYS_RESET_N` (R470). -/
def execSysResetN (level : Bool) (s : State) : Host.Outcome State Fault Refusal := .next (s.sysReset level)
/-- `DOMAIN_OFF` (R463, R464). -/
def execDomainOff (d : Nat) (s : State) : Host.Outcome State Fault Refusal := .next (s.domainOff d)
/-- `DOMAIN_ON` (R464, R465). -/
def execDomainOn (d : Nat) (s : State) : Host.Outcome State Fault Refusal := .next (s.domainOn d)
/-- `CLOCK_CHECK` (R468). -/
def execClockCheck (ppm : Option Int) (s : State) : Host.Outcome State Fault Refusal := .next (s.clockCheck ppm)
/-- `AON_CLK_LOSS` (R468). -/
def execAonClkLoss (s : State) : Host.Outcome State Fault Refusal := .next s.aonClkLoss
/-- `AON_CLK_RETURN` (R468). -/
def execAonClkReturn (s : State) : Host.Outcome State Fault Refusal := .next s.aonClkReturn
/-- `AON_POR` (R469). -/
def execAonPor (s : State) : Host.Outcome State Fault Refusal := .next s.aonPor
/-- `VDD_AON_LOSS` (R456). -/
def execVddAonLoss (s : State) : Host.Outcome State Fault Refusal := .next s.aonLoss
/-- `DEVICE_RESET_EFFECT` (R110, R472). -/
def execDeviceResetEffect (s : State) : Host.Outcome State Fault Refusal := .next s.deviceResetEffect
/-- `FUSE_LOAD` (R483, R484, R393, R263): at a new life-cycle state the key slots and contexts are zeroed. -/
def execFuseLoad (s : State) : Host.Outcome State Fault Refusal :=
  let s := (s.loadFuses).latchStraps
  let s := if s.otp.lastLc = s.lc then s else { s with dig := {} }
  .next { s with srd := { s.srd with lcSeen := s.lc } }

end Sys2Proof.Machine
end

