-- ==== Sys2Proof/Machine/Boot.lean ====
section
/-! DEFINITION. Start-up, firmware images and activation (R485 to R492, R497, R498), the first start in a new life-cycle state (R496), the
journal at a start and loss as a whole (R504, R507). -/

namespace Sys2Proof.Machine

/-- Page OTP. -/
def pgOtp : Nat := 0x002
/-- `BOOT_STAT.STAGE`. -/
def State.stageNow (s : State) : Nat := s.fld pgOtp 0x080 7 4

/-! ### Images (R486, R487) -/

/-- Length of an image with its header. -/
def imgBytes (m : List Byte) : Nat := 256 + le m 8 4
/-- FW_VERSION of an image. -/
def imgVersion (m : List Byte) : Nat := le m 16 4
/-- SVN of an image. -/
def imgSvn (m : List Byte) : Nat := le m 20 1

/-- An image is valid (R487). -/
def State.imageOk (s : State) (m : List Byte) : Bool :=
  let zero := fun (o n : Nat) => decide (cut m o n = zeros n)
  let pub := cut m 32 97
  decide (cut m 0 4 = [0x46, 0x56, 0x46, 0x57]) && decide (le m 4 2 = 1) && zero 6 2 && zero 21 11 && zero 129 31 &&
    decide (4 ≤ le m 8 4) && decide (le m 8 4 ≤ 33554176) && decide (imgBytes m ≤ m.length) &&
    (match s.groupVal 3 with
      | none => false
      | some v => decide (shaHash 2 pub = leBytes 48 v)) &&
    ecVerify pub (cut m 160 96) (cut m 0 160 ++ cut m 256 (le m 8 4)) && decide (imgSvn m ≥ s.otp.svnBits)

/-- The image of a slot. -/
def State.slotImage (s : State) (k : Nat) : List Byte := if k = 0 then s.otp.slotA else s.otp.slotB
/-- State of a slot in the directory. -/
def DirRec.st (d : DirRec) (k : Nat) : Nat := if k = 0 then d.stA else d.stB
/-- Change it. -/
def DirRec.setSt (d : DirRec) (k v : Nat) : DirRec := if k = 0 then { d with stA := v } else { d with stB := v }

/-- A directory record of the next generation. -/
def State.writeDir (s : State) (d : DirRec) : State :=
  { s with otp := { s.otp with dir := { d with gen := s.otp.dir.gen + 1 } } }

/-- The boot ROM halts after fuse load (R482, R533). -/
def State.halts (s : State) : Bool := s.otp.testEn || (decide (s.fld pgOtp 0x078 1 0 = 2) && (s.lc = 0 || s.lc = 1 || s.lc = 3))
/-- The straps ask for recovery. -/
def State.strapRecovery (s : State) : Bool := s.fld pgOtp 0x078 1 0 = 1 || s.fld pgOtp 0x078 1 0 = 3

/-- Recovery starts (R491). -/
def State.recover (s : State) : State := (s.setFld pgOtp 0x080 7 4 5).setFld pgOtp 0x080 2 2 1

/-- The watchdog is armed (R489), with its limit in ms. -/
def State.armWd (s : State) (ms : Nat) : State :=
  { s with otp := { s.otp with wdArmed := true, wdEndUs := s.now + 1000 * ms } }.setReg pgOtp 0x088 (BitVec.ofNat 32 ms)
/-- It is disarmed. -/
def State.disarmWd (s : State) : State :=
  { s with otp := { s.otp with wdArmed := false } }.setReg pgOtp 0x088 0

/-- The image of slot `k` runs (R488): version latched, jump to ENTRY, watchdog armed. -/
def State.runSlot (s : State) (k ms : Nat) : State :=
  let s := (s.setFld pgOtp 0x080 0 0 k).setFld pgOtp 0x080 7 4 3
  (s.setReg pgOtp 0x084 (BitVec.ofNat 32 (imgVersion (s.slotImage k)))).armWd ms

/-- Mark a slot failed and name the other (R489). -/
def State.failSlot (s : State) (k : Nat) : State :=
  let s := s.writeDir { (s.otp.dir.setSt k 2) with active := 1 - k }
  (s.setFld pgOtp 0x080 3 3 1).raise pgOtp 0

/-- The boot ROM starts an image: the active slot's, else the other's, else recovery. -/
def State.bootImage (s : State) : State :=
  let k := s.otp.dir.active
  if s.halts then s
  else if s.strapRecovery ∨ s.groupAbsent 3 then s.recover
  else if s.otp.dir.st k = 1 ∧ s.imageOk (s.slotImage k) then s.runSlot k 20000
  else if s.otp.dir.st (1 - k) = 1 ∧ s.imageOk (s.slotImage (1 - k)) then (s.failSlot k).runSlot (1 - k) 20000
  else s.recover

/-- The mask of all 24 core resets. -/
def allCores : Nat := 0xFFFFFF

/-- The next image after a failed start: the other slot, unless it failed too. -/
def State.afterFail (s : State) (k ms : Nat) : State :=
  let s := s.failSlot k
  if s.otp.fellBack then s.recover
  else
    let s := { s with otp := { s.otp with fellBack := true } }
    if s.otp.dir.st (1 - k) = 1 ∧ s.imageOk (s.slotImage (1 - k)) then s.runSlot (1 - k) ms else s.recover

/-- The start watchdog expires (R489): the cores are reset, the slot is marked failed, the other slot's image starts, or recovery. -/
def State.wdExpire (s : State) : State :=
  if s.otp.wdArmed = false ∨ s.stageNow = 7 then s
  else
    (s.disarmWd.coreReset allCores).afterFail (s.fld pgOtp 0x080 0 0)
      (if s.cmd.activating = 0 then 20000 else 800)

/-! ### Replay (R492, R496, R504 to R507) -/

/-- Place journal entries on page 0x03 of their instances (R492, R505). -/
def State.placeJournal (s : State) (j : List (Nat × JournalEnt)) (moved : SMap Nat) (restart cause : Nat) : State :=
  s.insts.foldl (fun s e =>
    s.modInst e.1 fun x =>
      let mine := (j.filter fun p => decide (p.1 = e.1)).map (·.2)
      { x with journal := x.journal ++ mine.zipIdx.map (fun p => { p.1 with id := x.jSeq + 1 + p.2 }), jSeq := x.jSeq + mine.length,
               jOvf := satAdd 32 x.jOvf (SMap.getD 0 moved e.1), jRestart := restart, jCause := cause }) s

/-- The map from its checkpoints (R180). -/
def State.loadCkpt (s : State) : State :=
  let f := s.flash
  let s := { s with flash := { f with map := [], segLen := [], delta := [], segDirty := [], segLost := [] } }
  let s := f.ckpt.foldl (fun s e => (s.ckptOf e.1).foldl (fun s x => s.mapSet x.1 x.2) s) s
  { s with flash := { s.flash with delta := [], segDirty := [], ckptHigh := false } }

/-- A frame of a dump, decrypted under the device key (log entry 132). -/
def State.dumpFrame (s : State) (c : Nat) (frame : List Byte) : List Byte := s.devCipher false c frame

/-- The dump reserve that a dump has used goes to erasure, before writes are accepted (R203). -/
def State.eraseDumped (s : State) : State :=
  s.flash.dies.foldl (fun s e => e.2.dumped.foldl (fun s b =>
    s.pushOp e.1 { kind := .erase, cls := 4, key := rankReadback, loc := BitVec.ofNat 64 b }) s) s

/-- A valid dump is replayed. -/
def State.replayDump (s : State) (d : Dump) : State :=
  let s := s.placeJournal d.journal d.jOver d.seq d.cause
  let s := d.delta.reverse.foldl (fun s e => s.mapSet e.key e.entry) s.loadCkpt
  let next := (d.recs.map fun e => e.1 + e.2.frame.length / 64).foldl max 0
  let recs := d.recs.map fun e => (e.1, { e.2 with frame := s.dumpFrame e.1 e.2.frame })
  let mirror := d.mirror.map fun e => (e.1, { e.2 with frame := s.dumpFrame e.1 e.2.frame })
  let s := { s with flash := { s.flash with recs := recs, nextRec := next }, knot := { s.knot with mirror := mirror } }
  (s.setCacheUsed (d.recs.map fun e => e.2.frame.length).sum).syncMirror

/-- Loss as a whole (R507). -/
def State.lossAll (s : State) : State :=
  let s := s.insts.foldl (fun s e =>
    (s.modInst e.1 fun x => { x with journal := [], jUnknown := true, jRestart := s.otp.runNum, jCause := s.fld pgPwr 0x054 7 4 }).deferredError
      e.1 0 stPowerFail 0xFFFFFFFF 0 0) s
  (s.loadCkpt).holdEvent 0x0051 pgOtp s.otp.runNum

/-- The first start in a new life-cycle state (R496): maps are discarded, every block outside the system area goes to erasure. -/
def State.newLife (s : State) : State :=
  let f := s.flash
  let blks := f.blks.map fun e => (e.1, if e.2.st = .closed ∨ e.2.st = .opened then { e.2 with st := .pendingErase } else e.2)
  let fresh : FlashSt := { dies := f.dies, blks := blks }
  let s := { s with flash := { fresh with frames := f.frames, nextSkein := f.nextSkein, locks := f.locks } }
  { s with insts := s.insts.map fun e => (e.1, { e.2 with key := 0 }) }

/-- The replay step of a start. -/
def State.replay (s : State) : State :=
  if s.pwr.started then s
  else
    let new := decide (s.otp.lastLc ≠ s.lc)
    let dump := s.otp.dump
    let s :=
      if s.pwr.warmStart then s.placeJournal s.otp.warmJournal s.otp.warmOver 0 5
      else if new then s.newLife
      else
        match dump with
        | some d =>
          if d.valid ∧ d.seq = s.otp.runNum ∧ d.lc = s.lc then s.replayDump d
          else if s.otp.openRun then s.lossAll else s.loadCkpt
        | none => if s.otp.openRun then s.lossAll else s.loadCkpt
    let s := s.eraseDumped
    let o := s.otp
    { s with otp := { o with dump := if s.pwr.warmStart then o.dump else none, openRun := false, warmJournal := [], warmOver := [],
                             lastLc := s.lc, dir := { o.dir with lc := s.lc } },
             pwr := { s.pwr with started := true } }

/-! ### Activation (R111, R498) -/

/-- `FW_DOWNLOAD` stages its bytes (R497). -/
def State.fwDownload (s : State) (n : Nat) (it : Item) : State :=
  let o := s.otp
  let s := if it.cflags % 2 = 1 then { s with otp := { o with stage := [], stageLen := 0 } } else s
  let o := s.otp
  let data := readBytes it.wdata 0 it.outLen
  { s with otp := { o with stage := writeBytes o.stage it.lba data, stageLen := max o.stageLen (it.lba + it.outLen) } }.finish n stSuccess

/-- Items that depend on firmware (R111). -/
def Item.needsFw (it : Item) : Bool := !isDataPath it.op it.cflags && decide (it.port < 32)

/-- `FW_ACTIVATE` has been accepted: the firmware-dependent items then queued or running have 5 ms (R111). -/
def State.fwBegin (s : State) (n : Nat) (it : Item) : State :=
  let mine := s.cmd.items.filter fun e => decide (e.1 ≠ n) && e.2.needsFw && !e.2.aborted &&
    (decide (e.2.state = .queued) || decide (e.2.state = .running))
  let s := s.modItem n fun y => { y with covers := mine.map (·.1) }
  { s with
    cmd := { s.cmd with activating := n + 1, actEndUs := s.now + 10000 + 2500000 }
    otp := { s.otp with actItem := n + 1, commitSvn := decide (it.cflags % 2 = 1), actOld := s.fld pgOtp 0x080 0 0 } }

/-- RESULT of `FW_ACTIVATE`. -/
def State.actResult (s : State) (code : Nat) : List Byte := beBytes 4 code ++ beBytes 4 (s.reg pgOtp 0x084).toNat

/-- The 5 ms pass (R111): those of the items that were queued or running when `FW_ACTIVATE` was accepted, `covers`, whose completion
point has not passed end with `FW_ACTIVATION`. -/
def State.graceEnd (s : State) (covers : List Nat) : State :=
  covers.foldl (fun s n => match s.item n with
    | some it => if it.outstanding && !it.aborted then ((s.stopWork n).leaveResets n it).report n stFwActivation it.cutResult else s
    | none => s) s

/-- The activation proper (R498 steps 2 to 5). -/
def State.activate (s : State) (n : Nat) (it : Item) : State :=
  let revert := decide (it.cflags / 2 % 2 = 1)
  let k := 1 - s.otp.dir.active
  let img := if revert then s.slotImage k else readBytes s.otp.stage 0 s.otp.stageLen
  let ok := s.imageOk img && (!revert || decide (s.otp.dir.st k = 1))
  if !ok then s.finish n stSuccess (s.actResult 1)
  else
    let o := s.otp
    let s := if revert then s else { s with otp := if k = 0 then { o with slotA := img } else { o with slotB := img } }
    let s := s.writeDir { (s.otp.dir.setSt k 1) with active := k }
    let s := s.coreReset allCores
    let o := s.otp
    { s with otp := { o with fellBack := false } }.runSlot k 800

/-- The grace of an activation ends and the activation proceeds. -/
def State.graceExpiry (s : State) : State :=
  let n := s.cmd.activating - 1
  match s.item n with
  | none => s
  | some it =>
    if s.cmd.activating = 0 ∨ it.op ≠ 0x49 ∨ it.finished ∨ s.otp.wdArmed then s else (s.graceEnd it.covers).activate n it

/-- `STAGE` reads `READY` (R489, R498, R502, R507). -/
def State.readyNow (s : State) : State :=
  let s := s.disarmWd
  let t := s.tel
  let s := { s with tel := { t with ready := true } }.postHeld
  let o := s.otp
  let s := { s with otp := { o with runNum := o.runNum + 1, openRun := true } }
  let s :=
    if s.otp.actItem = 0 then s
    else
      let n := s.otp.actItem - 1
      let svn := imgSvn (s.slotImage (s.fld pgOtp 0x080 0 0))
      let o := s.otp
      let s := if o.commitSvn ∧ o.fellBack = false then
          { s with otp := { o with svnBits := max o.svnBits svn } }.setReg pgOtp 0x06C (BitVec.ofNat 32 (max o.svnBits svn)) else s
      s.finish n stSuccess (s.actResult (if o.fellBack then 2 else 0))
  let o := s.otp
  { s with otp := { o with fellBack := false, actItem := 0, commitSvn := false } }

/-- `STAGE` has been written (R488, R499). -/
def State.stageHook (s : State) (old : Nat) : State :=
  match s.stageNow with
  | 3 => if old < 3 then s.bootImage else s
  | 4 => s.replay
  | 5 => s.recover
  | 7 => if old = 7 then s else s.readyNow
  | _ => s

/-- The boot ROM's erasure at the first start in `SCRAP` (R496, R533). -/
def State.scrapErase (s : State) : State :=
  if s.lc ≠ 4 ∨ s.otp.testEn ∨ s.otp.scrapDone then s
  else
    let f := s.flash
    let blks := f.blks.map fun e => (e.1, { e.2 with st := if e.2.st = .retired then BlkSt.retired else .free })
    let dies := f.dies.map fun e => (e.1, { e.2 with reserve := e.2.reserve ++ e.2.dumped, dumped := [] })
    let s := { s with flash := { dies := dies, blks := blks, locks := f.locks } }
    let o := s.otp
    let s := { s with otp := { o with slotA := [], slotB := [], dir := {}, dump := none, openRun := false, scrapDone := true } }
    (s.setFld pgOtp 0x080 7 4 6).setReg pgOtp 0x08C 1000

/-! ### Commands -/

/-- `START_WATCHDOG_EXPIRY` (R489). -/
def execStartWatchdogExpiry (s : State) : Host.Outcome State Fault Refusal := .next s.wdExpire
/-- `SCRAP_ERASE` (R496). -/
def execScrapErase (s : State) : Host.Outcome State Fault Refusal := .next s.scrapErase
/-- `ACTIVATION_GRACE_EXPIRY` (R111, R498). -/
def execActivationGraceExpiry (s : State) : Host.Outcome State Fault Refusal := .next s.graceExpiry

end Sys2Proof.Machine
end

