-- ==== Sys2Proof/Machine/Telem.lean ====
section
/-! DEFINITION. Histograms (R512, R513), asynchronous events (R503), the background window (R510), and the JTAG TAP (R531, R533). -/

namespace Sys2Proof.Machine

/-- The live histograms become readable, and are zeroed (R513). -/
def State.snapNow (s : State) : State :=
  let live := s.tel.live
  let s := (List.range 256).foldl (fun s i =>
    let base := if i < 128 then 0x100 else 0x400
    s.setReg 0x1E0 (base + 0x80 * (i % 128 / 32) + 4 * (i % 32)) (BitVec.ofNat 32 (SMap.getD 0 live i))) s
  { s with tel := { s.tel with live := [] } }

/-- `SNAP` (R513); it waits while the block's `ENABLE` is 0 (R551). -/
def State.snap (s : State) : State := if s.enabled 0x1E0 then s.snapNow else { s with tel := { s.tel with snapWait := true } }

/-- A `SNAP` that has waited for `ENABLE` is done (R551). -/
def State.snapWaiting (s : State) : State :=
  if s.tel.snapWait && s.enabled 0x1E0 then { s with tel := { s.tel with snapWait := false } }.snapNow else s

/-- A waiting `ASYNC_EVENT` is sent, at most one of a code a connection in 1 ms (R503). -/
def State.asyncSend (s : State) (c code : Nat) : State :=
  match s.conn c with
  | none => s
  | some x =>
    match x.evPending.find? fun e => decide (e.1 = code) with
    | none => s
    | some e =>
      let last := SMap.getD 0 s.tel.asyncLast (64 * c + code)
      if x.state ≠ .established ∨ (last ≠ 0 ∧ s.now < last - 1 + 1000) then s
      else
        let s := s.modConn c fun x => { x with evPending := x.evPending.filter fun p => p.1 ≠ code }
        let t := s.tel
        { s with tel := { t with asyncLast := SMap.put t.asyncLast (64 * c + code) (s.now + 1) } }.sendSeq c tAsync 0 0
          (beBytes 2 code ++ padTo 14 e.2)

/-- A die on which background work waits received less than its share of the window (R510). -/
def State.dieShort (s : State) : Bool :=
  s.flash.dies.any fun e =>
    (e.2.queue.any fun q => decide (q.cls = 4)) && decide (SMap.getD 0 s.flash.bgNs e.1 < s.bgShareNs)

/-- A 100 ms window ends (R510). `got`: what background work received of each resource other than a die on which it waited; `late`: the
periodic kinds that missed their period. A scheduler whose `ENABLE` is 0 closes no window (R551). -/
def State.bgWindow (s : State) (got : List (Nat × Nat)) (late : Nat) : State :=
  if s.enabled 0x1F0 = false then s else
  let pct := min (s.fld 0x1F0 0x040 7 0) s.reservePct
  let short := s.dieShort || got.any fun e =>
    decide (2048 ≤ e.1) && decide (e.2 < 100000 * s.capAt e.1 (s.floorStep 0) 0 * pct / 100)
  let s := { s with flash := { s.flash with bgNs := [] }, tel := { s.tel with winUs := s.now } }
  let s := if short then s.count 0x1F0 0x050 else s
  (List.range late).foldl (fun s _ => (s.count 0x1F0 0x04C).post 0x0080 0 0x1F0 0) s

/-- The instructions of the TAP (R531). -/
def tapCodes : List Nat := [0x00, 0x01, 0x02, 0x08, 0x09, 0x10, 0x11, 0x20, 0x3F]
/-- Those that take the pins (R533). -/
def tapGated : List Nat := [0x00, 0x08, 0x09, 0x10, 0x11]

/-- A new instruction takes effect: an unknown code, and a gated one while TEST_EN is latched at 0, act as `BYPASS`. -/
def State.tapInstr (s : State) (code : Nat) : State :=
  let gated := tapGated.contains code
  let ir := if !tapCodes.contains code ∨ (gated ∧ s.otp.testEn = false) then 0x3F else code
  let j := s.jtag
  { s with jtag := { j with ir := ir, drive := gated && s.otp.testEn } }

/-! ### Commands -/

/-- `SNAP` (R513). -/
def execSnap (s : State) : Host.Outcome State Fault Refusal := .next s.snap
/-- `ASYNC_EVENT_SEND` (R503). -/
def execAsyncEventSend (conn code : Nat) (s : State) : Host.Outcome State Fault Refusal := .next (s.asyncSend conn code)
/-- `BACKGROUND_WINDOW` (R509, R510). -/
def execBackgroundWindow (got : List (Nat × Nat)) (late : Nat) (s : State) : Host.Outcome State Fault Refusal :=
  .next (s.bgWindow got late)
/-- `TAP_RESET` (R469, R531): test logic only. -/
def execTapReset (s : State) : Host.Outcome State Fault Refusal := .next { s with jtag := {} }
/-- `TAP_INSTRUCTION` (R531, R533). -/
def execTapInstruction (code : Nat) (s : State) : Host.Outcome State Fault Refusal := .next (s.tapInstr code)

end Sys2Proof.Machine
end

