-- ==== Sys2Proof/Machine/Apply.lean ====
section
/-! DEFINITION. Blocks apply committed shadows at their safe points (R37, R38, R547): what each block ignores (R169, R183, R210, R211,
R221, R288, R428, R430, R451) and what follows from new values (R79, R145, R182, R204, R502, R513). -/

namespace Sys2Proof.Machine

/-! ### Shadows of a block -/

/-- Keys of the words of a block that hold shadows. -/
def State.shadowKeys (s : State) (h : Nat) : List Nat :=
  (s.shMask.map (·.1)).filter fun k => decide (headerPage (k / 1024) = h)

/-- A word's shadow becomes active. -/
def State.applyKey (s : State) (k : Nat) : State :=
  let m := SMap.getD 0 s.shMask k
  let s' := s.setRegAt k ((s.regAt k &&& ~~~m) ||| (SMap.getD 0 s.shVal k &&& m))
  { s' with shVal := SMap.del s'.shVal k, shMask := SMap.del s'.shMask k }

/-- Drop the shadow bits `m` of a word. -/
def State.dropBits (s : State) (k : Nat) (m : W32) : State :=
  { s with shMask := SMap.setD 0 s.shMask k (SMap.getD 0 s.shMask k &&& ~~~m)
           shVal := SMap.setD 0 s.shVal k (SMap.getD 0 s.shVal k &&& ~~~m) }

/-- Shadow bits of words of a page. -/
def State.shadowOf (s : State) (page off : Nat) : W32 := SMap.getD 0 s.shMask (rkey page off)

/-- A value is ignored at apply: CODE 0x10 with its offset (R547). -/
def State.ignored (s : State) (page off : Nat) : State := s.capture page 0x10 0 off

/-- The value a field would have after its shadow applies. -/
def State.wouldFld (s : State) (page off hi lo : Nat) : Nat := fget (s.wouldBe page off) hi lo

/-! ### What is ignored -/

/-- The pool counts (R210, R211). -/
def countsOk (cs : List Nat) : Bool :=
  cs.all (fun c => decide (c % 8 = 0)) && decide (cs.getD 0 0 ≥ 4096) && decide (cs.getD 2 0 ≥ 1024) &&
    decide (((List.range 5).map fun p => cs.getD p 0 * poolSize p).sum ≤ sramSize)

/-- Pool counts at a commit: laid out afresh (R211), or ignored: a bad set with its lowest register's offset (R547), else with
the first ignored shadow's. -/
def State.applyCounts (s : State) : State :=
  if (List.range 5).all fun p => decide (s.shadowOf 0x020 (0x040 + 4 * p) = 0) then s
  else
    let first := ((List.range 5).find? fun p => decide (s.shadowOf 0x020 (0x040 + 4 * p) ≠ 0)).getD 0
    let cs := (List.range 5).map fun p => s.wouldFld 0x020 (0x040 + 4 * p) 27 0
    let s := (List.range 5).foldl (fun s p => s.dropBits (rkey 0x020 (0x040 + 4 * p)) 0xFFFFFFFF) s
    if countsOk cs = false then s.ignored 0x020 0x040
    else if s.noHitches && !s.enabled 0x020 then s.layOut cs else s.ignored 0x020 (0x040 + 4 * first)

/-- The power limits (R451): *W*(15) of at least 20 W. -/
def State.checkLimits (s : State) : State :=
  let drop := ((List.range 15).map fun k => s.wouldFld 0x006 (0x048 + 4 * (k / 4)) (8 * (k % 4) + 7) (8 * (k % 4))).sum
  let any := !((List.range 5).all fun i => decide (s.shadowOf 0x006 (0x044 + 4 * i) = 0))
  if any && decide (s.wouldFld 0x006 0x044 7 0 < 20 + drop) then
    ((List.range 4).foldl (fun s i => s.dropBits (rkey 0x006 (0x048 + 4 * i)) 0xFFFFFFFF)
      (s.dropBits (rkey 0x006 0x044) 0xFF)).ignored 0x006 0x044
  else s

/-- `IFACE` and `RATE_MTS` of an enabled channel (R169). -/
def State.checkRate (s : State) (page : Nat) : State :=
  if s.enabled page && (decide (s.wouldFld page 0x040 27 16 ≠ s.fld page 0x040 27 16) ||
      decide (s.wouldFld page 0x040 9 8 ≠ s.fld page 0x040 9 8)) then
    (s.dropBits (rkey page 0x040) (bitsMask 27 16 ||| bitsMask 9 8)).ignored page 0x040
  else s

/-- `PARITY` and `OP_PCT` of a flash group (R183). -/
def State.checkGroup (s : State) (page : Nat) : State :=
  let g := page - 0x100
  let s := if s.wouldFld page 0x040 0 0 ≠ s.fld page 0x040 0 0 ∧ (s.insts.any fun e => decide (e.2.state ≠ .free)) then
      (s.dropBits (rkey page 0x040) 1).ignored page 0x040
    else s
  let pct := s.wouldFld page 0x044 7 0
  let cap := s.deviceCap - s.pair page 0x058 + s.userCap g pct (s.wouldFld page 0x040 0 0)
  if pct ≠ s.fld page 0x044 7 0 ∧ cap < s.capUsed 1024 then (s.dropBits (rkey page 0x044) 0xFF).ignored page 0x044 else s

/-- `UPD_RES` of a bank (R288): no more than it can book at step 15. -/
def State.checkUpdRes (s : State) (page : Nat) : State :=
  if s.shadowOf page 0x060 ≠ 0 ∧ s.bookable 2179 (searchCap 15) < s.wouldFld page 0x060 9 0 then
    (s.dropBits (rkey page 0x060) (bitsMask 9 0)).ignored page 0x060
  else s

/-- Leases of a commit (R430): ignored on every link where they would grant more than 70 % together. -/
def State.checkLeases (s : State) : State :=
  let ls := (List.range 8).filter fun j => (SMap.find s.cfg.reqs (klPage j)).isSome && decide (s.shadowOf (klPage j) 0x048 ≠ 0)
  let sum := ((List.range 8).map fun j =>
    if ls.contains j then s.wouldFld (klPage j) 0x048 7 0 else s.fld (klPage j) 0x048 7 0).sum
  if ls ≠ [] ∧ sum > 70 then
    ls.foldl (fun s j => (s.dropBits (rkey (klPage j) 0x048) 0xFF).ignored (klPage j) 0x048) s
  else s

/-- `KN_PLACE` of an instance (R428). -/
def State.checkPlace (s : State) (i : Nat) : State :=
  let k := 1024 * knPlacePage + i
  if SMap.getD 0 s.shMask k = 0 then s
  else
    let t := s.applyKey k
    let members := (t.placeOf i).1
    let mapped := s.flash.map.any fun e => decide (keyInst e.1 = i) && decide (eKind e.2 ≠ 0)
    let tooBig := (s.inst i).state ≠ .free ∧ t.deviceCap < t.capUsed 1024
    if (members ≠ 0 ∧ nbit members s.selfId = false) ∨ mapped ∨ tooBig then (s.dropBits k 0xFFFFFFFF).ignored 0x040 0x0D4 else t

/-- Reserved minima by any other path (R221), against the limit as the commit leaves it. -/
def State.checkMins (s : State) : State :=
  let ks := s.shadowKeys 0x020 |>.filter fun k => decide (k / 1024 = 0x023) || decide (k / 1024 = 0x024)
  match ks with
  | [] => s
  | k0 :: _ =>
    let t := ks.foldl (fun s k => s.applyKey k) s
    if t.minSum 2048 > t.minLimit then (ks.foldl (fun s k => s.dropBits k 0xFFFFFFFF) s).ignored 0x020 (k0 % 1024 * 4) else t

/-- Everything a port's sub-interfaces hold leaves, oldest first. -/
def State.flushPort (s : State) (port : Nat) : State :=
  (List.range 4).foldl (fun s sub =>
    (List.range (SMap.getD [] s.host.egress (egKey port sub)).length).foldl (fun s _ => s.sendFrame port sub) s) s

/-- A commit that changes a host port's mode or FEC (R79): its connections fail in the old mode, and their `CLOSE` PDUs leave, before the links
go down. -/
def State.leaveMode (s : State) (page : Nat) : State :=
  if s.wouldFld page 0x040 3 0 = s.fld page 0x040 3 0 then s else (s.failPort (page - 0x030)).flushPort (page - 0x030)

/-- Before a block's shadows apply. -/
def State.preApply (s : State) (b : PageBlk) (page : Nat) : State :=
  match b with
  | .buf => s.applyCounts
  | .therm => s.checkLimits
  | .fc => s.checkRate page
  | .fgrp => s.checkGroup page
  | .sb => s.checkUpdRes page
  | .hp => s.leaveMode page
  | .kl =>
    let s := s.checkLeases
    if page = 0x040 then
      ((s.shadowKeys 0x040).filter fun k => decide (1024 * knPlacePage ≤ k)).foldl (fun s k => s.checkPlace (k - 1024 * knPlacePage)) s
    else s
  | _ => s

/-! ### What follows from new values -/

/-- A host port's links go down, whatever the reason. -/
def State.linksDown (s : State) (port : Nat) : State :=
  let pg := 0x030 + port
  if s.fld pg 0x054 3 0 = 0 then s else (s.setFld pg 0x054 3 0 0).raise pg 0

/-- Classes of ports changed (R145): a host port's connections fail, and the links of one that enters `NONE` go down (R142) once their `CLOSE`
PDUs have left; a knot link that enters `NONE` drops, its peer lost. -/
def State.newClasses (old s : State) : State :=
  let s := (List.range 16).foldl (fun s n =>
    if s.hpClass n = old.hpClass n then s
    else if s.hpClass n = 0 then ((s.failPort n).flushPort n).linksDown n
    else s.failPort n) s
  (List.range 8).foldl (fun s j => if s.klClass j ≠ 0 ∨ old.klClass j = 0 then s else (s.peerLost j).setLinkState j 0) s

/-- After a block's shadows have applied; `old` is the state before. -/
def State.postApply (old s : State) (b : PageBlk) (page : Nat) : State :=
  match b with
  | .hp => if s.fld page 0x040 3 0 = old.fld page 0x040 3 0 then s else s.linksDown (page - 0x030)
  | .cad =>
    if s.reservePct < old.reserveOf 2267 then { s with cad := { s.cad with heldPct := old.reserveOf 2267 } }
    else { s with cad := { s.cad with heldPct := 0 } }
  | .vim => State.newClasses old s
  | .fgrp =>
    let s := if s.fld page 0x040 0 0 = old.fld page 0x040 0 0 ∧ s.fld page 0x044 7 0 = old.fld page 0x044 7 0 then s
      else s.setUserCap (page - 0x100)
    if page = 0x100 then s.setDumpMax else s.showFree (page - 0x100)
  | .fc => s.setDumpMax
  | .kl =>
    let s := if page = 0x040 then s.setDumpMax else s
    if old.enabled page then s else s.startTraining (page - 0x040)
  | .sb => s.fwSlot.searchAll
  | .srch => s.fwSlot
  | .ks => s.ksRun
  | .tel =>
    let s := if s.reg page 0x060 = old.reg page 0x060 then s
      else { s with tel := { s.tel with live := s.tel.live.filter fun e => decide (e.1 < 128) } }
    s.postWaiting.snapWaiting
  | _ => s

/-- A block that is not at its safe point: a stream cluster runs a scan, an engine a frame. -/
def State.midWork (s : State) (b : PageBlk) (page : Nat) : Bool :=
  match b with
  | .sc => decide ((SMap.getD ({} : Cluster) s.scan.clusters (page - 0x1B0)).run ≠ 0)
  | .ce => (SMap.find s.eng.ceRun (page - 0x110)).isSome
  | .de => (SMap.find s.eng.deRun (page - 0x130)).isSome
  | _ => false

/-- Exchange the open shadows and the committed ones: at an apply the operations on shadows work on the committed ones. -/
def State.swapShadows (s : State) : State :=
  let c := s.cfg
  { s with shVal := c.comVal, shMask := c.comMask, cfg := { c with comVal := s.shVal, comMask := s.shMask } }

/-- The block of a page reaches its safe point with an apply request (R37 steps 4 and 5). -/
def State.blockApply (s : State) (page : Nat) : State :=
  match SMap.find s.cfg.reqs page, pageBlk page with
  | some id, some (b, _) =>
    if s.midWork b page then s
    else
      let t := s.swapShadows.preApply b page
      let t := if b = .buf then
          (((t.shadowKeys page).filter fun k => decide (k / 1024 ≠ 0x023) && decide (k / 1024 ≠ 0x024)).foldl
            (fun s k => s.applyKey k) t).checkMins
        else (t.shadowKeys page).foldl (fun s k => s.applyKey k) t
      let t := t.swapShadows
      let dirty := s.dirtyPages.contains page
      let t := t.setReg page 0x024 (BitVec.ofNat 32 (2 ^ 16 * id + b2n dirty))
      let t := { t with cfg := { t.cfg with reqs := SMap.del t.cfg.reqs page, await := t.cfg.await.filter (· ≠ page) } }
      let t := State.postApply s t b page
      if s.txnState = 3 ∧ s.cfg.await ≠ [] ∧ t.cfg.await = [] then t.commitEnd 1 else t
  | _, _ => s

/-! ### Commands -/

/-- A requester identity that R25 assigns. -/
def goodReq (req : Nat) : Bool := decide (req ≤ 0x19)

/-- `BEGIN` (R33) written to `TXN_CTRL` by a requester. -/
def execBegin (req : Nat) (s : State) : Host.Outcome State Fault Refusal := .next (if goodReq req then s.txnBegin req else s)
/-- `COMMIT` (R37). -/
def execCommit (req : Nat) (s : State) : Host.Outcome State Fault Refusal := .next (if goodReq req then s.txnCommit req else s)
/-- `ROLLBACK` (R41). -/
def execRollback (req : Nat) (s : State) : Host.Outcome State Fault Refusal := .next (if goodReq req then s.txnRollback req else s)
/-- `HOLD_DEADLINE` (R38). -/
def execHoldDeadline (s : State) : Host.Outcome State Fault Refusal := .next s.holdDeadline
/-- `TXN_TIMEOUT` (R41). -/
def execTxnTimeout (s : State) : Host.Outcome State Fault Refusal := .next s.txnTimeout
/-- `FUSE_SLOT_PROGRAMMED` (R43). -/
def execFuseSlotProgrammed (ok : Bool) (s : State) : Host.Outcome State Fault Refusal := .next (s.slotProgrammed ok)

end Sys2Proof.Machine
end

