-- ==== Sys2Proof/Machine/Irq.lean ====
section
/-! DEFINITION. The interrupt lines of pages and what the interrupt controllers derive from them (R29, R31). -/

namespace Sys2Proof.Machine

/-- A page that has an interrupt line: one that carries the common header, but for the controllers' own. -/
def hasLine (p : Nat) : Bool :=
  match pageBlk p with
  | some (.irq, _) | none => false
  | some (b, _) => hasHeader b

/-- The interrupt line of a page: an enabled event bit is set and its domain is on (R29). -/
def State.irqLine (s : State) (p : Nat) : Bool := hasLine p && s.pageOn p && (s.reg p 0x010 &&& s.reg p 0x014 != 0)

/-- `PEND` word `w` of interrupt controller `c` (R31). -/
def State.pendWord (s : State) (c w : Nat) : W32 :=
  let en := s.reg (0x008 + c) (0x080 + 4 * w)
  if en = 0 then 0
  else BitVec.ofNat 32 ((List.range 32).foldl (fun a b => a + b2n (en.getLsbD b && s.irqLine (32 * w + b)) * 2 ^ b) 0)

/-- Lowest page with its `PEND` bit at 1 in controller `c`. -/
def State.pendPage (s : State) (c : Nat) : Option Nat :=
  (List.range 512).find? fun p => (s.reg (0x008 + c) (0x080 + 4 * (p / 32))).getLsbD (p % 32) && s.irqLine p

/-- The pin ALERT_N (true: high): IRQ7 drives it low for as long as any of its `PEND` bits is 1 (R31). -/
def State.alertN (s : State) : Bool := (s.pendPage 7).isNone

/-- The external interrupt line of control core `n` (R31, R331). -/
def State.extLine (s : State) (n : Nat) : Bool :=
  (List.range 7).any fun c => (s.reg (0x008 + c) 0x0C0).getLsbD n && (s.pendPage c).isSome

end Sys2Proof.Machine
end

