-- ==== Sys2Proof/Machine/RegBus.lean ====
section
/-! DEFINITION. Access to the register space by a requester (R6 to R10, R19, R24 to R30): what a read returns, what a write does, the
error responses; and the commands that are register accesses. -/

namespace Sys2Proof.Machine

/-! ### What a read returns -/

/-- `BLK_ID` of a page (R29). -/
def blkId (page first : Nat) : W32 :=
  if page = 0 then 0x000941B0
  else BitVec.ofNat 32 (2 ^ 20 * first + (page - first) * 2 ^ 8 + Config.blkVersion page % 256)

/-- The stored word of a page with everything that is not a readable field at 0 (R6, R8). -/
def State.plainWord (s : State) (page off : Nat) : W32 :=
  let w := s.reg page off
  BitVec.ofNat 32 (((pageRows page off).map fun r => if r.acc = .wo then 0 else fget w r.hi r.lo * 2 ^ r.lo).sum)

/-- The registers of the common header (R29). `PWR_STATE.CLOCK` reads 0b00, running: when a block's clock is gated is left open, and this
model has no clocks (DESIGN CHOICE). -/
def State.headerWord (s : State) (page first off : Nat) : W32 :=
  if off = 0x000 then blkId page first
  else if off = 0x004 then Config.blkCaps page
  else if off = 0x00C then BitVec.ofNat 32 (s.fld page 0x01C 31 31 * 2 + s.fld page 0x008 0 0)
  else if off = 0x028 then s.plainWord page off ||| BitVec.ofNat 32 (pageDomain page * 2 ^ 8)
  else s.plainWord page off

/-- A pair's low or high word. -/
def half (v : Nat) (hi : Bool) : W32 := BitVec.ofNat 32 (if hi then v / 2 ^ 32 else v)

/-- `CAL_BOOKED` and `CAL_CAP` (R141) of the slot that `CAL_SEL` selects. -/
def State.calWord (s : State) (cap : Bool) : W32 :=
  let coarse := s.fld 0x010 0x070 31 31 = 1
  let slot := s.fld 0x010 0x070 28 16
  let r := s.fld 0x010 0x070 11 0
  if r > 2267 ∨ slot > (if coarse then 8191 else 4095) then 0
  else
    let k := (if coarse then s.now / 1000 else s.now) + slot
    BitVec.ofNat 32 (min (2 ^ 32 - 1)
      (if cap then s.slotCap r coarse k
       else bookedIn s.cad.bookings r coarse k + s.updRes r coarse + s.poolLeft s.cad.bookings r coarse k))

/-- Registers of VIM that report the instance of `INST_SEL` (R164). -/
def State.instWord (s : State) (off : Nat) : W32 :=
  let i := s.fld 0x050 0x04C 9 0
  let x := s.inst i
  let code : Nat := match x.state with
    | .free => 0
    | .creating => 1
    | .active => 2
    | .resetting => 3
    | .deleting => 4
  BitVec.ofNat 32 (
    if off = 0x050 then 2 ^ 29 * code + s.outstandingOf i % 2 ^ 18
    else if off = 0x054 then x.portMask
    else if off = 0x058 then s.instHitches i % 2 ^ 18
    else if off = 0x05C then (s.wipePending i).length % 256
    else (s.insts.filter fun e => decide (e.2.state ≠ .free)).length)

/-- `DC_RANK` (R391). -/
def State.rankWord (s : State) (c : Nat) : W32 :=
  let code := fun (r : Nat) => match ((s.chan c).rank r).phase with
    | .active => 0
    | .drain => 1
    | .selfRefresh => 2
    | .exiting => 3
  BitVec.ofNat 32 (2 ^ 12 * code 1 + ((s.chan c).rank 1).debt * 2 ^ 8 + code 0 * 2 ^ 4 + ((s.chan c).rank 0).debt)

/-- `OUT_DATA` (R419): the head message, where firmware consumes it. -/
def State.outData (s : State) (w : Nat) : W32 :=
  match s.srd.outbox with
  | m :: _ => if m.fw then BitVec.ofNat 32 (le m.bytes (4 * w) 4) else 0
  | [] => 0

/-- Registers whose value follows from other state (R31, R32, R141, R164, R228, R270, R370, R391, R419, R445, R499, R514). -/
def State.derived (s : State) (b : PageBlk) (req page off : Nat) : Option W32 :=
  match b with
  | .irq =>
    let c := page - 0x008
    if 0x040 ≤ off ∧ off < 0x080 then some (s.pendWord c ((off - 0x040) / 4))
    else if off = 0x0C4 then
      some (match s.pendPage c with
        | some p => BitVec.ofNat 32 (2 ^ 31 + p)
        | none => 0)
    else none
  | .cfg => if off = 0x04C then some (BitVec.ofNat 32 req) else none
  | .cad =>
    if off = 0x068 then some (BitVec.ofNat 32 s.cmd.bestQ.length)
    else if off = 0x074 then some (s.calWord false)
    else if off = 0x078 then some (s.calWord true)
    else none
  | .vim => if 0x050 ≤ off ∧ off ≤ 0x060 then some (s.instWord off) else none
  | .buf =>
    if off = 0x0A4 then some (BitVec.ofNat 32 s.outMin)
    else if off = 0x0AC then some (BitVec.ofNat 32 s.cap2)
    else none
  | .he => if off = 0x060 ∧ page = 0x190 then some (BitVec.ofNat 32 s.dig.ctxs.length) else none
  | .sc =>
    if off = 0x05C then some (BitVec.ofNat 32 (SMap.getD ({} : Cluster) s.scan.clusters (page - 0x1B0)).fifo.length)
    else if off = 0x064 then some (BitVec.ofNat 32 (scMhz (s.fld 0x010 0x058 3 0)))
    else none
  | .srch => if off = 0x0A4 then some (BitVec.ofNat 32 s.srch.cap) else none
  | .dec =>
    let x := SMap.getD ({} : Cluster) s.scan.clusters (page - 0x1C0)
    if off = 0x044 ∨ off = 0x048 then some (half (SMap.getD 0 x.ucode (s.fld page 0x040 9 0)).toNat (off = 0x048))
    else if 0x100 ≤ off ∧ off < 0x200 then some (half (SMap.getD 0 x.decode ((off - 0x100) / 8)).toNat (off % 8 = 4))
    else none
  | .dc => if off = 0x04C then some (s.rankWord (page - 0x060)) else none
  | .srd => if 0x200 ≤ off ∧ off < 0x300 then some (s.outData ((off - 0x200) / 4)) else none
  | .kl => if page = 0x040 ∧ off = 0x0D4 then some (s.regAt (1024 * knPlacePage + s.fld 0x040 0x0D0 9 0)) else none
  | .otp =>
    if off = 0x088 then some (if s.otp.wdArmed then BitVec.ofNat 32 (cdiv (s.otp.wdEndUs - s.now) 1000) else 0) else none
  | .tel => if off = 0x068 ∨ off = 0x06C then some (half s.timeNs (off = 0x06C)) else none
  | .bg =>
    if off = 0x048 then
      some (BitVec.ofNat 32 (min (2 ^ 24 - 1) (s.flash.refreshQ.length + s.flash.rereadQ.length + s.flash.rebuildQ.length +
        (s.flash.readbackQ.map fun e => (s.keysAt e).length).sum)))
    else if off = 0x054 then some (BitVec.ofNat 32 (min 100 (s.flash.delta.length * Config.deltaBytes * 100 / (56 * 2 ^ 20))))
    else none
  | _ => none

/-- The value a read of an assigned page returns. -/
def State.viewWord (s : State) (b : PageBlk) (first req page off : Nat) : W32 :=
  if hasHeader b ∧ off < 0x040 then s.headerWord page first off
  else (s.derived b req page off).getD (s.plainWord page off)

/-- Low words of the 64-bit values the chapters mark (R27). -/
def pairLow (b : PageBlk) (off : Nat) : Bool :=
  match b with
  | .cad => off = 0x060
  | .fgrp => off = 0x058
  | .ce => off = 0x048 || off = 0x050
  | .de | .he => off = 0x048
  | .sc => off = 0x0C4
  | .dc => off = 0x0A8
  | .srd => off = 0x060 || off = 0x068
  | .otp => off = 0x070
  | .tel => off = 0x050 || off = 0x068
  | _ => false

/-! ### Error responses (R9, R10, R19, R24, R28, R30, R36) -/

/-- An error response. -/
def busErr (code : Nat) : BusResp := { ok := false, code := code, value := 0 }

/-- A refused access: its code is recorded in the block's `ERR_CAPT`, with the requester in UNIT for the common codes and the offset in
DETAIL (R30). -/
def State.busRefuse (s : State) (req page off code : Nat) : State × BusResp :=
  (s.capture (headerPage page) code (if code < 4 then req else 0) off, busErr code)

/-- Checks common to reads and writes: the page is assigned (R24), its domain on (R28, counted in `PWR.ERR_CNT`), the access aligned and
32 bits wide (R9). -/
def State.busCheck (s : State) (req page off width : Nat) : Except (State × BusResp) (PageBlk × Nat) :=
  match pageBlk page with
  | none => .error (s, busErr 7)
  | some b =>
    if s.pageOn page = false then .error (s.count 0x003 0x020, busErr 7)
    else if width ≠ 4 ∨ off % 4 ≠ 0 then .error (s.busRefuse req page off 1)
    else .ok b

/-- A read by a requester: the value, with the holding register of R27. -/
def State.busRead (s : State) (req page off width : Nat) : State × BusResp :=
  match s.busCheck req page off width with
  | .error r => r
  | .ok (b, first) =>
    let v := s.viewWord b first req page off
    let hk := fun (o : Nat) => 2 ^ 22 * req + rkey page o
    if pairLow b off then
      ({ s with pairHi := SMap.put s.pairHi (hk (off + 4)) (s.viewWord b first req page (off + 4)) }, { value := v })
    else
      match SMap.find s.pairHi (hk off) with
      | some h => ({ s with pairHi := SMap.del s.pairHi (hk off) }, { value := h })
      | none => (s, { value := v })

/-! ### Writes -/

/-- The key of a word's storage: `KN_PLACE` is that of the instance in `KN_PLACE_SEL` (R445). -/
def State.storeKey (s : State) (page off : Nat) : Nat :=
  if page = 0x040 ∧ off = 0x0D4 then 1024 * knPlacePage + s.fld 0x040 0x0D0 9 0 else rkey page off

/-- Fuse-backed words (R42): the port-authority map and `LC_REQ`. -/
def fuseBacked (page off : Nat) : Bool :=
  (page = 0x050 && (off = 0x040 || off = 0x044)) || (page = 0x002 && off = 0x044)

/-- A TX write is accepted (R34, R36, R42): inside the requester's own open transaction, from requester 0x18 to a fuse-backed field, and
with no committed shadows pending in the block. -/
def State.mayTx (s : State) (req page off : Nat) : Bool :=
  decide (s.txnState = 1) && decide (s.txnOwner = req) && (!fuseBacked page off || decide (req = reqMgmt)) &&
    decide (s.fld (headerPage page) 0x024 1 1 = 0)

/-- Write one field of a register. -/
def State.writeField (s : State) (page off : Nat) (v : W32) (tx : Bool) (r : RegRow) : State :=
  match r.acc with
  | .rw => s.setFld page off r.hi r.lo (fget v r.hi r.lo)
  | .w1c =>
    if off = 0x01C then (if v.getLsbD 31 then s.setReg page off 0 else s)
    else s.setReg page off (s.reg page off &&& ~~~(v &&& bitsMask r.hi r.lo))
  | .tx =>
    if tx then (s.shadow (s.storeKey page off) r.hi r.lo (fget v r.hi r.lo)).setFld (headerPage page) 0x024 0 0 1 else s
  | _ => s

/-- A block-specific refusal of a write (R261, R419): its code. -/
def blockRefusal (b : PageBlk) (req off : Nat) : Option Nat :=
  match b with
  | .ks => if (off = 0x040 ∨ off = 0x044 ∨ (0x080 ≤ off ∧ off < 0x100)) ∧ (req = reqMgmt ∨ req = reqJtag) then some 0x10 else none
  | .srd => if (off = 0x044 ∨ (0x100 ≤ off ∧ off < 0x1A0)) ∧ (req = reqMgmt ∨ req = reqJtag) then some 0x11 else none
  | _ => none

/-- What a write does beyond storing fields: the WO fields (R6), and registers whose new value takes effect at once. `old` is the state
before the write. -/
def State.writeEffect (old s : State) (b : PageBlk) (req page off : Nat) (v : W32) : State :=
  if hasHeader b ∧ off = 0x008 then
    (if v.getLsbD 2 then (if page = 0x020 then (s.clearCounters page).clearLows else s.clearCounters page) else s)
  else if hasHeader b ∧ off = 0x018 then s.setReg page 0x010 (s.reg page 0x010 ||| v)
  else
    match b with
    | .cfg =>
      if off = 0x040 then
        match fget v 1 0 with
        | 1 => s.txnBegin req
        | 2 => s.txnCommit req
        | 3 => s.txnRollback req
        | _ => s
      else s
    | .ks =>
      if off = 0x040 then
        if fget v 9 8 = 0 then s else s.ksCmd (fget v 9 8) (fget v 5 0)
      else if 0x080 ≤ off ∧ off < 0x100 then
        { s with dig := { s.dig with staged := SMap.setD 0 s.dig.staged ((off - 0x080) / 4) v } }
      else s
    | .srch =>
      if off = 0x040 ∧ fget v 1 0 ≠ 0 then s.fwCmd (fget v 1 0) (fget v 5 4) (fget v 31 16) (v.getLsbD 8) else s
    | .srd =>
      if off = 0x044 then (if v.getLsbD 0 then s.mbInPost req else s)
      else if off = 0x04C then (if v.getLsbD 0 then s.mbOutPop else s)
      else if 0x100 ≤ off ∧ off < 0x1A0 then
        { s with srd := { s.srd with staged := SMap.setD 0 s.srd.staged ((off - 0x100) / 4) v } }
      else s
    | .kl =>
      if off = 0x044 then (if v.getLsbD 1 then s.retrain (page - 0x040) else s)
      else if page = 0x040 ∧ off = 0x0DC then (if v.getLsbD 3 then s.evict (fget v 2 0) else s)
      else s
    | .rst =>
      if off = 0x048 then s.coreReset (fget v 23 0)
      else if off = 0x044 then (s.setReg page off (old.reg page off)).coreHold (fget v 23 1 * 2)
      else s
    | .pwr => if off = 0x040 ∨ off = 0x044 then s.domRequest else s
    | .otp => if off = 0x080 then s.stageHook (old.fld page off 7 4) else s
    | .tel => if off = 0x064 ∧ v.getLsbD 0 then s.snap else s
    | _ => s

/-- The descriptor group whose ring a page's `FWQ` registers belong to, if any. -/
def ringGroup (page off : Nat) : Option Nat :=
  if off ≠ 0x0CC then none else if page = 0x110 then some 0 else if page = 0x130 then some 1 else if page = 0x190 then some 2 else none

/-- A write that carries a reserved encoding (R10): a field outside its range, or a word that breaks a condition among its fields. -/
def State.reserved (s : State) (page off : Nat) (v : W32) (tx : Bool) (rows : List RegRow) : Bool :=
  let judged := rows.filter fun r => decide (r.acc = .rw) || (decide (r.acc = .tx) && tx)
  !(judged.all fun r => r.legal.ok (fget v r.hi r.lo)) ||
    ((rows.any fun r => decide (r.acc = .tx)) && tx && !wordLegal page off v.toNat) ||
    (match ringGroup page off with
      | some g => !s.tailOk g (fget v 11 0)
      | none => false)

/-- A write by a requester. A write of a word that holds a TX field is refused outside the requester's own transaction (R6, R36), whatever
the word's other fields. -/
def State.busWrite (s : State) (req page off width : Nat) (v : W32) : State × BusResp :=
  match s.busCheck req page off width with
  | .error r => r
  | .ok (b, _) =>
    match blockRefusal b req off with
    | some code => s.busRefuse req page off code
    | none =>
      let rows := pageRows page off
      let tx := s.mayTx req page off
      if (rows.any fun r => decide (r.acc = .tx)) ∧ tx = false then s.conflict.busRefuse req page off 3
      else if s.reserved page off v tx rows then s.busRefuse req page off 2
      else
        (State.writeEffect s (rows.foldl (fun s r => s.writeField page off v tx r) s) b req page off v, {})

/-! ### Accesses by offset in the register space (R20) -/

/-- Remember a requester's last response. -/
def State.answer (s : State) (req : Nat) (r : BusResp) : State := { s with resp := SMap.setD {} s.resp req r }

/-- A read at a byte offset of the register space. -/
def State.regLoad (s : State) (req a width : Nat) : State × BusResp :=
  let r := s.busRead req (a / 4096) (a % 4096) width
  (r.1.answer req r.2, r.2)

/-- A write at a byte offset of the register space. -/
def State.regStore (s : State) (req a width : Nat) (v : W32) : State × BusResp :=
  let r := s.busWrite req (a / 4096) (a % 4096) width v
  (r.1.answer req r.2, r.2)

/-- A register write by page and offset, for the commands that are one. -/
def State.regPut (s : State) (req page off : Nat) (v : W32) : State :=
  if goodReq req then (s.regStore req (4096 * page + off) 4 v).1 else s

/-- The entries of a `REG_READ` or `REG_WRITE` from entry `i` on (R86): the values, the error codes, and whether every entry was
performed. -/
def State.regEntries (params : List Byte) (writing : Bool) : Nat → Nat → State → State × List W32 × List Nat × Bool
  | 0, _, s => (s, [], [], true)
  | n + 1, i, s =>
    let a := be params ((if writing then 8 else 4) * i) 4
    let v := BitVec.ofNat 32 (be params (8 * i + 4) 4)
    let r := if a ≥ 2 ^ 24 then (s, busErr 7)
      else if writing then s.regStore reqMgmt a 4 v else s.regLoad reqMgmt a 4
    if r.2.ok then
      let t := State.regEntries params writing n (i + 1) r.1
      (t.1, (if writing then 0 else r.2.value) :: t.2.1, 0 :: t.2.2.1, t.2.2.2)
    else (r.1, List.replicate (n + 1) 0, r.2.code :: List.replicate n 0xFF, false)

/-- RESULT of `REG_READ` and `REG_WRITE` (R86): 192 B of values, then 48 B of codes. -/
def regResult (vals : List W32) (codes : List Nat) : List Byte :=
  padTo 192 (vals.flatMap fun v => beBytes 4 v.toNat) ++ padTo 48 (codes.map fun c => BitVec.ofNat 8 c)

/-- `REG_READ` or `REG_WRITE` runs. -/
def State.regOps (s : State) (n : Nat) (it : Item) : State :=
  let r := State.regEntries it.params (it.op = 0x4B) it.count 0 s
  r.1.finish n (if r.2.2.2 then stSuccess else stInvalidField) (regResult r.2.1 r.2.2.1)

/-- Update-DR of `REGACC` (R493, R532): one access as requester 0x19, which has ended when the command has. -/
def State.regacc (s : State) (write : Bool) (off : Nat) (data : W32) : State :=
  if s.jtag.ir ≠ 0x20 then s
  else
    let a := off % 2 ^ 24 / 4 * 4
    let r := if s.lc = 2 ∨ s.lc = 4 then (s.answer reqJtag (busErr 7), busErr 7)
      else if write then s.regStore reqJtag a 4 data else s.regLoad reqJtag a 4
    { r.1 with jtag := { r.1.jtag with done := true, err := !r.2.ok, data := if write ∨ r.2.ok = false then 0 else r.2.value } }

/-! ### Commands -/

/-- The block of a page finds a parity error in the storage of the register at an offset: CODE 0x04 (R30). A page that nobody can reach
finds none. -/
def State.parityHit (s : State) (page off : Nat) : State :=
  if (pageBlk page).isSome && s.pageOn page then s.capture (headerPage page) 0x04 0 off else s

/-- `REGISTER_WRITE` (R6): a write of `width` bytes at a byte offset of the register space; `parity` says that the block finds a parity
error in the register's storage as it writes (R30). -/
def execRegisterWrite (req off width : Nat) (v : BitVec 32) (parity : Bool) (s : State) : Host.Outcome State Fault Refusal :=
  .next (if goodReq req ∧ off < 2 ^ 24 then
      let t := (s.regStore req off width v).1
      if parity then t.parityHit (off / 4096) (off % 4096) else t
    else s)

/-- `ERR_CLR` (R29) written with `ENABLE` as it stands. -/
def execErrClr (page req : Nat) (s : State) : Host.Outcome State Fault Refusal :=
  .next (s.regPut req page 0x008 (BitVec.ofNat 32 (4 + s.fld page 0x008 0 0)))

/-- `IRQ_FORCE` (R29). -/
def execIrqForce (page req : Nat) (bits : BitVec 32) (s : State) : Host.Outcome State Fault Refusal :=
  .next (s.regPut req page 0x018 bits)

/-- `DOM_REQ` (R461): word 0 or 1. -/
def execDomReq (req word : Nat) (v : BitVec 32) (s : State) : Host.Outcome State Fault Refusal :=
  .next (s.regPut req 0x003 (0x040 + 4 * (word % 2)) v)

/-- `CORE_RESET` (R481). -/
def execCoreReset (req : Nat) (mask : BitVec 32) (s : State) : Host.Outcome State Fault Refusal := .next (s.regPut req 0x005 0x048 mask)

/-- `CORE_HOLD` (R481). -/
def execCoreHold (req : Nat) (mask : BitVec 32) (s : State) : Host.Outcome State Fault Refusal := .next (s.regPut req 0x005 0x044 mask)

/-- `BOOT_STAGE` (R488, R499): `BOOT_STAT.STAGE` is written. -/
def execBootStage (req stage : Nat) (s : State) : Host.Outcome State Fault Refusal :=
  .next (s.regPut req 0x002 0x080 (BitVec.ofNat 32 (stage % 16 * 16)))

/-- `FWQ_TAIL` (R252) of a group: 0 compression, 1 decompression, 2 digest. -/
def execFwqTail (grp req v : Nat) (s : State) : Host.Outcome State Fault Refusal :=
  .next (if grp < 3 then s.regPut req (grpBase grp) 0x0CC (BitVec.ofNat 32 v) else s)

/-- `REGACC` (R532). -/
def execRegacc (write : Bool) (off : Nat) (data : BitVec 32) (s : State) : Host.Outcome State Fault Refusal :=
  .next (s.regacc write off data)

end Sys2Proof.Machine
end

