-- ==== Sys2Proof/Machine/Start.lean ====
section
/-! DEFINITION. From acceptance to work (R93, R105, R108, R137, R429): what a command does at the instant it takes its ASN, how its
work starts, forwarding its parts, and best-effort commands. -/

namespace Sys2Proof.Machine

/-! ### Forwarded parts (R429) -/

/-- An extent split at stripe boundaries: owner, first block, blocks. -/
def State.stripes (s : State) (inst lba count : Nat) : List (Nat × Nat × Nat) :=
  let sz := 4 * 2 ^ (s.placeOf inst).2
  if count = 0 then []
  else
    (List.range ((lba + count - 1) / sz - lba / sz + 1)).map fun i =>
      let a := max lba ((lba / sz + i) * sz)
      let b := min (lba + count) ((lba / sz + i + 1) * sz)
      (s.ownerOf inst (a / 4), a, b - a)

/-- Forward one part (R429, R436): it carries the time that remains to the owner's working deadline, 10 us before the command's. A
part of a command without a promise carries 0xFFFFFFFF. A write carries its staged data, a scan the image it runs. -/
def State.sendPart (s : State) (n : Nat) (it : Item) (j lba count : Nat) : State :=
  let us := if it.promised then it.deadline - 10 - s.now else 0xFFFFFFFF
  let data := if it.op = 0x02 then readBytes it.wdata (4096 * (lba - it.lba)) (4096 * count)
    else if it.op = 0x08 then (match SMap.find s.scan.progs (progKey it.inst (be it.params 0 4)) with
      | some p => p.image
      | none => [])
    else []
  let s := { s with knot := { s.knot with fwd := s.knot.fwd ++ [(n, j)] } }
  ((s.modItem n fun x => { x with parts := x.parts + 1 }).count (klPage j) 0x04C).knotSend j
    (.part n it.op it.inst lba count it.asn us it.cflags it.params data)

/-- Forward a command's parts to their owners: stripe by stripe, a `FLUSH` to every other member. -/
def State.sendParts (s : State) (n : Nat) (it : Item) : State :=
  if s.isKnot it.inst = false ∨ it.port ≥ 32 then s
  else if isReading it.op || isWriting it.op then
    ((s.stripes it.inst it.lba it.count).filter fun e => decide (e.1 ≠ s.selfId)).foldl (fun s e => s.sendPart n it e.1 e.2.1 e.2.2) s
  else if it.op = 0x05 then (s.partPeers it).foldl (fun s j => s.sendPart n it j 0 0) s
  else s

/-! ### Features (R85, R503) -/

/-- `SET_FEATURE` on its connection. Setting mask bit 8 sends event 8 once where page 0x03 holds entries or its `UNKNOWN` flag is
set (R503). -/
def State.setFeature (s : State) (it : Item) : State :=
  match s.conn it.conn with
  | none => s
  | some x =>
    let v : W64 := BitVec.ofNat 64 it.lba
    if it.count = 1 then
      let i := s.inst x.inst
      let s := s.setConn it.conn { x with asyncMask := v }
      if v.getLsbD 8 && !x.asyncMask.getLsbD 8 && (decide (i.journal ≠ []) || i.jUnknown) then
        s.modConn it.conn fun x => { x with evPending := x.evPending.filter (fun p => p.1 ≠ 8) ++
          [(8, padTo 14 (beBytes 1 (b2n i.jUnknown) ++ beBytes 4 i.journal.length))] }
      else s
    else s.setConn it.conn { x with deferredEvent := v }

/-- The value of a feature. -/
def State.feature (s : State) (it : Item) : Nat :=
  match s.conn it.conn with
  | none => 0
  | some x => if it.count = 1 then x.asyncMask.toNat else x.deferredEvent.toNat

/-! ### Work starts -/

/-- A command covers blocks of a device that has been given up for good (R443). -/
def State.coversEvicted (s : State) (it : Item) : Bool := (s.partPeers it).any fun j => nbit s.knot.evicted j

/-- `DEVICE_RESET` is accepted (R110 steps 1 and 2): admission stops, every other item meets its fate. -/
def State.resetBegin (s : State) (n : Nat) : State :=
  { s with cmd := { s.cmd with resetting := true } }.meetAll stDeviceReset fun m _ => decide (m ≠ n)

/-- A `RESET_INSTANCE` or `DELETE_INSTANCE` takes its place among those of its instance (R159). -/
def State.resetStart (s : State) (n : Nat) (it : Item) : State :=
  if it.count ≥ 1024 then s.finish n stInvalidField
  else (s.modItem n fun x => { x with target := it.count }).queueReset n { it with target := it.count }

/-- The work of a command whose data is complete, or that needs none, by opcode. -/
def State.workOf (s : State) (n : Nat) (it : Item) : State :=
  match it.op with
  | 0x01 | 0x10 | 0x11 => (s.sendParts n it).startReads n
  | 0x02 | 0x03 | 0x04 => ((s.sendParts n it).startWrites n).writeDone n
  | 0x05 => s.sendParts n it
  | 0x08 => ((if it.port < 32 then s.startScan n it else s).sendParts n it).startReads n
  | 0x09 => s.loadProgram n it (readBytes it.wdata 0 it.outLen)
  | 0x0B => s.searchGo n
  | 0x0C => { s with srch := { s.srch with updQ := s.srch.updQ ++ [n] } }
  | 0x20 => (s.modItem n fun x => { x with out := s.identify it }).finish n stSuccess
  | 0x21 => s.getLog n it
  | 0x22 => (s.setFeature it).finish n stSuccess
  | 0x23 => s.finish n stSuccess (beBytes 8 (s.feature it))
  | 0x40 => s.createInst n it
  | 0x41 | 0x42 => s.resetStart n it
  | 0x43 => s.migLog n it
  | 0x44 => s.setQuota n it
  | 0x48 => s.fwDownload n it
  | 0x49 => s.fwBegin n it
  | 0x4A | 0x4B => s.regOps n it
  | 0x4C => s.resetBegin n
  | _ => s.finish n stSuccess

/-- A command's work starts (R105): it runs, but for a seal command, which stays queued until firmware posts its request (R416).
An instance whose context is lost, or an evicted owner, ends it (R389, R443). -/
def State.begin' (s : State) (n : Nat) : State :=
  match s.item n with
  | none => s
  | some it =>
    if isSeal it.op then s.modItem n fun x => { x with state := .queued }
    else
      let it := { it with state := .running }
      let s := s.modItem n fun x => { x with state := .running }
      if (s.inst it.inst).ctxBad && !isMgmt it.op then (s.endWriter n).finish n stDram it.cutResult
      else if s.coversEvicted it then (s.endWriter n).finish n stPeerLost it.cutResult
      else s.workOf n it

/-! ### The instant of the ASN (R93, R94, R108) -/

/-- What a `FLUSH` covers at its acceptance (R108): queued and running commands, with `MEDIA` the cached data too. Writers in their data
phase are counted as excluded. -/
def State.setCovers (s : State) (n : Nat) (it : Item) : State :=
  let mine := s.cmd.items.filter fun e => decide (e.2.inst = it.inst) && e.2.outstanding && decide (e.1 ≠ n) &&
    decide (e.2.asn < it.asn) && decide (e.2.asn ≠ 0)
  let cov := mine.filter fun e => decide (e.2.state = .queued ∨ e.2.state = .running)
  let recs := if it.cflags % 2 = 1 then (s.flash.recs.filter fun r => decide (r.2.inst = it.inst)).map (·.1) else []
  let ex := (mine.filter fun e => e.2.inData && isWriting e.2.op).length
  s.modItem n fun x => { x with covers := cov.map (·.1), coverAsns := (cov.filter fun e => isWriting e.2.op).map (·.2.asn),
                                coverRecs := recs, excluded := ex }

/-- A command takes its ASN. -/
def State.takeAsn (s : State) (n asn : Nat) : State :=
  match s.item n with
  | none => s
  | some it =>
    let s := s.modItem n fun x => { x with asn := asn }
    let k := s.knot
    let s := if s.isKnot it.inst then { s with knot := { k with maxAsn := SMap.updD 0 k.maxAsn it.inst (max asn) } } else s
    if isReading it.op then s.takeReads n
    else if it.op = 0x05 then s.setCovers n { it with asn := asn }
    else s

/-- The next ASN of an instance whose counter this device holds (R93, R433): its own, or a knot instance's at the home. -/
def State.ownAsn (s : State) (it : Item) : State × Nat :=
  if s.isKnot it.inst then s.nextAsn it.inst (isWriting it.op) it.lba it.count
  else
    let a := (s.inst it.inst).asn + 1
    (s.modInst it.inst fun x => { x with asn := a }, a)

/-- Whether another device grants an item's ASN (R433). -/
def State.askHome (s : State) (it : Item) : Bool := s.isKnot it.inst && decide (s.home ≠ s.selfId)

/-- Ask the home for an ASN. -/
def State.sendAsnReq (s : State) (n : Nat) (it : Item) : State :=
  let r : AsnReq := { item := n, inst := it.inst }
  { s with knot := { s.knot with asnReqs := s.knot.asnReqs ++ [r] } }.knotSend s.home (.asnReq n it.op it.inst it.lba it.count)

/-- A write reserves its room in the cache (R205). -/
def State.reserve (s : State) (n : Nat) (it : Item) : State :=
  if it.cacheNeed = 0 then s else { s with flash := { s.flash with resv := SMap.put s.flash.resv n it.cacheNeed } }

/-- Accept a command (R93, R115): `ACCEPT` is committed and counted; a command with write data enters its data phase, any other
starts. -/
def State.accept (s : State) (n asn : Nat) : State :=
  match s.item n with
  | none => s
  | some it =>
    let s := s.modItem n fun x => { x with promised := true, state := if it.outLen > 0 then .dataPhase else .queued }
    let s := (s.reserve n it).sendSeq it.conn tAccept 0 it.tag (beBytes 4 it.deadlineUs ++ beBytes 1 it.cls ++ zeros 3)
    let s := (s.countPair 0x010 0x060 1).takeAsn n asn
    (if it.outLen > 0 then s else s.begin' n).lateAborts n

/-! ### Best-effort commands (R63, R137) -/

/-- A command of a 1.0 or 1.1 connection is queued with an ASN. -/
def State.queueBest (s : State) (n asn : Nat) : State :=
  match s.item n with
  | none => s
  | some it =>
    let s := s.modItem n fun x => { x with cls := it.clsOf, state := if it.outLen > 0 then .dataPhase else .queued }
    let s := { s with cmd := { s.cmd with bestQ := s.cmd.bestQ ++ [n] } }
    (s.takeAsn n asn).lateAborts n

/-- A best-effort command is queued at its receipt, or waits in its connection while the command table is full, or while the home
has not granted its ASN. A reset of its instance or of the device refuses it (R106). -/
def State.offerBest (s : State) (n : Nat) : State :=
  match s.item n with
  | none => s
  | some it =>
    let x := s.inst it.inst
    if it.state ≠ .deciding ∨ s.cmd.stopped ∨ s.cmd.decideQ.contains n then s
    else if s.cmd.resetting then s.refuseItem n stDeviceReset
    else if decide (x.state = .resetting ∨ x.state = .deleting) && it.ofInst it.inst then s.refuseItem n stInstanceReset
    else if s.acceptedCount ≥ 131072 ∨ s.knot.asnReqs.any (fun r => decide (r.item = n)) then s
    else if s.askHome it then s.sendAsnReq n it
    else
      let r := s.ownAsn it
      r.1.queueBest n r.2

/-- Commands that wait in their connections for the command table (R137), oldest first. -/
def State.bestRetry (s : State) : State :=
  (s.cmd.items.filter fun e => decide (e.2.state = .deciding) && !s.cmd.decideQ.contains e.1 &&
    decide (e.2.port < 32)).foldl (fun s e =>
      match s.conn e.2.conn with
      | some x => if x.version < 0x12 then s.offerBest e.1 else s
      | none => s) s

/-- A write finds room in the cache and, mirrored, at the buddy, and the dump reserve erased (R203, R205, R206, R438). -/
def State.bestRoom (s : State) (it : Item) : Bool :=
  !isWriting it.op || (decide (it.cacheNeed ≤ s.cacheRoom) && !s.flash.gcRefuse && s.reserveErased &&
    (!s.mirrored it.inst || decide (it.cacheNeed ≤ s.knot.credit)))

/-- Whether a queued best-effort command may start now: it depends on no firmware that is being exchanged (R111), waits for no
writer (R95), and finds room and capacity that the order of R131 leaves to it. -/
def State.bestReady (s : State) (it : Item) : Bool :=
  decide (it.state = .queued) && (decide (s.cmd.activating = 0) || isDataPath it.op it.cflags) && !s.readWaits it && s.bestRoom it &&
    s.bestCap it

/-- Queued commands of an instance start in ASN order; those that wait for an activation do not hold back others. -/
def State.bestFirst (s : State) (n : Nat) (it : Item) : Bool :=
  s.cmd.bestQ.all fun m => decide (m = n) || match s.item m with
    | none => true
    | some o => decide (o.inst ≠ it.inst) || decide (o.state ≠ .queued) || decide (it.asn < o.asn) ||
        (decide (s.cmd.activating ≠ 0) && !isDataPath o.op o.cflags)

/-- `BEST_EFFORT_START` (R137). -/
def State.bestStart (s : State) (n : Nat) : State :=
  match s.item n with
  | none => s
  | some it =>
    if it.state = .deciding then s.bestRetry
    else if s.cmd.bestQ.contains n && s.enabled 0x010 && s.bestFirst n it && s.bestReady it then
      let s := { s with cmd := { s.cmd with bestQ := s.cmd.bestQ.filter (· != n) } }
      (s.reserve n it).begin' n
    else s

/-- `BEST_EFFORT_START` (R131, R137): the item whose turn the capacity allows. -/
def execBestEffortStart (item : Nat) (s : State) : Host.Outcome State Fault Refusal := .next (s.bestStart item)

end Sys2Proof.Machine
end

