-- ==== Sys2Proof/Machine/Admit.lean ====
section
/-! DEFINITION. Rows of the command engine and of Cadence: the admission decision (R132 to R136), completion (R99, R108, R110). -/

namespace Sys2Proof.Machine

/-! ### The decision (R132, R134, R433) -/

/-- A decision takes effect: `BUSY`, a refusal, or bookings and `ACCEPT`; where another device holds the counter, the home is asked
for an ASN first (R433). A retry hint the spec does not give is a free value of at least 1 us. -/
def State.applyVerdict (s : State) (n : Nat) (it : Item) : Verdict → State
  | .wait => s
  | .refuse st => s.refuseItem n st
  | .busy r t => s.sendBusy n it r t
  | .busyOpen r =>
    let f := s.free
    f.2.sendBusy n it r (1 + f.1 % (2 ^ 32 - 1))
  | .grant d cls bs st =>
    let c := s.cad
    let s := { s with cad := { c with bookings := bs, standing := c.standing ++ st } }
    let s := s.modItem n fun x => { x with deadlineUs := d, cls := cls }
    if s.askHome it then s.sendAsnReq n it
    else
      let r := s.ownAsn it
      r.1.accept n r.2

/-- Cadence decides on the command received first (R132): not during an admission hold (R37), nor once a power fail has stopped
admission (R474), nor on plans that leave out what the rules book (log entry 37). `ns` is the time the decision took (R141). -/
def State.admitWork (s : State) (plans : List (List Demand)) (late : Bool) (ns : Nat) : State :=
  match s.cmd.decideQ with
  | [] => s
  | n :: rest =>
    if s.cfg.hold || s.cmd.stopped then s
    else
      match s.item n with
      | none => { s with cmd := { s.cmd with decideQ := rest } }
      | some it =>
        match s.decide' n it plans late with
        | .wait => s
        | v =>
          let s := { s with cmd := { s.cmd with decideQ := rest } }
          (s.setFld 0x010 0x05C 15 0 (max (s.fld 0x010 0x05C 15 0) (min ns 0xFFFF))).applyVerdict n it v

/-! ### Completion (R99) -/

/-- Every command a `DEVICE_RESET` waits for has its report, and every cached write is programmed (R110 steps 2 to 4). -/
def State.resetReady (s : State) (n : Nat) : Bool :=
  s.cmd.items.all (fun e => decide (e.1 = n) || !e.2.outstanding) && s.flash.recs.isEmpty

/-- Whether an item's `RESP` may be committed: its work has ended, its output is sent (R74), its mirror records are held (R438),
its parts have ended (R429). -/
def State.mayComplete (s : State) (it : Item) : Bool :=
  it.finished && it.outstanding && !it.aborted && decide (it.state ≠ .deciding) && decide (it.mirrorWait = 0) && decide (it.parts = 0) &&
    (it.out.isEmpty || decide (it.port ≥ 32) || s.deaf it) && s.txnDone it && (!it.unread || decide (it.inLen = 0) || s.deaf it)

/-- What follows the commit of a command's `RESP`: a created instance (R149), an unloaded program (R341), cleared log entries (R91), the
end of an activation (R498). -/
def State.afterResp (s : State) (n : Nat) (it : Item) : State :=
  let s := if it.op = 0x40 ∧ it.status = stSuccess then s.created it.target else s
  let s := if it.op = 0x0A ∧ it.status = stSuccess then s.unloadProgram it.inst it.count else s
  let s := s.clearLog it
  if s.cmd.activating = n + 1 then { s with cmd := { s.cmd with activating := 0, actEndUs := 0 } } else s

/-- `COMMAND_COMPLETE` of an item. -/
def State.complete (s : State) (n : Nat) : State :=
  let s := s.sealExpire
  match s.item n with
  | none => s
  | some it =>
    let s := if it.op = 0x4C ∧ it.state = .running ∧ s.resetReady n then s.finish n stSuccess else s
    let s := s.txnStep n
    match s.item n with
    | none => s
    | some it =>
      if s.mayComplete it then
        let s := if it.unread && decide (it.inLen = 0) then s.migSnapshot n else s
        ((s.report n it.status it.result).afterResp n it).bestRetry
      else s

/-- `FLUSH_COMPLETE` of an item (R108, R429): every covered command has passed its completion point; with `MEDIA` the cache records
covered at its acceptance, and those that the covered writes have made since, are programmed; every other member has ended its
part. -/
def State.flushDone (s : State) (n : Nat) : State :=
  match s.item n with
  | none => s
  | some it =>
    let passed := it.covers.all fun m => match s.item m with
      | some o => !o.outstanding
      | none => true
    let programmed := (it.coverRecs.all fun c => (s.cacheRec c).isNone) && (it.cflags % 2 == 0 ||
      s.flash.recs.all fun r => decide (r.2.inst ≠ it.inst) || !it.coverAsns.contains r.2.asn)
    if decide (it.op = 0x05) && decide (it.state = .running) && !it.aborted && !it.finished && passed && programmed &&
        decide (it.parts = 0) then
      (s.finish n stSuccess (beBytes 4 it.excluded)).report n stSuccess (beBytes 4 it.excluded)
    else s

/-! ### Commands -/

/-- `ADMISSION_DECISION` (R132 to R136). -/
def execAdmissionDecision (plans : List (List Demand)) (late : Bool) (ns : Nat) (s : State) : Host.Outcome State Fault Refusal :=
  .next (s.admitWork plans late ns)
/-- `COMMAND_COMPLETE` (R99, R127). -/
def execCommandComplete (item : Nat) (s : State) : Host.Outcome State Fault Refusal := .next (s.complete item)
/-- `FLUSH_COMPLETE` (R108). -/
def execFlushComplete (item : Nat) (s : State) : Host.Outcome State Fault Refusal := .next (s.flushDone item)

end Sys2Proof.Machine
end

