-- ==== Sys2Proof/Machine/Parts.lean ====
section
/-! DEFINITION. Parts of commands that cross a knot (R429, R433, R435, R436): grants of ASNs, parts received from a peer, results of
parts forwarded to one. -/

namespace Sys2Proof.Machine

/-! ### Grants (R433) -/

/-- A command of a 1.2 or 1.3 connection. -/
def State.hasPromise (s : State) (it : Item) : Bool :=
  match s.conn it.conn with
  | some x => decide (x.version ≥ 0x12)
  | none => false

/-- Forget a request. -/
def State.dropReq (s : State) (n : Nat) : State :=
  { s with knot := { s.knot with asnReqs := s.knot.asnReqs.filter fun r => r.item ≠ n } }

/-- The home answers a request: a grant (`reason` 0), or a refusal with its `BUSY` reason. A grant that follows a cancellation is
returned unused. A best-effort command that the home refuses asks again: it waits queued where another would be busy (R95). -/
def State.asnGrant (s : State) (n asn reason : Nat) : State :=
  match s.knot.asnReqs.find? fun r => decide (r.item = n) with
  | none => s
  | some r =>
    let s := s.dropReq n
    if r.cancelled then (if reason = 0 then s.knotSend s.home (.unused r.inst asn) else s)
    else
      match s.item n with
      | none => s
      | some it =>
        if reason = 0 then (if s.hasPromise it then s.accept n asn else s.queueBest n asn)
        else if s.hasPromise it then s.applyVerdict n it (.busyOpen reason)
        else s.sendAsnReq n it

/-- 1.9 us have passed without a grant: `BUSY` with `OVERLOAD`, and a cancellation to the home. -/
def State.asnTimeout (s : State) (n : Nat) : State :=
  match s.knot.asnReqs.find? (fun r => decide (r.item = n) && !r.cancelled), s.item n with
  | some _, some it => if s.hasPromise it then (s.cancelAsn n).sendBusy n it 6 2 else s
  | _, _ => s

/-! ### Parts received (R429, R435, R436) -/

/-- Whether every block of a part is this device's own. -/
def State.partOwn (s : State) (p : PartIn) : Bool :=
  decide (p.op = 0x05) || (s.isKnot p.inst && (grainsOf p.lba p.count).all fun g => decide (s.ownerOf p.inst g.1 = s.selfId))

/-- The item that runs a part: a digest's part is a read (R429). -/
def partItem (s : State) (p : PartIn) : Item :=
  let op := if p.op = 0x10 ∨ p.op = 0x11 then 0x01 else p.op
  let it : Item := { conn := 65536, port := 32 + p.peer, tag := p.tag, op := op, inst := p.inst, cflags := p.cflags, count := p.count,
                     lba := p.lba, params := p.params, inLen := 2 ^ 24, promised := decide (p.us ≠ 0xFFFFFFFF), deadlineUs := p.us,
                     startUs := s.now, clockOn := true, wdata := if p.op = 0x02 then writeBytes [] 0 p.data else [] }
  { it with cls := it.clsOf, state := .queued }

/-- The image a forwarded scan runs is kept for that scan alone. -/
def State.partScan (s : State) (n : Nat) (p : PartIn) : State :=
  if p.op ≠ 0x08 then s
  else
    let k := progKey (1024 + n) 0
    let g : Program := { inst := p.inst, image := p.data, unloaded := true }
    let x : ScanSt := { prog := k }
    { s with scan := { s.scan with progs := SMap.put s.scan.progs k g, scans := SMap.put s.scan.scans n x } }

/-- A part arrives. -/
def State.partIn (s : State) (p : PartIn) : State :=
  if s.linkUp p.peer = false then s
  else if p.abort then
    (s.knot.parts.filter fun q => decide (q.peer = p.peer) && decide (q.tag = p.tag)).foldl (fun s q => s.markAborted q.item) s
  else
    let s := s.count (klPage p.peer) 0x050
    if s.partOwn p = false then
      (s.capture (klPage p.peer) 0x11 0 p.inst).knotSend p.peer (.result p.tag p.lba p.count stPeerLost [] [])
    else if s.cmd.resetting then s.knotSend p.peer (.result p.tag p.lba p.count stDeviceReset [] [])
    else
      let n := s.cmd.next
      let q : PartSt := { peer := p.peer, op := p.op, inst := p.inst, lba := p.lba, count := p.count, asn := p.asn,
                          deadlineUs := p.us, tag := p.tag, item := n }
      let s := { s with cmd := { s.cmd with next := n + 1 }, knot := { s.knot with parts := s.knot.parts ++ [q] } }
      (((s.setItem n (partItem s p)).partScan n p).takeAsn n p.asn).begin' n

/-! ### Results of forwarded parts (R429) -/

/-- A grain's 16 KiB of a part's block data, of which the blocks of a mask stand one after another from `o`. -/
def spreadBlocks (data : List Byte) (o mask : Nat) : List Byte :=
  ((List.range 4).foldl (fun (acc : List Byte × Nat) b =>
    if nbit mask b then (acc.1 ++ cut data acc.2 4096, acc.2 + 4096) else (acc.1 ++ zeros 4096, acc.2)) ([], o)).1

/-- Block data of a read's part fills the grains that another device owns. -/
def State.fillFar (s : State) (n lba count : Nat) (data : List Byte) : State :=
  ((grainsOf lba count).foldl (fun (acc : State × Nat) (g : Nat × Nat) =>
    (acc.1.modGw (.item n) g.1 (fun w => { w with st := .done, taken := true, data := spreadBlocks data acc.2 g.2 }),
     acc.2 + 4096 * (maskBlocks g.2).length)) (s, 0)).1

/-- A read's part ended with an error: the grain of its first failing block fails, with the part's status (R90, R245). -/
def State.failFar (s : State) (n : Nat) (r : PartEnd) : State :=
  let bad := if r.result = [] then r.lba else be r.result 0 8
  let s := s.fillFar n r.lba (bad - r.lba) r.data
  s.modGw (.item n) (bad / 4) fun w => { w with st := .failed, taken := true, err := r.status, detail := be r.result 8 1, bad := bad % 4 }

/-- Framed records of a part with their grain index counted from the command's first grain (R367). -/
def reframe : Nat → Nat → List Byte → List Byte
  | 0, _, _ => []
  | f + 1, base, l =>
    if l.length < 8 then []
    else
      let len := le l 0 2
      let g := if nbit (le l 3 1) 0 then le l 4 4 else le l 4 4 + base
      cut l 0 4 ++ leBytes 4 g ++ (l.drop 8).take len ++ reframe f base (l.drop (8 + len))

/-- A scan's part ended: its records go to the receiver's egress, its counts are added; an early stop there stops the scan at the
lowest grain that a part has not delivered (R368, R429). -/
def State.scanFar (s : State) (n : Nat) (it : Item) (r : PartEnd) : State :=
  let base := r.lba / 4 - it.lba / 4
  let resume := be r.result 0 4
  let data := if it.framed then reframe (r.data.length + 1) base r.data else r.data
  let tooBig := decide (it.ring = false) && decide (it.sent + it.out.length + data.length > it.inLen)
  let upto := if r.result = [] ∨ tooBig then 0 else min (r.count / 4) resume
  let idx := (List.range upto).map (base + ·)
  let s := if tooBig ∨ r.result = [] then s else s.modItem n fun x => { x with out := x.out ++ data }
  let pos := it.sent + it.out.length + data.length
  let s := s.modScan n fun x => { x with
    ended := x.ended ++ idx, marks := x.marks ++ idx.map (fun i => (i, pos)), cut := x.cut + be r.result 8 8,
    delivered := x.delivered + be r.result 16 8, results := x.results + be r.result 24 4, skipped := x.skipped + be r.result 28 4,
    badGrains := x.badGrains + be r.result 32 4 }
  let s := s.modItem n fun x => { x with grains := x.grains.filter fun g => !idx.contains (g.grain - it.lba / 4) }
  if r.status = stSuccess ∧ resume = 0xFFFFFFFF ∧ tooBig = false then s.scanAdvance n
  else
    let fg := be r.result 36 4
    let s := if r.result = [] then s else s.modScan n fun x => { x with
      faultGrain := if fg = 0xFFFFFFFF then x.faultGrain else fg + base, faultPc := be r.result 40 4, faultCode := be r.result 44 1,
      faultCore := be r.result 45 1 }
    s.scanStop n r.status (be r.result 4 4 ||| (if tooBig then 2 else 0))

/-- The first locked block of a part's `RETENTION_LOCKED` counts for the command (R88). -/
def Item.lockFail (it : Item) (lba : Nat) : Item :=
  if it.firstFail = 0 ∨ lba + 1 < it.firstFail then { it with firstFail := lba + 1 } else it

/-- A part's result arrives. -/
def State.partOut (s : State) (r : PartEnd) : State :=
  if s.knot.fwd.contains (r.item, r.peer) = false then s
  else
    let s := { s with knot := { s.knot with fwd := s.knot.fwd.erase (r.item, r.peer) } }
    match s.item r.item with
    | none => s
    | some it =>
      let s := s.modItem r.item fun x => { x with parts := x.parts - 1 }
      if it.aborted || it.finished || !it.outstanding then s
      else if it.op = 0x08 then s.scanFar r.item it r
      else if isReading it.op then
        (if r.status = stSuccess then s.fillFar r.item r.lba r.count r.data else s.failFar r.item r).deliver 65537 r.item
      else if isWriting it.op then
        if r.status = stSuccess then s.writeDone r.item
        else if r.status = stRetentionLocked then (s.modItem r.item fun x => x.lockFail (be r.result 0 8)).writeDone r.item
        else ((s.dropWork r.item).endWriter r.item).finish r.item r.status r.result
      else if r.status = stSuccess then s
      else s.finish r.item r.status r.result

/-! ### Commands -/

/-- `ASN_GRANT` (R433): the home's grant (`reason` 0) or refusal. -/
def execAsnGrant (item asn reason : Nat) (s : State) : Host.Outcome State Fault Refusal := .next (s.asnGrant item asn reason)
/-- `ASN_GRANT_TIMEOUT` (R433). -/
def execAsnGrantTimeout (item : Nat) (s : State) : Host.Outcome State Fault Refusal := .next (s.asnTimeout item)
/-- `PART_RECEIVE` (R429, R435, R436). -/
def execPartReceive (p : PartIn) (s : State) : Host.Outcome State Fault Refusal := .next (s.partIn p)
/-- `PART_RESULT` (R429). -/
def execPartResult (r : PartEnd) (s : State) : Host.Outcome State Fault Refusal := .next (s.partOut r)

end Sys2Proof.Machine
end

