-- ==== Sys2Proof/Machine/Checks.lean ====
section
/-! DEFINITION. The checks at receipt (R77, R81, R82, R87, and the chapters that decide a command's fields). -/

namespace Sys2Proof.Machine

/-! ### Check 1: the opcode (R63, R82, R83, R491) -/

/-- Opcodes of R82 and R83. -/
def opAssigned (op : Nat) : Bool :=
  (decide (1 ≤ op) && decide (op ≤ 5)) || (decide (8 ≤ op) && decide (op ≤ 0x0C)) || op = 0x10 || op = 0x11 || isSeal op ||
    (decide (0x20 ≤ op) && decide (op ≤ 0x23)) || (decide (0x40 ≤ op) && decide (op ≤ 0x44)) ||
    (decide (0x48 ≤ op) && decide (op ≤ 0x4C))

/-- An opcode that the connection's version has (R63). -/
def opInVersion (op version : Nat) : Bool :=
  opAssigned op && (!(op = 8 || op = 9 || op = 0x0A) || decide (version ≥ 0x11)) && (!isSeal op || decide (version ≥ 0x13))

/-- In recovery the boot ROM takes three opcodes, in `SCRAP` one (R491). -/
def State.opInStage (s : State) (op : Nat) : Bool :=
  if s.stageNow ≠ 5 then true else if s.lc = 4 then decide (op = 0x20) else op = 0x20 || op = 0x48 || op = 0x49

/-! ### Check 2: permission (R142, R143, R150, R152, R154, R265, R287) -/

/-- A connection of the `MGMT` class: of the management port, or of a host port the map gives that class. -/
def State.isMgmtPort (s : State) (port : Nat) : Bool := decide (port ≥ 16) || decide (s.hpClass port = 2)

/-- A command names a digest key slot that its instance has not been granted (R265). -/
def slotDenied (i : InstSt) (c : CmdIn) : Bool :=
  let k := le c.params 1 1
  decide (c.params.length ≥ 2) && decide (k < 64) && !i.keySlots.getLsbD k

/-- Whether a command is not permitted. -/
def State.denied (s : State) (x : Conn) (op : Nat) (c : CmdIn) : Bool :=
  let i := s.inst x.inst
  let host := x.port < 16 ∧ s.hpClass x.port ≠ 2
  decide (host ∧ (s.hpClass x.port ≠ 1 ∨ op > 0x23 ∨ nbit i.portMask x.port = false)) || (isSeal op && !nbit i.iflags 0) ||
    (decide (x.port ≥ 16) && decide (i.state ≠ .active) && !(isMgmt op || (decide (0x20 ≤ op) && decide (op ≤ 0x23)))) ||
    ((op = 0x10 || op = 0x11) && slotDenied i c) || (decide (op = 0x0C) && nbit c.cflags 0 && !s.isMgmtPort x.port)

/-! ### Check 3: fields -/

/-- Length limit of `OUT_LEN` and `IN_LEN` (R75). -/
def lenMax : Nat := 16777216

/-- The body's form and the descriptor (R53, R75, R77, R81). -/
def formBad (x : Conn) (op : Nat) (c : CmdIn) : Bool :=
  decide (c.bodyCut ≠ 0) || decide (c.params.length > 464) || decide (c.params.length % 4 ≠ 0) || decide (c.reserved ≠ 0) ||
    decide (c.xflags > 1) || decide (c.outLen > lenMax) || decide (c.inLen > lenMax) ||
    (decide (c.xflags = 1) && (decide (op ≠ 8) || decide (x.version < 0x12)))

/-- PARAMS bytes a command uses. -/
def usedParams (op : Nat) (c : CmdIn) : Nat :=
  if op = 8 then 112 + be c.params 14 2
  else if op = 0x0B then 48 * c.count
  else if op = 0x10 then 16
  else if op = 0x11 then 80
  else if op = 0x18 then 48
  else if op = 0x19 then 128
  else if op = 0x40 then 32
  else if op = 0x44 then (if nbit c.lba 11 then 40 else 32)
  else if op = 0x43 ∧ c.cflags % 4 = 1 then 16 + 24 * be c.params 8 1
  else if op = 0x4A then 4 * c.count
  else if op = 0x4B then 8 * c.count
  else 0

/-- Commands whose chapter states the length of the body: PARAMS may not go beyond what they use, not even with zeroes (R152, R264,
R366). -/
def exactParams (op : Nat) (c : CmdIn) : Bool := op = 8 || op = 0x10 || op = 0x11 || (decide (op = 0x44) && nbit c.lba 11)

/-- PARAMS too short, or with bytes beyond those used that are not 0 (R81). -/
def paramsBad (op : Nat) (c : CmdIn) : Bool :=
  let u := usedParams op c
  decide (c.params.length < u) || (exactParams op c && decide (c.params.length ≠ u)) || (c.params.drop u).any fun b => decide (b ≠ 0)

/-- CFLAGS bits a command defines (R80). -/
def flagsOf (op : Nat) : Nat :=
  if op = 0x05 ∨ op = 0x0C ∨ op = 0x18 ∨ op = 0x21 ∨ op = 0x48 then 1 else if op = 0x1A ∨ op = 0x43 ∨ op = 0x49 then 3 else 0

/-- COUNT, LBA and CFLAGS out of range (R82, R86, R161, R264, R283, R286, R340, R366, R412, R497, R498): a field a command does not
take must be 0. -/
def rangeBad (op : Nat) (c : CmdIn) : Bool :=
  let z := decide (c.count ≠ 0)
  let l := decide (c.lba ≠ 0)
  let cnt := fun (a b : Nat) => decide (c.count < a) || decide (c.count > b)
  decide (c.cflags / (flagsOf op + 1) ≠ 0) || (match op with
    | 0x01 | 0x02 => cnt 1 4096
    | 0x03 | 0x04 | 0x10 | 0x11 => cnt 1 262144
    | 0x05 | 0x20 | 0x49 | 0x4C => z || l
    | 0x08 => decide (c.count < 4) || decide (c.count % 4 ≠ 0) || decide (c.lba % 4 ≠ 0)
    | 0x09 => cnt 580 262144 || l
    | 0x0A | 0x41 | 0x42 | 0x43 => l
    | 0x0B => cnt 1 8 || l
    | 0x0C => cnt 1 256 || l
    | 0x18 => if nbit c.cflags 0 then cnt 1 262144 else z || l
    | 0x19 => z || l
    | 0x1A => z || decide (c.cflags % 4 = 3) || (decide (c.cflags % 4 ≠ 1) && l)
    | 0x21 => decide (c.count < 1) || decide (c.count > 3) || decide (c.inLen < 1) || decide (c.inLen > 1048576)
    | 0x22 => cnt 1 2 || (decide (c.count = 2) && decide (c.lba > 1))
    | 0x23 => cnt 1 2 || l
    | 0x48 => cnt 1 lenMax || decide (c.lba % 4096 ≠ 0) || decide (c.lba + c.count > 33554432)
    | 0x4A | 0x4B => cnt 1 48 || l
    | _ => false)

/-- PARAMS of a `SCAN` (R366). -/
def scanBad (c : CmdIn) : Bool :=
  let p := c.params
  decide (be p 4 4 < 1) || decide (be p 4 4 > 1000000) || decide (be p 12 1 > 1) || decide (be p 13 1 ≠ 0) ||
    decide (be p 14 2 > 256) || decide (be p 14 2 % 4 ≠ 0) || decide (c.inLen < (if c.xflags = 1 then 65536 else 4096))

/-- Key records of a `SEARCH` (R284). -/
def searchBad (i : InstSt) (c : CmdIn) : Bool :=
  decide (i.bank = 0) || (List.range c.count).any fun k =>
    let o := 48 * k
    let seg := be c.params (o + 40) 2
    decide (seg = 0) || decide (seg ≥ 2 ^ i.segs) || decide (be c.params (o + 42) 2 > 1) || decide (be c.params (o + 44) 4 ≠ 0)

/-- PARAMS of `DIGEST` and `COMPARE_DIGEST` (R264, R265). -/
def State.digestBad (s : State) (op : Nat) (c : CmdIn) : Bool :=
  let alg := le c.params 0 1
  let k := le c.params 1 1
  !algOk alg || (cut c.params 2 14).any (fun b => decide (b ≠ 0)) ||
    (if algHmac alg then decide (k ≥ 64) || !s.ksLoaded k || s.ksHold k || decide (s.ksAlg k ≠ alg) else decide (k ≠ 0xFF)) ||
    (decide (op = 0x11) && (c.params.drop (16 + algLen alg)).any fun b => decide (b ≠ 0))

/-- PARAMS of `SEAL_RECORD` (R412). -/
def sealBad (c : CmdIn) : Bool :=
  let days := be c.params 32 4
  (if nbit c.cflags 0 then decide (days < 1) || decide (days > 36525) else decide (days ≠ 0)) ||
    (cut c.params 36 12).any fun b => decide (b ≠ 0)

/-- Check 3 of R87. -/
def State.fieldBad (s : State) (x : Conn) (op : Nat) (c : CmdIn) : Bool :=
  let i := s.inst x.inst
  formBad x op c || rangeBad op c || paramsBad op c || (match op with
    | 0x08 => scanBad c
    | 0x0B => searchBad i c
    | 0x0C => !nbit c.cflags 0 && decide (i.bank = 0)
    | 0x10 | 0x11 => s.digestBad op c
    | 0x18 => sealBad c
    | _ => false)

/-! ### Checks 4 to 8 -/

/-- `OUT_LEN` that R82 derives from the body. -/
def outLenOf (op : Nat) (c : CmdIn) : Nat :=
  match op with
  | 0x02 => 4096 * c.count
  | 0x09 | 0x48 => c.count
  | 0x0C => 64 * c.count
  | _ => 0

/-- `IN_LEN` that R82 derives from the body; a length the command leaves to the initiator is its own. -/
def inLenOf (op : Nat) (c : CmdIn) : Nat :=
  match op with
  | 0x01 => 4096 * c.count
  | 0x08 => be c.params 8 4
  | 0x0B => 16 * c.count
  | 0x20 => 4096
  | 0x21 => c.inLen
  | 0x43 => if c.cflags % 4 ≥ 2 then c.inLen else 0
  | _ => 0

/-- Commands whose extent check 5 tests. -/
def hasExtent (op : Nat) (c : CmdIn) : Bool := isReading op || isWriting op || (decide (op = 0x18) && nbit c.cflags 0)

/-- Any block of an extent of an instance lies under a retention lock; the whole instance with `none`. -/
def State.locked (s : State) (inst : Nat) (ext : Option (Nat × Nat)) : Bool :=
  s.flash.locks.any fun l => decide (l.2.inst = inst) && match ext with
    | none => true
    | some e => decide (l.2.lba < e.1 + e.2) && decide (e.1 < l.2.lba + l.2.count)

/-- The first failing check of R87, as its status. -/
def State.check (s : State) (c : Nat) (x : Conn) (op : Nat) (m : CmdIn) : Option Nat :=
  let i := s.inst x.inst
  if !(opInVersion op x.version && s.opInStage op) then some stInvalidOpcode
  else if s.denied x op m then some stPermission
  else if s.fieldBad x op m then some stInvalidField
  else if m.outLen ≠ outLenOf op m ∨ m.inLen ≠ inLenOf op m then some stLengthMismatch
  else if hasExtent op m ∧ m.lba + m.count > i.capacity then some stLbaRange
  else if (isWriting op ∧ s.locked x.inst (some (m.lba, m.count))) ∨ (op = 0x41 ∧ s.locked m.count none) then some stRetentionLocked
  else if (op = 0x08 ∧ s.hasProg x.inst (be m.params 0 4) = false) ∨ (op = 0x0A ∧ s.hasProg x.inst m.count = false) then
    some stProgramInvalid
  else if s.heldByConn c ≥ x.maxCmds ∨ (i.state ≠ .free ∧ s.heldByInst x.inst ≥ i.cmdQuota) then some stQuota
  else none

/-! ### Receipt (R65, R77, R116, R262) -/

/-- The item of a command that has passed the checks; its deadline clock runs from now unless it carries write data (R116). -/
def cmdItem (s : State) (c : Nat) (x : Conn) (op : Nat) (m : CmdIn) : Item :=
  { conn := c, port := x.port, tag := m.pdu.tag, op := op, inst := x.inst, cflags := m.cflags, count := m.count, lba := m.lba,
    params := m.params, outLen := m.outLen, inLen := m.inLen, bufKey := m.bufKey, bufOffset := m.bufOffset,
    ring := decide (m.xflags % 2 = 1), startUs := s.now, clockOn := decide (m.outLen = 0),
    keySlot := if (op = 0x10 ∨ op = 0x11) ∧ algHmac (le m.params 0 1) then le m.params 1 1 else 64 }

/-- Count a command in its key slot's `USERS` (R262). -/
def State.useSlot (s : State) (k : Nat) : State := if k < 64 then s.setFld 0x198 (ksOff k) 16 0 (s.ksUsers k + 1) else s

/-- A `CMD` that is discarded (R78 reason 13): on a closing connection, or with a tag in use. -/
def State.discards (s : State) (c tag : Nat) : Bool :=
  (match s.conn c with
    | some x => decide (x.state = .closing)
    | none => false) || (s.findTag c tag).isSome

/-- The command in its data phase to which a `DATA_OUT` belongs (R73, R78 reason 12). -/
def State.takesData (s : State) (c tag : Nat) : Option (Nat × Item) :=
  match s.findTag c tag with
  | none => none
  | some n => ((s.item n).filter fun it => decide (it.state = .dataPhase) && !it.aborted).map fun it => (n, it)

/-- The source MAC of the last valid PDU of a connection (R47). -/
def State.setMac (s : State) (c mac : Nat) : State := s.modConn c fun x => { x with lastMac := mac }

/-- A `CMD` counts as received: it is discarded on a closing connection or with a tag in use (R78 reason 13), refused by the first
failing check (R87), or offered for admission (R132), on a 1.0 or 1.1 connection queued (R137). -/
def State.receiveCmd (s : State) (c op : Nat) (m : CmdIn) : State :=
  match s.conn c with
  | none => s
  | some x =>
    if s.discards c m.pdu.tag then s.drop x.port 13
    else
      let s := s.setMac c m.pdu.srcMac
      let it := cmdItem s c x op m
      match s.check c x op m with
      | some st => s.refuse it st
      | none =>
        let n := s.cmd.next
        let s := (s.setItem n it).useSlot it.keySlot
        let s := { s with cmd := { s.cmd with next := n + 1 } }
        if x.version < 0x12 then s.offerBest n
        else { s with cmd := { s.cmd with decideQ := s.cmd.decideQ ++ [n] } }

end Sys2Proof.Machine
end

