-- ==== Sys2Proof/Machine/DramCmd.lean ====
section
/-! DEFINITION. What poisoned DRAM means to its requesters (R389), scrub (R390), the end of an alert's recovery and a channel fault
(R386, R508). -/

namespace Sys2Proof.Machine

/-- A cache record's data is lost (R112, R389): it stays in its chain, poisoned; a deferred error with ORIGIN 2 names the acknowledged
blocks no writer of higher ASN has written. -/
def State.cacheLost (s : State) (c : Nat) : State :=
  match s.cacheRec c with
  | none => s
  | some r =>
    if r.poison then s
    else
      let k := mapKey r.inst r.grain
      let mask := (maskBlocks r.mask).foldl (fun m b => m + b2n (decide (s.blockAsn k b ≤ r.asn)) * 2 ^ b) 0
      (s.setCacheRec c { r with poison := true }).deferLost 2 stDram [(k, mask)]

/-- A segment's burst was read poisoned (R181): the segment is lost until it is rebuilt, and the loss is reported (R500, with the page of
DC00: DESIGN CHOICE, log entry 141); the read that looked it up ends with `DRAM_UNCORRECTABLE`. -/
def State.segmentLost (s : State) (seg reader : Nat) : State :=
  let s := { s with flash := { s.flash with segLost := SMap.setD false s.flash.segLost seg true } }.post 0x0012 0 0x060 seg
  if reader = 0 then s
  else
    match s.item (reader - 1) with
    | none => s
    | some it =>
      let gs := it.grains.filter fun g => decide (keySeg (mapKey g.inst g.grain) = seg)
      (gs.foldl (fun s g => s.failGrain (.item (reader - 1)) g.grain stDram 0 (firstBlock g.mask)) s).deliver 65537 (reader - 1)

/-- What a poisoned burst means to its requester (R389). -/
def State.poisonMet (s : State) : DramObj → State
  | .plain => s
  | .mapSegment seg reader => s.segmentLost seg reader
  | .cacheRec c => s.cacheLost c
  | .conn c => s.failConn c 6
  | .inst i => s.ctxLost i
  | .scan n => s.scanStop n stDram 0

/-- The objects of the poisoned bursts that a command has returned. -/
def State.dramHits (s : State) : State :=
  s.dram.hit.foldl (fun s o => s.poisonMet o) { s with dram := { s.dram with hit := [] } }

/-- Every row of a channel closes. -/
def State.closeRows (s : State) (c : Nat) : State := s.setChan c { s.chan c with openRow := [] }

/-- A refresh of each rank whose debt has reached a number (R384): by force at 8. -/
def State.refreshAt (s : State) (c debt : Nat) : State :=
  [0, 1].foldl (fun (s : State) (r : Nat) =>
    let k := (s.chan c).rank r
    if k.debt < debt then s
    else
      let s := s.refreshTo c r (k.debt - 1)
      if k.debt = 8 then s.count (0x060 + c) 0x0A0 else s) s

/-- A recovery ends (R386): refreshes it delayed issue at once; its replay meets no alert, and waiting requests are served; or it meets one, and recovery begins again, the
third time in `STATE` fault, with which the cache records that have a burst on the channel, `recs`, are lost (R508). -/
def State.recoveryEnd (s : State) (c : Nat) (met : Bool) (recs : List Nat) : State :=
  if (s.chan c).alert = false then s
  else
  let s := (s.closeRows c).refreshAt c 8
  if met then
    let s := (((s.count (0x060 + c) 0x08C).count (0x060 + c) 0x090).raise (0x060 + c) 1)
    let s := s.setChan c { s.chan c with replays := (s.chan c).replays + 1 }
    if (s.chan c).replays < 3 then s
    else recs.foldl (fun s r => s.cacheLost r) (s.chanDead c)
  else
    let s := s.refreshAt c 7
    ((s.setChan c { s.chan c with alert := false, replays := 0 }).serveAll c).dramHits

/-- A scrub pass reads the bursts of the installed DRAM in order; the read of another burst is none of the pass (R390; DESIGN CHOICE, log
entry 144). -/
def State.scrubbed (s : State) (burst : Nat) : State :=
  let m := s.dram
  if burst ≠ m.scrubNext then s
  else if 64 * (burst + 1) < s.dramSize then { s with dram := { m with scrubNext := burst + 1 } }
  else { s with dram := { m with scrubNext := 0, scrubDone := s.now + 1 } }

/-- A scrub read of a burst through DP10 (R388, R390): a corrected burst is not written back, an uncorrectable one is poisoned, and
cached data in it is lost. -/
def State.dramScrub (s : State) (a ecc : Nat) (obj : DramObj) : State :=
  let c := (s.dramLoc a).1
  if s.inDram (a / 64 * 64) 64 = false ∨ s.issues c = false ∨ s.mayBg .dramScrub = false then s
  else
    let s := ((s.giveBg .dramScrub).scrubbed (a / 64)).openRow c (a / 64 * 64)
    let r := s.eccRead c 10 (a / 64) ecc (s.poisoned (a / 64))
    match obj with
    | .cacheRec k => if r.2 then r.1.cacheLost k else r.1
    | _ => r.1

/-- A rank's drift measurement (R378), which the background scheduler triggers (R509): the write delays of the channel's lanes take the measured
values. -/
def State.driftTrack (s : State) (c r : Nat) (dly : List Nat) : State :=
  if s.dcState c ≠ 2 ∨ ((s.chan c).rank r).phase ≠ .active ∨ (s.chan c).alert ∨ s.mayPeriodic = false then s
  else dly.zipIdx.foldl (fun s e => if e.2 < 10 then s.setFld (0x060 + c) (0x050 + 4 * e.2) 7 0 e.1 else s) s

/-! ### Commands -/

/-- `DRIFT_TRACKING` (R378). -/
def execDriftTracking (ch rank : Nat) (dly : List Nat) (s : State) : Host.Outcome State Fault Refusal :=
  .next (s.driftTrack ch rank dly)

/-- `DRAM_READ` (R382, R388, R389) of the burst at an address through a port: `ecc` is the error its check bits show. -/
def execDramRead (port a ecc : Nat) (obj : DramObj) (slots : Nat) (s : State) : Host.Outcome State Fault Refusal :=
  .next (s.dramReadReq port a ecc obj slots).dramHits

/-- `DRAM_WRITE` (R382). -/
def execDramWrite (port a : Nat) (data : List Byte) (ecc slots : Nat) (s : State) : Host.Outcome State Fault Refusal :=
  .next (s.dramWriteReq port a data ecc slots).dramHits

/-- `SELF_REFRESH_EXIT` (R385). -/
def execSelfRefreshExit (ch rank : Nat) (s : State) : Host.Outcome State Fault Refusal := .next (s.srExit ch rank).dramHits

/-- `ALERT_RECOVERY_END` (R386, R508). -/
def execAlertRecoveryEnd (ch : Nat) (met : Bool) (recs : List Nat) (s : State) : Host.Outcome State Fault Refusal :=
  .next (s.recoveryEnd ch met recs)

/-- `DRAM_SCRUB` (R390). -/
def execDramScrub (a ecc : Nat) (obj : DramObj) (s : State) : Host.Outcome State Fault Refusal := .next (s.dramScrub a ecc obj)

end Sys2Proof.Machine
end

