-- ==== Sys2Proof/Machine/NollekRun.lean ====
section
/-! DEFINITION. Executing a Nollek instruction (R299 to R330): fetch, legality, guard, effect, completion, faults; the
arithmetic, predicate, control-flow, stack-free system and stream rows. Loads, stores and the stack are in
Machine/NollekMem.lean. An instruction row names the core and is the instruction that core has at its PC. -/

namespace Sys2Proof.Machine

/-! ### Running one instruction -/

/-- How an instruction's effect ends. -/
inductive NRes where
  /-- It completes: the state, the core without its completion, how it ends, its budget cycles, further clock cycles, and
  what follows once the core is written. -/
  | done (s : State) (x : Core) (f : Flow) (cost stall : Nat) (after : State → State)
  /-- It waits: the core stays where it is. -/
  | wait (s : State)
  /-- It faults: the state and the core with the effects that stay (R306, R320, R322). -/
  | fault (s : State) (x : Core) (f : NFault)

/-- An instruction that completes in sequence for 1 budget cycle. -/
def NRes.seq (s : State) (x : Core) : NRes := .done s x .seq 1 0 id

/-- Faults for which R325 gives an EADDR. -/
def hasEaddr (code : Nat) : Bool :=
  code = fAlign || code = fBounds || code = fStack || code = fUcode || code = fPage || code = fAccess

/-- A fault of a core: a control core takes the exception (R330), a stream core stops (R327). Where R325 gives no EADDR,
the value written is a free value. -/
def State.coreFault (s : State) (c : Nat) (x : Core) (f : NFault) : State :=
  if isCtl c then
    let r := s.free
    let t := if hasEaddr f.code then s else r.2
    let a := if hasEaddr f.code then f.addr else BitVec.ofNat 32 r.1
    t.setCore c (x.except false f.code (if f.code = fTrap then x.pc + 4 else x.pc) a)
  else (s.setCore c x).jobFault c f

/-- Profiles in which an instruction exists (R303, R328, R329). -/
inductive Prof where
  | both | stream | ctl
  deriving DecidableEq, Repr

/-- Whether a core has an instruction. -/
def Prof.has : Prof → Nat → Bool
  | .both, _ => true
  | .stream, n => !isCtl n
  | .ctl, n => isCtl n

/-- Whether a core stands ready to execute: out of reset or in a job, not waiting in WFI, its job within its limits
(R324, R351, R356). -/
def State.coreReady (s : State) (c : Nat) : Bool :=
  let x := s.core c
  x.running && !x.waiting && (isCtl c || (x.job.isSome && !s.exhausted c))

/-- Complete an instruction of core `c` that stood as `x0` in `s0` (R316, R319): a misaligned target leaves no effect. -/
def State.completeInstr (s0 : State) (c : Nat) (x0 : Core) (s : State) (x : Core) (f : Flow) (cost stall : Nat)
    (after : State → State) : State :=
  match x.finishInstr f with
  | .error e => s0.coreFault c x0 e
  | .ok y =>
    let y := y.charge (isCtl c) cost
    let st : W64 := BitVec.ofNat 64 stall
    after (s.setCore c { y with cycle := y.cycle + st, job := y.job.map fun j => { j with clock := j.clock + stall } })

/-- Execute the instruction at a core's PC. -/
def State.runInstr (s : State) (c : Nat) (g : Guard) (p : Prof) (body : State → Core → NRes) : State :=
  if s.coreReady c = false then s
  else
    match s.fetchWord c (s.core c) (s.core c).pc with
    | .error f => s.coreFault c (s.core c) f
    | .ok (_, x) =>
      if p.has c = false then s.coreFault c x { code := fIllegal }
      else if x.guard g = false then s.completeInstr c x s x .seq 1 0 id
      else
        match body s x with
        | .done t y f n k a => s.completeInstr c x t y f n k a
        | .wait t => t
        | .fault t y f => t.coreFault c y f

/-! ### Arithmetic (R304 to R307) -/

/-- Write an ALU result and its sticky flags. -/
def Core.putAlu (x : Core) (d : GReg) (r : Alu) : Core :=
  { x with v := x.v || r.v, dz := x.dz || r.dz }.wg d r.val

/-- A function of two registers. -/
def State.alu3 (s : State) (c : Nat) (g : Guard) (d a b : GReg) (f : W32 → W32 → Alu) : State :=
  s.runInstr c g .both fun t x => .seq t (x.putAlu d (f (x.rg a) (x.rg b)))

/-- A function of one register. -/
def State.alu2 (s : State) (c : Nat) (g : Guard) (d a : GReg) (f : W32 → Alu) : State :=
  s.runInstr c g .both fun t x => .seq t (x.putAlu d (f (x.rg a)))

/-- A division or remainder: 18 budget cycles; by 0 with DZT set it raises DIV0 with DZ set and gD unchanged (R306). -/
def State.aluDivide (s : State) (c : Nat) (g : Guard) (d a b : GReg) (f : W32 → W32 → Alu) : State :=
  s.runInstr c g .both fun t x =>
    if x.rg b = 0 ∧ x.dzt then .fault t { x with dz := true } { code := fDiv0 }
    else .done t (x.putAlu d (f (x.rg a) (x.rg b))) .seq 18 0 id

/-- ADD (R304 to R307). -/
def execAdd (core : Nat) (g : Guard) (d a b : GReg) (s : State) : Host.Outcome State Fault Refusal :=
  .next (s.alu3 core g d a b aluAdd)

/-- SUB (R304 to R307). -/
def execSub (core : Nat) (g : Guard) (d a b : GReg) (s : State) : Host.Outcome State Fault Refusal :=
  .next (s.alu3 core g d a b aluSub)

/-- ADDS (R304 to R307). -/
def execAdds (core : Nat) (g : Guard) (d a b : GReg) (s : State) : Host.Outcome State Fault Refusal :=
  .next (s.alu3 core g d a b aluAdds)

/-- SUBS (R304 to R307). -/
def execSubs (core : Nat) (g : Guard) (d a b : GReg) (s : State) : Host.Outcome State Fault Refusal :=
  .next (s.alu3 core g d a b aluSubs)

/-- AND (R304 to R307). -/
def execAnd (core : Nat) (g : Guard) (d a b : GReg) (s : State) : Host.Outcome State Fault Refusal :=
  .next (s.alu3 core g d a b aluAnd)

/-- OR (R304 to R307). -/
def execOr (core : Nat) (g : Guard) (d a b : GReg) (s : State) : Host.Outcome State Fault Refusal :=
  .next (s.alu3 core g d a b aluOr)

/-- XOR (R304 to R307). -/
def execXor (core : Nat) (g : Guard) (d a b : GReg) (s : State) : Host.Outcome State Fault Refusal :=
  .next (s.alu3 core g d a b aluXor)

/-- ANDN (R304 to R307). -/
def execAndn (core : Nat) (g : Guard) (d a b : GReg) (s : State) : Host.Outcome State Fault Refusal :=
  .next (s.alu3 core g d a b aluAndn)

/-- SHL (R304 to R307). -/
def execShl (core : Nat) (g : Guard) (d a b : GReg) (s : State) : Host.Outcome State Fault Refusal :=
  .next (s.alu3 core g d a b aluShl)

/-- SHR (R304 to R307). -/
def execShr (core : Nat) (g : Guard) (d a b : GReg) (s : State) : Host.Outcome State Fault Refusal :=
  .next (s.alu3 core g d a b aluShr)

/-- SAR (R304 to R307). -/
def execSar (core : Nat) (g : Guard) (d a b : GReg) (s : State) : Host.Outcome State Fault Refusal :=
  .next (s.alu3 core g d a b aluSar)

/-- ROT (R304 to R307). -/
def execRot (core : Nat) (g : Guard) (d a b : GReg) (s : State) : Host.Outcome State Fault Refusal :=
  .next (s.alu3 core g d a b aluRot)

/-- MIN (R304 to R307). -/
def execMin (core : Nat) (g : Guard) (d a b : GReg) (s : State) : Host.Outcome State Fault Refusal :=
  .next (s.alu3 core g d a b aluMin)

/-- MAX (R304 to R307). -/
def execMax (core : Nat) (g : Guard) (d a b : GReg) (s : State) : Host.Outcome State Fault Refusal :=
  .next (s.alu3 core g d a b aluMax)

/-- MINU (R304 to R307). -/
def execMinu (core : Nat) (g : Guard) (d a b : GReg) (s : State) : Host.Outcome State Fault Refusal :=
  .next (s.alu3 core g d a b aluMinu)

/-- MAXU (R304 to R307). -/
def execMaxu (core : Nat) (g : Guard) (d a b : GReg) (s : State) : Host.Outcome State Fault Refusal :=
  .next (s.alu3 core g d a b aluMaxu)

/-- MUL (R304 to R307). -/
def execMul (core : Nat) (g : Guard) (d a b : GReg) (s : State) : Host.Outcome State Fault Refusal :=
  .next (s.alu3 core g d a b aluMul)

/-- MULH (R304 to R307). -/
def execMulh (core : Nat) (g : Guard) (d a b : GReg) (s : State) : Host.Outcome State Fault Refusal :=
  .next (s.alu3 core g d a b aluMulh)

/-- MULHU (R304 to R307). -/
def execMulhu (core : Nat) (g : Guard) (d a b : GReg) (s : State) : Host.Outcome State Fault Refusal :=
  .next (s.alu3 core g d a b aluMulhu)

/-- MAC (R304): gD + gA × gB. -/
def execMac (core : Nat) (g : Guard) (d a b : GReg) (s : State) : Host.Outcome State Fault Refusal :=
  .next (s.runInstr core g .both fun t x => .seq t (x.putAlu d (aluMac (x.rg d) (x.rg a) (x.rg b))))

/-- DIV (R304 to R306). -/
def execDiv (core : Nat) (g : Guard) (d a b : GReg) (s : State) : Host.Outcome State Fault Refusal :=
  .next (s.aluDivide core g d a b aluDiv)

/-- DIVU (R304 to R306). -/
def execDivu (core : Nat) (g : Guard) (d a b : GReg) (s : State) : Host.Outcome State Fault Refusal :=
  .next (s.aluDivide core g d a b aluDivu)

/-- REM (R304 to R306). -/
def execRem (core : Nat) (g : Guard) (d a b : GReg) (s : State) : Host.Outcome State Fault Refusal :=
  .next (s.aluDivide core g d a b aluRem)

/-- REMU (R304 to R306). -/
def execRemu (core : Nat) (g : Guard) (d a b : GReg) (s : State) : Host.Outcome State Fault Refusal :=
  .next (s.aluDivide core g d a b aluRemu)

/-- NEG (R304, R305). -/
def execNeg (core : Nat) (g : Guard) (d a : GReg) (s : State) : Host.Outcome State Fault Refusal :=
  .next (s.alu2 core g d a aluNeg)

/-- NEGS (R304, R305). -/
def execNegs (core : Nat) (g : Guard) (d a : GReg) (s : State) : Host.Outcome State Fault Refusal :=
  .next (s.alu2 core g d a aluNegs)

/-- ABS (R304, R305). -/
def execAbs (core : Nat) (g : Guard) (d a : GReg) (s : State) : Host.Outcome State Fault Refusal :=
  .next (s.alu2 core g d a aluAbs)

/-- CLZ (R304, R305). -/
def execClz (core : Nat) (g : Guard) (d a : GReg) (s : State) : Host.Outcome State Fault Refusal :=
  .next (s.alu2 core g d a aluClz)

/-- POPC (R304, R305). -/
def execPopc (core : Nat) (g : Guard) (d a : GReg) (s : State) : Host.Outcome State Fault Refusal :=
  .next (s.alu2 core g d a aluPopc)

/-- BSWAP (R304, R305). -/
def execBswap (core : Nat) (g : Guard) (d a : GReg) (s : State) : Host.Outcome State Fault Refusal :=
  .next (s.alu2 core g d a aluBswap)

/-- SEXTB (R304, R305). -/
def execSextb (core : Nat) (g : Guard) (d a : GReg) (s : State) : Host.Outcome State Fault Refusal :=
  .next (s.alu2 core g d a aluSextb)

/-- SEXTH (R304, R305). -/
def execSexth (core : Nat) (g : Guard) (d a : GReg) (s : State) : Host.Outcome State Fault Refusal :=
  .next (s.alu2 core g d a aluSexth)

/-- ZEXTH (R304, R305). -/
def execZexth (core : Nat) (g : Guard) (d a : GReg) (s : State) : Host.Outcome State Fault Refusal :=
  .next (s.alu2 core g d a aluZexth)

/-- ADDI (R303): simm12. -/
def execAddi (core : Nat) (g : Guard) (d a : GReg) (imm : BitVec 12) (s : State) : Host.Outcome State Fault Refusal :=
  .next (s.alu2 core g d a fun v => aluAdd v (imm.signExtend 32))

/-- ANDI (R303): zimm12. -/
def execAndi (core : Nat) (g : Guard) (d a : GReg) (imm : BitVec 12) (s : State) : Host.Outcome State Fault Refusal :=
  .next (s.alu2 core g d a fun v => aluAnd v (imm.zeroExtend 32))

/-- ORI (R303): zimm12. -/
def execOri (core : Nat) (g : Guard) (d a : GReg) (imm : BitVec 12) (s : State) : Host.Outcome State Fault Refusal :=
  .next (s.alu2 core g d a fun v => aluOr v (imm.zeroExtend 32))

/-- XORI (R303): zimm12. -/
def execXori (core : Nat) (g : Guard) (d a : GReg) (imm : BitVec 12) (s : State) : Host.Outcome State Fault Refusal :=
  .next (s.alu2 core g d a fun v => aluXor v (imm.zeroExtend 32))

/-- SHLI (R303, R307): amount 0 to 31. -/
def execShli (core : Nat) (g : Guard) (d a : GReg) (n : Fin 32) (s : State) : Host.Outcome State Fault Refusal :=
  .next (s.alu2 core g d a fun v => Alu.mk (shlBy v n.val) false false)

/-- SHRI (R303, R307): amount 0 to 31. -/
def execShri (core : Nat) (g : Guard) (d a : GReg) (n : Fin 32) (s : State) : Host.Outcome State Fault Refusal :=
  .next (s.alu2 core g d a fun v => Alu.mk (shrBy v n.val) false false)

/-- SARI (R303, R307): amount 0 to 31. -/
def execSari (core : Nat) (g : Guard) (d a : GReg) (n : Fin 32) (s : State) : Host.Outcome State Fault Refusal :=
  .next (s.alu2 core g d a fun v => Alu.mk (sarBy v n.val) false false)

/-- ROTI (R303, R307): amount 0 to 31. -/
def execRoti (core : Nat) (g : Guard) (d a : GReg) (n : Fin 32) (s : State) : Host.Outcome State Fault Refusal :=
  .next (s.alu2 core g d a fun v => Alu.mk (rotBy v n.val) false false)

/-! ### Compares and predicates (R308, R309) -/

/-- An instruction that writes a predicate. -/
def State.toPred (s : State) (c : Nat) (g : Guard) (d : PReg) (f : Core → Bool) : State :=
  s.runInstr c g .both fun t x => .seq t (x.wp d (f x))

/-- An instruction that writes a general register without a flag. -/
def State.toReg (s : State) (c : Nat) (g : Guard) (p : Prof) (d : GReg) (f : Core → W32) : State :=
  s.runInstr c g p fun t x => .seq t (x.wg d (f x))

/-- CMP (R308): the condition is FUNC. -/
def execCmp (core : Nat) (g : Guard) (d : PReg) (c : Fin 8) (a b : GReg) (s : State) :
    Host.Outcome State Fault Refusal :=
  .next (s.toPred core g d fun x => cond c.val (x.rg a) (x.rg b))

/-- CMPI (R308): the condition is D[4:3], for EQ, LT, LTU and BITS. -/
def execCmpi (core : Nat) (g : Guard) (d : PReg) (c : Fin 4) (a : GReg) (imm : BitVec 12) (s : State) :
    Host.Outcome State Fault Refusal :=
  .next (s.toPred core g d fun x => cond (2 * c.val) (x.rg a) (imm.signExtend 32))

/-- PAND (R309). -/
def execPand (core : Nat) (g : Guard) (d a b : PReg) (s : State) : Host.Outcome State Fault Refusal :=
  .next (s.toPred core g d fun x => x.rp a && x.rp b)

/-- POR (R309). -/
def execPor (core : Nat) (g : Guard) (d a b : PReg) (s : State) : Host.Outcome State Fault Refusal :=
  .next (s.toPred core g d fun x => x.rp a || x.rp b)

/-- PXOR (R309). -/
def execPxor (core : Nat) (g : Guard) (d a b : PReg) (s : State) : Host.Outcome State Fault Refusal :=
  .next (s.toPred core g d fun x => x.rp a != x.rp b)

/-- PANDN (R309). -/
def execPandn (core : Nat) (g : Guard) (d a b : PReg) (s : State) : Host.Outcome State Fault Refusal :=
  .next (s.toPred core g d fun x => x.rp a && !x.rp b)

/-- PNOT (R309). -/
def execPnot (core : Nat) (g : Guard) (d a : PReg) (s : State) : Host.Outcome State Fault Refusal :=
  .next (s.toPred core g d fun x => !x.rp a)

/-- PSETG (R309). -/
def execPsetg (core : Nat) (g : Guard) (d : PReg) (a : GReg) (s : State) : Host.Outcome State Fault Refusal :=
  .next (s.toPred core g d fun x => x.rg a != 0)

/-- PGET (R309). -/
def execPget (core : Nat) (g : Guard) (d : GReg) (s : State) : Host.Outcome State Fault Refusal :=
  .next (s.toReg core g .both d fun x => (x.p ||| 1).zeroExtend 32)

/-- PPUT (R309): p1 to p7. -/
def execPput (core : Nat) (g : Guard) (a : GReg) (s : State) : Host.Outcome State Fault Refusal :=
  .next (s.runInstr core g .both fun t x => .seq t { x with p := (x.rg a).truncate 8 ||| 1 })

/-- MOVL (R303). -/
def execMovl (core : Nat) (g : Guard) (d : GReg) (imm : BitVec 16) (s : State) : Host.Outcome State Fault Refusal :=
  .next (s.toReg core g .both d fun _ => imm.zeroExtend 32)

/-- MOVH (R303). -/
def execMovh (core : Nat) (g : Guard) (d : GReg) (imm : BitVec 16) (s : State) : Host.Outcome State Fault Refusal :=
  .next (s.toReg core g .both d fun x => imm ++ (x.rg d).truncate 16)

/-! ### Branches, loops, prefixes (R311 to R320) -/

/-- The target of BR and CALL: PC + 4 × off22. -/
def brTarget (pc : W32) (off : BitVec 22) : W32 := pc + 4 * off.signExtend 32

/-- BR (R303, R311). -/
def execBr (core : Nat) (g : Guard) (off : BitVec 22) (s : State) : Host.Outcome State Fault Refusal :=
  .next (s.runInstr core g .both fun t x => .done t x (.jump (brTarget x.pc off)) 2 0 id)

/-- JR (R303, R313). -/
def execJr (core : Nat) (g : Guard) (a : GReg) (s : State) : Host.Outcome State Fault Refusal :=
  .next (s.runInstr core g .both fun t x => .done t x (.jump (x.rg a)) 2 0 id)

/-- Whether R315 forbids a loop at a level with a body. -/
def loopBad (x : Core) (n : Nat) (ls le : W32) : Bool :=
  (List.range 4).any fun m =>
    decide (x.lcOf m ≠ 0) && (decide (n < m) ||
      (decide (m < n) && (decide (ls.toNat < (x.lsOf m).toNat) || decide ((x.leOf m).toNat < le.toNat))))

/-- Start a loop (R314): with a count of 0 the level stays inactive and control passes the body. -/
def State.loopStart (s : State) (c : Nat) (g : Guard) (n : Fin 4) (off : BitVec 12) (count : Core → W32) : State :=
  s.runInstr c g .both fun t x =>
    let ls := x.pc + 4
    let le := x.pc + 4 + 4 * off.zeroExtend 32
    if loopBad x n.val ls le then .fault t x { code := fIllegal }
    else
      let y := x.setLoop n.val ls le (count x)
      if count x = 0 then .done t y (.jump (le + 4)) 1 0 id else .seq t y

/-- LOOP (R314, R315). -/
def execLoop (core : Nat) (g : Guard) (n : Fin 4) (a : GReg) (off : BitVec 12) (s : State) :
    Host.Outcome State Fault Refusal :=
  .next (s.loopStart core g n off fun x => x.rg a)

/-- LOOPI (R314, R315). -/
def execLoopi (core : Nat) (g : Guard) (n : Fin 4) (k : BitVec 8) (off : BitVec 12) (s : State) :
    Host.Outcome State Fault Refusal :=
  .next (s.loopStart core g n off fun _ => k.zeroExtend 32)

/-- Whether an address is the end of an active loop. -/
def atActiveEnd (x : Core) (pc : W32) : Bool :=
  (List.range 4).any fun m => decide (x.lcOf m ≠ 0) && decide (x.leOf m = pc)

/-- A repeat prefix (R319, R320): the governed word is fetched first; a count of 0 skips it. -/
def State.repeat' (s : State) (c : Nat) (g : Guard) (count : Core → BitVec 16) : State :=
  s.runInstr c g .both fun t x =>
    match t.fetchWord c x (x.pc + 4) with
    | .error f => .fault t x f
    | .ok (w, y) =>
      if notGoverned w || atActiveEnd y y.pc then .fault t y { code := fIllegal }
      else
        let z := { y with rcnt := count y }
        if count y = 0 then
          match z.completeAt (y.pc + 4) with
          | .error f => .fault t x f
          | .ok z => .done t z .stay 1 0 id
        else .done t { z with repeating := true, pc := y.pc + 4 } .stay 1 0 id

/-- REPI (R319). -/
def execRepi (core : Nat) (g : Guard) (n : BitVec 16) (s : State) : Host.Outcome State Fault Refusal :=
  .next (s.repeat' core g fun _ => n)

/-- REP (R319): gA[15:0]. -/
def execRep (core : Nat) (g : Guard) (a : GReg) (s : State) : Host.Outcome State Fault Refusal :=
  .next (s.repeat' core g fun x => (x.rg a).truncate 16)

/-- LCLR (R303). -/
def execLclr (core : Nat) (g : Guard) (mask : BitVec 4) (s : State) : Host.Outcome State Fault Refusal :=
  .next (s.runInstr core g .both fun t x =>
    .seq t ((List.range 4).foldl (fun y n => if mask.getLsbD n then y.setLc n 0 else y) x))

/-! ### System operations (R328 to R331) -/

/-- NOP (R328, R329). -/
def execNop (core : Nat) (g : Guard) (s : State) : Host.Outcome State Fault Refusal :=
  .next (s.runInstr core g .both fun t x => .seq t x)

/-- HALT (R328, R354): the job ends. -/
def execHalt (core : Nat) (g : Guard) (s : State) : Host.Outcome State Fault Refusal :=
  .next (s.runInstr core g .stream fun t x => .done t x .seq 1 0 fun u => u.jobEnd core)

/-- TRAP (R325, R330). -/
def execTrap (core : Nat) (g : Guard) (s : State) : Host.Outcome State Fault Refusal :=
  .next (s.runInstr core g .ctl fun t x => .fault t x { code := fTrap })

/-- ERET (R329, R330). -/
def execEret (core : Nat) (g : Guard) (s : State) : Host.Outcome State Fault Refusal :=
  .next (s.runInstr core g .ctl fun t x =>
    if x.super then .done t x.eret .stay 1 0 id else .fault t x { code := fPriv })

/-- The external line of a control core with its enable bit. -/
def State.extOn (s : State) (c : Nat) (x : Core) : Bool := x.pstat.getLsbD 1 && s.extLine (c - 256)
/-- The timer line with its enable bit (R331). -/
def Core.timerOn (x : Core) : Bool := x.pstat.getLsbD 2 && decide (x.tcmp.toNat ≤ x.cycle.toNat)

/-- WFI (R329, R331): it completes at once where an enabled line is high, and waits otherwise. -/
def execWfi (core : Nat) (g : Guard) (s : State) : Host.Outcome State Fault Refusal :=
  .next (s.runInstr core g .ctl fun t x =>
    if x.super = false then .fault t x { code := fPriv }
    else if t.extOn core x || x.timerOn then .seq t x
    else .wait (t.setCore core { x with waiting := true }))

/-- Let clock cycles pass on a control core (R323). -/
def State.pass (s : State) (c cycles : Nat) : State :=
  s.setCore c { s.core c with cycle := (s.core c).cycle + BitVec.ofNat 64 cycles }

/-- `WFI_WAKE` (R331): after `cycles` clock cycles an enabled line is high and a waiting WFI completes. -/
def State.wfiWake (s : State) (c cycles : Nat) : State :=
  if isCtl c = false ∨ (s.core c).waiting = false then s
  else
    let s := s.pass c cycles
    let x := s.core c
    if s.extOn c x || x.timerOn then s.completeInstr c x s { x with waiting := false } .seq 1 0 id else s

/-- Whether a control core can take an interrupt: out of reset, not waiting, IE at 1 (R331). -/
def State.takesInt (s : State) (c : Nat) : Bool :=
  isCtl c && (s.core c).running && !(s.core c).waiting && (s.core c).pstat.getLsbD 0

/-- Take an interrupt (R330); R325 gives it no EADDR. -/
def State.interrupt (s : State) (c code : Nat) : State :=
  let r := s.free
  r.2.setCore c ((s.core c).except true code (s.core c).pc (BitVec.ofNat 32 r.1))

/-- `INTERRUPT_TAKEN`: the external interrupt (R331). -/
def State.externalInt (s : State) (c : Nat) : State :=
  if s.takesInt c && s.extOn c (s.core c) then s.interrupt c 0x10 else s

/-- `TIMER_INTERRUPT`: after `cycles` clock cycles between two instructions, the timer interrupt, behind an external one
(R331). -/
def State.timerInt (s : State) (c cycles : Nat) : State :=
  if s.takesInt c then
    let s := s.pass c cycles
    if (s.core c).timerOn && !s.extOn c (s.core c) then s.interrupt c 0x11 else s
  else s

/-- `WFI_WAKE` (R331). -/
def execWfiWake (core cycles : Nat) (s : State) : Host.Outcome State Fault Refusal := .next (s.wfiWake core cycles)

/-- `INTERRUPT_TAKEN` (R330, R331). -/
def execInterruptTaken (core : Nat) (s : State) : Host.Outcome State Fault Refusal := .next (s.externalInt core)

/-- `TIMER_INTERRUPT` (R330, R331). -/
def execTimerInterrupt (core cycles : Nat) (s : State) : Host.Outcome State Fault Refusal :=
  .next (s.timerInt core cycles)

/-- TLBINV (R329, R333). -/
def execTlbinv (core : Nat) (g : Guard) (a : GReg) (s : State) : Host.Outcome State Fault Refusal :=
  .next (s.runInstr core g .ctl fun t x =>
    if x.super then .seq t (x.tlbInv a) else .fault t x { code := fPriv })

/-- Publish a control core's stores to the engines' DMA (R336). -/
def State.publish (s : State) (c : Nat) : State :=
  let mine := s.ctlStores.filter fun e => decide (e.2.1 = c)
  let s := mine.foldl (fun s e => s.physSet e.1 e.2.2) s
  { s with ctlStores := s.ctlStores.filter fun e => decide (e.2.1 ≠ c) }

/-- FENCE (R328, R329, R336). -/
def execFence (core : Nat) (g : Guard) (s : State) : Host.Outcome State Fault Refusal :=
  .next (s.runInstr core g .both fun t x => .done t x .seq 1 0 fun u => u.publish core)

/-- CSRR (R323). -/
def execCsrr (core : Nat) (g : Guard) (d : GReg) (n : BitVec 12) (s : State) : Host.Outcome State Fault Refusal :=
  .next (s.runInstr core g .both fun t x =>
    match csrFault x (isCtl core) false n.toNat with
    | some f => .fault t x { code := f }
    | none => let r := csrRead x (core - 256) n.toNat
              .seq t (r.2.wg d r.1))

/-- CSRW (R323). -/
def execCsrw (core : Nat) (g : Guard) (a : GReg) (n : BitVec 12) (s : State) : Host.Outcome State Fault Refusal :=
  .next (s.runInstr core g .both fun t x =>
    match csrFault x (isCtl core) true n.toNat with
    | some f => .fault t x { code := f }
    | none => .seq t (csrWrite x n.toNat (x.rg a)))

/-- The illegal word of a core's PC (R300, R303): whatever its guard, ILLEGAL. -/
def State.illegalWord (s : State) (c : Nat) (w : W32) : State :=
  if wordIllegal (isCtl c) w = false then s
  else if s.coreReady c = false then s
  else
    match s.fetchWord c (s.core c) (s.core c).pc with
    | .error f => s.coreFault c (s.core c) f
    | .ok (_, x) => s.coreFault c x { code := fIllegal }

/-- `ILLEGAL_INSTRUCTION` (R300, R303, R325). -/
def execIllegalInstruction (core : Nat) (w : BitVec 32) (s : State) : Host.Outcome State Fault Refusal :=
  .next (s.illegalWord core w)

/-! ### Stream operations and custom instructions (R321, R322, R353, R359) -/

/-- A STRM operation as an instruction's end. -/
def StrmRes.toN (t : State) (x : Core) : StrmRes → NRes
  | .done u y => .seq u y
  | .wait u => .wait u
  | .fault f => .fault t x f

/-- RNEXT (R353, R357). -/
def execRnext (core : Nat) (g : Guard) (d : GReg) (s : State) : Host.Outcome State Fault Refusal :=
  .next (s.runInstr core g .stream fun t x => (t.rnext core x d).toN t x)

/-- RPUT (R353, R356, R363). -/
def execRput (core : Nat) (g : Guard) (a b : GReg) (s : State) : Host.Outcome State Fault Refusal :=
  .next (s.runInstr core g .stream fun t x => (t.rput core x (x.rg a) (x.rg b)).toN t x)

/-- FLDX (R353). -/
def execFldx (core : Nat) (g : Guard) (d : GReg) (b : Fin 32) (s : State) : Host.Outcome State Fault Refusal :=
  .next (s.toReg core g .stream d fun x => fldx x b.val)

/-- TAPR (R353). -/
def execTapr (core : Nat) (g : Guard) (d : GReg) (s : State) : Host.Outcome State Fault Refusal :=
  .next (s.toReg core g .stream d tapr)

/-- A micro-operation's parity error (R362): captured with event 0x0034, counted, `IRQ_STAT.UCODE` set. -/
def State.ucodeParity (s : State) (c addr : Nat) : State :=
  ((s.fault 0x0034 (scPage (c / 12)) 0x11 (c % 12) addr).raise (scPage (c / 12)) 2).count (ucPage (c / 12)) 0x04C

/-- A custom instruction (R321, R322, R359, R360). -/
def customRun (c slot : Nat) (d a b : GReg) (t : State) (x : Core) : NRes :=
  let cl := t.cluster (c / 12)
  let n := (SMap.getD 0 cl.decode slot).toNat
  if nbit n 63 = false ∨ (nbit n 3 ∧ 8 ≤ d.val) then .fault t x { code := fIllegal }
  else
    let len := nbits n 24 20
    let y : W32 := match nbits n 1 0 with
      | 0 => x.rg b
      | 1 => BitVec.ofNat 32 b.val
      | _ => (BitVec.ofNat 5 b.val).signExtend 32
    let t0 : SMap W32 := SMap.setD 0 (SMap.setD 0 (SMap.setD 0 [] 0 (x.rg a)) 1 y) 2 (x.rg d)
    let r := uopsGo cl.ucode len (nbits n 19 10) { t := t0, f := false, x := x, dz := false }
    match r.2 with
    | some (f, par) =>
      .fault (if par then t.ucodeParity c f.addr.toNat else t) { r.1.x with dz := x.dz || r.1.dz } f
    | none =>
      let z := { r.1.x with dz := x.dz || r.1.dz }
      let z := if nbit n 2 then z.wg d (r.1.get 15) else z
      let z := if nbit n 3 then z.wp (Fin.ofNat 8 d.val) r.1.f else z
      .done t z .seq len (len * (2 ^ nbits n 26 25 - 1)) id

/-- CUSTOM (R321, R322, R359 to R362). -/
def execCustom (core : Nat) (g : Guard) (slot : Fin 32) (d a b : GReg) (s : State) :
    Host.Outcome State Fault Refusal :=
  .next (s.runInstr core g .stream (customRun core slot.val d a b))

/-! ### Scan events -/

/-- `BUDGET_EXHAUSTED` (R324, R356). -/
def execBudgetExhausted (core stall : Nat) (s : State) : Host.Outcome State Fault Refusal :=
  .next (s.budgetExhausted core stall)

/-- `RUN_START` of a scan's item on a cluster (R347, R348, R350). -/
def execRunStart (item cluster : Nat) (s : State) : Host.Outcome State Fault Refusal :=
  .next (s.runStart item cluster)

/-- `JOB_START` of a scan's next decoded grain (R351, R352). -/
def execJobStart (item : Nat) (s : State) : Host.Outcome State Fault Refusal := .next (s.jobStart item)

/-- `CLOSING_JOB_START` on a core (R354). -/
def execClosingJobStart (core : Nat) (s : State) : Host.Outcome State Fault Refusal := .next (s.closingJobStart core)

/-- `RING_STALL` of a scan's item (R368). -/
def execRingStall (item : Nat) (s : State) : Host.Outcome State Fault Refusal := .next (s.ringStall item)

/-- `COLLECTOR_GRANT` (R364). -/
def execCollectorGrant (s : State) : Host.Outcome State Fault Refusal := .next (s.collectorGrant)

end Sys2Proof.Machine
end

