-- ==== Sys2Proof/Machine/NollekMem.lean ====
section
/-! DEFINITION. Nollek loads, stores, the stack, calls, and compare-and-swap (R298, R310 to R313, R318, R325, R326, R332 to R336). -/

namespace Sys2Proof.Machine

/-! ### One access (R298, R328, R332 to R336) -/

/-- A control core's bytes in DRAM or buffer SRAM: the control cores see them at once, engine DMA when the core fences (R336). -/
def State.ctlPut (s : State) (c pa : Nat) (d : List Byte) : State :=
  { s with ctlStores := d.zipIdx.foldl (fun m e => SMap.put m (pa + e.2) (c, e.1)) s.ctlStores }

/-- What a failed access leaves besides its fault (an error response is recorded by the block that gives it), and the fault. -/
abbrev AccErr := (State → State) × NFault

/-- ACCESS at a virtual address. -/
def accErr (a : W32) (f : State → State := id) : AccErr := (f, { code := fAccess, addr := a })

/-- Load bytes for a core: profile S map, or translation, the memories and the register space. -/
def State.loadOne (t : State) (c : Nat) (x : Core) (a : W32) (n : Nat) : Except AccErr (State × Core × List Byte) :=
  if isCtl c then
    match t.translate x a .load with
    | .error f => .error (id, f)
    | .ok (pa, y) =>
      match place18 pa with
      | .regs o =>
        let r := t.regLoad (c - 256) o n
        if r.2.ok then .ok (r.1, y, leBytes n r.2.value.toNat) else .error (accErr a fun u => (u.regLoad (c - 256) o n).1)
      | _ =>
        match t.ctlRead pa n with
        | some l => .ok (t, y, l)
        | none => .error (accErr a)
  else
    match sLoad x a.toNat n with
    | .ok l => .ok (t, x, l)
    | .error f => .error (id, f)

/-- Store bytes for a core. A store to the register space is checked here and follows once the core is written. -/
def State.storeOne (t : State) (c : Nat) (x : Core) (a : W32) (d : List Byte) :
    Except AccErr (State × Core × (State → State)) :=
  if isCtl c then
    match t.translate x a .store with
    | .error f => .error (id, f)
    | .ok (pa, y) =>
      let ok := (List.range d.length).all fun i => t.physWritable (pa + i)
      match place18 pa with
      | .regs o =>
        let go := fun (u : State) => (u.regStore (c - 256) o d.length (BitVec.ofNat 32 (ofLe d))).1
        if (t.regStore (c - 256) o d.length (BitVec.ofNat 32 (ofLe d))).2.ok then .ok (t, y, go) else .error (accErr a go)
      | .dram _ | .sram _ => if ok then .ok (t.ctlPut c pa d, y, id) else .error (accErr a)
      | .imem _ _ | .dmem _ _ =>
        if ok then .ok (d.zipIdx.foldl (fun s e => s.physSet (pa + e.2) e.1) t, y, id) else .error (accErr a)
      | .rom _ | .none => .error (accErr a)
  else
    match sStore x a.toNat d with
    | .ok y => .ok (t, y, id)
    | .error f => .error (id, f)

/-- Load words at rising addresses. -/
def State.loadWords (t : State) (c : Nat) (x : Core) (a : W32) : Nat → Except AccErr (State × Core × List W32)
  | 0 => .ok (t, x, [])
  | k + 1 =>
    match t.loadOne c x a 4 with
    | .error e => .error e
    | .ok (u, y, b) =>
      match u.loadWords c y (a + 4) k with
      | .error e => .error e
      | .ok (u, y, l) => .ok (u, y, BitVec.ofNat 32 (ofLe b) :: l)

/-- Store words at rising addresses: whole or not at all (R318). -/
def State.storeWords (t : State) (c : Nat) (x : Core) (a : W32) : List W32 → Except AccErr (State × Core × (State → State))
  | [] => .ok (t, x, id)
  | w :: l =>
    match t.storeOne c x a (leBytes 4 w.toNat) with
    | .error e => .error e
    | .ok (u, y, f) =>
      match u.storeWords c y (a + 4) l with
      | .error e => .error e
      | .ok (u, y, h) => .ok (u, y, h ∘ f)

/-- Whether an access of `n` bytes is aligned (R298). -/
def alignedTo (a : W32) (n : Nat) : Bool := decide (a.toNat % n = 0)

/-! ### Loads and stores (R303, R310) -/

/-- A load: the address, the size, how the bytes become the word, and what else the core's registers become. -/
def loadBody (c n : Nat) (conv : Nat → W32) (d : GReg) (a : W32) (inc : Core → Core) (t : State) (x : Core) : NRes :=
  if alignedTo a n = false then .fault t x { code := fAlign, addr := a }
  else
    match t.loadOne c x a n with
    | .error e => .fault (e.1 t) x e.2
    | .ok (u, y, b) => .seq u ((inc y).wg d (conv (ofLe b)))

/-- A store of the low `n` bytes of a word. -/
def storeBody (c n : Nat) (v a : W32) (inc : Core → Core) (t : State) (x : Core) : NRes :=
  if alignedTo a n = false then .fault t x { code := fAlign, addr := a }
  else
    match t.storeOne c x a (leBytes n v.toNat) with
    | .error e => .fault (e.1 t) x e.2
    | .ok (u, y, f) => .done u (inc y) .seq 1 0 f

/-- A byte, sign-extended. -/
def sx8 (v : Nat) : W32 := (BitVec.ofNat 8 v).signExtend 32
/-- A half-word, sign-extended. -/
def sx16 (v : Nat) : W32 := (BitVec.ofNat 16 v).signExtend 32

/-- A load at gA + simm12. -/
def State.loadImm (s : State) (c : Nat) (g : Guard) (d a : GReg) (imm : BitVec 12) (n : Nat) (conv : Nat → W32) : State :=
  s.runInstr c g .both fun t x => loadBody c n conv d (x.rg a + imm.signExtend 32) id t x

/-- A store at gA + simm12. -/
def State.storeImm (s : State) (c : Nat) (g : Guard) (d a : GReg) (imm : BitVec 12) (n : Nat) : State :=
  s.runInstr c g .both fun t x => storeBody c n (x.rg d) (x.rg a + imm.signExtend 32) id t x

/-- Size of a width code of R310. -/
def widthSize (w : Nat) : Nat := if w ≤ 1 then 1 else if w ≤ 3 then 2 else 4

/-- The word a load of a width code gives. -/
def widthConv (w : Nat) (v : Nat) : W32 := if w = 0 then sx8 v else if w = 2 then sx16 v else BitVec.ofNat 32 v

/-- Address of an indexed or post-increment access: modes of R310. -/
def idxAddr (x : Core) (mode size : Nat) (a b : GReg) : W32 :=
  match mode with
  | 0 => x.rg a + x.rg b
  | 1 => x.rg a + x.rg b * BitVec.ofNat 32 size
  | _ => x.rg a

/-- The increment of modes 0b10 and 0b11: gB, or B as −16 to 15 times the size. Operands are those before the access. -/
def idxInc (x : Core) (mode size : Nat) (a b : GReg) (y : Core) : Core :=
  match mode with
  | 2 => y.wg a (x.rg a + x.rg b)
  | 3 => y.wg a (x.rg a + (BitVec.ofNat 5 b.val).signExtend 32 * BitVec.ofNat 32 size)
  | _ => y

/-- LDX: modes 0b10 and 0b11 with D equal to A, other than g0, raise ILLEGAL. -/
def ldxBody (c w mode : Nat) (d a b : GReg) (t : State) (x : Core) : NRes :=
  if mode ≥ 2 ∧ d = a ∧ d ≠ 0 then .fault t x { code := fIllegal }
  else loadBody c (widthSize w) (widthConv w) d (idxAddr x mode (widthSize w) a b) (idxInc x mode (widthSize w) a b) t x

/-- STX: the value stored is the one before the increment. -/
def stxBody (c size mode : Nat) (d a b : GReg) (t : State) (x : Core) : NRes :=
  storeBody c size (x.rg d) (idxAddr x mode size a b) (idxInc x mode size a b) t x

/-! ### The stack (R312, R313, R318) -/

/-- Push words, the first at the lowest address: ALIGN, then STACK, then the faults of the stores. -/
def pushWords (c : Nat) (l : List W32) (t : State) (x : Core) : Except AccErr (State × Core × (State → State)) :=
  let sp := x.rg spReg
  let n := 4 * l.length
  let a := sp - BitVec.ofNat 32 n
  if aligned4 sp = false then .error (id, { code := fAlign, addr := a })
  else if sp.toNat < x.slo.toNat + n then .error (id, { code := fStack, addr := sp })
  else
    match t.storeWords c x a l with
    | .error e => .error e
    | .ok (u, y, f) => .ok (u, y.wg spReg a, f)

/-- Pop words: ALIGN, then STACK, then the faults of the loads. -/
def popWords (c k : Nat) (t : State) (x : Core) : Except AccErr (State × Core × List W32) :=
  let sp := x.rg spReg
  let n := 4 * k
  if aligned4 sp = false then .error (id, { code := fAlign, addr := sp })
  else if x.shi.toNat < sp.toNat + n then .error (id, { code := fStack, addr := sp })
  else
    match t.loadWords c x sp k with
    | .error e => .error e
    | .ok (u, y, l) => .ok (u, y.wg spReg (sp + BitVec.ofNat 32 n), l)

/-- A push as an instruction; `upd` is what else it does to the core. -/
def pushBody (c : Nat) (l : List W32) (flow : Flow) (cost : Nat) (upd : Core → Core) (t : State) (x : Core) : NRes :=
  match pushWords c l t x with
  | .error e => .fault (e.1 t) x e.2
  | .ok (u, y, f) => .done u (upd y) flow cost 0 f

/-- Push PC + 4 and go to an address: a misaligned one raises ALIGN and changes nothing (R313). -/
def callBody (c : Nat) (dst : W32) (t : State) (x : Core) : NRes :=
  if aligned4 dst = false then .fault t x { code := fAlign, addr := dst }
  else pushBody c [x.pc + 4] (.jump dst) 2 id t x

/-- RET: pop the PC. -/
def retBody (c : Nat) (t : State) (x : Core) : NRes :=
  match popWords c 1 t x with
  | .error e => .fault (e.1 t) x e.2
  | .ok (u, y, l) => .done u y (.jump (l.headD 0)) 2 0 id

/-- POP gD: the word overrides the raising of g31. -/
def popBody (c : Nat) (d : GReg) (t : State) (x : Core) : NRes :=
  match popWords c 1 t x with
  | .error e => .fault (e.1 t) x e.2
  | .ok (u, y, l) => .seq u (y.wg d (l.headD 0))

/-- The loop registers, as LSAVE lays them out. -/
def loopWords (x : Core) : List W32 :=
  (List.range 4).map x.lsOf ++ (List.range 4).map x.leOf ++ (List.range 4).map x.lcOf

/-- Set the loop registers from twelve words. -/
def setLoops (l : List W32) (x : Core) : Core :=
  (List.range 4).foldl (fun y n => y.setLoop n (l.getD n 0) (l.getD (4 + n) 0) (l.getD (8 + n) 0)) x

/-- LREST. -/
def lrestBody (c : Nat) (t : State) (x : Core) : NRes :=
  match popWords c 12 t x with
  | .error e => .fault (e.1 t) x e.2
  | .ok (u, y, l) => .done u (setLoops l y) .seq 12 0 id

/-! ### Compare and swap (R335, R336) -/

/-- CAS: checked as a store; earlier stores of the core are published first, and its own with them. -/
def casBody (c : Nat) (d a b : GReg) (t : State) (x : Core) : NRes :=
  let va := x.rg a
  if aligned4 va = false then .fault t x { code := fAlign, addr := va }
  else
    match t.translate x va .store with
    | .error f => .fault t x f
    | .ok (pa, y) =>
      let plain := match place18 pa with
        | .dram _ | .sram _ => true
        | _ => false
      match (if plain then t.ctlRead pa 4 else none) with
      | none => .fault t x { code := fAccess, addr := va }
      | some l =>
        let v : W32 := BitVec.ofNat 32 (ofLe l)
        let t := if v = x.rg d then t.ctlPut c pa (leBytes 4 (x.rg b).toNat) else t
        .done t (y.wg d v) .seq 1 0 fun u => u.publish c

/-! ### Commands -/

/-- LB (R303). -/
def execLb (core : Nat) (g : Guard) (d a : GReg) (imm : BitVec 12) (s : State) : Host.Outcome State Fault Refusal :=
  .next (s.loadImm core g d a imm 1 sx8)
/-- LBU (R303). -/
def execLbu (core : Nat) (g : Guard) (d a : GReg) (imm : BitVec 12) (s : State) : Host.Outcome State Fault Refusal :=
  .next (s.loadImm core g d a imm 1 (BitVec.ofNat 32))
/-- LH (R303). -/
def execLh (core : Nat) (g : Guard) (d a : GReg) (imm : BitVec 12) (s : State) : Host.Outcome State Fault Refusal :=
  .next (s.loadImm core g d a imm 2 sx16)
/-- LHU (R303). -/
def execLhu (core : Nat) (g : Guard) (d a : GReg) (imm : BitVec 12) (s : State) : Host.Outcome State Fault Refusal :=
  .next (s.loadImm core g d a imm 2 (BitVec.ofNat 32))
/-- LW (R303). -/
def execLw (core : Nat) (g : Guard) (d a : GReg) (imm : BitVec 12) (s : State) : Host.Outcome State Fault Refusal :=
  .next (s.loadImm core g d a imm 4 (BitVec.ofNat 32))
/-- LDX (R310): widths 0 to 4; B is a register in modes 0 to 2, an immediate in mode 3. -/
def execLdx (core : Nat) (g : Guard) (d a b : GReg) (width : Fin 5) (mode : Fin 4) (s : State) :
    Host.Outcome State Fault Refusal :=
  .next (s.runInstr core g .both (ldxBody core width.val mode.val d a b))
/-- SB (R303). -/
def execSb (core : Nat) (g : Guard) (d a : GReg) (imm : BitVec 12) (s : State) : Host.Outcome State Fault Refusal :=
  .next (s.storeImm core g d a imm 1)
/-- SH (R303). -/
def execSh (core : Nat) (g : Guard) (d a : GReg) (imm : BitVec 12) (s : State) : Host.Outcome State Fault Refusal :=
  .next (s.storeImm core g d a imm 2)
/-- SW (R303). -/
def execSw (core : Nat) (g : Guard) (d a : GReg) (imm : BitVec 12) (s : State) : Host.Outcome State Fault Refusal :=
  .next (s.storeImm core g d a imm 4)
/-- STX (R310): sizes 1, 2 and 4 bytes by 2 ^ `width`. -/
def execStx (core : Nat) (g : Guard) (d a b : GReg) (width : Fin 3) (mode : Fin 4) (s : State) :
    Host.Outcome State Fault Refusal :=
  .next (s.runInstr core g .both (stxBody core (2 ^ width.val) mode.val d a b))
/-- CALL (R303, R312). -/
def execCall (core : Nat) (g : Guard) (off : BitVec 22) (s : State) : Host.Outcome State Fault Refusal :=
  .next (s.runInstr core g .both fun t x => callBody core (brTarget x.pc off) t x)
/-- CALLR (R303, R312, R313). -/
def execCallr (core : Nat) (g : Guard) (a : GReg) (s : State) : Host.Outcome State Fault Refusal :=
  .next (s.runInstr core g .both fun t x => callBody core (x.rg a) t x)
/-- RET (R303, R312, R313). -/
def execRet (core : Nat) (g : Guard) (s : State) : Host.Outcome State Fault Refusal := .next (s.runInstr core g .both (retBody core))
/-- PUSH (R312). -/
def execPush (core : Nat) (g : Guard) (d : GReg) (s : State) : Host.Outcome State Fault Refusal :=
  .next (s.runInstr core g .both fun t x => pushBody core [x.rg d] .seq 1 id t x)
/-- POP (R312). -/
def execPop (core : Nat) (g : Guard) (d : GReg) (s : State) : Host.Outcome State Fault Refusal :=
  .next (s.runInstr core g .both (popBody core d))
/-- LSAVE (R318). -/
def execLsave (core : Nat) (g : Guard) (s : State) : Host.Outcome State Fault Refusal :=
  .next (s.runInstr core g .both fun t x => pushBody core (loopWords x) .seq 12 (fun y => { y with lc := [] }) t x)
/-- LREST (R318). -/
def execLrest (core : Nat) (g : Guard) (s : State) : Host.Outcome State Fault Refusal := .next (s.runInstr core g .both (lrestBody core))
/-- CAS (R335, R336). -/
def execCas (core : Nat) (g : Guard) (d a b : GReg) (s : State) : Host.Outcome State Fault Refusal :=
  .next (s.runInstr core g .ctl (casBody core d a b))

end Sys2Proof.Machine
end

