-- ==== Sys2Proof/Machine/Receive.lean ====
section
/-! DEFINITION. The receiving side of the Pasesar transport (R44 to R79, R282, R548 to R550): frames, classification, connections, PDUs,
write data. -/

namespace Sys2Proof.Machine

/-! ### Frames (R45, R46, R78, R282, R548, R549) -/

/-- A frame's local address entry where it is Pasesar traffic: a datagram to the port's Pasesar UDP port, or a fragment (R548). -/
def State.pasesar (s : State) (f : FrameIn) : Option Nat :=
  if f.dstMac = s.portMac f.port f.subif ∧ f.ip ∧ f.udp ∧ (f.fragment ∨ f.dstUdp = s.udpPort f.port) then s.entryOf f.port f.subif f.dstIp
  else none

/-- Whether a frame fails an entry's VLAN conditions (R45, R548, R549). -/
def State.vlanBad (s : State) (f : FrameIn) (e : Nat) : Bool :=
  if f.port ≥ 16 then f.vlan.isSome
  else
    let w := s.reg (0x030 + f.port) (0x090 + 0x20 * e)
    w.getLsbD 15 && decide (f.vlan ≠ some (fget w 27 16))

/-- A datagram that waits for classification, as a PDU: header and payload of R50. -/
def pduOf (port inst : Nat) (d : Datagram) : PduIn :=
  let h := d.data
  { port := port, subif := d.subif, entry := d.entry, inst := inst, srcMac := d.srcMac, srcIp := d.srcIp, srcUdp := d.srcUdp, dstIp := d.dstIp,
    version := be h 0 1, type := be h 1 1, flags := be h 2 2, dstConn := be h 4 2, srcConn := be h 6 2,
    psn := BitVec.ofNat 32 (be h 8 4), ackPsn := BitVec.ofNat 32 (be h 12 4), sack := BitVec.ofNat 64 (be h 16 8), tag := be h 24 4,
    payload := h.drop 32 }

/-- Least payload of a type (R52, R53). -/
def typeNeeds (type : Nat) : Nat :=
  match type with
  | 0x01 | 0x02 | 0x15 | 0x16 | 0x19 => 16
  | 0x03 | 0x06 | 0x17 => 4
  | 0x10 => 32
  | 0x11 | 0x12 | 0x13 | 0x14 | 0x18 => 8
  | _ => 0

/-- Types that travel from initiator to device (R52). -/
def typeIn (type : Nat) : Bool :=
  type = 0x01 || (decide (3 ≤ type) && decide (type ≤ 6)) || type = 0x10 || type = 0x14 || type = 0x17

/-- A payload that the connection or the type does not allow (R54, R78 reason 5). -/
def State.lenBad (s : State) (p : PduIn) : Bool :=
  let l := p.payload.length
  decide (l < typeNeeds p.type) || (decide (p.type = 5) && (decide (l % 8 ≠ 0) || decide (l > 512))) ||
    (decide (p.type ≠ 0x01) && match s.conn p.dstConn with
      | some x => decide (l > x.maxPayload)
      | none => false)

/-- The UDP payload is shorter than a header, or disagrees with `PAYLOAD_LEN` (R78 reason 5). -/
def headBad (d : Datagram) : Bool := decide (d.data.length < 32) || decide (be d.data 28 2 ≠ d.data.length - 32)

/-- Hand a PDU to the transport, or drop it: length first, then a type that never comes in. -/
def State.handOn (s : State) (port inst : Nat) (d : Datagram) : State :=
  let p := pduOf port inst d
  if headBad d || s.lenBad p then s.drop port 5
  else if !typeIn p.type then s.drop port 7
  else { s with host := { s.host with delivered := s.host.delivered ++ [p] } }

/-- A frame on an enabled port meets the checks (R78). A host port receives nothing on a sub-interface that its active mode does not provide
(DESIGN CHOICE: R44 gives such a sub-interface no lanes). The management port accepts frames without a tag only (R549). -/
def State.checkFrame (s : State) (f : FrameIn) : State :=
  let port := f.port
  let q := SMap.getD 0 s.host.fwq port
  let group := nbit f.dstMac 40
  if s.noSub port f.subif then s
  else if group = false ∧ f.dstMac ≠ s.portMac port f.subif then s
  else if port < 16 ∧ s.hpClass port = 0 then s.drop port 1
  else
    let e := s.pasesar f
    let waiting := SMap.getD [] s.host.clsq port
    if e.isSome ∧ port < 16 ∧ waiting.length ≥ 512 then (s.count 0x1A4 (0x0C0 + 4 * port)).raise 0x1A4 1
    else if f.fcsOk = false then s.drop port 0
    else if f.len > 9216 ∨ f.len < 64 ∨ f.extraTags ∨ (port ≥ 16 ∧ f.vlan.isSome) then s.drop port 1
    else
      match e with
      | none =>
        if q ≥ 256 then s.drop port 4
        else { s with host := { s.host with fwq := SMap.setD 0 s.host.fwq port (q + 1) } }
      | some e =>
        if s.vlanBad f e then s.drop port 1
        else if f.ipOk = false ∨ f.fragment then s.drop port 2
        else if f.sumOk = false then s.drop port 3
        else
          let d : Datagram := { subif := f.subif, entry := e, srcMac := f.srcMac, srcIp := f.srcIp, srcUdp := f.srcUdp, dstIp := f.dstIp, data := f.data }
          if port ≥ 16 then s.handOn port (s.fld 0x050 0x048 9 0) d
          else { s with host := { s.host with clsq := SMap.setD [] s.host.clsq port (waiting ++ [d]) } }

/-- A received frame (R78). `taken` frames have left the port's firmware queue since the last one (R46). A host port whose `ENABLE` is 0
receives none; at the management port a frame waits for `ENABLE` (R551). -/
def State.frame (s : State) (f : FrameIn) (taken : Nat) : State :=
  let port := min f.port 16
  let f := { f with port := port }
  let s := { s with host := { s.host with fwq := SMap.setD 0 s.host.fwq port (SMap.getD 0 s.host.fwq port - taken) } }
  if port ≥ 16 then
    if s.enabled 0x007 then s.checkFrame f else { s with host := { s.host with mgmtq := s.host.mgmtq ++ [f] } }
  else if s.enabled (0x030 + port) then s.checkFrame f
  else s

/-- The frames that have waited for the management port's `ENABLE` (R551). -/
def State.mgmtWake (s : State) : State :=
  if s.enabled 0x007 then s.host.mgmtq.foldl State.checkFrame { s with host := { s.host with mgmtq := [] } } else s

/-! ### Classification (R48, R281, R282) -/

/-- The search key of a datagram (R48). -/
def clsKey (port : Nat) (d : Datagram) : Nat := 2 ^ 32 * d.srcIp + 2 ^ 16 * d.srcUdp + 2 ^ 12 * port + d.entry * 2 ^ 9

/-- The next port that SB0 serves: the first after the last one served that has a datagram waiting. -/
def State.clsNext (s : State) : Option Nat :=
  ((List.range 16).map fun i => (s.host.clsLast + 1 + i) % 16).find? fun p => decide (SMap.getD [] s.host.clsq p ≠ [])

/-- SB0 classifies the next datagram, where the window has a slot for it (R277, R294); the winner's PRIO or ASSOC may be read with an uncorrectable error, which counts as a miss. -/
def State.classify (s : State) (badPrio badAssoc : Bool) : State :=
  match s.clsNext with
  | none => s
  | some port =>
    match SMap.getD [] s.host.clsq port with
    | [] => s
    | d :: rest =>
      if s.bankOn 0 = true ∧ s.slotLeft 0 .classification = false then s else
      let s := { s with host := { s.host with clsq := SMap.setD [] s.host.clsq port rest, clsLast := port } }
      let r := if s.bankOn 0 then
          let x := (s.spendSlot 0 .classification).search 0 (clsKey port d) (2 ^ 160 - 1) 15 false
          x.1.readOut x.2 badPrio badAssoc
        else (s, {})
      let s := r.1
      if headBad d || s.lenBad (pduOf port 0 d) then s.drop port 5
      else if r.2.hit = false ∨ r.2.err ∨ nbit r.2.assoc 31 = false then s.drop port 6
      else s.handOn port (r.2.assoc % 1024) d

/-! ### Acknowledgement (R51, R55, R64, R65, R69) -/

/-- A PDU of the connection is acknowledged: reports are done (R105), the device's `CLOSE` is acknowledged (R55). -/
def State.acked (s : State) (c : Nat) (p : TxPdu) : State :=
  let s := if p.type = tResp ∨ p.type = tAbortResp then s.reportAcked p.item else s
  if p.type = tClose then s.modConn c fun x => { x with closeAcked := true } else s

/-- Whether an acknowledgement covers a PSN. -/
def covered (ack : W32) (sack : W64) (psn : W32) : Bool :=
  !isAhead psn ack || (decide (psnAhead psn ack ≤ 64) && sack.getLsbD (psnAhead psn ack - 1))

/-- Free a connection once both `CLOSE` PDUs are acknowledged (R55). -/
def State.freeIfClosed (s : State) (c : Nat) : State :=
  match s.conn c with
  | none => s
  | some x =>
    if x.closeRcvd && x.closeAcked && x.unacked.isEmpty && x.waiting.isEmpty then
      (if x.ackDue then s.sendAck c else s).freeConn c
    else s

/-- The acknowledgement fields of a PDU act (R50, R64, R69): acknowledged PDUs leave, the window opens. -/
def State.takeAck (s : State) (c : Nat) (p : PduIn) : State :=
  match s.conn c with
  | none => s
  | some x =>
    if nbit p.flags 15 = false then s
    else
      let gone := x.unacked.filter fun q => covered p.ackPsn p.sack q.psn
      let fwd := isAhead p.ackPsn x.peerAck
      let ack := if fwd then p.ackPsn else x.peerAck
      let s := s.setConn c { x with
        unacked := x.unacked.filter fun q => !covered p.ackPsn p.sack q.psn, peerAck := ack,
        peerSack := if fwd ∨ p.ackPsn = x.peerAck then p.sack else x.peerSack, rtoCur := if fwd then x.rtoUs else x.rtoCur,
        rtoFrom := if fwd then s.now else x.rtoFrom }
      let s := gone.foldl (fun s q => s.acked c q) s
      (s.drainWaiting 64 c).freeIfClosed c

/-! ### Checks of a PDU on a connection (R49, R62, R78 reasons 5, 8 and 9) -/

/-- Take a delivered PDU off the queue. -/
def State.undeliver (s : State) (p : PduIn) : State :=
  { s with host := { s.host with delivered := s.host.delivered.erase p } }

/-- The address, port and instance of a PDU are those of the connection (R49, R549). -/
def sameEnd (x : Conn) (p : PduIn) : Bool :=
  decide (x.helloIp = p.srcIp) && decide (x.helloUdp = p.srcUdp) && decide (x.port = min p.port 16) &&
    (decide (p.port ≥ 16) || decide (x.inst = p.inst))

/-- A PDU passes the checks and its acknowledgement fields act: the connection, as it then stands. -/
def State.pduIn (s : State) (p : PduIn) : State × Option Conn :=
  let s := s.undeliver p
  if s.lenBad p then (s.drop p.port 5, none)
  else
    match s.conn p.dstConn with
    | none => ((s.drop p.port 9).replyNoConn p, none)
    | some x =>
      if p.version ≠ x.version then (s.drop p.port 8, none)
      else if sameEnd x p = false then ((s.drop p.port 9).replyNoConn p, none)
      else (s, some x)

/-- What every PDU that reaches its connection does: the keepalive timer restarts (R59), a sequenced PDU or `ACK` establishes the connection
(R55). A PDU that has passed every check of R78 is `valid`: its source MAC becomes the connection's (R47). -/
def State.heard (s : State) (c : Nat) (p : PduIn) (opens valid : Bool) : State :=
  s.modConn c fun x => { x with lastMac := if valid then p.srcMac else x.lastMac, rxUs := s.now,
                                state := if opens ∧ x.state = .helloRcvd then .established else x.state }

/-! ### Sequenced PDUs (R65, R67, R68) -/

/-- Move `ACK_PSN` over the PSNs received without a hole. -/
def ackUp : Nat → W32 → W64 → W32 × W64
  | 0, a, k => (a, k)
  | f + 1, a, k => if k.getLsbD 0 then ackUp f (a + 1) (k >>> 1) else (a, k)

/-- Acknowledge as R67 and R68 ask when PSN `psn` has been recorded: at once with `ACKREQ` or at the first hole; where it leaves a hole below
it, a `NAK` names the lowest missing PSN, not twice within one retransmission timeout. -/
def State.ackNow (s : State) (c : Nat) (psn : W32) (req : Bool) (was : W64) : State :=
  match s.conn c with
  | none => s
  | some x =>
    let hole := x.sack ≠ 0
    let s := if req ∨ (hole ∧ was = 0) then s.sendAck c else s
    let miss := x.ackPsn + 1
    if isAhead psn x.ackPsn ∧ ¬ (x.nakPsn = some miss ∧ s.now < x.nakUs + x.rtoCur) then
      (s.modConn c fun x => { x with nakPsn := some miss, nakUs := s.now }).sendUnseq c tNak 0 (beBytes 4 miss.toNat)
    else s

/-- A `CLOSE` of the initiator takes effect (R58). -/
def State.takeClose (s : State) (c : Nat) : State :=
  (s.modConn c fun x => { x with state := .closing, closeRcvd := true }).freeIfClosed c

/-- A PDU handed to the command engine. -/
def State.takeHeld (s : State) (c : Nat) : HeldPdu → State
  | .cmd op m => s.receiveCmd c op m
  | .abort t mac => (s.setMac c mac).abortTag c t
  | .close mac => (s.setMac c mac).takeClose c

/-- Hand over, in PSN order, what waits for no lower PSN (R65). -/
def State.handOver : Nat → State → Nat → State
  | 0, s, _ => s
  | f + 1, s, c =>
    match s.conn c with
    | none => s
    | some x =>
      match x.held with
      | [] => s
      | (psn, h) :: rest =>
        if isAhead psn x.ackPsn then s
        else State.handOver f ((s.setConn c { x with held := rest }).takeHeld c h) c

/-- Whether a PDU for the command engine, in PSN order, or a `DATA_OUT` passes checks 12 and 13 of R78 as well. -/
def State.goodPdu (s : State) (c : Nat) (p : PduIn) (h : Option HeldPdu) : Bool :=
  match h with
  | none => (s.takesData c p.tag).isSome
  | some (.cmd _ m) => !s.discards c m.pdu.tag
  | some _ => true

/-- A sequenced PDU (R65): a duplicate or one beyond the window is dropped and answered with an `ACK`; any other is recorded, and `act`
follows; one for the command engine waits for every lower PSN, and counts as received only then. -/
def State.sequenced (s : State) (p : PduIn) (h : Option HeldPdu) (act : State → State) : State :=
  match s.pduIn p with
  | (s, none) => s
  | (s, some x) =>
    let c := p.dstConn
    let d := psnAhead p.psn x.ackPsn
    if isAhead p.psn x.ackPsn = false ∨ (d ≤ 64 ∧ x.sack.getLsbD (d - 1)) then
      ((s.heard c p true false).drop p.port 10).sendAck c
    else if d > 64 then ((s.heard c p true false).drop p.port 11).sendAck c
    else
      let was := x.sack
      let up := ackUp 64 x.ackPsn (x.sack ||| 1 <<< (d - 1))
      let held := match h with
        | none => x.held
        | some h => insertBy (fun a b => decide (psnAhead b.1 x.ackPsn < psnAhead a.1 x.ackPsn)) (p.psn, h) x.held
      let s := s.setConn c { x with
        ackPsn := up.1, sack := up.2, held := held, ackDue := true, ackFrom := if x.ackDue then x.ackFrom else s.now }
      let good := (h.isNone || !isAhead p.psn up.1) && s.goodPdu c p h
      let s := ((s.heard c p true good).takeAck c p).ackNow c p.psn (nbit p.flags 14) was
      State.handOver 64 (act s) c

/-! ### Write data (R71 to R73) -/

/-- Byte offsets of a `DATA_OUT` lie within one outstanding grant or another. -/
def inGrants (grants : List (Nat × Nat)) (o len : Nat) : Bool :=
  (List.range len).all fun i => grants.any fun g => decide (g.1 ≤ o + i) && decide (o + i < g.1 + g.2)

/-- Whether a byte has been received. -/
def hasByte (got : List (Nat × Nat)) (i : Nat) : Bool := got.any fun g => decide (g.1 ≤ i) && decide (i < g.1 + g.2)

/-- Put a byte range among disjoint, rising ranges. -/
def addRange (o len : Nat) : List (Nat × Nat) → List (Nat × Nat)
  | [] => [(o, len)]
  | g :: l =>
    if g.1 + g.2 < o then g :: addRange o len l
    else if o + len < g.1 then (o, len) :: g :: l
    else addRange (min o g.1) (max (o + len) (g.1 + g.2) - min o g.1) l

/-- Write the bytes that have not been received before: the first copy stands. -/
def putNew (got : List (Nat × Nat)) : SMap Byte → Nat → List Byte → SMap Byte
  | m, _, [] => m
  | m, o, b :: l => putNew got (if hasByte got o then m else SMap.setD 0 m o b) (o + 1) l

/-- A command's write data is complete (R72, R95, R133): its deadline clock starts, readers that waited for it take its data, and a
promised command starts; a best-effort one is queued. -/
def State.dataDone (s : State) (n : Nat) : State :=
  match s.item n with
  | none => s
  | some it =>
    let now := s.now
    let s := s.modItem n fun x => { x with state := .queued, startUs := now, clockOn := true }
    let s := (if isWriting it.op then s.staged n else s).carveWrite n
    if it.promised then s.begin' n else s

/-- Bytes of a `DATA_OUT` reach its command, and the staging buffers it holds. -/
def State.dataIn (s : State) (n : Nat) (it : Item) (o : Nat) (data : List Byte) : State :=
  if data ≠ [] ∧ (o + data.length > it.outLen ∨ inGrants it.grants o data.length = false) then s.lengthMismatch n
  else
    let got := if data = [] then it.got else addRange o data.length it.got
    let now := s.now
    let s := s.modItem n fun x => { x with
      wdata := putNew it.got it.wdata o data, got := got, stagedUs := now,
      grants := it.grants.filter fun g => !(got.any fun r => decide (r.1 ≤ g.1) && decide (g.1 + g.2 ≤ r.1 + r.2)) }
    let s := s.landData n o data
    if got = [(0, it.outLen)] then s.dataDone n else s

/-- A `DATA_OUT` (R71 to R73): for no command in its data phase it is discarded under reason 12. -/
def State.dataOut (s : State) (p : PduIn) : State :=
  s.sequenced p none fun s =>
    match s.takesData p.dstConn p.tag with
    | none => s.drop p.port 12
    | some (n, it) => s.dataIn n it (be p.payload 0 4) (p.payload.drop 8)

/-! ### Unsequenced PDUs -/

/-- A release record of an `ACK` (R75). -/
def State.release (s : State) (c tag bytes : Nat) : State :=
  match s.findTag c tag with
  | none => s
  | some n => s.modItem n fun it => if it.ring then { it with released := min it.sent (it.released + bytes) } else it

/-- An `ACK` (R52, R54, R75). -/
def State.ackPdu (s : State) (p : PduIn) : State :=
  match s.pduIn p with
  | (s, none) => s
  | (s, some _) =>
    let s := (s.heard p.dstConn p true true).takeAck p.dstConn p
    let s := (List.range (p.payload.length / 8)).foldl (fun s i =>
      s.release p.dstConn (be p.payload (8 * i) 4) (be p.payload (8 * i + 4) 4)) s
    if nbit p.flags 14 then s.sendAck p.dstConn else s

/-- A `NAK` (R68): the named PDU goes out again at once. -/
def State.nakPdu (s : State) (p : PduIn) : State :=
  match s.pduIn p with
  | (s, none) => s
  | (s, some _) =>
    let c := p.dstConn
    let s := (s.heard c p false true).takeAck c p
    let s := match (s.conn c).bind fun x => x.unacked.find? fun q => decide (q.psn.toNat = be p.payload 0 4) with
      | some q => s.resend c q 0
      | none => s
    if nbit p.flags 14 then s.sendAck c else s

/-- A `KEEPALIVE` (R70). -/
def State.keepPdu (s : State) (p : PduIn) : State :=
  match s.pduIn p with
  | (s, none) => s
  | (s, some _) =>
    let s := (s.heard p.dstConn p false true).takeAck p.dstConn p
    if nbit p.flags 14 then s.sendAck p.dstConn else s

/-! ### HELLO (R55 to R57, R62, R549, R550) -/

/-- The highest common version (R62); in recovery 1.0 alone (R491). -/
def State.pickVersion (s : State) (lo hi : Nat) : Option Nat :=
  let best := if s.stageNow = 5 then 0x10 else 0x13
  if lo > best ∨ hi < 0x10 ∨ hi < lo then none else some (min hi best)

/-- Connections of an instance. Those of the management port bound to it count too (DESIGN CHOICE: R56 and R549 leave open whether they use up
its CONN_QUOTA). -/
def State.connsOf (s : State) (i : Nat) : Nat := (s.host.conns.filter fun e => decide (e.2.inst = i)).length

/-- The lowest unused connection ID. -/
def State.freeConnId (s : State) : Option Nat := (List.range 65536).find? fun c => (s.conn c).isNone

/-- A port's timer registers (R79); the management port has none, and takes their reset values. -/
def State.portFld (s : State) (port off hi lo : Nat) : Nat :=
  if port ≥ 16 then fget (regReset (rkey 0x030 off)) hi lo else s.fld (0x030 + port) off hi lo

/-- The payload of a `HELLO_ACK` (R53). -/
def helloAck (s : State) (x : Conn) : List Byte :=
  beBytes 1 x.version ++ zeros 1 ++ beBytes 2 x.inst ++ beBytes 4 x.initPsn.toNat ++ beBytes 2 x.maxPayload ++ beBytes 2 x.maxCmds ++
    beBytes 2 x.keepaliveMs ++ beBytes 1 s.selfId ++ zeros 1

/-- Resources for a new connection (R56, R57, R491, R549). -/
def State.roomFor (s : State) (p : PduIn) : Bool :=
  let i := s.inst p.inst
  decide (be p.payload 8 2 ≥ 1024) && s.freeConnId.isSome && (decide (s.stageNow ≠ 5) || s.host.conns.isEmpty) &&
    (decide (p.port ≥ 16) || (decide (i.state = .active) && decide (s.connsOf p.inst < i.connQuota)))

/-- A new connection (R57): the device's first PSN is a free value. `MAX_CMDS` outside the 1 to 4,096 of R53 is taken as it stands (DESIGN
CHOICE: no rule refuses or clamps it). -/
def State.newConn (s : State) (p : PduIn) (c version : Nat) : State :=
  let f := s.free
  let s := f.2
  let i := s.inst p.inst
  let port := min p.port 16
  let psn : W32 := BitVec.ofNat 32 f.1
  let first : W32 := BitVec.ofNat 32 (be p.payload 4 4)
  let pay := max 1024 (min (be p.payload 8 2) (s.portFld port 0x050 13 0) / 256 * 256)
  let kmax := s.portFld port 0x04C 31 16
  let ka := be p.payload 12 2
  let cmds := be p.payload 10 2
  let x : Conn :=
    { port := port, subif := p.subif, entry := p.entry, localIp := p.dstIp, inst := p.inst, helloIp := p.srcIp, helloUdp := p.srcUdp, lastMac := p.srcMac,
      peerConn := p.srcConn, version := version, helloPsn := first, initPsn := psn, maxPayload := pay,
      maxCmds := if port ≥ 16 then cmds else min cmds (i.cmdQuota - s.heldByInst p.inst),
      keepaliveMs := if ka = 0 then kmax else max 100 (min ka kmax), rtoUs := s.portFld port 0x048 15 0,
      ackDelayUs := s.portFld port 0x048 23 16, retryMax := s.portFld port 0x048 31 28, dataTimeoutUs := s.portFld port 0x04C 15 0,
      ackPsn := first - 1, peerAck := psn - 1, nextPsn := psn, rtoCur := s.portFld port 0x048 15 0, rxUs := s.now,
      openUs := s.now }
  (s.setConn c x).sendUnseq c tHelloAck 0 (helloAck s x)

/-- A new `HELLO` is checked and taken (R56). -/
def State.takeHello (s : State) (p : PduIn) : State :=
  match s.pickVersion (be p.payload 0 1) (be p.payload 1 1) with
  | none => (s.drop p.port 14).replyClose p 2
  | some v =>
    match s.roomFor p, s.freeConnId with
    | true, some c => s.newConn p c v
    | _, _ => (s.drop p.port 14).replyClose p 3

/-- `HELLO` (R56, R62): a retransmission is answered again; one that replaces a connection fails it first. On the management port the
instance is `VIM_MGMT.INSTANCE` as it stands now (R154, R549). -/
def State.hello (s : State) (p : PduIn) : State :=
  let s := s.undeliver p
  let p := if p.port ≥ 16 then { p with inst := s.fld 0x050 0x048 9 0 } else p
  if s.lenBad p then s.drop p.port 5
  else if p.version ≠ be p.payload 1 1 then s.drop p.port 8
  else
    match s.host.conns.find? fun e => decide (e.2.helloIp = p.srcIp) && decide (e.2.helloUdp = p.srcUdp) && decide (e.2.peerConn = p.srcConn) with
    | none => s.takeHello p
    | some (c, x) =>
      if x.helloPsn.toNat = be p.payload 4 4 ∧ x.state ≠ .closing then (s.heard c p false true).sendUnseq c tHelloAck 0 (helloAck s x)
      else (s.failConn c 6).takeHello p

/-! ### Commands -/

/-- `FRAME_RECEIVE` (R45, R46, R78, R548, R549). -/
def execFrameReceive (f : FrameIn) (taken : Nat) (s : State) : Host.Outcome State Fault Refusal := .next (s.frame f taken)
/-- `CLASSIFICATION` (R48, R281, R282). -/
def execClassification (badPrio badAssoc : Bool) (s : State) : Host.Outcome State Fault Refusal := .next (s.classify badPrio badAssoc)
/-- `HELLO` (R56, R57, R62). -/
def execHello (p : PduIn) (s : State) : Host.Outcome State Fault Refusal := .next (s.hello { p with type := 0x01 })
/-- `CLOSE` (R58). -/
def execClose (p : PduIn) (s : State) : Host.Outcome State Fault Refusal :=
  .next (s.sequenced { p with type := tClose } (some (.close p.srcMac)) fun s => s)
/-- `KEEPALIVE` (R70). -/
def execKeepalive (p : PduIn) (s : State) : Host.Outcome State Fault Refusal := .next (s.keepPdu { p with type := tKeepalive })
/-- `ACK` (R54, R64, R65, R75). -/
def execAck (p : PduIn) (s : State) : Host.Outcome State Fault Refusal := .next (s.ackPdu { p with type := tAck })
/-- `NAK` (R68). -/
def execNak (p : PduIn) (s : State) : Host.Outcome State Fault Refusal := .next (s.nakPdu { p with type := tNak })
/-- `DATA_OUT` (R71 to R73). -/
def execDataOut (p : PduIn) (s : State) : Host.Outcome State Fault Refusal := .next (s.dataOut { p with type := 0x14 })
/-- `ABORT` (R100). -/
def execAbort (p : PduIn) (s : State) : Host.Outcome State Fault Refusal :=
  .next (s.sequenced { p with type := 0x17 } (some (.abort (be p.payload 0 4) p.srcMac)) fun s => s)

end Sys2Proof.Machine
end

