-- ==== Sys2Proof/Machine/Send.lean ====
section
/-! DEFINITION. The sending side of the Pasesar transport (R58, R59, R67 to R79, R116, R117): grants, read data, frames leaving the
MACs, timers, links; and the rows of the commands, each a `CMD` at receipt (R65, R80). -/

namespace Sys2Proof.Machine

/-! ### Grants (R71, R73) -/

/-- The next `XFER_RDY` of an item: at most two grants outstanding, pieces of at most 1,048,576 B in rising order; withheld until its staging
buffers are allocated (R217). -/
def State.grant (s : State) (n : Nat) : State :=
  match s.item n with
  | none => s
  | some it =>
    if !it.inData || it.aborted || s.deaf it || SMap.getD false s.buf.stalled n || decide (it.grants.length ≥ 2) || decide (it.granted ≥ it.outLen) then s
    else
      let len := min 1048576 (it.outLen - it.granted)
      let now := s.now
      let s := s.modItem n fun x => { x with grants := x.grants ++ [(it.granted, len)], granted := it.granted + len, stagedUs := now }
      s.sendSeq it.conn tXferRdy 0 it.tag (beBytes 4 it.granted ++ beBytes 4 len)

/-! ### Read data (R74, R75) -/

/-- Bytes a `DATA_IN` may carry now: its payload, the ring's room and its end (R75). -/
def Item.dataRoom (it : Item) (maxPayload : Nat) : Nat :=
  let base := min it.out.length (maxPayload - 16)
  if it.ring then min base (min (it.inLen + it.released - it.sent) (it.inLen - it.sent % it.inLen)) else base

/-- `ADDR` of the next output byte (R74, R75). -/
def Item.dataAddr (it : Item) : Nat := it.bufOffset + if it.ring then it.sent % it.inLen else it.sent

/-- Send `len` bytes of an item's output as a `DATA_IN`; the last one of a command carries `LAST`, so the last byte is held back until
the output is known to be complete. A `READ_CLEAR` takes its snapshot only where the `DATA_IN` goes out (R163). -/
def State.dataSend (s : State) (n len : Nat) : State :=
  let old := s
  let s := s.migSnapshot n
  match s.item n with
  | none => s
  | some it =>
    match s.conn it.conn with
    | none => old
    | some x =>
      let all := decide (len = it.out.length)
      if it.port ≥ 32 ∨ it.aborted ∨ it.lost ∨ x.closeSent ∨ x.waiting ≠ [] ∨ inWindow x x.nextPsn = false ∨ len = 0 ∨
          len > it.dataRoom x.maxPayload ∨ (all = true ∧ it.outDone = false) then old
      else
        let p := beBytes 4 it.bufKey ++ zeros 4 ++ beBytes 8 it.dataAddr ++ it.out.take len
        let s := s.modItem n fun y => { y with out := y.out.drop len, sent := y.sent + len }
        s.sendSeq it.conn tDataIn (if all then flLast else 0) it.tag p 0 false (decide (it.op ≠ 0x43))

/-! ### Frames leave the MACs (R116, R117) -/

/-- A sub-interface may start its next frame: not while its port's transmitters are idle (R551), nor while the port holds an apply request
(R79). At the management port it waits for `ENABLE` (R551). -/
def State.mayTransmit (s : State) (port : Nat) : Bool :=
  if port ≥ 16 then s.enabled 0x007 else s.enabled (0x030 + port) && (SMap.find s.cfg.reqs (0x030 + port)).isNone

/-- A sub-interface starts its next frame (R116, R117). -/
def State.transmit (s : State) (port sub : Nat) : State := if s.mayTransmit port then s.sendFrame port sub else s

/-! ### Timers (R55, R58, R59, R67, R69, R70, R73) -/

/-- The retransmission timer expires: the oldest unacknowledged PDU goes again with `RETX` and `ACKREQ` and the timeout doubles, up to
16 × `RTO_US` (R69); one sent 1 + `RETRY_MAX` times fails the connection (R59). -/
def State.retxTimeout (s : State) (c : Nat) : State :=
  match s.conn c with
  | none => s
  | some x =>
    match x.unacked with
    | [] => s
    | p :: _ =>
      if s.now < x.rtoFrom + x.rtoCur then s
      else if p.tries ≥ 1 + x.retryMax then s.failConn c 6
      else (s.resend c p flAckreq).modConn c fun x =>
        { x with rtoCur := min (2 * x.rtoCur) (16 * x.rtoUs), rtoFrom := s.now }

/-- `KEEPALIVE_MS` without sending anything, nothing unacknowledged (R70). -/
def State.keepSend (s : State) (c : Nat) : State :=
  match s.conn c with
  | none => s
  | some x =>
    if s.now < x.txUs + 1000 * x.keepaliveMs ∨ x.unacked ≠ [] ∨ x.waiting ≠ [] ∨ x.closeSent then s else s.sendUnseq c tKeepalive 0 []

/-- Nothing has been received for 3 × `KEEPALIVE_MS` (R59, R70). The timer runs in `HELLO_RCVD` too (DESIGN CHOICE: R59 names no state, the row of
`HELLO_RCVD` in R55 no failure). -/
def State.keepTimeout (s : State) (c : Nat) : State :=
  match s.conn c with
  | none => s
  | some x => if s.now < x.rxUs + 3000 * x.keepaliveMs then s else s.failConn c 7

/-- `ACK_DELAY_US` after a sequenced PDU whose acknowledgement nothing has carried (R67). -/
def State.delayedAck (s : State) (c : Nat) : State :=
  match s.conn c with
  | none => s
  | some x => if x.ackDue && decide (x.ackFrom + x.ackDelayUs ≤ s.now) then s.sendAck c else s

/-- A connection that has stayed in `HELLO_RCVD` for 1 s is freed without any PDU (R55). -/
def State.helloTimeout (s : State) (c : Nat) : State :=
  match s.conn c with
  | none => s
  | some x => if x.state = .helloRcvd ∧ x.openUs + 1000000 ≤ s.now then s.freeConn c else s

/-- The latest `XFER_RDY` of a command still waits for room in the window (R64). -/
def State.rdyWaits (s : State) (it : Item) : Bool :=
  match s.conn it.conn with
  | none => false
  | some x => x.waiting.any fun p => decide (p.type = tXferRdy) && decide (p.tag = it.tag)

/-- The data timeout of a command (R73): counted from the sending of its latest `XFER_RDY` or its latest `DATA_OUT`. -/
def State.dataTimeout (s : State) (n : Nat) : State :=
  match s.item n with
  | none => s
  | some it =>
    if it.inData && !it.aborted && decide (it.granted > 0) && !s.rdyWaits it && decide (s.dataTimeoutAt it ≤ s.now) then s.lengthMismatch n else s

/-- The device's own `CLOSE` once no command remains on a connection its initiator has closed (R58). -/
def State.closeNormal (s : State) (c : Nat) : State :=
  match s.conn c with
  | none => s
  | some x => if x.closeRcvd && !x.closeSent && decide (s.heldByConn c = 0) then s.sendClose c 1 else s

/-! ### Links (R44, R79, R145) -/

/-- A sub-interface gains or loses link and FEC lock; one that its port's class or mode does not provide has no link. -/
def State.linkChange (s : State) (port sub : Nat) (up : Bool) : State :=
  if port ≥ 16 ∨ sub ≥ 4 then s
  else
    let pg := 0x030 + port
    let v := up && decide (s.hpClass port ≠ 0) && decide (sub < subsOf (s.fld pg 0x040 1 0))
    if nbit (s.fld pg 0x054 3 0) sub = v then s
    else (s.setFld pg 0x054 sub sub (if v then 1 else 0)).raise pg 0

/-! ### The `CMD` PDU (R53, R65, R80) -/

/-- The payload of a `CMD`: the transfer descriptor of R53 and the body of R80. The reserved bytes as one number: the descriptor's
eight, then the body's two. -/
def cmdPayload (op : Nat) (c : CmdIn) : List Byte :=
  (beBytes 4 c.outLen ++ beBytes 4 c.inLen ++ beBytes 4 c.bufKey ++ beBytes 4 c.xflags ++ beBytes 8 c.bufOffset ++
    beBytes 8 (c.reserved / 65536) ++ beBytes 1 op ++ beBytes 1 c.cflags ++ beBytes 2 c.reserved ++ beBytes 4 c.count ++
    beBytes 8 c.lba).take (48 - c.bodyCut) ++ c.params

/-- A `CMD` of an opcode arrives on its connection (R65); it counts as received, and is checked, once it waits for no lower PSN. -/
def State.cmdPdu (s : State) (op : Nat) (c : CmdIn) : State :=
  s.sequenced { c.pdu with type := 0x10, payload := cmdPayload op c } (some (.cmd op c)) fun s => s

/-- The operation of a `MIGRATION_LOG` in its CFLAGS (R161). -/
def migCmd (k : Nat) (c : CmdIn) : CmdIn := { c with cflags := c.cflags / 4 * 4 + k }

/-- A `CMD` whose opcode is unknown, or missing from the connection's version or from recovery (R63, R87, R491). -/
def State.unknownCmd (s : State) (op : Nat) (c : CmdIn) : State :=
  match s.conn c.pdu.dstConn with
  | none => s.cmdPdu op c
  | some x => if opInVersion op x.version && s.opInStage op then s else s.cmdPdu op c

/-! ### Commands -/

/-- `BLOCK_APPLY` (R37): the block whose common header lies on a page; frames that waited for the management port's `ENABLE` are taken
(R551). -/
def execBlockApply (page : Nat) (s : State) : Host.Outcome State Fault Refusal := .next (s.blockApply page).mgmtWake
/-- `SEND_XFER_RDY` (R71). -/
def execSendXferRdy (item : Nat) (s : State) : Host.Outcome State Fault Refusal := .next (s.grant item)
/-- `DATA_IN_SEND` (R74 to R76). -/
def execDataInSend (item len : Nat) (s : State) : Host.Outcome State Fault Refusal := .next (s.dataSend item len)
/-- `FRAME_TRANSMIT` (R116, R117). -/
def execFrameTransmit (port sub : Nat) (s : State) : Host.Outcome State Fault Refusal := .next (s.transmit port sub)
/-- `RETRANSMIT_TIMEOUT` (R59, R69). -/
def execRetransmitTimeout (conn : Nat) (s : State) : Host.Outcome State Fault Refusal := .next (s.retxTimeout conn)
/-- `KEEPALIVE_SEND` (R70). -/
def execKeepaliveSend (conn : Nat) (s : State) : Host.Outcome State Fault Refusal := .next (s.keepSend conn)
/-- `KEEPALIVE_TIMEOUT` (R59, R70). -/
def execKeepaliveTimeout (conn : Nat) (s : State) : Host.Outcome State Fault Refusal := .next (s.keepTimeout conn)
/-- `DELAYED_ACK` (R67). -/
def execDelayedAck (conn : Nat) (s : State) : Host.Outcome State Fault Refusal := .next (s.delayedAck conn)
/-- `HELLO_RCVD_TIMEOUT` (R55). -/
def execHelloRcvdTimeout (conn : Nat) (s : State) : Host.Outcome State Fault Refusal := .next (s.helloTimeout conn)
/-- `DATA_TIMEOUT` (R73). -/
def execDataTimeout (item : Nat) (s : State) : Host.Outcome State Fault Refusal := .next (s.dataTimeout item)
/-- `SEND_CLOSE_NORMAL` (R58). -/
def execSendCloseNormal (conn : Nat) (s : State) : Host.Outcome State Fault Refusal := .next (s.closeNormal conn)
/-- `LINK_CHANGE` (R79). -/
def execLinkChange (port sub : Nat) (up : Bool) (s : State) : Host.Outcome State Fault Refusal := .next (s.linkChange port sub up)
/-- `UNKNOWN_OPCODE` (R63, R87). -/
def execUnknownOpcode (op : Nat) (c : CmdIn) (s : State) : Host.Outcome State Fault Refusal := .next (s.unknownCmd op c)
/-- `READ` (R90; checks at receipt R87). -/
def execRead (c : CmdIn) (s : State) : Host.Outcome State Fault Refusal := .next (s.cmdPdu 0x01 c)
/-- `WRITE` (R94; checks at receipt R87). -/
def execWrite (c : CmdIn) (s : State) : Host.Outcome State Fault Refusal := .next (s.cmdPdu 0x02 c)
/-- `WRITE_ZEROES` (R175; checks at receipt R87). -/
def execWriteZeroes (c : CmdIn) (s : State) : Host.Outcome State Fault Refusal := .next (s.cmdPdu 0x03 c)
/-- `DEALLOCATE` (R175; checks at receipt R87). -/
def execDeallocate (c : CmdIn) (s : State) : Host.Outcome State Fault Refusal := .next (s.cmdPdu 0x04 c)
/-- `FLUSH` (R108; checks at receipt R87). -/
def execFlush (c : CmdIn) (s : State) : Host.Outcome State Fault Refusal := .next (s.cmdPdu 0x05 c)
/-- `SCAN` (R366; checks at receipt R87). -/
def execScan (c : CmdIn) (s : State) : Host.Outcome State Fault Refusal := .next (s.cmdPdu 0x08 c)
/-- `LOAD_PROGRAM` (R340; checks at receipt R87). -/
def execLoadProgram (c : CmdIn) (s : State) : Host.Outcome State Fault Refusal := .next (s.cmdPdu 0x09 c)
/-- `UNLOAD_PROGRAM` (R341; checks at receipt R87). -/
def execUnloadProgram (c : CmdIn) (s : State) : Host.Outcome State Fault Refusal := .next (s.cmdPdu 0x0A c)
/-- `SEARCH` (R283; checks at receipt R87). -/
def execSearch (c : CmdIn) (s : State) : Host.Outcome State Fault Refusal := .next (s.cmdPdu 0x0B c)
/-- `TABLE_UPDATE` (R286; checks at receipt R87). -/
def execTableUpdate (c : CmdIn) (s : State) : Host.Outcome State Fault Refusal := .next (s.cmdPdu 0x0C c)
/-- `DIGEST` (R266; checks at receipt R87). -/
def execDigest (c : CmdIn) (s : State) : Host.Outcome State Fault Refusal := .next (s.cmdPdu 0x10 c)
/-- `COMPARE_DIGEST` (R267; checks at receipt R87). -/
def execCompareDigest (c : CmdIn) (s : State) : Host.Outcome State Fault Refusal := .next (s.cmdPdu 0x11 c)
/-- `SEAL_RECORD` (R412; checks at receipt R87). -/
def execSealRecord (c : CmdIn) (s : State) : Host.Outcome State Fault Refusal := .next (s.cmdPdu 0x18 c)
/-- `VERIFY_SEAL` (R414; checks at receipt R87). -/
def execVerifySeal (c : CmdIn) (s : State) : Host.Outcome State Fault Refusal := .next (s.cmdPdu 0x19 c)
/-- `GET_SEAL_CHECKPOINT` (R415; checks at receipt R87). -/
def execGetSealCheckpoint (c : CmdIn) (s : State) : Host.Outcome State Fault Refusal := .next (s.cmdPdu 0x1A c)
/-- `IDENTIFY` (R84; checks at receipt R87). -/
def execIdentify (c : CmdIn) (s : State) : Host.Outcome State Fault Refusal := .next (s.cmdPdu 0x20 c)
/-- `GET_LOG` (R91; checks at receipt R87). -/
def execGetLog (c : CmdIn) (s : State) : Host.Outcome State Fault Refusal := .next (s.cmdPdu 0x21 c)
/-- `SET_FEATURE` (R85; checks at receipt R87). -/
def execSetFeature (c : CmdIn) (s : State) : Host.Outcome State Fault Refusal := .next (s.cmdPdu 0x22 c)
/-- `GET_FEATURE` (R85; checks at receipt R87). -/
def execGetFeature (c : CmdIn) (s : State) : Host.Outcome State Fault Refusal := .next (s.cmdPdu 0x23 c)
/-- `CREATE_INSTANCE` (R149; checks at receipt R87). -/
def execCreateInstance (c : CmdIn) (s : State) : Host.Outcome State Fault Refusal := .next (s.cmdPdu 0x40 c)
/-- `DELETE_INSTANCE` (R160; checks at receipt R87). -/
def execDeleteInstance (c : CmdIn) (s : State) : Host.Outcome State Fault Refusal := .next (s.cmdPdu 0x41 c)
/-- `RESET_INSTANCE` (R109; checks at receipt R87). -/
def execResetInstance (c : CmdIn) (s : State) : Host.Outcome State Fault Refusal := .next (s.cmdPdu 0x42 c)
/-- `SET_QUOTA` (R152; checks at receipt R87). -/
def execSetQuota (c : CmdIn) (s : State) : Host.Outcome State Fault Refusal := .next (s.cmdPdu 0x44 c)
/-- `MIGRATION_LOG_STOP` (R161; checks at receipt R87). -/
def execMigrationLogStop (c : CmdIn) (s : State) : Host.Outcome State Fault Refusal := .next (s.cmdPdu 0x43 (migCmd 0 c))
/-- `MIGRATION_LOG_START` (R161; checks at receipt R87). -/
def execMigrationLogStart (c : CmdIn) (s : State) : Host.Outcome State Fault Refusal := .next (s.cmdPdu 0x43 (migCmd 1 c))
/-- `MIGRATION_LOG_READ` (R162; checks at receipt R87). -/
def execMigrationLogRead (c : CmdIn) (s : State) : Host.Outcome State Fault Refusal := .next (s.cmdPdu 0x43 (migCmd 2 c))
/-- `MIGRATION_LOG_READ_CLEAR` (R163; checks at receipt R87). -/
def execMigrationLogReadClear (c : CmdIn) (s : State) : Host.Outcome State Fault Refusal := .next (s.cmdPdu 0x43 (migCmd 3 c))
/-- `FW_DOWNLOAD` (R497; checks at receipt R87). -/
def execFwDownload (c : CmdIn) (s : State) : Host.Outcome State Fault Refusal := .next (s.cmdPdu 0x48 c)
/-- `FW_ACTIVATE` (R498; checks at receipt R87). -/
def execFwActivate (c : CmdIn) (s : State) : Host.Outcome State Fault Refusal := .next (s.cmdPdu 0x49 c)
/-- `REG_READ` (R86; checks at receipt R87). -/
def execRegRead (c : CmdIn) (s : State) : Host.Outcome State Fault Refusal := .next (s.cmdPdu 0x4A c)
/-- `REG_WRITE` (R86; checks at receipt R87). -/
def execRegWrite (c : CmdIn) (s : State) : Host.Outcome State Fault Refusal := .next (s.cmdPdu 0x4B c)
/-- `DEVICE_RESET` (R110; checks at receipt R87). -/
def execDeviceReset (c : CmdIn) (s : State) : Host.Outcome State Fault Refusal := .next (s.cmdPdu 0x4C c)

end Sys2Proof.Machine
end

