-- ==== Sys2Proof/Machine/Dispatch.lean ====
section
/-! DEFINITION. The effect of each command: one arm for each constructor of `Instr`. -/
namespace Sys2Proof.Machine
open Sys2Proof

/-- The effect of a command on everything but the queue. -/
def exec (i : Instr) (s : State) : Host.Outcome State Fault Refusal :=
  match i with
  | .registerWrite req off width v parity => Sys2Proof.Machine.execRegisterWrite req off width v parity s
  | .errClr page req => Sys2Proof.Machine.execErrClr page req s
  | .irqForce page req bits => Sys2Proof.Machine.execIrqForce page req bits s
  | .begin req => Sys2Proof.Machine.execBegin req s
  | .commit req => Sys2Proof.Machine.execCommit req s
  | .rollback req => Sys2Proof.Machine.execRollback req s
  | .blockApply page => Sys2Proof.Machine.execBlockApply page s
  | .holdDeadline => Sys2Proof.Machine.execHoldDeadline s
  | .txnTimeout => Sys2Proof.Machine.execTxnTimeout s
  | .fuseSlotProgrammed ok => Sys2Proof.Machine.execFuseSlotProgrammed ok s
  | .frameReceive f taken => Sys2Proof.Machine.execFrameReceive f taken s
  | .classification badPrio badAssoc => Sys2Proof.Machine.execClassification badPrio badAssoc s
  | .hello p => Sys2Proof.Machine.execHello p s
  | .close p => Sys2Proof.Machine.execClose p s
  | .keepalive p => Sys2Proof.Machine.execKeepalive p s
  | .ack p => Sys2Proof.Machine.execAck p s
  | .nak p => Sys2Proof.Machine.execNak p s
  | .dataOut p => Sys2Proof.Machine.execDataOut p s
  | .abort p => Sys2Proof.Machine.execAbort p s
  | .sendXferRdy item => Sys2Proof.Machine.execSendXferRdy item s
  | .dataInSend item len => Sys2Proof.Machine.execDataInSend item len s
  | .frameTransmit port sub => Sys2Proof.Machine.execFrameTransmit port sub s
  | .retransmitTimeout conn => Sys2Proof.Machine.execRetransmitTimeout conn s
  | .keepaliveSend conn => Sys2Proof.Machine.execKeepaliveSend conn s
  | .keepaliveTimeout conn => Sys2Proof.Machine.execKeepaliveTimeout conn s
  | .delayedAck conn => Sys2Proof.Machine.execDelayedAck conn s
  | .helloRcvdTimeout conn => Sys2Proof.Machine.execHelloRcvdTimeout conn s
  | .dataTimeout item => Sys2Proof.Machine.execDataTimeout item s
  | .sendCloseNormal conn => Sys2Proof.Machine.execSendCloseNormal conn s
  | .linkChange port sub up => Sys2Proof.Machine.execLinkChange port sub up s
  | .read c => Sys2Proof.Machine.execRead c s
  | .write c => Sys2Proof.Machine.execWrite c s
  | .writeZeroes c => Sys2Proof.Machine.execWriteZeroes c s
  | .deallocate c => Sys2Proof.Machine.execDeallocate c s
  | .flush c => Sys2Proof.Machine.execFlush c s
  | .scan c => Sys2Proof.Machine.execScan c s
  | .loadProgram c => Sys2Proof.Machine.execLoadProgram c s
  | .unloadProgram c => Sys2Proof.Machine.execUnloadProgram c s
  | .search c => Sys2Proof.Machine.execSearch c s
  | .tableUpdate c => Sys2Proof.Machine.execTableUpdate c s
  | .digest c => Sys2Proof.Machine.execDigest c s
  | .compareDigest c => Sys2Proof.Machine.execCompareDigest c s
  | .sealRecord c => Sys2Proof.Machine.execSealRecord c s
  | .verifySeal c => Sys2Proof.Machine.execVerifySeal c s
  | .getSealCheckpoint c => Sys2Proof.Machine.execGetSealCheckpoint c s
  | .identify c => Sys2Proof.Machine.execIdentify c s
  | .getLog c => Sys2Proof.Machine.execGetLog c s
  | .setFeature c => Sys2Proof.Machine.execSetFeature c s
  | .getFeature c => Sys2Proof.Machine.execGetFeature c s
  | .createInstance c => Sys2Proof.Machine.execCreateInstance c s
  | .deleteInstance c => Sys2Proof.Machine.execDeleteInstance c s
  | .resetInstance c => Sys2Proof.Machine.execResetInstance c s
  | .setQuota c => Sys2Proof.Machine.execSetQuota c s
  | .migrationLogStop c => Sys2Proof.Machine.execMigrationLogStop c s
  | .migrationLogStart c => Sys2Proof.Machine.execMigrationLogStart c s
  | .migrationLogRead c => Sys2Proof.Machine.execMigrationLogRead c s
  | .migrationLogReadClear c => Sys2Proof.Machine.execMigrationLogReadClear c s
  | .fwDownload c => Sys2Proof.Machine.execFwDownload c s
  | .fwActivate c => Sys2Proof.Machine.execFwActivate c s
  | .regRead c => Sys2Proof.Machine.execRegRead c s
  | .regWrite c => Sys2Proof.Machine.execRegWrite c s
  | .deviceReset c => Sys2Proof.Machine.execDeviceReset c s
  | .admissionDecision plans late ns => Sys2Proof.Machine.execAdmissionDecision plans late ns s
  | .bestEffortStart item => Sys2Proof.Machine.execBestEffortStart item s
  | .calendarSlotAdvance us => Sys2Proof.Machine.execCalendarSlotAdvance us s
  | .commandComplete item => Sys2Proof.Machine.execCommandComplete item s
  | .abortComplete item => Sys2Proof.Machine.execAbortComplete item s
  | .deadlineWatchdog item unit => Sys2Proof.Machine.execDeadlineWatchdog item unit s
  | .flushComplete item => Sys2Proof.Machine.execFlushComplete item s
  | .instanceResetComplete inst => Sys2Proof.Machine.execInstanceResetComplete inst s
  | .instanceDeleteComplete inst => Sys2Proof.Machine.execInstanceDeleteComplete inst s
  | .deviceResetEffect => Sys2Proof.Machine.execDeviceResetEffect s
  | .activationGraceExpiry => Sys2Proof.Machine.execActivationGraceExpiry s
  | .dieDispatch die => Sys2Proof.Machine.execDieDispatch die s
  | .senseComplete die => Sys2Proof.Machine.execSenseComplete die s
  | .codewordDecode d => Sys2Proof.Machine.execCodewordDecode d s
  | .suspendComplete die => Sys2Proof.Machine.execSuspendComplete die s
  | .programComplete die => Sys2Proof.Machine.execProgramComplete die s
  | .programFailure die place => Sys2Proof.Machine.execProgramFailure die place s
  | .eraseComplete die => Sys2Proof.Machine.execEraseComplete die s
  | .eraseFailure die => Sys2Proof.Machine.execEraseFailure die s
  | .dieTimeout die => Sys2Proof.Machine.execDieTimeout die s
  | .channelTrainingDone ch fail eye dies => Sys2Proof.Machine.execChannelTrainingDone ch fail eye dies s
  | .mapUpdate item key old new => Sys2Proof.Machine.execMapUpdate item key old new s
  | .mapSegmentRebuild seg => Sys2Proof.Machine.execMapSegmentRebuild seg s
  | .mapCheckpoint seg => Sys2Proof.Machine.execMapCheckpoint seg s
  | .cacheDrain place => Sys2Proof.Machine.execCacheDrain place s
  | .garbageCollection g place => Sys2Proof.Machine.execGarbageCollection g place s
  | .wearLevelling g place => Sys2Proof.Machine.execWearLevelling g place s
  | .scrub die block => Sys2Proof.Machine.execScrub die block s
  | .calibration die block thresh => Sys2Proof.Machine.execCalibration die block thresh s
  | .refresh keys place => Sys2Proof.Machine.execRefresh keys place s
  | .dieRebuild keys => Sys2Proof.Machine.execDieRebuild keys s
  | .backgroundReread key => Sys2Proof.Machine.execBackgroundReread key s
  | .alloc q p booked fb chain => Sys2Proof.Machine.execAlloc q p booked fb chain s
  | .cell q t => Sys2Proof.Machine.execCell q t s
  | .hitch q h b => Sys2Proof.Machine.execHitch q h b s
  | .free q h => Sys2Proof.Machine.execFree q h s
  | .freeListRebuild p => Sys2Proof.Machine.execFreeListRebuild p s
  | .engineDispatch grp => Sys2Proof.Machine.execEngineDispatch grp s
  | .frameCompressed e cand poison => Sys2Proof.Machine.execFrameCompressed e cand poison s
  | .frameDecoded e arrived poison => Sys2Proof.Machine.execFrameDecoded e arrived poison s
  | .fwqTail grp req v => Sys2Proof.Machine.execFwqTail grp req v s
  | .fwqDescriptorStart grp => Sys2Proof.Machine.execFwqDescriptorStart grp s
  | .fwqDescriptorDone grp idx => Sys2Proof.Machine.execFwqDescriptorDone grp idx s
  | .load slot req => Sys2Proof.Machine.execLoad slot req s
  | .erase slot req => Sys2Proof.Machine.execErase slot req s
  | .lock slot req => Sys2Proof.Machine.execLock slot req s
  | .digestBlockEnd e upA upB => Sys2Proof.Machine.execDigestBlockEnd e upA upB s
  | .searchResult b badPrio badAssoc => Sys2Proof.Machine.execSearchResult b badPrio badAssoc s
  | .updateRecordSlot item delivered => Sys2Proof.Machine.execUpdateRecordSlot item delivered s
  | .regionSweep b => Sys2Proof.Machine.execRegionSweep b s
  | .entryParityCheck b idx err => Sys2Proof.Machine.execEntryParityCheck b idx err s
  | .fwSearch bank global => Sys2Proof.Machine.execFwSearch bank global s
  | .fwWrite bank index => Sys2Proof.Machine.execFwWrite bank index s
  | .fwInvalidate bank index => Sys2Proof.Machine.execFwInvalidate bank index s
  | .add core g d a b => Sys2Proof.Machine.execAdd core g d a b s
  | .sub core g d a b => Sys2Proof.Machine.execSub core g d a b s
  | .adds core g d a b => Sys2Proof.Machine.execAdds core g d a b s
  | .subs core g d a b => Sys2Proof.Machine.execSubs core g d a b s
  | .and core g d a b => Sys2Proof.Machine.execAnd core g d a b s
  | .or core g d a b => Sys2Proof.Machine.execOr core g d a b s
  | .xor core g d a b => Sys2Proof.Machine.execXor core g d a b s
  | .andn core g d a b => Sys2Proof.Machine.execAndn core g d a b s
  | .shl core g d a b => Sys2Proof.Machine.execShl core g d a b s
  | .shr core g d a b => Sys2Proof.Machine.execShr core g d a b s
  | .sar core g d a b => Sys2Proof.Machine.execSar core g d a b s
  | .rot core g d a b => Sys2Proof.Machine.execRot core g d a b s
  | .min core g d a b => Sys2Proof.Machine.execMin core g d a b s
  | .max core g d a b => Sys2Proof.Machine.execMax core g d a b s
  | .minu core g d a b => Sys2Proof.Machine.execMinu core g d a b s
  | .maxu core g d a b => Sys2Proof.Machine.execMaxu core g d a b s
  | .neg core g d a => Sys2Proof.Machine.execNeg core g d a s
  | .negs core g d a => Sys2Proof.Machine.execNegs core g d a s
  | .abs core g d a => Sys2Proof.Machine.execAbs core g d a s
  | .clz core g d a => Sys2Proof.Machine.execClz core g d a s
  | .popc core g d a => Sys2Proof.Machine.execPopc core g d a s
  | .bswap core g d a => Sys2Proof.Machine.execBswap core g d a s
  | .sextb core g d a => Sys2Proof.Machine.execSextb core g d a s
  | .sexth core g d a => Sys2Proof.Machine.execSexth core g d a s
  | .zexth core g d a => Sys2Proof.Machine.execZexth core g d a s
  | .mul core g d a b => Sys2Proof.Machine.execMul core g d a b s
  | .mulh core g d a b => Sys2Proof.Machine.execMulh core g d a b s
  | .mulhu core g d a b => Sys2Proof.Machine.execMulhu core g d a b s
  | .mac core g d a b => Sys2Proof.Machine.execMac core g d a b s
  | .div core g d a b => Sys2Proof.Machine.execDiv core g d a b s
  | .divu core g d a b => Sys2Proof.Machine.execDivu core g d a b s
  | .rem core g d a b => Sys2Proof.Machine.execRem core g d a b s
  | .remu core g d a b => Sys2Proof.Machine.execRemu core g d a b s
  | .addi core g d a imm => Sys2Proof.Machine.execAddi core g d a imm s
  | .andi core g d a imm => Sys2Proof.Machine.execAndi core g d a imm s
  | .ori core g d a imm => Sys2Proof.Machine.execOri core g d a imm s
  | .xori core g d a imm => Sys2Proof.Machine.execXori core g d a imm s
  | .shli core g d a n => Sys2Proof.Machine.execShli core g d a n s
  | .shri core g d a n => Sys2Proof.Machine.execShri core g d a n s
  | .sari core g d a n => Sys2Proof.Machine.execSari core g d a n s
  | .roti core g d a n => Sys2Proof.Machine.execRoti core g d a n s
  | .cmp core g d c a b => Sys2Proof.Machine.execCmp core g d c a b s
  | .cmpi core g d c a imm => Sys2Proof.Machine.execCmpi core g d c a imm s
  | .pand core g d a b => Sys2Proof.Machine.execPand core g d a b s
  | .por core g d a b => Sys2Proof.Machine.execPor core g d a b s
  | .pxor core g d a b => Sys2Proof.Machine.execPxor core g d a b s
  | .pandn core g d a b => Sys2Proof.Machine.execPandn core g d a b s
  | .pnot core g d a => Sys2Proof.Machine.execPnot core g d a s
  | .psetg core g d a => Sys2Proof.Machine.execPsetg core g d a s
  | .pget core g d => Sys2Proof.Machine.execPget core g d s
  | .pput core g a => Sys2Proof.Machine.execPput core g a s
  | .movl core g d imm => Sys2Proof.Machine.execMovl core g d imm s
  | .movh core g d imm => Sys2Proof.Machine.execMovh core g d imm s
  | .lb core g d a imm => Sys2Proof.Machine.execLb core g d a imm s
  | .lbu core g d a imm => Sys2Proof.Machine.execLbu core g d a imm s
  | .lh core g d a imm => Sys2Proof.Machine.execLh core g d a imm s
  | .lhu core g d a imm => Sys2Proof.Machine.execLhu core g d a imm s
  | .lw core g d a imm => Sys2Proof.Machine.execLw core g d a imm s
  | .ldx core g d a b width mode => Sys2Proof.Machine.execLdx core g d a b width mode s
  | .sb core g d a imm => Sys2Proof.Machine.execSb core g d a imm s
  | .sh core g d a imm => Sys2Proof.Machine.execSh core g d a imm s
  | .sw core g d a imm => Sys2Proof.Machine.execSw core g d a imm s
  | .stx core g d a b width mode => Sys2Proof.Machine.execStx core g d a b width mode s
  | .br core g off => Sys2Proof.Machine.execBr core g off s
  | .call core g off => Sys2Proof.Machine.execCall core g off s
  | .jr core g a => Sys2Proof.Machine.execJr core g a s
  | .callr core g a => Sys2Proof.Machine.execCallr core g a s
  | .ret core g => Sys2Proof.Machine.execRet core g s
  | .loop core g n a off => Sys2Proof.Machine.execLoop core g n a off s
  | .loopi core g n k off => Sys2Proof.Machine.execLoopi core g n k off s
  | .repi core g n => Sys2Proof.Machine.execRepi core g n s
  | .rep core g a => Sys2Proof.Machine.execRep core g a s
  | .lclr core g mask => Sys2Proof.Machine.execLclr core g mask s
  | .push core g d => Sys2Proof.Machine.execPush core g d s
  | .pop core g d => Sys2Proof.Machine.execPop core g d s
  | .lsave core g => Sys2Proof.Machine.execLsave core g s
  | .lrest core g => Sys2Proof.Machine.execLrest core g s
  | .nop core g => Sys2Proof.Machine.execNop core g s
  | .halt core g => Sys2Proof.Machine.execHalt core g s
  | .trap core g => Sys2Proof.Machine.execTrap core g s
  | .eret core g => Sys2Proof.Machine.execEret core g s
  | .wfi core g => Sys2Proof.Machine.execWfi core g s
  | .wfiWake core cycles => Sys2Proof.Machine.execWfiWake core cycles s
  | .fence core g => Sys2Proof.Machine.execFence core g s
  | .tlbinv core g a => Sys2Proof.Machine.execTlbinv core g a s
  | .csrr core g d n => Sys2Proof.Machine.execCsrr core g d n s
  | .csrw core g a n => Sys2Proof.Machine.execCsrw core g a n s
  | .cas core g d a b => Sys2Proof.Machine.execCas core g d a b s
  | .rnext core g d => Sys2Proof.Machine.execRnext core g d s
  | .rput core g a b => Sys2Proof.Machine.execRput core g a b s
  | .fldx core g d b => Sys2Proof.Machine.execFldx core g d b s
  | .tapr core g d => Sys2Proof.Machine.execTapr core g d s
  | .custom core g slot d a b => Sys2Proof.Machine.execCustom core g slot d a b s
  | .interruptTaken core => Sys2Proof.Machine.execInterruptTaken core s
  | .timerInterrupt core cycles => Sys2Proof.Machine.execTimerInterrupt core cycles s
  | .budgetExhausted core stall => Sys2Proof.Machine.execBudgetExhausted core stall s
  | .runStart item cluster => Sys2Proof.Machine.execRunStart item cluster s
  | .jobStart item => Sys2Proof.Machine.execJobStart item s
  | .closingJobStart core => Sys2Proof.Machine.execClosingJobStart core s
  | .ringStall item => Sys2Proof.Machine.execRingStall item s
  | .collectorGrant => Sys2Proof.Machine.execCollectorGrant s
  | .dramRead port a ecc obj slots => Sys2Proof.Machine.execDramRead port a ecc obj slots s
  | .dramWrite port a data ecc slots => Sys2Proof.Machine.execDramWrite port a data ecc slots s
  | .refreshTick ch rank => Sys2Proof.Machine.execRefreshTick ch rank s
  | .selfRefreshEntry ch rank => Sys2Proof.Machine.execSelfRefreshEntry ch rank s
  | .srDrainComplete ch rank => Sys2Proof.Machine.execSrDrainComplete ch rank s
  | .alert ch => Sys2Proof.Machine.execAlert ch s
  | .alertRecoveryEnd ch met recs => Sys2Proof.Machine.execAlertRecoveryEnd ch met recs s
  | .driftTracking ch rank dly => Sys2Proof.Machine.execDriftTracking ch rank dly s
  | .dramScrub a ecc obj => Sys2Proof.Machine.execDramScrub a ecc obj s
  | .dramTraining dimms => Sys2Proof.Machine.execDramTraining dimms s
  | .srdPowerOn => Sys2Proof.Machine.execSrdPowerOn s
  | .tamperSample sealN t0 t1 dt => Sys2Proof.Machine.execTamperSample sealN t0 t1 dt s
  | .ppsEdge good ref err dt => Sys2Proof.Machine.execPpsEdge good ref err dt s
  | .referenceLoss dt => Sys2Proof.Machine.execReferenceLoss dt s
  | .ppsTimeout dt => Sys2Proof.Machine.execPpsTimeout dt s
  | .mbInPost req item => Sys2Proof.Machine.execMbInPost req item s
  | .mbOutPop => Sys2Proof.Machine.execMbOutPop s
  | .srdSeal dt => Sys2Proof.Machine.execSrdSeal dt s
  | .srdVerify => Sys2Proof.Machine.execSrdVerify s
  | .srdGet => Sys2Proof.Machine.execSrdGet s
  | .hourCheckpoint dt => Sys2Proof.Machine.execHourCheckpoint dt s
  | .lockExpiry idx dt => Sys2Proof.Machine.execLockExpiry idx dt s
  | .mailboxReset => Sys2Proof.Machine.execMailboxReset s
  | .lockSet => Sys2Proof.Machine.execLockSet s
  | .lockClear => Sys2Proof.Machine.execLockClear s
  | .replayEnd => Sys2Proof.Machine.execReplayEnd s
  | .statusPost dt => Sys2Proof.Machine.execStatusPost dt s
  | .statusMessage => Sys2Proof.Machine.execStatusMessage s
  | .status dt => Sys2Proof.Machine.execStatus dt s
  | .ident => Sys2Proof.Machine.execIdent s
  | .nonce => Sys2Proof.Machine.execNonce s
  | .nonceLapse => Sys2Proof.Machine.execNonceLapse s
  | .timeSet utc leap ok => Sys2Proof.Machine.execTimeSet utc leap ok s
  | .leapSet utc leap ok => Sys2Proof.Machine.execLeapSet utc leap ok s
  | .leapApply dt => Sys2Proof.Machine.execLeapApply dt s
  | .verifyEnter bad ok => Sys2Proof.Machine.execVerifyEnter bad ok s
  | .verifyExit dt ok => Sys2Proof.Machine.execVerifyExit dt ok s
  | .fwLoad image version imgOk ok => Sys2Proof.Machine.execFwLoad image version imgOk ok s
  | .keygen ok => Sys2Proof.Machine.execKeygen ok s
  | .provision id auth ok => Sys2Proof.Machine.execProvision id auth ok s
  | .knotSignalDetect link => Sys2Proof.Machine.execKnotSignalDetect link s
  | .laneLock link peerHalf => Sys2Proof.Machine.execLaneLock link peerHalf s
  | .laneLockTimeout link => Sys2Proof.Machine.execLaneLockTimeout link s
  | .knotIdent link ver id sig home buddy => Sys2Proof.Machine.execKnotIdent link ver id sig home buddy s
  | .flitReceive link seq crcOk idle latNs => Sys2Proof.Machine.execFlitReceive link seq crcOk idle latNs s
  | .idleFlit link => Sys2Proof.Machine.execIdleFlit link s
  | .retrain link => Sys2Proof.Machine.execRetrain link s
  | .evict device => Sys2Proof.Machine.execEvict device s
  | .asnRequest peer item op inst lba count => Sys2Proof.Machine.execAsnRequest peer item op inst lba count s
  | .asnGrant item asn reason => Sys2Proof.Machine.execAsnGrant item asn reason s
  | .asnGrantTimeout item => Sys2Proof.Machine.execAsnGrantTimeout item s
  | .asnCancel inst asn => Sys2Proof.Machine.execAsnCancel inst asn s
  | .partReceive p => Sys2Proof.Machine.execPartReceive p s
  | .partResult r => Sys2Proof.Machine.execPartResult r s
  | .writeCompleteReport inst asn => Sys2Proof.Machine.execWriteCompleteReport inst asn s
  | .supersededRecordExpiry => Sys2Proof.Machine.execSupersededRecordExpiry s
  | .mirrorRecord peer caddr r back => Sys2Proof.Machine.execMirrorRecord peer caddr r back s
  | .mirrorHeld item credit => Sys2Proof.Machine.execMirrorHeld item credit s
  | .mirrorRelease caddr owner => Sys2Proof.Machine.execMirrorRelease caddr owner s
  | .peerTimeout link => Sys2Proof.Machine.execPeerTimeout link s
  | .thermalSample x => Sys2Proof.Machine.execThermalSample x s
  | .riseComplete => Sys2Proof.Machine.execRiseComplete s
  | .analogueTrip => Sys2Proof.Machine.execAnalogueTrip s
  | .pwrGoodRise id boot test => Sys2Proof.Machine.execPwrGoodRise id boot test s
  | .powerUpStage => Sys2Proof.Machine.execPowerUpStage s
  | .pwrGoodFall => Sys2Proof.Machine.execPwrGoodFall s
  | .pfail => Sys2Proof.Machine.execPfail s
  | .freeze => Sys2Proof.Machine.execFreeze s
  | .dumpStart => Sys2Proof.Machine.execDumpStart s
  | .dumpDone => Sys2Proof.Machine.execDumpDone s
  | .pfailRestart => Sys2Proof.Machine.execPfailRestart s
  | .sysResetN level => Sys2Proof.Machine.execSysResetN level s
  | .domReq req word v => Sys2Proof.Machine.execDomReq req word v s
  | .domainOff d => Sys2Proof.Machine.execDomainOff d s
  | .domainOn d => Sys2Proof.Machine.execDomainOn d s
  | .clockCheck ppm => Sys2Proof.Machine.execClockCheck ppm s
  | .aonClkLoss => Sys2Proof.Machine.execAonClkLoss s
  | .coreReset req mask => Sys2Proof.Machine.execCoreReset req mask s
  | .coreHold req mask => Sys2Proof.Machine.execCoreHold req mask s
  | .aonPor => Sys2Proof.Machine.execAonPor s
  | .fuseLoad => Sys2Proof.Machine.execFuseLoad s
  | .bootStage req stage => Sys2Proof.Machine.execBootStage req stage s
  | .startWatchdogExpiry => Sys2Proof.Machine.execStartWatchdogExpiry s
  | .scrapErase => Sys2Proof.Machine.execScrapErase s
  | .asyncEventSend conn code => Sys2Proof.Machine.execAsyncEventSend conn code s
  | .snap => Sys2Proof.Machine.execSnap s
  | .backgroundWindow got late => Sys2Proof.Machine.execBackgroundWindow got late s
  | .tapReset => Sys2Proof.Machine.execTapReset s
  | .tapInstruction code => Sys2Proof.Machine.execTapInstruction code s
  | .regacc write off data => Sys2Proof.Machine.execRegacc write off data s
  | .upLinkFailure link => Sys2Proof.Machine.execUpLinkFailure link s
  | .aonClkReturn => Sys2Proof.Machine.execAonClkReturn s
  | .selfRefreshExit ch rank => Sys2Proof.Machine.execSelfRefreshExit ch rank s
  | .vddAonLoss => Sys2Proof.Machine.execVddAonLoss s
  | .vddSrdLoss => Sys2Proof.Machine.execVddSrdLoss s
  | .illegalInstruction core w => Sys2Proof.Machine.execIllegalInstruction core w s
  | .unknownOpcode op c => Sys2Proof.Machine.execUnknownOpcode op c s

end Sys2Proof.Machine
end

