-- ==== Sys2Proof/Safety.lean ====
section
/-! DEFINITION. What a safe run of the block is: which parts of the state an operation may touch, and what every operation
keeps whatever it touches. -/

namespace Sys2Proof.Machine

/-- A footprint: the parts of the state an operation may change. The queue of commands is in none. -/
structure Foot where
  regs : Bool := false
  shVal : Bool := false
  shMask : Bool := false
  pairHi : Bool := false
  resp : Bool := false
  cfg : Bool := false
  host : Bool := false
  cmd : Bool := false
  cad : Bool := false
  insts : Bool := false
  flash : Bool := false
  buf : Bool := false
  eng : Bool := false
  dig : Bool := false
  srch : Bool := false
  cores : Bool := false
  ctlStores : Bool := false
  scan : Bool := false
  dram : Bool := false
  srd : Bool := false
  knot : Bool := false
  therm : Bool := false
  pwr : Bool := false
  otp : Bool := false
  tel : Bool := false
  jtag : Bool := false
  freeCtr : Bool := false
  deriving DecidableEq, Repr

/-- Every part of `a` is a part of `b`. -/
def Foot.le (a b : Foot) : Bool :=
  (!a.regs || b.regs) &&
  (!a.shVal || b.shVal) &&
  (!a.shMask || b.shMask) &&
  (!a.pairHi || b.pairHi) &&
  (!a.resp || b.resp) &&
  (!a.cfg || b.cfg) &&
  (!a.host || b.host) &&
  (!a.cmd || b.cmd) &&
  (!a.cad || b.cad) &&
  (!a.insts || b.insts) &&
  (!a.flash || b.flash) &&
  (!a.buf || b.buf) &&
  (!a.eng || b.eng) &&
  (!a.dig || b.dig) &&
  (!a.srch || b.srch) &&
  (!a.cores || b.cores) &&
  (!a.ctlStores || b.ctlStores) &&
  (!a.scan || b.scan) &&
  (!a.dram || b.dram) &&
  (!a.srd || b.srd) &&
  (!a.knot || b.knot) &&
  (!a.therm || b.therm) &&
  (!a.pwr || b.pwr) &&
  (!a.otp || b.otp) &&
  (!a.tel || b.tel) &&
  (!a.jtag || b.jtag) &&
  (!a.freeCtr || b.freeCtr)

/-- Between two states an operation changed only the parts of its footprint; the queue is unchanged; time has not run
backwards (R126); no fuse slot that holds anything has changed (R483); and addressed memory keeps its canonical form. -/
structure Touch (f : Foot) (s t : State) : Prop where
  pending : t.pending = s.pending
  regs : f.regs = false → t.regs = s.regs
  shVal : f.shVal = false → t.shVal = s.shVal
  shMask : f.shMask = false → t.shMask = s.shMask
  pairHi : f.pairHi = false → t.pairHi = s.pairHi
  resp : f.resp = false → t.resp = s.resp
  cfg : f.cfg = false → t.cfg = s.cfg
  host : f.host = false → t.host = s.host
  cmd : f.cmd = false → t.cmd = s.cmd
  cad : f.cad = false → t.cad = s.cad
  insts : f.insts = false → t.insts = s.insts
  flash : f.flash = false → t.flash = s.flash
  buf : f.buf = false → t.buf = s.buf
  eng : f.eng = false → t.eng = s.eng
  dig : f.dig = false → t.dig = s.dig
  srch : f.srch = false → t.srch = s.srch
  cores : f.cores = false → t.cores = s.cores
  ctlStores : f.ctlStores = false → t.ctlStores = s.ctlStores
  scan : f.scan = false → t.scan = s.scan
  dram : f.dram = false → t.dram = s.dram
  srd : f.srd = false → t.srd = s.srd
  knot : f.knot = false → t.knot = s.knot
  therm : f.therm = false → t.therm = s.therm
  pwr : f.pwr = false → t.pwr = s.pwr
  otp : f.otp = false → t.otp = s.otp
  tel : f.tel = false → t.tel = s.tel
  jtag : f.jtag = false → t.jtag = s.jtag
  freeCtr : f.freeCtr = false → t.freeCtr = s.freeCtr
  now : s.cad.nowUs ≤ t.cad.nowUs
  fuses : ∀ k, SMap.getD 0 s.otp.fuses k ≠ 0 → SMap.getD 0 t.otp.fuses k = SMap.getD 0 s.otp.fuses k
  mem : Memory.wf s = true → Memory.wf t = true

/-- An outcome is a next state, and only a footprint lies between. -/
def Leaves (f : Foot) (s : State) (o : Host.Outcome State Fault Refusal) : Prop :=
  match o with
  | .next t => Touch f s t
  | .fault _ => False
  | .refused _ => False

end Sys2Proof.Machine
end

