-- ==== Sys2Proof/Certificates/Slice0/Obligations.lean ====
section
/-! DEFINITION. The statements for the provers. Each says in its docstring which rule of spec/ it formalises. A name of
`Sys2Proof.Claims` is a word of these statements and no part of the machine. -/

open Sys2Proof Sys2Proof.Machine

namespace Sys2Proof.Claims

/-! ### Words of the statements -/

/-- Between two states only the parts of a footprint changed. -/
abbrev Keeps (f : Foot) (s t : State) : Prop := Touch f s t

/-- A command ends in a next state with a property. -/
def EndsIn (i : Instr) (s : State) (p : State → Prop) : Prop := ∃ t, exec i s = .next t ∧ p t

end Sys2Proof.Claims

open Sys2Proof.Claims

namespace Sys2Proof.Claims

/-! ### Nollek: words of the statements -/

/-- Core `c` stands ready, the fetch at its PC succeeds and leaves the core as `x`, and the guard is true (R300, R302). -/
def Runs (s : State) (c : Nat) (g : Guard) (x : Core) : Prop :=
  s.coreReady c = true ∧ (∃ w, s.fetchWord c (s.core c) (s.core c).pc = .ok (w, x)) ∧ x.guard g = true

/-- `y` is `x` after an instruction of `k` budget cycles that ended in sequence: its control part is what the loop-end check and
a repetition make of it (R316, R319, R324). -/
structure Retired (c k : Nat) (x y : Core) : Prop where
  flow : ∃ z, x.finishInstr .seq = .ok z ∧ y.pc = z.pc ∧ y.lc = z.lc ∧ y.rcnt = z.rcnt ∧ y.repeating = z.repeating
  cycle : y.cycle = x.cycle + BitVec.ofNat 64 k
  budget : y.budget = if isCtl c then x.budget else x.budget + BitVec.ofNat 64 k
  job : y.job = x.job.map fun j => { j with clock := j.clock + k }

/-- `y` is `x` but for its general registers, predicates, arithmetic flags and what every instruction moves. -/
def SameRest (x y : Core) : Prop :=
  { y with g := x.g, p := x.p, v := x.v, dz := x.dz, pc := x.pc, lc := x.lc, rcnt := x.rcnt, repeating := x.repeating,
           cycle := x.cycle, budget := x.budget, job := x.job } = x

/-- The instruction wrote `v` to gD (g0 keeps its 0), set the sticky flags it sets, and changed nothing else. -/
structure WroteReg (c k : Nat) (x : Core) (d : GReg) (v : W32) (ov dz : Bool) (y : Core) : Prop where
  ret : Retired c k x y
  g : ∀ r, y.rg r = if r = d ∧ r ≠ 0 then v else x.rg r
  p : y.p = x.p
  v : y.v = (x.v || ov)
  dz : y.dz = (x.dz || dz)
  rest : SameRest x y

/-- The instruction wrote `b` to pD (p0 keeps its 1) and changed nothing else. -/
structure WrotePred (c : Nat) (x : Core) (d : PReg) (b : Bool) (y : Core) : Prop where
  ret : Retired c 1 x y
  p : ∀ r, y.rp r = if r = d ∧ r ≠ 0 then b else x.rp r
  g : y.g = x.g
  v : y.v = x.v
  dz : y.dz = x.dz
  rest : SameRest x y

/-- Only core `c` changed, and it has a property. -/
def CoreOnly (s : State) (c : Nat) (q : Core → Prop) (t : State) : Prop :=
  Keeps { cores := true } s t ∧ (∀ i, i ≠ c → t.core i = s.core i) ∧ q (t.core c)

/-- An instruction ends with `v` in gD, the sticky flags and nothing else. -/
abbrev Writes (i : Instr) (s : State) (c k : Nat) (x : Core) (d : GReg) (v : W32) (ov dz : Bool) : Prop :=
  EndsIn i s (CoreOnly s c (WroteReg c k x d v ov dz))

/-- A saturated sum or difference, from the exact one. -/
def clamp (r : Int) : W32 := if r < -2147483648 then 0x80000000 else if r > 2147483647 then 0x7FFFFFFF else BitVec.ofInt 32 r

/-- An exact result lies outside the 32-bit two's complement range. -/
def outside (r : Int) : Bool := decide (r < -2147483648) || decide (r > 2147483647)

/-- The place the instruction ends at is aligned (R299, R316). -/
def EndsAligned (x : Core) : Prop := ∃ z, x.finishInstr .seq = .ok z

end Sys2Proof.Claims

/-- R304, R305: the wrapping, saturating and multiplying functions of major opcode 0x00 write their result to gD, set V where the
table says so, count 1 budget cycle, and change nothing else. -/
def Obligations.NollekArithmetic : Prop :=
  ∀ (s : State) (c : Nat) (g : Guard) (d a b : GReg) (x : Core), Runs s c g x → EndsAligned x →
    let va := x.rg a
    let vb := x.rg b
    Writes (.add c g d a b) s c 1 x d (va + vb) (outside (va.toInt + vb.toInt)) false ∧
    Writes (.sub c g d a b) s c 1 x d (va - vb) (outside (va.toInt - vb.toInt)) false ∧
    Writes (.adds c g d a b) s c 1 x d (clamp (va.toInt + vb.toInt)) false false ∧
    Writes (.subs c g d a b) s c 1 x d (clamp (va.toInt - vb.toInt)) false false ∧
    Writes (.mul c g d a b) s c 1 x d (va * vb) (outside (va.toInt * vb.toInt)) false ∧
    Writes (.mulh c g d a b) s c 1 x d (BitVec.ofInt 32 (va.toInt * vb.toInt / 4294967296)) false false ∧
    Writes (.mulhu c g d a b) s c 1 x d (BitVec.ofNat 32 ((va.toNat * vb.toNat) >>> 32)) false false ∧
    Writes (.mac c g d a b) s c 1 x d (x.rg d + va * vb) (outside ((x.rg d).toInt + va.toInt * vb.toInt)) false ∧
    Writes (.min c g d a b) s c 1 x d (if va.slt vb then va else vb) false false ∧
    Writes (.max c g d a b) s c 1 x d (if va.slt vb then vb else va) false false ∧
    Writes (.minu c g d a b) s c 1 x d (if va.ult vb then va else vb) false false ∧
    Writes (.maxu c g d a b) s c 1 x d (if va.ult vb then vb else va) false false ∧
    Writes (.neg c g d a) s c 1 x d (-va) (va == 0x80000000) false ∧
    Writes (.negs c g d a) s c 1 x d (if va = 0x80000000 then 0x7FFFFFFF else -va) false false ∧
    Writes (.abs c g d a) s c 1 x d (if va.msb then -va else va) (va == 0x80000000) false

/-- R304, R305, R324: a division or remainder by anything but 0 truncates toward 0, and counts 18 budget cycles; by 0 with
DZT at 0 it sets DZ and gives the table's value. -/
def Obligations.NollekDivision : Prop :=
  ∀ (s : State) (c : Nat) (g : Guard) (d a b : GReg) (x : Core), Runs s c g x → EndsAligned x →
    let va := x.rg a
    let vb := x.rg b
    (vb ≠ 0 →
      Writes (.div c g d a b) s c 18 x d (va.sdiv vb) (va == 0x80000000 && vb == 0xFFFFFFFF) false ∧
      Writes (.divu c g d a b) s c 18 x d (va / vb) false false ∧
      Writes (.rem c g d a b) s c 18 x d (va.srem vb) false false ∧
      Writes (.remu c g d a b) s c 18 x d (va % vb) false false) ∧
    (vb = 0 → x.dzt = false →
      Writes (.div c g d a b) s c 18 x d (if va.msb then 0x80000000 else 0x7FFFFFFF) false true ∧
      Writes (.divu c g d a b) s c 18 x d 0xFFFFFFFF false true ∧
      Writes (.rem c g d a b) s c 18 x d va false true ∧
      Writes (.remu c g d a b) s c 18 x d va false true)

/-- R304, R307, R303: the logical functions and the shifts. A register shift takes the amount in gB[7:0]; 32 and above shift
everything out, and a rotation takes it modulo 32. Immediates of the logical rows are zero-extended, ADDI's sign-extended. -/
def Obligations.NollekLogicAndShifts : Prop :=
  ∀ (s : State) (c : Nat) (g : Guard) (d a b : GReg) (imm : BitVec 12) (n : Fin 32) (x : Core), Runs s c g x → EndsAligned x →
    let va := x.rg a
    let vb := x.rg b
    let k := vb.toNat % 256
    Writes (.and c g d a b) s c 1 x d (va &&& vb) false false ∧
    Writes (.or c g d a b) s c 1 x d (va ||| vb) false false ∧
    Writes (.xor c g d a b) s c 1 x d (va ^^^ vb) false false ∧
    Writes (.andn c g d a b) s c 1 x d (va &&& ~~~vb) false false ∧
    Writes (.shl c g d a b) s c 1 x d (if k ≥ 32 then 0 else va <<< k) false false ∧
    Writes (.shr c g d a b) s c 1 x d (if k ≥ 32 then 0 else va >>> k) false false ∧
    Writes (.sar c g d a b) s c 1 x d (if k ≥ 32 then (if va.msb then 0xFFFFFFFF else 0) else va.sshiftRight k) false false ∧
    Writes (.rot c g d a b) s c 1 x d (va.rotateRight k) false false ∧
    Writes (.addi c g d a imm) s c 1 x d (va + imm.signExtend 32)
      (outside (va.toInt + (imm.signExtend 32).toInt)) false ∧
    Writes (.andi c g d a imm) s c 1 x d (va &&& imm.zeroExtend 32) false false ∧
    Writes (.ori c g d a imm) s c 1 x d (va ||| imm.zeroExtend 32) false false ∧
    Writes (.xori c g d a imm) s c 1 x d (va ^^^ imm.zeroExtend 32) false false ∧
    Writes (.shli c g d a n) s c 1 x d (va <<< n.val) false false ∧
    Writes (.shri c g d a n) s c 1 x d (va >>> n.val) false false ∧
    Writes (.sari c g d a n) s c 1 x d (va.sshiftRight n.val) false false ∧
    Writes (.roti c g d a n) s c 1 x d (va.rotateRight n.val) false false

/-- R303, R304, R309: counting, byte order, extension and moves. CLZ and POPC are said by the bits they count: the word has its
highest 1 just below the leading zeros, and POPC is the sum of the bits. -/
def Obligations.NollekBitsAndMoves : Prop :=
  ∀ (s : State) (c : Nat) (g : Guard) (d a : GReg) (imm : BitVec 16) (x : Core), Runs s c g x → EndsAligned x →
    let va := x.rg a
    (∃ n : Nat, n ≤ 32 ∧ (∀ i : Nat, 32 - n ≤ i → va.getLsbD i = false) ∧ (n < 32 → va.getLsbD (31 - n) = true) ∧
      Writes (.clz c g d a) s c 1 x d (BitVec.ofNat 32 n) false false) ∧
    Writes (.popc c g d a) s c 1 x d (BitVec.ofNat 32 ((List.range 32).map fun i => (va.getLsbD i).toNat).sum) false false ∧
    Writes (.bswap c g d a) s c 1 x d
      (va.extractLsb' 0 8 ++ va.extractLsb' 8 8 ++ va.extractLsb' 16 8 ++ va.extractLsb' 24 8) false false ∧
    Writes (.sextb c g d a) s c 1 x d ((va.extractLsb' 0 8).signExtend 32) false false ∧
    Writes (.sexth c g d a) s c 1 x d ((va.extractLsb' 0 16).signExtend 32) false false ∧
    Writes (.zexth c g d a) s c 1 x d ((va.extractLsb' 0 16).zeroExtend 32) false false ∧
    Writes (.movl c g d imm) s c 1 x d (imm.zeroExtend 32) false false ∧
    Writes (.movh c g d imm) s c 1 x d ((x.rg d &&& 0xFFFF) ||| (imm.zeroExtend 32 <<< 16)) false false ∧
    Writes (.pget c g d) s c 1 x d (x.p.zeroExtend 32 ||| 1) false false

/-- R308, R309: CMP and CMPI write the condition to pD, the predicate operations their function; PPUT writes p1 to p7 from gA. -/
def Obligations.NollekPredicates : Prop :=
  ∀ (s : State) (c : Nat) (g : Guard) (d pa pb : PReg) (a b : GReg) (imm : BitVec 12) (f : Fin 8) (f4 : Fin 4) (x : Core),
    Runs s c g x → EndsAligned x →
    let va := x.rg a
    let vb := x.rg b
    let vi := imm.signExtend 32
    EndsIn (.cmp c g d f a b) s (CoreOnly s c (WrotePred c x d
      (match f.val with
        | 0 => va == vb | 1 => va != vb | 2 => va.slt vb | 3 => vb.sle va | 4 => va.ult vb | 5 => vb.ule va
        | 6 => va &&& vb != 0 | _ => va &&& vb == 0))) ∧
    EndsIn (.cmpi c g d f4 a imm) s (CoreOnly s c (WrotePred c x d
      (match f4.val with
        | 0 => va == vi | 1 => va.slt vi | 2 => va.ult vi | _ => va &&& vi != 0))) ∧
    EndsIn (.pand c g d pa pb) s (CoreOnly s c (WrotePred c x d (x.rp pa && x.rp pb))) ∧
    EndsIn (.por c g d pa pb) s (CoreOnly s c (WrotePred c x d (x.rp pa || x.rp pb))) ∧
    EndsIn (.pxor c g d pa pb) s (CoreOnly s c (WrotePred c x d (xor (x.rp pa) (x.rp pb)))) ∧
    EndsIn (.pandn c g d pa pb) s (CoreOnly s c (WrotePred c x d (x.rp pa && !x.rp pb))) ∧
    EndsIn (.pnot c g d pa) s (CoreOnly s c (WrotePred c x d (!x.rp pa))) ∧
    EndsIn (.psetg c g d a) s (CoreOnly s c (WrotePred c x d (va != 0))) ∧
    EndsIn (.pput c g a) s (CoreOnly s c fun y => Retired c 1 x y ∧ y.g = x.g ∧ y.v = x.v ∧ y.dz = x.dz ∧ SameRest x y ∧
      ∀ r : PReg, y.rp r = (decide (r = 0) || va.getLsbD r))

namespace Sys2Proof.Claims

/-- `y` is `x` after a taken transfer to `dst`, of `k` budget cycles; no loop-end check follows (R311, R317). -/
def Jumped (c k : Nat) (x : Core) (dst : W32) (y : Core) : Prop :=
  y.pc = dst ∧ y.cycle = x.cycle + BitVec.ofNat 64 k ∧
  y.budget = (if isCtl c then x.budget else x.budget + BitVec.ofNat 64 k) ∧
  { y with pc := x.pc, cycle := x.cycle, budget := x.budget, job := x.job } = x

/-- Some loop level is active with its end at an address (R316). -/
def AtEnd (x : Core) (pc : W32) : Prop := ∃ m, m < 4 ∧ x.lcOf m ≠ 0 ∧ x.leOf m = pc

/-- A core takes the exception of a fault (R330): status, PC and cause saved, SUPER with interrupts off, at the handler. -/
structure Faulted (x : Core) (code : BitVec 8) (epc : W32) (y : Core) : Prop where
  pc : y.pc = x.evec
  epc : y.epc = epc
  cause : y.ecause = code ∧ y.ecauseInt = false
  saved : y.esave = x.pstat ∧ y.ract = x.repeating
  mode : y.pstat.getLsbD 4 = true ∧ y.pstat.getLsbD 0 = false ∧ y.repeating = false
  g : y.g = x.g
  p : y.p = x.p
  loops : y.ls = x.ls ∧ y.le = x.le ∧ y.lc = x.lc ∧ y.rcnt = x.rcnt

/-- Bytes of a word, lowest first (R5). -/
def bytesOf (v : W32) : List Byte := [v.extractLsb' 0 8, v.extractLsb' 8 8, v.extractLsb' 16 8, v.extractLsb' 24 8]

/-- `u` and `t` differ at core `c` only: a property of the state an access left and of the core written. -/
abbrev ThenCore (u : State) (c : Nat) (q : Core → Prop) (after : State → State) (t : State) : Prop :=
  ∃ v, CoreOnly u c q v ∧ t = after v

end Sys2Proof.Claims

/-- R311, R316, R319; R302: what completing in sequence makes of the PC and the loops. No active level ends here: PC + 4. A level ends
here with a count of 2 or more, and no higher one does: one back-branch, its count down by 1. The only level that ends here has a count of
1: it ends and control goes on. A repetition that is not the last keeps the PC; the last one clears RCNT. An instruction whose guard is 0
changes nothing but completes at its address, for 1 budget cycle. Stated for one row of each shape: a register, a predicate, a transfer, a
store, a push. -/
def Obligations.NollekSequence : Prop :=
  (∀ (x : Core),
     (x.repeating = false → ¬ AtEnd x x.pc → x.pc.toNat % 4 = 0 → x.finishInstr .seq = .ok { x with pc := x.pc + 4 }) ∧
     (∀ n, n < 4 → x.repeating = false → x.lcOf n ≠ 0 → x.lcOf n ≠ 1 → x.leOf n = x.pc → (x.lsOf n).toNat % 4 = 0 →
       (∀ m, n < m → m < 4 → ¬ (x.lcOf m ≠ 0 ∧ x.leOf m = x.pc)) →
       ∃ y, x.finishInstr .seq = .ok y ∧ y.pc = x.lsOf n ∧ y.lcOf n = x.lcOf n - 1 ∧ ∀ m, m ≠ n → y.lcOf m = x.lcOf m) ∧
     (∀ n, n < 4 → x.repeating = false → x.lcOf n = 1 → x.leOf n = x.pc → x.pc.toNat % 4 = 0 →
       (∀ m, m ≠ n → m < 4 → ¬ (x.lcOf m ≠ 0 ∧ x.leOf m = x.pc)) →
       ∃ y, x.finishInstr .seq = .ok y ∧ y.pc = x.pc + 4 ∧ y.lcOf n = 0 ∧ ∀ m, m ≠ n → y.lcOf m = x.lcOf m) ∧
     (x.repeating = true → x.rcnt ≠ 1 → x.finishInstr .seq = .ok { x with rcnt := x.rcnt - 1 }) ∧
     (x.repeating = true → x.rcnt = 1 → ¬ AtEnd x x.pc → x.pc.toNat % 4 = 0 →
       x.finishInstr .seq = .ok { x with rcnt := 0, repeating := false, pc := x.pc + 4 })) ∧
  (∀ (s : State) (c : Nat) (g : Guard) (d a b : GReg) (p : PReg) (f : Fin 8) (off : BitVec 22) (imm : BitVec 12) (x : Core) (w : W32),
     s.coreReady c = true → s.fetchWord c (s.core c) (s.core c).pc = .ok (w, x) → x.rp g.psel = g.neg → EndsAligned x →
     ∀ i ∈ [Instr.add c g d a b, .div c g d a b, .cmp c g p f a b, .br c g off, .sw c g d a imm, .push c g d, .call c g off],
       EndsIn i s (CoreOnly s c fun y => Retired c 1 x y ∧ y.g = x.g ∧ y.p = x.p ∧ y.v = x.v ∧ y.dz = x.dz ∧ SameRest x y))

/-- R303, R311, R314, R316 to R319, R328: transfers, loops, repeat prefixes, LCLR and NOP. -/
def Obligations.NollekFlow : Prop :=
  ∀ (s : State) (c : Nat) (g : Guard) (a : GReg) (off : BitVec 22) (n : Fin 4) (off12 : BitVec 12) (k : BitVec 8)
    (count : BitVec 16) (mask : BitVec 4) (x : Core), Runs s c g x →
    let cnt := BitVec.setWidth 16 (x.rg a)
    ((x.pc + 4 * off.signExtend 32).toNat % 4 = 0 →
      EndsIn (.br c g off) s (CoreOnly s c (Jumped c 2 x (x.pc + 4 * off.signExtend 32)))) ∧
    ((x.rg a).toNat % 4 = 0 → EndsIn (.jr c g a) s (CoreOnly s c (Jumped c 2 x (x.rg a)))) ∧
    -- loops: no level above n is active, and every active level below n contains the new body
    (let ls := x.pc + 4
     let le := x.pc + 4 + 4 * off12.zeroExtend 32
     let fits := ∀ m, m < 4 → x.lcOf m ≠ 0 → m ≤ n.val ∧
       (m < n.val → (x.lsOf m).toNat ≤ ls.toNat ∧ le.toNat ≤ (x.leOf m).toNat)
     let begun := fun (v : W32) (y : Core) => Retired c 1 (x.setLoop n ls le v) y ∧ y.lsOf n = ls ∧ y.leOf n = le ∧
       (∀ m, m ≠ n.val → y.lsOf m = x.lsOf m ∧ y.leOf m = x.leOf m) ∧ y.g = x.g ∧ y.p = x.p
     let passed := fun (y : Core) => y.pc = le + 4 ∧ y.lsOf n = ls ∧ y.leOf n = le ∧ y.lcOf n = 0 ∧
       (∀ m, m ≠ n.val → y.lsOf m = x.lsOf m ∧ y.leOf m = x.leOf m ∧ y.lcOf m = x.lcOf m) ∧ y.g = x.g ∧ y.p = x.p
     (fits → x.rg a ≠ 0 → EndsAligned (x.setLoop n ls le (x.rg a)) →
       EndsIn (.loop c g n a off12) s (CoreOnly s c (begun (x.rg a)))) ∧
     (fits → k ≠ 0 → EndsAligned (x.setLoop n ls le (k.zeroExtend 32)) →
       EndsIn (.loopi c g n k off12) s (CoreOnly s c (begun (k.zeroExtend 32)))) ∧
     (fits → (le + 4).toNat % 4 = 0 → (x.rg a = 0 → EndsIn (.loop c g n a off12) s (CoreOnly s c passed)) ∧
       (k = 0 → EndsIn (.loopi c g n k off12) s (CoreOnly s c passed))) ∧
     (¬ fits → isCtl c = true → EndsIn (.loop c g n a off12) s (fun t => Faulted x 0x01 x.pc (t.core c)) ∧
       EndsIn (.loopi c g n k off12) s (fun t => Faulted x 0x01 x.pc (t.core c)))) ∧
    -- a repeat prefix with a count of 1 or more, and of 0
    (∀ w y, s.fetchWord c x (x.pc + 4) = .ok (w, y) → (w.toNat / 2 ^ 22 % 64 < 0x20 ∨ 0x29 < w.toNat / 2 ^ 22 % 64) →
      ¬ AtEnd x x.pc →
      let began := fun (v : BitVec 16) (z : Core) => z.rcnt = v ∧ z.repeating = true ∧ z.pc = x.pc + 4 ∧ z.g = x.g ∧ z.p = x.p ∧
        z.lc = x.lc
      let skipped := fun (e z : Core) => z.rcnt = 0 ∧ z.pc = e.pc ∧ z.g = x.g ∧ z.p = x.p ∧ z.lc = e.lc
      (count ≠ 0 → EndsIn (.repi c g count) s (CoreOnly s c (began count))) ∧
      (cnt ≠ 0 → EndsIn (.rep c g a) s (CoreOnly s c (began cnt))) ∧
      (∀ e, x.completeAt (x.pc + 4) = .ok e →
        (count = 0 → EndsIn (.repi c g count) s (CoreOnly s c (skipped e))) ∧
        (cnt = 0 → EndsIn (.rep c g a) s (CoreOnly s c (skipped e))))) ∧
    (∀ v, v = (List.range 4).foldl (fun y m => if mask.getLsbD m then y.setLc m 0 else y) x → EndsAligned v →
      (∀ m, m < 4 → v.lcOf m = if mask.getLsbD m then 0 else x.lcOf m) ∧
      EndsIn (.lclr c g mask) s (CoreOnly s c fun y => Retired c 1 v y ∧ y.g = x.g ∧ y.p = x.p ∧ y.ls = x.ls ∧ y.le = x.le)) ∧
    (EndsAligned x → EndsIn (.nop c g) s (CoreOnly s c fun y => Retired c 1 x y ∧ y.g = x.g ∧ y.p = x.p ∧ y.v = x.v ∧ y.dz = x.dz ∧
      SameRest x y))

/-- R303, R298, R310: loads. The bytes are those of the model's one access (`State.loadOne`) at gA + simm12, or at the address of
the LDX mode; they are read little-endian and sign- or zero-extended. Modes 0b10 and 0b11 of LDX raise gA after the access. -/
def Obligations.NollekLoads : Prop :=
  ∀ (s u : State) (c : Nat) (g : Guard) (d a b : GReg) (imm : BitVec 12) (x y : Core) (b0 b1 b2 b3 : Byte),
    Runs s c g x → EndsAligned x →
    let at' := x.rg a + imm.signExtend 32
    let gets := fun (i : Instr) (v : W32) => EndsIn i s (CoreOnly u c fun z => Retired c 1 x z ∧
      (∀ r, z.rg r = if r = d ∧ r ≠ 0 then v else x.rg r) ∧ z.p = x.p ∧ z.v = x.v ∧ z.dz = x.dz)
    (s.loadOne c x at' 1 = .ok (u, y, [b0]) → gets (.lb c g d a imm) (b0.signExtend 32) ∧ gets (.lbu c g d a imm) (b0.zeroExtend 32)) ∧
    (s.loadOne c x at' 2 = .ok (u, y, [b0, b1]) → at'.toNat % 2 = 0 →
      gets (.lh c g d a imm) ((b1 ++ b0).signExtend 32) ∧ gets (.lhu c g d a imm) ((b1 ++ b0).zeroExtend 32)) ∧
    (s.loadOne c x at' 4 = .ok (u, y, [b0, b1, b2, b3]) → at'.toNat % 4 = 0 → gets (.lw c g d a imm) (b3 ++ b2 ++ b1 ++ b0)) ∧
    (∀ (mode : Fin 4),
      let scale := fun (k : W32) => match mode.val with | 0 => x.rg a + x.rg b | 1 => x.rg a + x.rg b * k | _ => x.rg a
      let up := fun (k : W32) => match mode.val with
        | 2 => x.rg a + x.rg b | 3 => x.rg a + (BitVec.ofNat 5 b.val).signExtend 32 * k | _ => x.rg a
      let getsX := fun (i : Instr) (v k : W32) => EndsIn i s (CoreOnly u c fun z => Retired c 1 x z ∧
        (∀ r, z.rg r = if r = 0 then 0 else if r = d then v else if r = a then up k else x.rg r) ∧ z.p = x.p)
      (mode.val < 2 ∨ d ≠ a ∨ d = 0) →
      (s.loadOne c x (scale 1) 1 = .ok (u, y, [b0]) →
        getsX (.ldx c g d a b 0 mode) (b0.signExtend 32) 1 ∧ getsX (.ldx c g d a b 1 mode) (b0.zeroExtend 32) 1) ∧
      (s.loadOne c x (scale 2) 2 = .ok (u, y, [b0, b1]) → (scale 2).toNat % 2 = 0 →
        getsX (.ldx c g d a b 2 mode) ((b1 ++ b0).signExtend 32) 2 ∧ getsX (.ldx c g d a b 3 mode) ((b1 ++ b0).zeroExtend 32) 2) ∧
      (s.loadOne c x (scale 4) 4 = .ok (u, y, [b0, b1, b2, b3]) → (scale 4).toNat % 4 = 0 →
        getsX (.ldx c g d a b 4 mode) (b3 ++ b2 ++ b1 ++ b0) 4))

/-- R303, R298, R310; R328, R352; R312, R313, R318: stores. The low bytes of gD go, lowest first, to the model's one access
(`State.storeOne`) at the same addresses as the loads'; the general registers change only where STX raises gA. On a stream core a load or
store in data memory reaches the bytes there and nothing else; in the window a load reads the grain; any other data access is BOUNDS. The
stack. A push in bounds lowers g31, stores its words through the model's store of words at the new g31 and, for a call, goes on at the
target; LSAVE clears the loop counts. A pop in bounds loads, raises g31, and RET goes to the word, POP writes it (over g31's raising too),
LREST sets the twelve loop registers. -/
def Obligations.NollekStores : Prop :=
  (∀ (s u : State) (c : Nat) (g : Guard) (d a b : GReg) (imm : BitVec 12) (x y : Core) (after : State → State),
     Runs s c g x → EndsAligned x →
     let at' := x.rg a + imm.signExtend 32
     let v := x.rg d
     let puts := fun (i : Instr) => EndsIn i s (ThenCore u c (fun z => Retired c 1 x z ∧ z.g = x.g ∧ z.p = x.p ∧ z.dmem = y.dmem) after)
     (s.storeOne c x at' ((bytesOf v).take 1) = .ok (u, y, after) → puts (.sb c g d a imm)) ∧
     (s.storeOne c x at' ((bytesOf v).take 2) = .ok (u, y, after) → at'.toNat % 2 = 0 → puts (.sh c g d a imm)) ∧
     (s.storeOne c x at' (bytesOf v) = .ok (u, y, after) → at'.toNat % 4 = 0 → puts (.sw c g d a imm)) ∧
     (∀ (width : Fin 3) (mode : Fin 4),
       let k : Nat := match width.val with | 0 => 1 | 1 => 2 | _ => 4
       let at2 := match mode.val with | 0 => x.rg a + x.rg b | 1 => x.rg a + x.rg b * BitVec.ofNat 32 k | _ => x.rg a
       let up := match mode.val with
         | 2 => x.rg a + x.rg b | 3 => x.rg a + (BitVec.ofNat 5 b.val).signExtend 32 * BitVec.ofNat 32 k | _ => x.rg a
       s.storeOne c x at2 ((bytesOf v).take k) = .ok (u, y, after) → at2.toNat % k = 0 →
       EndsIn (.stx c g d a b width mode) s (ThenCore u c (fun z => Retired c 1 x z ∧
         (∀ r, z.rg r = if r = a ∧ r ≠ 0 then up else x.rg r) ∧ z.p = x.p ∧ z.dmem = y.dmem) after))) ∧
  (∀ (s : State) (c : Nat) (x : Core) (a : W32) (n : Nat) (l : List Byte), isCtl c = false →
     (0x10000 ≤ a.toNat → a.toNat + n ≤ 0x30000 →
       ∃ b, s.loadOne c x a n = .ok (s, x, b) ∧ b.length = n ∧ ∀ i, i < n → b[i]? = some (SMap.getD 0 x.dmem (a.toNat - 0x10000 + i))) ∧
     (0x10000 ≤ a.toNat → a.toNat + l.length ≤ 0x30000 →
       ∃ y, s.storeOne c x a l = .ok (s, y, id) ∧ { y with dmem := x.dmem } = x ∧
         ∀ o, SMap.getD 0 y.dmem o = if h : a.toNat - 0x10000 ≤ o ∧ o < a.toNat - 0x10000 + l.length
           then l[o - (a.toNat - 0x10000)] else SMap.getD 0 x.dmem o) ∧
     (¬ (0x10000 ≤ a.toNat ∧ a.toNat + l.length ≤ 0x30000) → ∃ f, s.storeOne c x a l = .error (f, { code := 0x03, addr := a })) ∧
     (∀ j, x.job = some j → j.closing = false → 0x40000000 ≤ a.toNat → a.toNat + n ≤ 0x40004000 → n ≠ 0 →
       s.loadOne c x a n = .ok (s, x, cut j.window (a.toNat - 0x40000000) n))) ∧
  (∀ (s u : State) (c : Nat) (g : Guard) (d a : GReg) (off : BitVec 22) (x y : Core) (after : State → State) (w : W32) (l : List W32),
     Runs s c g x → EndsAligned x → (x.rg 31).toNat % 4 = 0 →
     let sp := x.rg 31
     let others := fun (v : W32) (z : Core) => (∀ r, z.rg r = if r = 31 then v else x.rg r) ∧ z.p = x.p
     (x.slo.toNat + 4 ≤ sp.toNat →
       (s.storeWords c x (sp - 4) [x.rg d] = .ok (u, y, after) →
         EndsIn (.push c g d) s (ThenCore u c (fun z => Retired c 1 x z ∧ others (sp - 4) z ∧ z.dmem = y.dmem) after)) ∧
       (s.storeWords c x (sp - 4) [x.pc + 4] = .ok (u, y, after) →
         ((x.pc + 4 * off.signExtend 32).toNat % 4 = 0 →
           EndsIn (.call c g off) s (ThenCore u c (fun z => z.pc = x.pc + 4 * off.signExtend 32 ∧ others (sp - 4) z ∧ z.lc = x.lc ∧ z.dmem = y.dmem) after)) ∧
         ((x.rg a).toNat % 4 = 0 →
           EndsIn (.callr c g a) s (ThenCore u c (fun z => z.pc = x.rg a ∧ others (sp - 4) z ∧ z.lc = x.lc ∧ z.dmem = y.dmem) after)))) ∧
     (x.slo.toNat + 48 ≤ sp.toNat → EndsAligned { x with lc := [] } →
       s.storeWords c x (sp - 48) [x.lsOf 0, x.lsOf 1, x.lsOf 2, x.lsOf 3, x.leOf 0, x.leOf 1, x.leOf 2, x.leOf 3,
         x.lcOf 0, x.lcOf 1, x.lcOf 2, x.lcOf 3] = .ok (u, y, after) →
       EndsIn (.lsave c g) s (ThenCore u c (fun z => Retired c 12 { x with lc := [] } z ∧ others (sp - 48) z ∧ (∀ m, z.lcOf m = 0) ∧ z.dmem = y.dmem) after)) ∧
     (sp.toNat + 4 ≤ x.shi.toNat → s.loadWords c x sp 1 = .ok (u, y, [w]) →
       EndsIn (.pop c g d) s (CoreOnly u c fun z => Retired c 1 x z ∧
         (∀ r, z.rg r = if r = 0 then 0 else if r = d then w else if r = 31 then sp + 4 else x.rg r) ∧ z.p = x.p) ∧
       (w.toNat % 4 = 0 → EndsIn (.ret c g) s (CoreOnly u c fun z => z.pc = w ∧ others (sp + 4) z ∧ z.lc = x.lc))) ∧
     (sp.toNat + 48 ≤ x.shi.toNat → s.loadWords c x sp 12 = .ok (u, y, l) →
       ∀ v, v = setLoops l x → EndsAligned v →
       (∀ m, m < 4 → v.lsOf m = l.getD m 0 ∧ v.leOf m = l.getD (4 + m) 0 ∧ v.lcOf m = l.getD (8 + m) 0) ∧
       EndsIn (.lrest c g) s (CoreOnly u c fun z => others (sp + 48) z ∧ Retired c 12 v z ∧ z.ls = v.ls ∧ z.le = v.le)))

namespace Sys2Proof.Claims

/-- A control core takes an interrupt (R330): the PC saved is that of the instruction it stands at. -/
structure Interrupted (x : Core) (code : BitVec 8) (y : Core) : Prop where
  pc : y.pc = x.evec
  epc : y.epc = x.pc
  cause : y.ecause = code ∧ y.ecauseInt = true
  saved : y.esave = x.pstat ∧ y.ract = x.repeating
  mode : y.pstat.getLsbD 4 = true ∧ y.pstat.getLsbD 0 = false ∧ y.pstat.getLsbD 5 = x.pstat.getLsbD 5
  g : y.g = x.g
  p : y.p = x.p

/-- A core after `n` clock cycles. -/
def later (x : Core) (n : Nat) : Core := { x with cycle := x.cycle + BitVec.ofNat 64 n }

/-- The value the CSR table gives a number that is no half of a 64-bit pair of counters (R323). -/
def csrOf (x : Core) (ctl : Bool) (id n : Nat) : Option W32 :=
  let bit := fun (b : Bool) (k : Nat) => if b then BitVec.ofNat 32 (2 ^ k) else (0 : W32)
  if n = 0x000 then some (bit x.v 0 ||| bit x.dz 1 ||| bit x.dzt 8)
  else if n = 0x001 then some (x.rcnt.zeroExtend 32)
  else if n = 0x002 then some (x.p.zeroExtend 32 ||| 1)
  else if n = 0x004 then some x.slo
  else if n = 0x005 then some x.shi
  else if 0x010 ≤ n ∧ n ≤ 0x013 then some (x.lsOf (n - 0x010))
  else if 0x014 ≤ n ∧ n ≤ 0x017 then some (x.leOf (n - 0x014))
  else if 0x018 ≤ n ∧ n ≤ 0x01B then some (x.lcOf (n - 0x018))
  else if ctl = false then none
  else if n = 0x100 then some (x.pstat.zeroExtend 32)
  else if n = 0x101 then some (x.esave.zeroExtend 32 ||| bit x.ract 8)
  else if n = 0x102 then some x.epc
  else if n = 0x103 then some (x.ecause.zeroExtend 32 ||| bit x.ecauseInt 31)
  else if n = 0x104 then some x.eaddr
  else if n = 0x105 then some x.evec
  else if n = 0x106 then some x.scratch
  else if n = 0x108 then some (x.ptbr.extractLsb' 0 32)
  else if n = 0x109 then some (x.ptbr.extractLsb' 32 32)
  else if n = 0x10C then some (x.tcmp.extractLsb' 0 32)
  else if n = 0x10D then some (x.tcmp.extractLsb' 32 32)
  else if n = 0x10F then some (BitVec.ofNat 32 id)
  else none

/-- Numbers that exist in a profile beside those of `csrOf` (R323): the counter pairs. -/
def csrPairs (ctl : Bool) (n : Nat) : Bool := n = 0x020 || n = 0x021 || (!ctl && (n = 0x022 || n = 0x023))

/-- Major opcodes no profile assigns (R303). -/
def noMajor (m : Nat) : Bool :=
  m = 0x05 || m = 0x06 || m = 0x0A || m = 0x0B || m = 0x0F || m = 0x16 || m = 0x17 || (decide (0x1C ≤ m) && decide (m ≤ 0x1F)) ||
    (decide (0x2D ≤ m) && decide (m ≤ 0x2F)) || (decide (0x31 ≤ m) && decide (m ≤ 0x3D)) || m = 0x3F

end Sys2Proof.Claims

/-- R325, R329, R330, R331; R300, R303, R330, R331: what saves and restores a control core's state. TRAP saves its address plus 4; ERET
restores PC and status, and the repetition that was cut short; WFI with an enabled line high completes and waits otherwise; ERET, WFI and
TLBINV in USER mode raise PRIV; TLBINV drops a page's translation, and with g0 every one without G. Interrupts, the end of a wait, and
illegal words. The external interrupt goes before the timer's. A word whose major opcode no profile assigns is illegal whatever its guard. -/
def Obligations.NollekControl : Prop :=
  (∀ (s : State) (c : Nat) (g : Guard) (a : GReg) (x : Core), Runs s c g x → isCtl c = true →
     let super := x.pstat.getLsbD 4
     let line := (x.pstat.getLsbD 1 && s.extLine (c - 256)) || (x.pstat.getLsbD 2 && decide (x.tcmp.toNat ≤ x.cycle.toNat))
     EndsIn (.trap c g) s (fun t => Faulted x 0x0B (x.pc + 4) (t.core c)) ∧
     (super = true →
       EndsIn (.eret c g) s (CoreOnly s c fun y => y.pc = x.epc ∧ y.pstat = x.esave ∧ y.repeating = (x.ract && decide (x.rcnt ≠ 0)) ∧
         y.g = x.g ∧ y.p = x.p ∧ y.lc = x.lc ∧ y.rcnt = x.rcnt) ∧
       (line = true → EndsAligned x → EndsIn (.wfi c g) s (CoreOnly s c fun y => Retired c 1 x y ∧ y.g = x.g ∧ y.waiting = x.waiting)) ∧
       (line = false → EndsIn (.wfi c g) s (CoreOnly s c fun y => y = { x with waiting := true })) ∧
       (EndsAligned x → EndsIn (.tlbinv c g a) s (CoreOnly s c fun y => Retired c 1 x y ∧ y.g = x.g ∧ y.p = x.p ∧
         if a = 0 then ∀ e, e ∈ y.tlb ↔ e ∈ x.tlb ∧ e.2.2.getLsbD 5 = true
         else ∀ k, SMap.find y.tlb k = if k = (x.rg a).toNat / 4096 then none else SMap.find x.tlb k))) ∧
     (super = false →
       ∀ i ∈ [Instr.eret c g, .wfi c g, .tlbinv c g a], EndsIn i s fun t => Faulted x 0x09 x.pc (t.core c))) ∧
  (∀ (s : State) (c n : Nat), isCtl c = true → (s.core c).running = true →
     let x := s.core c
     let y := later x n
     let ext := fun (x : Core) => x.pstat.getLsbD 1 && s.extLine (c - 256)
     (x.waiting = false → x.pstat.getLsbD 0 = true →
       (ext x = true → EndsIn (.interruptTaken c) s fun t => Interrupted x 0x10 (t.core c)) ∧
       (ext x = false → y.pstat.getLsbD 2 = true → y.tcmp.toNat ≤ y.cycle.toNat →
         EndsIn (.timerInterrupt c n) s fun t => Interrupted y 0x11 (t.core c))) ∧
     (x.waiting = true → ext x = true ∨ (y.pstat.getLsbD 2 = true ∧ y.tcmp.toNat ≤ y.cycle.toNat) → EndsAligned y →
       EndsIn (.wfiWake c n) s (CoreOnly s c fun z => Retired c 1 y z ∧ z.waiting = false ∧ z.g = x.g)) ∧
     (∀ (w v : W32) (z : Core), x.waiting = false → s.fetchWord c x x.pc = .ok (v, z) → noMajor (w.toNat / 2 ^ 22 % 64) = true →
       EndsIn (.illegalInstruction c w) s fun t => Faulted z 0x01 z.pc (t.core c)))

/-- R27, R323; R323: CSRR gives the number's value; reading the low word of a counter pair gives it and holds the high one; an unlisted
number, and on a control core in USER mode one from 0x100 up, faults. CSRW writes the number's register, ignoring reserved bits, and no
general register; on a control core, a read-only number is ILLEGAL and, in USER mode, a privileged write PRIV. -/
def Obligations.NollekCsr : Prop :=
  (∀ (s : State) (c : Nat) (g : Guard) (d : GReg) (n : BitVec 12) (x : Core), Runs s c g x →
     let super := x.pstat.getLsbD 4
     (∀ v, csrOf x (isCtl c) (c - 256) n.toNat = some v → (isCtl c = false ∨ super = true ∨ n.toNat < 0x100) → EndsAligned x →
       Writes (.csrr c g d n) s c 1 x d v false false) ∧
     (n.toNat = 0x020 → EndsAligned x → EndsIn (.csrr c g d n) s (CoreOnly s c fun y => Retired c 1 x y ∧ y.p = x.p ∧
       (∀ r, y.rg r = if r = d ∧ r ≠ 0 then x.cycle.extractLsb' 0 32 else x.rg r) ∧
       SMap.find y.pairHi 0x021 = some (x.cycle.extractLsb' 32 32))) ∧
     (isCtl c = true → csrOf x true (c - 256) n.toNat = none → csrPairs true n.toNat = false →
       EndsIn (.csrr c g d n) s fun t => Faulted x 0x01 x.pc (t.core c)) ∧
     (isCtl c = true → super = false → 0x100 ≤ n.toNat → csrOf x true (c - 256) n.toNat ≠ none →
       EndsIn (.csrr c g d n) s fun t => Faulted x 0x09 x.pc (t.core c))) ∧
  (∀ (s : State) (c : Nat) (g : Guard) (a : GReg) (n : BitVec 12) (x : Core), Runs s c g x →
     let super := x.pstat.getLsbD 4
     let v := x.rg a
     let puts := fun (q : Core → Prop) => EndsIn (.csrw c g a n) s (CoreOnly s c fun y => q y ∧ y.g = x.g)
     let k := n.toNat
     (k = 0 → EndsAligned x → puts fun y => y.v = v.getLsbD 0 ∧ y.dz = v.getLsbD 1 ∧ y.dzt = v.getLsbD 8 ∧ y.p = x.p) ∧
     (k = 2 → EndsAligned x → puts fun y => (∀ r : PReg, y.rp r = (decide (r = 0) || v.getLsbD r)) ∧ y.v = x.v) ∧
     (∀ z, 0x010 ≤ k → k < 0x014 → z = { x with ls := SMap.setD 0 x.ls (k - 0x010) v } → EndsAligned z →
       puts fun y => Retired c 1 z y ∧ y.lsOf (k - 0x010) = v) ∧
     (∀ z, 0x014 ≤ k → k < 0x018 → z = { x with le := SMap.setD 0 x.le (k - 0x014) v } → EndsAligned z →
       puts fun y => Retired c 1 z y ∧ y.leOf (k - 0x014) = v) ∧
     (isCtl c = true → super = true → EndsAligned x →
       (k = 0x004 → puts fun y => y.slo = v) ∧ (k = 0x005 → puts fun y => y.shi = v) ∧
       (k = 0x100 → puts fun y => y.pstat = (v.extractLsb' 0 6 &&& 0x37)) ∧
       (k = 0x101 → puts fun y => y.esave = v.extractLsb' 0 6 ∧ y.ract = v.getLsbD 8) ∧
       (k = 0x102 → puts fun y => y.epc = v) ∧
       (k = 0x103 → puts fun y => y.ecause = v.extractLsb' 0 8 ∧ y.ecauseInt = v.getLsbD 31) ∧
       (k = 0x104 → puts fun y => y.eaddr = v) ∧ (k = 0x105 → puts fun y => y.evec = v &&& 0xFFFFFFFC) ∧
       (k = 0x106 → puts fun y => y.scratch = v) ∧
       (k = 0x108 → puts fun y => y.ptbr = x.ptbr.extractLsb' 32 32 ++ (v &&& 0xFFFFE000)) ∧
       (k = 0x10C → puts fun y => y.tcmp = x.tcmp.extractLsb' 32 32 ++ v) ∧
       (k = 0x10D → puts fun y => y.tcmp = v ++ x.tcmp.extractLsb' 0 32)) ∧
     (isCtl c = true → (k = 0x020 ∨ k = 0x021 ∨ k = 0x10F ∨ (csrOf x true (c - 256) k = none)) →
       EndsIn (.csrw c g a n) s fun t => Faulted x 0x01 x.pc (t.core c)) ∧
     (isCtl c = true → super = false → (k = 1 ∨ k = 4 ∨ k = 5 ∨ k = 0x100 ∨ k = 0x102 ∨ k = 0x105) →
       EndsIn (.csrw c g a n) s fun t => Faulted x 0x09 x.pc (t.core c)))

/-- R335, R336: FENCE publishes the core's own stores and no other core's; CAS reads the word to gD and stores gB where the word
was gD's, seen by every control core at once, and publishes with it what the core had stored. -/
def Obligations.NollekSync : Prop :=
  ∀ (s : State) (c : Nat) (g : Guard) (d a b : GReg) (x : Core), Runs s c g x → EndsAligned x →
    EndsIn (.fence c g) s (fun t => (∀ e, e ∈ t.ctlStores ↔ e ∈ s.ctlStores ∧ e.2.1 ≠ c) ∧ (t.core c).g = x.g ∧ (t.core c).p = x.p) ∧
    (isCtl c = true → (x.rg a).toNat % 4 = 0 →
      ∀ (pa : Nat) (y : Core) (l : List Byte), s.translate x (x.rg a) .store = .ok (pa, y) →
        (pa < 0x80000000000 ∨ (0x80000000000 ≤ pa ∧ pa < 0x8000C000000)) → s.ctlRead pa 4 = some l →
        EndsIn (.cas c g d a b) s fun t =>
          (∀ r, (t.core c).rg r = if r = d ∧ r ≠ 0 then BitVec.ofNat 32 (ofLe l) else x.rg r) ∧
          (∀ e, e ∈ t.ctlStores → e.2.1 ≠ c) ∧
          ∃ u : State, t = u.publish c ∧
            if BitVec.ofNat 32 (ofLe l) = x.rg d
              then ∀ i (h : i < 4), SMap.find u.ctlStores (pa + i) = some (c, (bytesOf (x.rg b))[i])
              else u.ctlStores = s.ctlStores)

/-- R353, R356, R357, R363, R364: the STRM operations of a job. RNEXT makes the next record current and returns its window address,
0 at the end; RPUT appends gB[15:0] bytes of data memory at gA to the cluster's FIFO, and waits where it is full; FLDX gives a half of
a field of the current record and TAPR its length, SHORT and taps, both 0 without one. -/
def Obligations.NollekStream : Prop :=
  ∀ (s : State) (c : Nat) (g : Guard) (d a b : GReg) (n : Fin 32) (x : Core) (j : Job), Runs s c g x → isCtl c = false →
    x.job = some j → EndsAligned x →
    (j.recs = [] → EndsIn (.rnext c g d) s (CoreOnly s c fun y => (∀ r, y.rg r = if r = d then 0 else x.rg r) ∧
      ∃ k, y.job = some k ∧ k.cur = none ∧ k.recs = [])) ∧
    (∀ (r : Record) (rest : List Record) (it : Item) (z : ScanSt), j.recs = r :: rest → s.item j.item = some it → s.scanOf j.item = some z →
      z.delivered < recLimit (s.scanImage z) it →
      EndsIn (.rnext c g d) s fun t =>
        (∀ q, (t.core c).rg q = if q = d ∧ q ≠ 0 then BitVec.ofNat 32 (0x40000000 + r.off) else x.rg q) ∧
        (∃ k, (t.core c).job = some k ∧ k.cur = some r ∧ k.recs = rest ∧ k.r = j.r + 1) ∧
        (∃ y, t.scanOf j.item = some y ∧ y.delivered = z.delivered + 1)) ∧
    (∀ (it : Item) (len out : Nat) (rec' : ColRec), s.item j.item = some it → len = (x.rg b).toNat % 65536 →
      1 ≤ len → len ≤ 1024 → 0x10000 ≤ (x.rg a).toNat → (x.rg a).toNat + len ≤ 0x30000 →
      rec' = { item := j.item, core := c, closing := j.closing, grain := j.grain,
               bytes := readBytes x.dmem ((x.rg a).toNat - 0x10000) len } →
      out = (if it.framed then 8 else 0) + len →
      j.outB + out ≤ outLimit (s.jobImage j) j →
      ((s.cluster (c / 12)).fifo.length < 64 →
        EndsIn (.rput c g a b) s fun t => (t.cluster (c / 12)).fifo = (s.cluster (c / 12)).fifo ++ [rec'] ∧
          (∃ k, (t.core c).job = some k ∧ k.outB = j.outB + out) ∧ (t.core c).g = x.g) ∧
      (64 ≤ (s.cluster (c / 12)).fifo.length →
        EndsIn (.rput c g a b) s fun t => (t.core c).pc = (s.core c).pc ∧ t.cluster (c / 12) = s.cluster (c / 12))) ∧
    (∀ r, j.cur = some r →
      Writes (.fldx c g d n) s c 1 x d
        (let v := r.fields.getD (n.val % 16) 0; if n.val < 16 then v.extractLsb' 0 32 else v.extractLsb' 32 32) false false ∧
      Writes (.tapr c g d) s c 1 x d (BitVec.ofNat 32 (65536 * r.len + (if r.short then 256 else 0) + r.taps)) false false) ∧
    (j.cur = none → Writes (.fldx c g d n) s c 1 x d 0 false false ∧ Writes (.tapr c g d) s c 1 x d 0 false false)

namespace Sys2Proof.Claims

/-- The parts of the state a scan's commands may change; the counter of free values is the model's own. -/
abbrev scanParts : Foot := { regs := true, cmd := true, cores := true, scan := true, freeCtr := true }

end Sys2Proof.Claims

/-- R347, R348, R350 to R352, R354; R324, R354, R355, R356; R363, R364, R367: a run starts on a free cluster that a booked scan holds; the
next decoded grain starts a job on the lowest idle core, of a best-effort scan where no booking stands within the job's clock limit, which
starts as the table of R352 says; a closing job starts on a core that ran one; HALT ends a job. HALT ends a job and leaves its core idle;
a job that stands at its budget or clock limit after the stalled cycles is stopped with BUDGET at its PC. A grant moves the head record of
the first FIFO after the last one granted whose head can go to its scan's output; without `RING` it goes if it fits `IN_LEN`. -/
def Obligations.ScanRun : Prop :=
  (∀ (s : State) (n : Nat) (it : Item) (x : ScanSt), s.item n = some it → s.scanOf n = some x → x.stopped = false →
     (∀ cc, it.state = .running → it.finished = false → x.closingBegun = false → cc < 16 → (s.cluster cc).run = 0 →
       s.fld (scPage cc) 0x040 0 0 = 0 → s.enabled (scPage cc) = true → it.port < 32 → it.promised = true →
       (∃ b ∈ s.cad.bookings, b.item = n ∧ b.res = 2183 + cc) →
       EndsIn (.runStart n cc) s fun t => Keeps scanParts s t ∧ (t.cluster cc).run = n + 1 ∧
         (∀ i, i < 32 → SMap.getD 0 (t.cluster cc).decode i = imgSlot (s.scanImage x) i) ∧
         ∃ y, t.scanOf n = some y ∧ cc ∈ y.clusters) ∧
     (∀ idx g rest c, x.ready = (idx, g) :: rest → s.idleCore x = some c →
       (it.promised = true ∨ s.clusterBooked (c / 12) (s.jobUs (s.scanImage x) (frontEnd (s.scanImage x) it.params g).recs.length false) = false) →
       EndsIn (.jobStart n) s fun t => Keeps scanParts s t ∧
         (∃ j, (t.core c).job = some j ∧ j.item = n ∧ j.grain = idx ∧ j.window = g ∧ j.closing = false) ∧
         (t.core c).rg 1 = BitVec.ofNat 32 idx ∧ (t.core c).rg 3 = 0x40000000 ∧ (t.core c).rg 31 = 0x30000 ∧
         (t.core c).budget = 0 ∧ (t.core c).p = 1 ∧ (t.core c).running = true ∧
         (t.core c).pc = BitVec.ofNat 32 (imgEntry (s.scanImage x)) ∧ ∃ y, t.scanOf n = some y ∧ y.ready = rest) ∧
     (∀ c, (s.scan.scans.find? fun e => e.2.closingLeft.contains c) = some (n, x) → (s.core c).job = none →
       (it.promised = true ∨ s.clusterBooked (c / 12) (s.jobUs (s.scanImage x) 0 true) = false) →
       EndsIn (.closingJobStart c) s fun t => Keeps scanParts s t ∧
         (∃ j, (t.core c).job = some j ∧ j.item = n ∧ j.closing = true ∧ j.recs = []) ∧
         (t.core c).rg 1 = 0xFFFFFFFF ∧ ∃ y, t.scanOf n = some y ∧ c ∉ y.closingLeft) ∧
     (it.ring = true → it.promised = true → it.deadline ≤ s.now + 20 → it.out ≠ [] → it.sent - it.released ≥ it.inLen →
       it.finished = false →
       EndsIn (.ringStall n) s fun t => Keeps scanParts s t ∧ t.scanOf n = none ∧
         ∃ i, t.item n = some i ∧ i.finished = true ∧ i.status = 0 ∧ i.out = [] ∧ be i.result 4 4 % 2 = 1)) ∧
  (∀ (s : State) (c : Nat) (j : Job), isCtl c = false → (s.core c).job = some j →
     (∀ (g : Guard) (x : Core), Runs s c g x → EndsAligned x → x.job = some j →
       EndsIn (.halt c g) s fun t => Keeps scanParts s t ∧ (t.core c).job = none ∧ (t.core c).running = false ∧ (t.core c).g = x.g) ∧
     (∀ stall, (budgetLimit (s.jobImage j) j ≤ (s.core c).budget.toNat ∨ clockLimit (s.jobImage j) j ≤ j.clock + stall) →
       EndsIn (.budgetExhausted c stall) s fun t => Keeps scanParts s t ∧ (t.core c).job = none ∧ (t.core c).running = false ∧
         (t.core c).faultCode = 0x06 ∧ (t.core c).faultPc = (s.core c).pc)) ∧
  (∀ (s : State) (k cc : Nat) (r : ColRec) (rest : List ColRec) (it : Item), k < 16 →
     cc = (s.fld 0x1B0 0x0C0 3 0 + 1 + k) % 16 →
     (∀ i, i < k → (s.cluster ((s.fld 0x1B0 0x0C0 3 0 + 1 + i) % 16)).fifo = []) →
     (s.cluster cc).fifo = r :: rest → s.item r.item = some it →
     (if it.ring then it.sent + it.out.length + (recOut it.framed r).length ≤ it.inLen + it.released
       else it.sent + it.out.length + (recOut it.framed r).length ≤ it.inLen) →
     EndsIn .collectorGrant s fun t => Keeps scanParts s t ∧ (t.cluster cc).fifo = rest ∧
       ∃ i, t.item r.item = some i ∧ i.out = it.out ++ recOut it.framed r)

/-- R321, R322, R359, R360; R361: a custom instruction whose slot is valid and whose micro-operations end without a fault writes gD and pD
as the slot maps them, counts its length, and stalls by its latency class; an empty slot is ILLEGAL, which ends the job. What the
micro-operations compute: temporaries, the flag, and UCODE for an unlisted OP. -/
def Obligations.NollekCustom : Prop :=
  (∀ (s : State) (c : Nat) (g : Guard) (slot : Fin 32) (d a b : GReg) (x : Core) (j : Job), Runs s c g x → isCtl c = false →
     (s.core c).job = some j → x.job = some j → EndsAligned x →
     ∀ (n : Nat), n = (SMap.getD 0 (s.cluster (c / 12)).decode slot.val).toNat →
     (n.testBit 63 = false → EndsIn (.custom c g slot d a b) s fun t => (t.core c).job = none ∧ (t.core c).faultCode = 0x01) ∧
     (∀ (y : W32) (k : Cust), n.testBit 63 = true → (n.testBit 3 = true → d.val < 8) →
       y = (match n % 4 with | 0 => x.rg b | 1 => BitVec.ofNat 32 b.val | _ => (BitVec.ofNat 5 b.val).signExtend 32) →
       uopsGo (s.cluster (c / 12)).ucode (n / 2 ^ 20 % 32) (n / 2 ^ 10 % 1024)
         { t := SMap.setD 0 (SMap.setD 0 (SMap.setD 0 [] 0 (x.rg a)) 1 y) 2 (x.rg d), f := false, x := x, dz := false } = (k, none) →
       EndsIn (.custom c g slot d a b) s (CoreOnly s c fun z =>
         (∀ r, z.rg r = if r = d ∧ r ≠ 0 ∧ n.testBit 2 = true then k.get 15 else k.x.rg r) ∧
         (∀ r : PReg, z.rp r = if r.val = d.val ∧ r ≠ 0 ∧ n.testBit 3 = true then k.f else k.x.rp r) ∧
         z.dmem = k.x.dmem ∧ z.dz = (x.dz || k.dz) ∧
         z.budget = k.x.budget + BitVec.ofNat 64 (n / 2 ^ 20 % 32)))) ∧
  (∀ (k : Cust) (addr op dt a b : Nat) (imm : W32) (w : W64), dt < 16 → a < 16 → b < 16 → op < 256 →
     w.toNat = op * 2 ^ 56 + dt * 2 ^ 52 + a * 2 ^ 48 + b * 2 ^ 44 + imm.toNat * 2 ^ 12 →
     let va := k.get a
     let vb := k.get b
     let puts := fun (v : W32) => uopStep k addr w = .ok (k.set dt v)
     (op = 0x00 → uopStep k addr w = .ok k) ∧ (op = 0x01 → puts (va + vb)) ∧ (op = 0x02 → puts (va - vb)) ∧
     (op = 0x03 → puts (va &&& vb)) ∧ (op = 0x04 → puts (va ||| vb)) ∧ (op = 0x05 → puts (va ^^^ vb)) ∧
     (op = 0x0A → puts (if va.ult vb then va else vb)) ∧ (op = 0x0B → puts (if va.ult vb then vb else va)) ∧
     (op = 0x0C → puts (va * vb)) ∧ (op = 0x11 → puts (va + imm)) ∧ (op = 0x13 → puts (if k.f then va else vb)) ∧
     (op = 0x14 → imm.toNat % 8 = 4 → uopStep k addr w = .ok { k with f := va.ult vb }) ∧
     (op = 0x16 ∨ op = 0x1B ∨ 0x24 ≤ op → uopStep k addr w = .error { code := 0x07, addr := BitVec.ofNat 32 addr }))

/-- R306: with AFLAGS.DZT at 1, a divide or remainder by 0 sets DZ, leaves gD (and every other register) unchanged and raises DIV0: a control core
takes the exception at its PC, a stream core stops with the fault recorded. -/
def Obligations.DivideByZeroTraps : Prop :=
  ∀ (s : State) (c : Nat) (g : Guard) (d a b : GReg) (x : Core), Runs s c g x → x.rg b = 0 → x.dzt = true →
    ∀ i ∈ [Instr.div c g d a b, .divu c g d a b, .rem c g d a b, .remu c g d a b],
      (isCtl c = true → EndsIn i s fun t => (t.core c).dz = true ∧ (t.core c).g = x.g ∧ (t.core c).ecause = 0x05 ∧ (t.core c).epc = x.pc ∧
        (t.core c).pc = x.evec) ∧
      (∀ j, isCtl c = false → x.job = some j → EndsIn i s fun t => (t.core c).dz = true ∧ (t.core c).g = x.g ∧ (t.core c).faultCode = 0x05 ∧
        (t.core c).faultPc = x.pc ∧ (t.core c).running = false)

namespace Sys2Proof.Claims

/-- A requester's access reaches a page: the requester exists, the page is assigned to a block, its domain is on. -/
def Reaches (s : State) (req page : Nat) (b : PageBlk) (first : Nat) : Prop :=
  goodReq req = true ∧ pageBlk page = some (b, first) ∧ s.pageOn page = true

/-- Every register word but those listed holds what it held. -/
def RegsBut (s t : State) (ks : List Nat) : Prop := ∀ k, k ∉ ks → t.regAt k = s.regAt k

end Sys2Proof.Claims

/-- R6, R9, R24, R28, R30; R29, R6, R36: a register write is performed only as an aligned 32-bit access to an assigned page whose domain
is on; one that writes a whole RW register (here `IRQ_EN`) stores its value and nothing else, and is answered without an error. Where the
block finds a parity error in the register's storage, it records CODE 0x04. `IRQ_FORCE` sets the event bits written as 1; `ERR_CLR`, which
shares its word with the TX field `ENABLE`, returns `ERR_CNT` to 0 inside the requester's own transaction, and is refused outside it. -/
def Obligations.RegisterWrite : Prop :=
  (∀ (s : State) (req page : Nat) (b : PageBlk) (f : Nat) (v : W32), goodReq req = true → page < 4096 →
     (Reaches s req page b f → hasHeader b = true →
       EndsIn (.registerWrite req (4096 * page + 0x014) 4 v false) s fun t => t.reg page 0x014 = v ∧ RegsBut s t [rkey page 0x014] ∧
         SMap.getD {} t.resp req = { ok := true, code := 0, value := 0 } ∧ Keeps { regs := true, resp := true } s t) ∧
     (Reaches s req page b f → hasHeader b = true → s.fld page 0x01C 31 31 = 0 →
       EndsIn (.registerWrite req (4096 * page + 0x014) 4 v true) s fun t => t.reg page 0x014 = v ∧ t.fld page 0x01C 31 31 = 1 ∧
         t.fld page 0x01C 30 24 = 4 ∧ t.fld page 0x01C 15 0 = 0x014) ∧
     (∀ off width, off < 4096 → Reaches s req page b f → (width ≠ 4 ∨ off % 4 ≠ 0) →
       EndsIn (.registerWrite req (4096 * page + off) width v false) s fun t =>
         SMap.getD {} t.resp req = { ok := false, code := 1, value := 0 } ∧ t.reg page 0x014 = s.reg page 0x014) ∧
     (∀ off width par, off < 4096 → pageBlk page = none → EndsIn (.registerWrite req (4096 * page + off) width v par) s fun t =>
         SMap.getD {} t.resp req = { ok := false, code := 7, value := 0 } ∧ Keeps { resp := true } s t)) ∧
  (∀ (s : State) (req page : Nat) (b : PageBlk) (f : Nat), Reaches s req page b f → hasHeader b = true →
     (∀ bits, EndsIn (.irqForce page req bits) s fun t => t.reg page 0x010 = s.reg page 0x010 ||| bits ∧
       RegsBut s t [rkey page 0x010] ∧ Keeps { regs := true, resp := true } s t) ∧
     (s.mayTx req page 0x008 = true ∨ enableFixed b = true → EndsIn (.errClr page req) s fun t =>
       t.reg page 0x020 = 0 ∧ t.reg page 0x010 = s.reg page 0x010) ∧
     (s.mayTx req page 0x008 = false → enableFixed b = false → EndsIn (.errClr page req) s fun t =>
       SMap.getD {} t.resp req = { ok := false, code := 3, value := 0 } ∧ t.shMask = s.shMask ∧ t.reg page 0x008 = s.reg page 0x008))

/-- R252, R461, R481, R488, R499, R532: the registers whose writes the table lists as commands. `FWQ_TAIL` takes an index that
passes no more than the free entries; a domain of R462 asked to go off waits, one asked to go on begins to switch; a core reset restarts
the core; a held core stands still; a stage without an action of its own is recorded; `REGACC` makes one access as requester 0x19. -/
def Obligations.RegisterCommands : Prop :=
  ∀ (s : State) (req : Nat), goodReq req = true →
    (∀ grp v, grp < 3 → s.pageOn (grpBase grp) = true → v < 4096 → s.tailOk grp v = true →
      EndsIn (.fwqTail grp req v) s fun t => t.fld (grpBase grp) 0x0CC 11 0 = v ∧ RegsBut s t [rkey (grpBase grp) 0x0CC]) ∧
    (∀ d, 3 ≤ d → d ≤ 12 → s.domStat d = 0 → EndsIn (.domReq req 0 (BitVec.ofNat 32 (2 * 4 ^ d))) s fun t =>
      t.fld 0x003 0x040 (2 * d + 1) (2 * d) = 2 ∧ t.fld 0x003 0x050 d d = 1 ∧ t.domStat d = 0) ∧
    (∀ d, 3 ≤ d → d ≤ 12 → s.domStat d = 2 → EndsIn (.domReq req 0 0) s fun t => t.domStat d = 3 ∧ d ∈ t.pwr.switching) ∧
    (∀ n (mask : W32), n < 24 → mask.getLsbD n = true → EndsIn (.coreReset req mask) s fun t =>
      t.core (256 + n) = { ctlReset with running := !s.coreHeld n }) ∧
    (∀ n (mask : W32), 0 < n → n < 24 → EndsIn (.coreHold req mask) s fun t => t.coreHeld n = mask.getLsbD n ∧
      (mask.getLsbD n = true → s.coreHeld n = false → (t.core (256 + n)).running = false) ∧
      (mask.getLsbD n = s.coreHeld n → t.core (256 + n) = s.core (256 + n))) ∧
    (∀ stage, stage ∈ [1, 2, 6] → EndsIn (.bootStage req stage) s fun t => t.fld 0x002 0x080 7 4 = stage ∧
      RegsBut s t [rkey 0x002 0x080]) ∧
    (EndsIn (.bootStage req 7) s fun t => s.fld 0x002 0x080 7 4 ≠ 7 → t.tel.ready = true) ∧
    (∀ off, s.jtag.ir = 0x20 → s.lc ≠ 2 → s.lc ≠ 4 → off % 4 = 0 → off < 2 ^ 24 →
      (∀ v, EndsIn (.regacc false off v) s fun t => t.jtag.done = true ∧ t.jtag.err = !(s.regLoad reqJtag off 4).2.ok ∧
        t.jtag.data = if (s.regLoad reqJtag off 4).2.ok = true then (s.regLoad reqJtag off 4).2.value else 0) ∧
      (∀ v, EndsIn (.regacc true off v) s fun t => t.jtag.done = true ∧ t.jtag.err = !(s.regStore reqJtag off 4 v).2.ok ∧
        t.regs = (s.regStore reqJtag off 4 v).1.regs))

/-- R33, R36, R37, R41: `BEGIN` in IDLE opens a transaction for its requester with the next identifier; in another state it changes
nothing and counts; its owner's `COMMIT` without shadow writes ends it with RESULT 1; `ROLLBACK` discards every shadow that is not
committed. -/
def Obligations.Transactions : Prop :=
  ∀ (s : State) (req : Nat), goodReq req = true →
    (s.txnState = 0 → EndsIn (.begin req) s fun t => t.txnState = 1 ∧ t.txnOwner = req ∧
      t.txnId = (if s.txnId ≥ 0xFFFF then 1 else s.txnId + 1) ∧ RegsBut s t [rkey 0x001 0x044] ∧ Keeps { regs := true } s t) ∧
    (s.txnState ≠ 0 → EndsIn (.begin req) s fun t => t.txnState = s.txnState ∧ t.txnOwner = s.txnOwner ∧
      t.fld 0x001 0x050 31 0 = min (2 ^ 32 - 1) (s.fld 0x001 0x050 31 0 + 1) ∧ RegsBut s t [rkey 0x001 0x050]) ∧
    (s.txnState = 1 → s.txnOwner = req → s.dirtyPages = [] → s.fuseGroups = [] →
      EndsIn (.commit req) s fun t => t.txnState = 0 ∧ t.fld 0x001 0x044 7 4 = 1 ∧ t.cfg.hold = false ∧
        (t.reg 0x001 0x010).getLsbD 0 = true) ∧
    (s.txnState = 1 → s.txnOwner = req → EndsIn (.rollback req) s fun t => t.txnState = 0 ∧ t.fld 0x001 0x044 7 4 = 2 ∧
      t.shMask = [] ∧ t.shVal = [] ∧ (∀ p ∈ s.dirtyPages, SMap.find s.cfg.reqs p = none → t.fld p 0x024 0 0 = 0) ∧
      Keeps { regs := true, shVal := true, shMask := true } s t)

/-- R38, R41, R43; R34, R37, R547: a commit whose reports are missing at the bound of the hold ends with RESULT 6; a silent owner's
transaction is rolled back with RESULT 3; a fuse slot is programmed once, and one that fails verification stays used. A block without
conditions of its own applies its committed shadows at its safe point: each of its words becomes the shadow where it was written, and
`TXN_TAG` reports the transaction; the shadows of the open transaction stand. -/
def Obligations.TransactionEnds : Prop :=
  (∀ (s : State),
     (s.txnState = 3 → s.cfg.await ≠ [] → EndsIn .holdDeadline s fun t =>
       t.cfg.hold = false ∧ t.txnState = 0 ∧ t.fld 0x001 0x044 7 4 = 6) ∧
     (s.txnState = 1 → EndsIn .txnTimeout s fun t => t.txnState = 0 ∧ t.fld 0x001 0x044 7 4 = 3 ∧ t.cfg.prog = []) ∧
     (∀ g rest ok, s.txnState = 2 → s.cfg.prog = g :: rest → s.slotsUsed g < 5 →
       EndsIn (.fuseSlotProgrammed ok) s fun t =>
         t.slot g (s.slotsUsed g) = (if ok = true then slotWith g (s.newGroupVal g) else failedSlot) ∧
         (ok = true → rest ≠ [] → t.cfg.prog = rest) ∧
         (ok = false → s.slotsUsed g = 4 → t.txnState = 0 ∧ t.fld 0x001 0x044 7 4 = 5))) ∧
  (∀ (s : State) (page id f k : Nat), SMap.find s.cfg.reqs page = some id → pageBlk page = some (.dc, f) → headerPage (k / 1024) = page →
     s.txnState ≠ 3 → k ≠ rkey page 0x024 →
     EndsIn (.blockApply page) s fun t =>
       t.regAt k = (s.regAt k &&& ~~~(SMap.getD 0 s.cfg.comMask k)) ||| (SMap.getD 0 s.cfg.comVal k &&& SMap.getD 0 s.cfg.comMask k) ∧
       SMap.getD 0 t.cfg.comMask k = 0 ∧ t.shMask = s.shMask ∧ t.shVal = s.shVal ∧
       t.reg page 0x024 = BitVec.ofNat 32 (2 ^ 16 * id + b2n (s.dirtyPages.contains page)) ∧ SMap.find t.cfg.reqs page = none)

/-- R24, R28: an access to a page that the table does not assign, or whose domain is off or in retention, answers an error and changes nothing
but, in the second case, `PWR.ERR_CNT`; pages of blocks in PD00 are always accessible. -/
def Obligations.UnreachablePages : Prop :=
  ∀ (s : State) (page off : Nat), page < 4096 → off < 4096 →
    (∀ req width v par, goodReq req = true →
      (pageBlk page = none → EndsIn (.registerWrite req (4096 * page + off) width v par) s fun t => Keeps { resp := true } s t ∧
        (SMap.getD {} t.resp req).ok = false) ∧
      (pageBlk page ≠ none → s.pageOn page = false → EndsIn (.registerWrite req (4096 * page + off) width v par) s fun t =>
        Keeps { regs := true, resp := true } s t ∧ RegsBut s t [rkey 0x003 0x020] ∧ (SMap.getD {} t.resp req).ok = false ∧
        (t.reg 0x003 0x020).toNat = satAdd 32 (s.reg 0x003 0x020).toNat 1)) ∧
    (∀ v, s.jtag.ir = 0x20 → s.lc ≠ 2 → s.lc ≠ 4 → off % 4 = 0 →
      (pageBlk page = none → EndsIn (.regacc false (4096 * page + off) v) s fun t => Keeps { resp := true, jtag := true } s t ∧
        t.jtag.err = true) ∧
      (pageBlk page ≠ none → s.pageOn page = false → EndsIn (.regacc false (4096 * page + off) v) s fun t =>
        Keeps { regs := true, resp := true, jtag := true } s t ∧ RegsBut s t [rkey 0x003 0x020] ∧ t.jtag.err = true ∧
        (t.reg 0x003 0x020).toNat = satAdd 32 (s.reg 0x003 0x020).toNat 1)) ∧
    (pageDomain page = 0 → s.pageOn page = true)

/-- R33: a `BEGIN` written while `STATE` is `IDLE` opens a transaction: the previous ID plus 1, skipping 0, the writer as `OWNER`, `RESULT` 0,
`STATE` `OPEN` (1). -/
def Obligations.BeginOpensTransaction : Prop :=
  ∀ (s : State) (req : Nat), goodReq req = true → s.fld 0x001 0x044 1 0 = 0 → EndsIn (.begin req) s fun t =>
    t.fld 0x001 0x044 31 16 = (if s.fld 0x001 0x044 31 16 = 0xFFFF then 1 else s.fld 0x001 0x044 31 16 + 1) ∧
    t.fld 0x001 0x044 15 8 = req ∧ t.fld 0x001 0x044 7 4 = 0 ∧ t.fld 0x001 0x044 1 0 = 1

namespace Sys2Proof.Claims

/-- A sequenced PDU is the next in order on an open connection, passes the checks of R49, R62 and R78, carries no acknowledgement and
asks for none. -/
def InOrder (s : State) (p : PduIn) (x : Conn) : Prop :=
  s.conn p.dstConn = some x ∧ s.lenBad p = false ∧ p.version = x.version ∧ sameEnd x p = true ∧ p.psn = x.ackPsn + 1 ∧ x.sack = 0 ∧
    x.held = [] ∧ nbit p.flags 15 = false ∧ nbit p.flags 14 = false

/-- The same of an unsequenced PDU, whose acknowledgement fields may act. -/
def Heard (s : State) (p : PduIn) (x : Conn) : Prop :=
  s.conn p.dstConn = some x ∧ s.lenBad p = false ∧ p.version = x.version ∧ sameEnd x p = true ∧ nbit p.flags 14 = false

/-- A connection may send its next PSN at once; its own `CLOSE` has not gone. -/
def CanSend (s : State) (c : Nat) (x : Conn) : Prop :=
  s.conn c = some x ∧ inWindow x x.nextPsn = true ∧ x.waiting = [] ∧ x.closeSent = false

/-- A frame stands in the egress queue of a connection's sub-interface, wherever its port's mode provides that sub-interface (R117). -/
def Queued (t : State) (x : Conn) (p : EgFrame → Prop) : Prop :=
  t.noSub x.port x.subif = false → ∃ f ∈ SMap.getD [] t.host.egress (egKey x.port x.subif), p f

/-- A sequenced PDU of a connection was committed and stands in its egress queue (R50, R64). -/
def Sent (t : State) (c : Nat) (x : Conn) (type tag : Nat) (payload : List Byte) : Prop :=
  Queued t x fun f => f.src = c ∧ f.conn = x.peerConn ∧ f.psn = x.nextPsn ∧ f.type = type ∧ f.tag = tag ∧ f.payload = payload

/-- The opcode of the `CMD` that a row stands for, and the PDU it carries. -/
def cmdOf : Instr → Option (Nat × CmdIn)
  | .read c => some (0x01, c) | .write c => some (0x02, c) | .writeZeroes c => some (0x03, c) | .deallocate c => some (0x04, c)
  | .flush c => some (0x05, c) | .scan c => some (0x08, c) | .loadProgram c => some (0x09, c) | .unloadProgram c => some (0x0A, c)
  | .search c => some (0x0B, c) | .tableUpdate c => some (0x0C, c) | .digest c => some (0x10, c) | .compareDigest c => some (0x11, c)
  | .sealRecord c => some (0x18, c) | .verifySeal c => some (0x19, c) | .getSealCheckpoint c => some (0x1A, c)
  | .identify c => some (0x20, c) | .getLog c => some (0x21, c) | .setFeature c => some (0x22, c) | .getFeature c => some (0x23, c)
  | .createInstance c => some (0x40, c) | .deleteInstance c => some (0x41, c) | .resetInstance c => some (0x42, c)
  | .migrationLogStop c => some (0x43, migCmd 0 c) | .migrationLogStart c => some (0x43, migCmd 1 c)
  | .migrationLogRead c => some (0x43, migCmd 2 c) | .migrationLogReadClear c => some (0x43, migCmd 3 c)
  | .setQuota c => some (0x44, c) | .fwDownload c => some (0x48, c) | .fwActivate c => some (0x49, c)
  | .regRead c => some (0x4A, c) | .regWrite c => some (0x4B, c) | .deviceReset c => some (0x4C, c)
  | _ => none

/-- A refused command is an item only as a report that is not yet acknowledged (R87, R105). -/
def Refused (s t : State) (st : Nat) : Prop :=
  t.cmd.decideQ = s.cmd.decideQ ∧ t.cmd.bestQ = s.cmd.bestQ ∧ (∀ n, n ≠ s.cmd.next → t.item n = s.item n) ∧
    ∃ j, t.item s.cmd.next = some j ∧ j.state = .reported ∧ j.refused = true ∧ j.status = st

/-- The PDU of a `CMD`. -/
def cmdPduOf (op : Nat) (c : CmdIn) : PduIn := { c.pdu with type := 0x10, payload := cmdPayload op c }

end Sys2Proof.Claims

/-- R45, R46, R48, R78, R79, R117: a good Pasesar frame waits for classification, one with a bad FCS counts under reason 0; a datagram
that no entry can classify counts under reason 6; a sub-interface that its port's class and mode provide takes its link state; the MAC
takes the frame at the head of its queue, sends it with the source address, port, tag and checksum of the line or, without link, discards
it; while its port holds an apply request it starts none. -/
def Obligations.FramesAndLinks : Prop :=
  ∀ (s : State) (port : Nat), port < 16 →
    (∀ (f : FrameIn) (e taken : Nat), f.port = port → s.enabled (0x030 + port) = true → f.dstMac = s.portMac port f.subif →
      s.noSub port f.subif = false → s.hpClass port ≠ 0 → s.pasesar f = some e → (SMap.getD [] s.host.clsq port).length < 512 →
      (f.fcsOk = true → f.len ≤ 9216 → 64 ≤ f.len → f.extraTags = false → s.vlanBad f e = false → f.ipOk = true → f.fragment = false →
        f.sumOk = true → EndsIn (.frameReceive f taken) s fun t => Keeps { host := true } s t ∧
          SMap.getD [] t.host.clsq port = SMap.getD [] s.host.clsq port ++
            [{ subif := f.subif, entry := e, srcMac := f.srcMac, srcIp := f.srcIp, srcUdp := f.srcUdp, dstIp := f.dstIp,
               data := f.data }]) ∧
      (f.fcsOk = false → EndsIn (.frameReceive f taken) s fun t => t.host.clsq = s.host.clsq ∧
        (t.reg (0x030 + port) 0x200).toNat = min ((s.reg (0x030 + port) 0x200).toNat + 1) (2 ^ 32 - 1))) ∧
    (∀ bp ba, s.clsNext = some port → s.bankOn 0 = true → s.slotLeft 0 .classification = false →
      EndsIn (.classification bp ba) s fun t => t = s) ∧
    (∀ d rest bp ba, s.clsNext = some port → SMap.getD [] s.host.clsq port = d :: rest →
      (s.bankOn 0 = false ∨ s.slotLeft 0 .classification = true) → EndsIn (.classification bp ba) s fun t => t.host.clsLast = port ∧ SMap.getD [] t.host.clsq port = rest ∧
        (s.bankOn 0 = false → headBad d = false → s.lenBad (pduOf port 0 d) = false → t.host.delivered = s.host.delivered ∧
          (t.reg (0x030 + port) 0x218).toNat = min ((s.reg (0x030 + port) 0x218).toNat + 1) (2 ^ 32 - 1))) ∧
    (∀ sub up, sub < 4 → EndsIn (.linkChange port sub up) s fun t => Keeps { regs := true } s t ∧
      nbit (t.fld (0x030 + port) 0x054 3 0) sub = (up && decide (s.hpClass port ≠ 0) &&
        decide (sub < subsOf (s.fld (0x030 + port) 0x040 1 0)))) ∧
    (∀ sub id, SMap.find s.cfg.reqs (0x030 + port) = some id → EndsIn (.frameTransmit port sub) s fun t => t = s) ∧
    (∀ sub f rest, s.enabled (0x030 + port) = true → SMap.find s.cfg.reqs (0x030 + port) = none →
      SMap.getD [] s.host.egress (egKey port sub) = f :: rest →
      EndsIn (.frameTransmit port sub) s fun t => SMap.getD [] t.host.egress (egKey port sub) = rest ∧
        (s.hasLink port sub = true → SMap.find t.host.onWire (egKey port sub) = some (s.onLine port sub f)) ∧
        (s.hasLink port sub = false → t.host.onWire = s.host.onWire) ∧
        (∀ it, f.item ≠ 0 → f.type = tResp → nbit f.flags 11 = false → s.item (f.item - 1) = some it →
          ∃ j, t.item (f.item - 1) = some j ∧ j.clockOn = false))

/-- R56, R57, R62; R50, R54, R55, R58, R59, R65, R67, R68, R70 to R72, R100: a `HELLO` with a common version, room and no connection of
its own opens the lowest unused connection; its first PSN is a value the spec leaves open. PDUs that arrive on a connection. One in order
moves `ACK_PSN` and leaves an acknowledgement due; an acknowledged PDU is no longer kept; a `NAK` brings the named PDU out again with
`RETX`; data reach their command; a `CLOSE` of the initiator begins the end; an `ABORT` without its command is answered. -/
def Obligations.PdusArrive : Prop :=
  (∀ (s : State) (p q : PduIn) (v c : Nat), q = { p with type := 0x01, inst := if p.port ≥ 16 then s.fld 0x050 0x048 9 0 else p.inst } →
     s.lenBad q = false → p.version = be p.payload 1 1 →
     (s.host.conns.find? fun e => decide (e.2.helloIp = p.srcIp) && decide (e.2.helloUdp = p.srcUdp) && decide (e.2.peerConn = p.srcConn)) = none →
     s.pickVersion (be p.payload 0 1) (be p.payload 1 1) = some v → s.roomFor q = true → s.freeConnId = some c →
     EndsIn (.hello p) s fun t => Keeps { host := true, freeCtr := true } s t ∧ t.freeCtr = s.freeCtr + 1 ∧
       ∃ y, t.conn c = some y ∧ y.state = .helloRcvd ∧ y.version = v ∧ y.inst = q.inst ∧ y.peerConn = p.srcConn ∧
         y.localIp = p.dstIp ∧ y.lastMac = p.srcMac ∧
         y.initPsn = BitVec.ofNat 32 (Config.freeNat s.freeCtr) ∧ y.nextPsn = y.initPsn ∧ y.ackPsn + 1 = y.helloPsn ∧
         Queued t y fun f => f.type = tHelloAck ∧ f.src = c ∧ f.conn = p.srcConn) ∧
  (∀ (s : State) (p : PduIn) (x : Conn),
     (Heard s { p with type := tKeepalive } x → nbit p.flags 15 = false → EndsIn (.keepalive p) s fun t =>
       t.conn p.dstConn = some { x with lastMac := p.srcMac, rxUs := s.now } ∧ Keeps { host := true } s t) ∧
     (Heard s { p with type := tAck } x → nbit p.flags 15 = true → x.waiting = [] → x.closeRcvd = false → p.payload = [] →
       EndsIn (.ack p) s fun t => ∃ y, t.conn p.dstConn = some y ∧ y.unacked = (x.unacked.filter fun q => !covered p.ackPsn p.sack q.psn) ∧
         y.peerAck = (if isAhead p.ackPsn x.peerAck = true then p.ackPsn else x.peerAck) ∧
         (∀ q ∈ x.unacked, covered p.ackPsn p.sack q.psn = true → q.type = tResp → q.item ≠ 0 → t.item (q.item - 1) = none)) ∧
     (∀ q, Heard s { p with type := tNak } x → nbit p.flags 15 = false →
       (x.unacked.find? fun q => decide (q.psn.toNat = be p.payload 0 4)) = some q → EndsIn (.nak p) s fun t =>
         Queued t x fun f => f.psn = q.psn ∧ f.type = q.type ∧ f.payload = q.payload ∧ f.flags.testBit 11 = true) ∧
     (∀ n it, InOrder s { p with type := 0x14 } x → s.findTag p.dstConn p.tag = some n → s.item n = some it → it.state = .dataPhase →
       it.aborted = false → be p.payload 0 4 + (p.payload.drop 8).length ≤ it.outLen → p.payload.drop 8 ≠ [] →
       inGrants it.grants (be p.payload 0 4) (p.payload.drop 8).length = true →
       addRange (be p.payload 0 4) (p.payload.drop 8).length it.got ≠ [(0, it.outLen)] →
       EndsIn (.dataOut p) s fun t => (∃ y, t.conn p.dstConn = some y ∧ y.ackPsn = p.psn ∧ y.ackDue = true) ∧
         ∃ j, t.item n = some j ∧ j.state = .dataPhase ∧ j.got = addRange (be p.payload 0 4) (p.payload.drop 8).length it.got ∧
           j.wdata = putNew it.got it.wdata (be p.payload 0 4) (p.payload.drop 8)) ∧
     (InOrder s { p with type := tClose } x → x.closeAcked = false → EndsIn (.close p) s fun t =>
       ∃ y, t.conn p.dstConn = some y ∧ y.state = .closing ∧ y.closeRcvd = true ∧ y.ackPsn = p.psn) ∧
     (InOrder s { p with type := 0x17 } x → CanSend s p.dstConn x → s.findTag p.dstConn (be p.payload 0 4) = none →
       s.findReported p.dstConn (be p.payload 0 4) = none → EndsIn (.abort p) s fun t =>
         Sent t p.dstConn x tAbortResp (be p.payload 0 4) (beBytes 4 (be p.payload 0 4) ++ beBytes 2 3 ++ zeros 2)) ∧
     (∀ n it, InOrder s { p with type := 0x17 } x → s.findTag p.dstConn (be p.payload 0 4) = some n → s.item n = some it →
       it.state ≠ .deciding → it.aborted = false → notAbortable it.op = false → EndsIn (.abort p) s fun t =>
         ∃ j, t.item n = some j ∧ j.aborted = true))

/-- R63, R65, R77, R80, R87, R132, R137; R63, R87, R491: a `CMD` of any opcode that arrives in order, with a free tag, on a connection
that is not closing: one that passes every check becomes an item that waits for its decision, with the fields of its descriptor and body,
or on a 1.0 or 1.1 connection is queued; of one that fails a check only its report stands, a `RESP` with the status of the first failing
check. A `CMD` with an opcode that its connection's version does not have is answered `INVALID_OPCODE`, whatever else it carries. -/
def Obligations.CommandsReceived : Prop :=
  (∀ (s : State) (i : Instr) (op : Nat) (c : CmdIn) (x : Conn), cmdOf i = some (op, c) → InOrder s (cmdPduOf op c) x → x.state ≠ .closing →
     s.findTag c.pdu.dstConn c.pdu.tag = none →
     (s.check c.pdu.dstConn x op c = none → 0x12 ≤ x.version → EndsIn i s fun t =>
       t.item s.cmd.next = some (cmdItem s c.pdu.dstConn x op c) ∧ t.cmd.decideQ = s.cmd.decideQ ++ [s.cmd.next] ∧
       t.cmd.next = s.cmd.next + 1 ∧ (∀ n, n ≠ s.cmd.next → t.item n = s.item n) ∧
       ∃ y, t.conn c.pdu.dstConn = some y ∧ y.ackPsn = c.pdu.psn ∧ y.ackDue = true) ∧
     (s.check c.pdu.dstConn x op c = none → x.version < 0x12 → s.cmd.stopped = false → s.cmd.resetting = false →
       (s.inst x.inst).state = .active → s.acceptedCount < 131072 → s.cmd.next ∉ s.cmd.decideQ → s.isKnot x.inst = false →
       (∀ r ∈ s.knot.asnReqs, r.item ≠ s.cmd.next) → EndsIn i s fun t => s.cmd.next ∈ t.cmd.bestQ ∧ t.cmd.decideQ = s.cmd.decideQ ∧
         (t.inst x.inst).asn = (s.inst x.inst).asn + 1 ∧
         ∃ j, t.item s.cmd.next = some j ∧ j.op = op ∧ j.asn = (s.inst x.inst).asn + 1 ∧
           j.state = if 0 < c.outLen then .dataPhase else .queued) ∧
     (∀ st, s.check c.pdu.dstConn x op c = some st → CanSend s c.pdu.dstConn x → EndsIn i s fun t => Refused s t st ∧
       Sent t c.pdu.dstConn x tResp c.pdu.tag (respPayload st 0 []))) ∧
  (∀ (s : State) (op : Nat) (c : CmdIn) (x : Conn), (opInVersion op x.version && s.opInStage op) = false →
     InOrder s (cmdPduOf op c) x → x.state ≠ .closing → s.findTag c.pdu.dstConn c.pdu.tag = none → CanSend s c.pdu.dstConn x →
     EndsIn (.unknownOpcode op c) s fun t => Refused s t 0x0101 ∧ Sent t c.pdu.dstConn x tResp c.pdu.tag (respPayload 0x0101 0 []))

/-- R55, R58, R59, R67, R69, R70, R71, R73 to R75: what the device sends on its own account, each at the time or state that calls for it. -/
def Obligations.TransportTimers : Prop :=
  ∀ (s : State) (c : Nat) (x : Conn), s.conn c = some x →
    (∀ p rest, x.unacked = p :: rest → x.rtoFrom + x.rtoCur ≤ s.now → p.tries < 1 + x.retryMax →
      EndsIn (.retransmitTimeout c) s fun t =>
        (∃ y, t.conn c = some y ∧ y.rtoCur = min (2 * x.rtoCur) (16 * x.rtoUs) ∧ y.rtoFrom = s.now ∧ y.nextPsn = x.nextPsn) ∧
        Queued t x fun f => f.psn = p.psn ∧ f.payload = p.payload ∧ f.flags.testBit 11 = true ∧ f.flags.testBit 14 = true) ∧
    (∀ p rest, x.unacked = p :: rest → x.rtoFrom + x.rtoCur ≤ s.now → 1 + x.retryMax ≤ p.tries →
      EndsIn (.retransmitTimeout c) s fun t => t.conn c = none) ∧
    (x.txUs + 1000 * x.keepaliveMs ≤ s.now → x.unacked = [] → x.waiting = [] → x.closeSent = false →
      EndsIn (.keepaliveSend c) s fun t => (∃ y, t.conn c = some y ∧ y.txUs = s.now ∧ y.nextPsn = x.nextPsn) ∧
        (Queued t x fun f => f.type = tKeepalive ∧ f.psn = x.nextPsn) ∧ Keeps { host := true } s t ∧
        (s.noSub x.port x.subif = true → t.host.egress = s.host.egress)) ∧
    (x.rxUs + 3000 * x.keepaliveMs ≤ s.now → EndsIn (.keepaliveTimeout c) s fun t => t.conn c = none ∧
      Queued t x fun f => f.type = tClose ∧ f.payload = beBytes 2 7 ++ zeros 2) ∧
    (x.ackDue = true → x.ackFrom + x.ackDelayUs ≤ s.now → EndsIn (.delayedAck c) s fun t =>
      (∃ y, t.conn c = some y ∧ y.ackDue = false) ∧ (Queued t x fun f => f.type = tAck ∧ f.ackPsn = x.ackPsn) ∧ Keeps { host := true } s t) ∧
    (x.state = .helloRcvd → x.openUs + 1000000 ≤ s.now → EndsIn (.helloRcvdTimeout c) s fun t => t.conn c = none ∧
      t.host.egress = s.host.egress ∧ Keeps { host := true } s t) ∧
    (x.closeRcvd = true → x.closeSent = false → s.heldByConn c = 0 → CanSend s c x → EndsIn (.sendCloseNormal c) s fun t =>
      (∃ y, t.conn c = some y ∧ y.state = .closing ∧ y.closeSent = true) ∧ Sent t c x tClose 0 (beBytes 2 1 ++ zeros 2))

/-- R71 to R75, R217: grants of write data, withheld while a staging buffer is missing; read data; and the end of a command whose write data
stay out once its latest `XFER_RDY` has gone. -/
def Obligations.DataTransfer : Prop :=
  ∀ (s : State) (n : Nat) (it : Item) (x : Conn), s.item n = some it → s.conn it.conn = some x → it.aborted = false → it.lost = false →
    x.closeSent = false → it.port < 32 →
    (SMap.getD false s.buf.stalled n = true → EndsIn (.sendXferRdy n) s fun t => t = s) ∧
    (it.state = .dataPhase → it.grants.length < 2 → it.granted < it.outLen → SMap.getD false s.buf.stalled n = false →
      EndsIn (.sendXferRdy n) s fun t =>
      (∃ j, t.item n = some j ∧ j.granted = it.granted + min 1048576 (it.outLen - it.granted) ∧
        j.grants = it.grants ++ [(it.granted, min 1048576 (it.outLen - it.granted))]) ∧
      (CanSend s it.conn x → Sent t it.conn x tXferRdy it.tag
        (beBytes 4 it.granted ++ beBytes 4 (min 1048576 (it.outLen - it.granted))))) ∧
    (∀ len, it.op ≠ 0x43 → CanSend s it.conn x → 0 < len → len ≤ it.dataRoom x.maxPayload → (len = it.out.length → it.outDone = true) →
      EndsIn (.dataInSend n len) s fun t =>
        (∃ j, t.item n = some j ∧ j.sent = it.sent + len ∧ j.out = it.out.drop len) ∧
        Sent t it.conn x tDataIn it.tag (beBytes 4 it.bufKey ++ zeros 4 ++ beBytes 8 it.dataAddr ++ it.out.take len)) ∧
    (it.state = .dataPhase → 0 < it.granted → (∀ p ∈ x.waiting, p.type ≠ tXferRdy) → it.stagedUs + x.dataTimeoutUs ≤ s.now → EndsIn (.dataTimeout n) s fun t =>
      ∃ j, t.item n = some j ∧ j.state = .reported ∧ j.status = 0x0104)

namespace Sys2Proof.Claims

/-- A best-effort command of a host connection whose turn has come: queued, ready, first of its instance. -/
def TurnCame (s : State) (n : Nat) (it : Item) : Prop :=
  s.item n = some it ∧ it.state = .queued ∧ it.finished = false ∧ it.port < 32 ∧ n ∈ s.cmd.bestQ ∧ s.enabled 0x010 = true ∧
    s.bestFirst n it = true ∧ s.bestReady it = true ∧ (s.inst it.inst).ctxBad = false ∧ s.isKnot it.inst = false

/-- `BEST_EFFORT_START` starts an item, which leaves the queue and ends with a property. -/
def RunsTo (s : State) (n : Nat) (p : State → Item → Prop) : Prop :=
  EndsIn (.bestEffortStart n) s fun t => n ∉ t.cmd.bestQ ∧ ∃ j, t.item n = some j ∧ j.state = .running ∧ p t j

/-- An item has ended with a status and RESULT, which its completion will report. -/
def Done (j : Item) (status : Nat) (result : List Byte) : Prop := j.finished = true ∧ j.status = status ∧ j.result = result

/-- The initiator of an item can be told of its end: its connection is open and can send. -/
def CanTell (s : State) (it : Item) (x : Conn) : Prop :=
  CanSend s it.conn x ∧ it.lost = false ∧ it.port < 32

/-- An item's report is committed: its status is fixed, its `RESP` stands in the egress queue, nothing is booked for it in a later slot but,
where it succeeded, the programming of its data (R127, R133). -/
def Reported (t : State) (n : Nat) (it : Item) (x : Conn) (status : Nat) (result : List Byte) : Prop :=
  (∃ j, t.item n = some j ∧ j.state = .reported ∧ j.status = status) ∧
    Sent t it.conn x tResp it.tag (respPayload status it.sent result) ∧
    ∀ b ∈ t.cad.bookings, b.item = n → t.slotAhead b = false ∨ (status = 0 ∧ b.late = true)

end Sys2Proof.Claims

/-- R93, R115, R132, R134 to R136: the decision on the command received first. A refusal and a `BUSY` free its tag and are answered (of a
refusal the report stands until it is acknowledged); a grant keeps Cadence's bookings, gives the command its deadline, class and the next ASN of its instance, and is answered `ACCEPT`; a
command with write data then enters its data phase, `IDENTIFY` has run at once. -/
def Obligations.AdmissionDecides : Prop :=
  ∀ (s : State) (plans : List (List Demand)) (late : Bool) (ns n : Nat) (rest : List Nat) (it : Item) (x : Conn),
    s.cmd.decideQ = n :: rest → s.cfg.hold = false → s.cmd.stopped = false → s.item n = some it → it.aborters = 0 →
    CanTell s it x →
    (∀ st, s.decide' n it plans late = .refuse st → EndsIn (.admissionDecision plans late ns) s fun t =>
      (∃ j, t.item n = some j ∧ j.state = .reported ∧ j.refused = true ∧ j.status = st) ∧ t.cmd.decideQ = rest ∧
        Sent t it.conn x tResp it.tag (respPayload st 0 [])) ∧
    (∀ r us, s.decide' n it plans late = .busy r us → EndsIn (.admissionDecision plans late ns) s fun t =>
      t.item n = none ∧ t.cmd.decideQ = rest ∧ Sent t it.conn x tBusy it.tag (beBytes 2 r ++ zeros 2 ++ beBytes 4 us)) ∧
    (∀ d cls bs, s.decide' n it plans late = .grant d cls bs [] → s.isKnot it.inst = false →
      (0 < it.outLen → isReading it.op = false → it.op ≠ 0x05 → EndsIn (.admissionDecision plans late ns) s fun t =>
        t.cmd.decideQ = rest ∧ t.cad.bookings = bs ∧ (t.inst it.inst).asn = (s.inst it.inst).asn + 1 ∧
        Sent t it.conn x tAccept it.tag (beBytes 4 d ++ beBytes 1 cls ++ zeros 3) ∧
        ∃ j, t.item n = some j ∧ j.promised = true ∧ j.state = .dataPhase ∧ j.deadlineUs = d ∧ j.cls = cls ∧
          j.asn = (s.inst it.inst).asn + 1) ∧
      (it.outLen = 0 → it.op = 0x20 → it.finished = false → (s.inst it.inst).ctxBad = false →
        EndsIn (.admissionDecision plans late ns) s fun t => t.cmd.decideQ = rest ∧ t.cad.bookings = bs ∧
          ∃ j, t.item n = some j ∧ j.promised = true ∧ j.asn = (s.inst it.inst).asn + 1 ∧ j.out = s.identify it ∧ Done j 0 []))

/-- R84 to R86, R91, R105, R137, R175, R286, R412; R94, R174, R177: what a command's work is when its turn comes, for the commands whose
work needs no engine: identity, logs, features, register accesses, the queue of table updates; a write's grains wait for their frames,
whole grains of `WRITE_ZEROES` and `DEALLOCATE` need none. A `READ` of blocks that nothing maps, caches or writes answers zeroes, block by
block, without the flash. -/
def Obligations.WorkStarts : Prop :=
  (∀ (s : State) (n : Nat) (it : Item), TurnCame s n it →
     (it.op = 0x20 → RunsTo s n fun _ j => j.out = s.identify it ∧ Done j 0 []) ∧
     (it.op = 0x21 → RunsTo s n fun _ j => j.out = ((logPage (s.inst it.inst) (it.count % 256)).drop it.lba).take it.inLen ∧ Done j 0 []) ∧
     (∀ x, it.op = 0x22 → s.conn it.conn = some x → it.count = 1 → RunsTo s n fun t j => Done j 0 [] ∧
       ∃ y, t.conn it.conn = some y ∧ y.asyncMask = BitVec.ofNat 64 it.lba ∧ y.deferredEvent = x.deferredEvent) ∧
     (∀ x, it.op = 0x22 → s.conn it.conn = some x → it.count = 2 → RunsTo s n fun t j => Done j 0 [] ∧
       t.conn it.conn = some { x with deferredEvent := BitVec.ofNat 64 it.lba }) ∧
     (it.op = 0x23 → RunsTo s n fun _ j => Done j 0 (beBytes 8 (s.feature it))) ∧
     (it.op = 0x0C → RunsTo s n fun t j => n ∈ t.srch.updQ ∧ j.finished = false) ∧
     (it.op = 0x4A → it.count ≤ 48 → RunsTo s n fun _ j => j.finished = true ∧ j.result.length = 240 ∧
       (j.status = 0 ∨ j.status = 0x0102)) ∧
     (∀ page b f, it.op = 0x4B → it.count = 1 → page < 4096 → be it.params 0 4 = 4096 * page + 0x014 → Reaches s reqMgmt page b f →
       hasHeader b = true → RunsTo s n fun t j => t.reg page 0x014 = BitVec.ofNat 32 (be it.params 4 4) ∧ j.finished = true ∧
         j.status = 0) ∧
     (isWriting it.op = true → 0 < it.count → RunsTo s n fun _ j => j.finished = false ∧
       j.grains = (grainsOf it.lba it.count).map fun e =>
         { grain := e.1, inst := it.inst, mask := e.2, st := if it.op ≠ 0x02 ∧ e.2 = 15 then .done else .frame }) ∧
     (isSeal it.op = true → EndsIn (.bestEffortStart n) s fun t => n ∉ t.cmd.bestQ ∧ ∃ j, t.item n = some j ∧ j.state = .queued)) ∧
  (∀ (s : State) (n : Nat) (it : Item), TurnCame s n it → it.op = 0x01 → 0 < it.count → it.count ≤ 4096 →
     (it.grains.map fun g => (g.grain, g.mask)) = grainsOf it.lba it.count →
     (∀ g ∈ it.grains, g.st = .lookup ∧ g.taken = true ∧ g.lost = 0 ∧ g.frames = [] ∧ g.overlay = [] ∧ g.entry = 0 ∧
       g.reading = false) →
     RunsTo s n fun t j => j.out = it.out ++ zeros (4096 * it.count) ∧ j.grains = [] ∧ Done j 0 [] ∧ t.flash.dies = s.flash.dies)

/-- R99, R102, R104, R108, R127, R138: the ends of commands: a finished command's `RESP`, an aborted one's `ABORT_RESP`, a `FLUSH`'s
`RESP` with the writers it did not cover, and `DEADLINE_FAULT` for a promised one that has not ended 4 us before its deadline. -/
def Obligations.CommandsEnd : Prop :=
  ∀ (s : State) (n : Nat) (it : Item) (x : Conn), s.item n = some it → CanTell s it x →
    (s.mayComplete it = true → it.op ∉ [0x0A, 0x21, 0x40, 0x43, 0x4C] → s.srd.waitCmd = [] → (∀ e ∈ s.cmd.items, e.2.state ≠ .deciding) →
      EndsIn (.commandComplete n) s fun t => Reported t n it x it.status it.result) ∧
    (it.op = 0x05 → it.state = .running → it.aborted = false → it.finished = false → it.parts = 0 →
      (∀ m ∈ it.covers, ∀ o, s.item m = some o → o.outstanding = false) → (∀ k ∈ it.coverRecs, s.cacheRec k = none) →
      (it.cflags % 2 = 1 → ∀ r ∈ s.flash.recs, r.2.inst = it.inst → r.2.asn ∉ it.coverAsns) →
      EndsIn (.flushComplete n) s fun t => Reported t n it x 0 (beBytes 4 it.excluded)) ∧
    (it.aborted = true → it.outstanding = true → it.aborters ≤ 1 → s.idleItem n it = true → EndsIn (.abortComplete n) s fun t =>
      (∃ j, t.item n = some j ∧ j.state = .reported ∧ j.status = 0x0201) ∧
      Sent t it.conn x tAbortResp it.tag (beBytes 4 it.tag ++ beBytes 2 2 ++ zeros 2)) ∧
    (∀ unit, it.promised = true → it.clockOn = true → it.outstanding = true → it.aborted = false → it.parts = 0 →
      it.deadline ≤ s.now + 4 → EndsIn (.deadlineWatchdog n unit) s fun t => Reported t n it x 0x0309 it.cutResult)

/-- R126, R128, R138, R294: time passes by whole microseconds, and never back. Where no watchdog fires meanwhile, bookings whose slot is over are
gone, the others stand, and nothing but the calendars moves, beside the searches that take slots of the new window, whose cap is that of
the step now in force (R294). That one row moves the time is the model's choice (log entry 5). -/
def Obligations.CalendarAdvances : Prop :=
  ∀ (s : State) (us : Nat), EndsIn (.calendarSlotAdvance us) s (fun t => t.now = s.now + us) ∧
    (s.nextWatch (s.now + us) = none → EndsIn (.calendarSlotAdvance us) s fun t => Keeps { regs := true, cmd := true, cad := true, srch := true } s t ∧
      (us ≠ 0 → t.srch.cap = searchCap s.cadStep) ∧ (∀ b ∈ t.cad.bookings, b.coarse = false → t.now ≤ b.slot) ∧
      (∀ b ∈ s.cad.bookings, b.coarse = false → t.now ≤ b.slot → b ∈ t.cad.bookings) ∧
      t.fld 0x010 0x058 18 8 = min 2000 (s.sinceDescent + us))

/-- R109, R149, R152, R157 to R161: instances. A creation reserves what its parameters name and enters CREATING; a quota, a migration
log, a reset act on the instance they name, a quota through firmware's configuration transaction, for which it waits; a reset or deletion
whose conditions hold ends, the deletion after its own transaction. -/
def Obligations.InstanceLifeCycle : Prop :=
  (∀ (s : State) (n : Nat) (it : Item), TurnCame s n it →
    (∀ seg, it.op = 0x40 → s.lc = 2 → s.fld 0x002 0x040 31 31 = 0 → it.count < 1024 → (s.inst it.count).state = .free →
      (∀ r < 11, s.rowBad it.params r = false) → pMin it.params ≤ pMax it.params → 0 < it.lba →
      s.freeSegs (pBank it.params) (pSegs it.params) = some seg → s.capUsed it.count + it.lba ≤ s.deviceCap → s.isKnot it.count = false →
      s.minSum it.count + 4 * pMin it.params ≤ s.minLimit →
      RunsTo s n fun t j => (t.inst it.count).state = .creating ∧ (t.inst it.count).capacity = it.lba ∧
        (t.inst it.count).segStart = seg ∧ (t.inst it.count).cmdQuota = pCmds it.params ∧ (t.inst it.count).key = s.otp.draws + 1 ∧
        j.target = it.count ∧ j.finished = true ∧ j.status = 0) ∧
    (it.op = 0x44 → it.count < 1024 → (s.inst it.count).state = .active → it.lba = 128 → s.rowBad it.params 7 = false →
      (s.inst it.count).bufMin ≤ (s.inst it.count).bufMax → s.minSum it.count + 4 * (s.inst it.count).bufMin ≤ s.minLimit →
      (s.fwTxnFree = true → RunsTo s n fun t j => (t.inst it.count).cmdQuota = pCmds it.params ∧
        (t.inst it.count).capacity = (s.inst it.count).capacity ∧ j.txn = t.txnId ∧ Done j 0 []) ∧
      (s.fwTxnFree = false → RunsTo s n fun t j => t.inst it.count = s.inst it.count ∧ j.finished = false)) ∧
    (it.op = 0x43 → it.count < 1024 → (s.inst it.count).state ≠ .free →
      (it.cflags % 4 = 0 → RunsTo s n fun t j => (t.inst it.count).migMode = 0 ∧ (t.inst it.count).migList = [] ∧ Done j 0 []) ∧
      (it.cflags % 4 = 1 → migStartOk it.params = true → RunsTo s n fun t j => (t.inst it.count).migMode = be it.params 0 1 ∧
        (t.inst it.count).migList = [] ∧ Done j 0 []) ∧
      (it.cflags % 4 = 2 → (s.inst it.count).migMode ≠ 0 → RunsTo s n fun _ j =>
        j.out = (migOutput (s.inst it.count)).take it.inLen ∧ Done j 0 [])) ∧
    (it.op = 0x42 → it.count < 1024 → (s.inst it.count).state = .active → (s.inst it.count).resetQ = [] →
      EndsIn (.bestEffortStart n) s fun t => (t.inst it.count).state = .resetting ∧ (t.inst it.count).resetQ = [n]) ∧
    (it.op = 0x4C → EndsIn (.bestEffortStart n) s fun t => t.cmd.resetting = true)) ∧
  (∀ (s : State) (i n : Nat) (it : Item), (s.inst i).resetQ = [n] → s.item n = some it → s.outstandingOf i = 0 → s.instHitches i = 0 →
    s.wipePending i = [] →
    (it.op = 0x42 → (s.inst i).state = .resetting → EndsIn (.instanceResetComplete i) s fun t => (t.inst i).state = .active ∧
      (t.inst i).resetQ = [] ∧ (t.inst i).capacity = (s.inst i).capacity ∧ (t.reg 0x050 0x010).getLsbD 0 = true) ∧
    (it.op = 0x41 → (s.inst i).state = .deleting → s.sweeping (s.inst i).bank (s.inst i).segStart (s.inst i).segs = false →
      s.clsSweeping i = false →
      ((s.inst i).txn = 0 → s.fwTxnFree = true → EndsIn (.instanceDeleteComplete i) s fun t => (t.inst i).state = .deleting ∧
        (t.inst i).txn = t.txnId ∧ t.txnOwner = fwRequester) ∧
      ((s.inst i).txn ≠ 0 → s.txnOver (s.inst i).txn = true → EndsIn (.instanceDeleteComplete i) s fun t => (t.inst i).state = .free ∧
        (t.inst i).resetQ = [] ∧ (t.inst i).capacity = 0 ∧ (t.reg 0x050 0x010).getLsbD 1 = true)))

/-- R111, R489, R496 to R498, R533: firmware. A download is staged; an activation of a valid image makes the other slot the active one,
resets the cores and starts the watchdog, one of no valid image ends with code 1; a start that fails its watchdog marks its slot; SCRAP
erases the user data once. -/
def Obligations.FirmwareActivation : Prop :=
  (∀ (s : State) (n : Nat) (it : Item), TurnCame s n it →
    (it.op = 0x48 → RunsTo s n fun t j => Done j 0 [] ∧
      t.otp.stage = writeBytes (if it.cflags % 2 = 1 then [] else s.otp.stage) it.lba (readBytes it.wdata 0 it.outLen)) ∧
    (it.op = 0x49 → RunsTo s n fun t j => t.cmd.activating = n + 1 ∧ t.otp.actItem = n + 1 ∧ j.finished = false)) ∧
  (∀ (s : State) (n : Nat) (it : Item), s.cmd.activating = n + 1 → s.item n = some it → it.op = 0x49 → it.finished = false →
    n ∉ it.covers → s.otp.wdArmed = false → s.otp.dir.active < 2 → it.cflags / 2 % 2 = 0 →
    EndsIn .activationGraceExpiry s fun t =>
      if s.imageOk (readBytes s.otp.stage 0 s.otp.stageLen) = true then
        t.otp.dir.active = 1 - s.otp.dir.active ∧ t.slotImage (1 - s.otp.dir.active) = readBytes s.otp.stage 0 s.otp.stageLen ∧
          t.otp.wdArmed = true ∧ t.fld 0x002 0x080 7 4 = 3 ∧ t.core 256 = { ctlReset with running := true }
      else t.otp.dir = s.otp.dir ∧ ∃ j, t.item n = some j ∧ Done j 0 (s.actResult 1)) ∧
  (∀ (s : State), s.otp.wdArmed = true → s.stageNow ≠ 7 → EndsIn .startWatchdogExpiry s fun t =>
    t.otp.dir.st (s.fld 0x002 0x080 0 0) = 2 ∧ t.fld 0x002 0x080 3 3 = 1 ∧ t.core 256 = { ctlReset with running := true }) ∧
  (∀ (s : State), s.lc = 4 → s.otp.testEn = false → s.otp.scrapDone = false → EndsIn .scrapErase s fun t =>
    t.flash.map = [] ∧ t.flash.recs = [] ∧ t.flash.frames = [] ∧ t.otp.slotA = [] ∧ t.otp.slotB = [] ∧ t.otp.scrapDone = true)

namespace Sys2Proof.Claims

/-- An operation on the allocator with no buffer freed before it in its cycle (R222). -/
def Fresh (s : State) (q : BufReq) : Prop := (s.cycleOn q).buf.cyc = []

/-- The head of a pool's free list is sound (R214), with the buffer that follows it. -/
def HeadSound (s : State) (p h next : Nat) : Prop :=
  h = s.listHead p ∧ s.validHandle h = true ∧ hPool h = p ∧ next = le (s.sramRead (s.bufOff h) 8) 0 4 ∧
    le (s.sramRead (s.bufOff h) 8) 4 4 = nil - h ∧ (next = nil ∨ (s.validHandle next = true ∧ hPool next = p)) ∧
    (s.brec h).occupied = false

/-- R219 lets a requester take an unbooked buffer of a pool itself: the pool is usable, the quota and the reserved minima allow it. -/
def MayTake (s : State) (p r : Nat) : Prop :=
  p < 5 ∧ goodId r = true ∧ s.enabled 0x020 = true ∧ 0 < s.poolFree p ∧ s.rebuilding p = false ∧ (p = 2 → s.unb2 < s.cap2) ∧
    s.useOf r + poolSize p / 256 < 2 ^ 20 ∧ (s.useOf r + poolSize p / 256 ≤ s.maxOf r ∨ s.maxOf r = 0xFFFFF) ∧
    (s.useOf r + poolSize p / 256 ≤ s.minOf r ∨ (s.outMin * 256 + poolSize p : Int) ≤ s.freeU)

/-- What a unit's last operation answered. -/
abbrev Gave (t : State) (q : BufReq) (r : AllocRes) : Prop := SMap.find t.buf.results q.unit = some r

end Sys2Proof.Claims

/-- R213, R214, R217, R219, R222 to R224; R225, R226, R214; R227: a buffer is taken from the head of its pool's list, charged to its
requester and recorded with its one hitch, and zeroed where AP8 or AP15 asked for it; an SRAM error in its first 8 bytes starts a rebuild
instead; a buffer freed in the same cycle is not to be had; a second requester can be hitched to a buffer; the last hitch that goes gives
it back to the head of the list. A cell is appended to a chain, whose last cell then links it and hands it the flag `TAIL`; a rebuild puts
every buffer that nothing holds on the list. An operation that names no buffer, no requester or nobody's hitch is rejected, counted, and
changes no buffer. -/
def Obligations.BufferChains : Prop :=
  (∀ (s : State) (q : BufReq),
     (∀ p h next fb, Fresh s q → q.bad = false → MayTake s p q.r → HeadSound s p h next → EndsIn (.alloc q p false fb false) s fun t =>
       Gave t q (.handle h) ∧ t.listHead p = next ∧ t.poolFree p = s.poolFree p - 1 ∧
       t.brec h = BufRec.setSlot { charge := q.r + 1 } 0 (q.r + 1) (s.heldFor q) ∧ t.useOf q.r = s.useOf q.r + poolSize p / 256 ∧
       (portOf q.unit = 8 ∨ portOf q.unit = 15 → ∀ i < poolSize p, t.sramGet (s.bufOff h + i) = 0) ∧
       Keeps { regs := true, buf := true } s t) ∧
     (∀ p, Fresh s q → q.bad = true → MayTake s p q.r → EndsIn (.alloc q p false false false) s fun t => Gave t q .empty ∧
       t.rebuilding p = true ∧ t.buf.recs = s.buf.recs) ∧
     (∀ p h, s.buf.cyc = [h] → q.same = true → s.buf.cycPort ≤ portOf q.unit → hPool h = p → p < 5 → goodId q.r = true →
       s.rebuilding p = false → s.poolFree p = 1 → EndsIn (.alloc q p false false false) s fun t => Gave t q .empty ∧
         t.listHead p = h ∧ t.poolFree p = 1) ∧
     (∀ h b k, goodId q.r = true → goodId b = true → s.validHandle h = true → (s.brec h).chained = false →
       ((s.brec h).slotOf q.r).isSome = true → (s.brec h).slotOf b = none → (s.brec h).emptySlot = some k →
       EndsIn (.hitch q h b) s fun t => Gave t q .ok ∧ t.brec h = (s.brec h).setSlot k (b + 1) (s.heldFor { q with r := b }) ∧
         (∀ g, g ≠ h → t.brec g = s.brec g) ∧ Keeps { buf := true } s t) ∧
     (∀ h k, goodId q.r = true → s.validHandle h = true → (s.brec h).chained = false → (s.brec h).slotOf q.r = some k →
       ((s.brec h).setSlot k 0 0).occupied = false → (s.brec h).head = false → s.rebuilding (hPool h) = false →
       s.poolFree (hPool h) < s.poolCount (hPool h) → EndsIn (.free q h) s fun t =>
         Gave t q .ok ∧ t.brec h = {} ∧ t.listHead (hPool h) = h ∧
         t.poolFree (hPool h) = s.poolFree (hPool h) + 1 ∧ t.sramRead (s.bufOff h) 8 = linkBytes (s.listHead (hPool h)) h)) ∧
  (∀ (s : State),
     (∀ q c h next hd, Fresh s q → q.bad = false → MayTake s 0 q.r → HeadSound s 0 h next → h ≠ c → s.validHandle c = true → hPool c = 0 →
       s.tailCell c = true → hd = mkHandle 0 (s.brec c).headIdx → ((s.brec hd).slotOf q.r).isSome = true → (s.brec hd).cells < 65536 →
       EndsIn (.cell q c) s fun t => Gave t q (.handle h) ∧ t.tailCell h = true ∧
         (t.brec h).chained = true ∧ t.tailCell c = false ∧ (t.brec hd).cells = (s.brec hd).cells + 1 ∧
         t.nextCell c = h ∧ t.poolFree 0 = s.poolFree 0 - 1) ∧
     (∀ p, p < 5 → s.rebuilding p = true → EndsIn (.freeListRebuild p) s fun t => t.rebuilding p = false ∧
       t.poolFree p = (s.rebuildList p).length ∧ t.listHead p = (s.rebuildList p).headD nil ∧ Keeps { regs := true, buf := true } s t)) ∧
  (∀ (s : State) (q : BufReq) (h : Nat),
     (goodId q.r = false ∨ s.validHandle h = false → EndsIn (.free q h) s fun t => Gave t q (.rejected 0x15) ∧
       t.buf.recs = s.buf.recs ∧ t.buf.sram = s.buf.sram ∧ (t.reg 0x020 0x0D0).toNat = min ((s.reg 0x020 0x0D0).toNat + 1) (2 ^ 32 - 1)) ∧
     (goodId q.r = true → s.validHandle h = true → (s.brec h).chained = false → (s.brec h).occupied = false →
       EndsIn (.free q h) s fun t => Gave t q (.rejected 0x11) ∧ t.buf.recs = s.buf.recs ∧
         t.buf.sram = s.buf.sram ∧ (t.reg 0x020 0x0C0).toNat = min ((s.reg 0x020 0x0C0).toNat + 1) (2 ^ 32 - 1)))

/-- R19, R382, R388: a write is visible to every later read; a read served by its channel returns the bytes as they stand, marked poisoned
where the burst is poisoned or its error cannot be corrected; a read that meets a queued write takes its data, after the merge where the write
covers a part; an access beyond the installed DRAM gets an error response. -/
def Obligations.DramAccess : Prop :=
  ∀ (s : State) (port a c : Nat), c = (s.dramLoc a).1 → s.dram.hit = [] →
    (∀ data ecc slots, s.dcState c = 2 → data ≠ [] → a % 64 + data.length ≤ 64 → s.inDram a data.length = true →
      (slots = 0 ∨ ((s.chan c).rq = [] ∧ (s.chan c).wq = [] ∧ ecc ≠ 2)) →
      EndsIn (.dramWrite port a data ecc slots) s fun t => (∀ i (h : i < data.length), t.dramByte (a + i) = data[i]) ∧
        (∀ b, b < a ∨ a + data.length ≤ b → t.dramByte b = s.dramByte b) ∧ (data.length = 64 → t.poisoned (a / 64) = false)) ∧
    (∀ ecc slots, s.dcState c = 2 → s.issues c = true → s.inDram (a / 64 * 64) 64 = true → (s.chan c).rq = [] → (s.chan c).wq = [] →
      ((s.chan c).rank (s.rankOf c (s.dramLoc a).2)).phase = .active → 0 < slots → EndsIn (.dramRead port a ecc .plain slots) s fun t =>
        SMap.find t.dram.out port = some { data := s.dramRead (a / 64 * 64) 64, poison := s.poisoned (a / 64) || decide (ecc = 2) } ∧
        (ecc = 1 → s.poisoned (a / 64) = false →
          (t.reg (0x060 + c) 0x080).toNat = min ((s.reg (0x060 + c) 0x080).toNat + 1) (2 ^ 32 - 1))) ∧
    (∀ ecc obj w, s.dcState c = 2 → s.inDram (a / 64 * 64) 64 = true →
      ((s.chan c).rank (s.rankOf c (s.dramLoc a).2)).phase = .active →
      (s.chan c).wq.find? (fun q => q.burst == a / 64) = some w → (∀ q ∈ (s.chan c).rq, q.burst = a / 64 → q.taken = false) →
      (w.whole = true → s.poisoned (a / 64) = false → EndsIn (.dramRead port a ecc obj 0) s fun t =>
        SMap.find t.dram.out port = some { data := s.dramRead (a / 64 * 64) 64, poison := false } ∧
        (t.reg (0x060 + c) 0x0A4).toNat = min ((s.reg (0x060 + c) 0x0A4).toNat + 1) (2 ^ 32 - 1)) ∧
      (w.whole = false → EndsIn (.dramRead port a ecc obj 0) s fun t => (t.chan c).wq.head? = some { w with head := true } ∧
        SMap.find t.dram.out port = SMap.find s.dram.out port)) ∧
    (∀ data ecc obj slots,
      (s.inDram (a / 64 * 64) 64 = false → EndsIn (.dramRead port a ecc obj slots) s fun t =>
        SMap.find t.dram.out port = some { err := true } ∧ Keeps { dram := true } s t) ∧
      (data ≠ [] → a % 64 + data.length ≤ 64 → s.inDram a data.length = false → EndsIn (.dramWrite port a data ecc slots) s fun t =>
        SMap.find t.dram.out port = some { err := true } ∧ t.dram.bytes = s.dram.bytes ∧ Keeps { dram := true } s t))

/-- R377, R378, R383 to R386, R388, R390, R508: what each row of the DRAM controller beside the accesses completes with, from hypotheses on
the state alone. `DRAM_TRAINING` finds eight matching DIMMs; `REFRESH_TICK` raises a rank's debt and refreshes it; `SELF_REFRESH_ENTRY` drains a
rank without a request for `SR_IDLE_US`; `SR_DRAIN_COMPLETE` puts it into self-refresh; `SELF_REFRESH_EXIT` makes it active; `ALERT` stops a channel; `ALERT_RECOVERY_END` ends its
recovery, replays again or puts the channel into fault; `DRIFT_TRACKING` takes the measured delays; `DRAM_SCRUB` poisons a burst that it cannot
correct. -/
def Obligations.DramChannel : Prop :=
  (∀ (s : State) (d : DimmIn) (ds : List DimmIn), (d :: ds).length = 8 → qualifies (d :: ds) = true → 8 * d.cap < 1024 →
    EndsIn (.dramTraining (d :: ds)) s fun t => t.popSet = 3 ∧ t.fld 0x068 0x044 9 0 = 8 * d.cap ∧ t.dram.bytes = [] ∧
      ∀ c < 8, t.dcState c = 2) ∧
  ∀ (s : State) (c r d : Nat), c < 8 → r < 2 → s.dcState c = 2 → d = min 8 (((s.chan c).rank r).debt + 1) →
    (((s.chan c).rank r).phase ≠ .selfRefresh → ((s.chan c).rank r).phase ≠ .exiting → EndsIn (.refreshTick c r) s fun t =>
      ((t.chan c).rank r).debt = (if (s.chan c).alert = true then d else if (s.chan c).busy r = false then 0
        else if d = 8 then 7 else if d = 7 then 6 else d) ∧
      ((s.chan c).alert = false → (s.chan c).busy r = false ∨ 7 ≤ d → ∀ e ∈ (t.chan c).openRow, e.1 / 64 ≠ r) ∧
      ((s.chan c).alert = false → d = 8 → (t.reg (0x060 + c) 0x0A0).toNat = min ((s.reg (0x060 + c) 0x0A0).toNat + 1) (2 ^ 32 - 1)) ∧
      Keeps { regs := true, dram := true } s t) ∧
    (((s.chan c).rank r).phase = .selfRefresh → EndsIn (.refreshTick c r) s fun t => t = s) ∧
    (((s.chan c).rank r).phase = .active → s.rankQuiet c r = true → s.fld (0x060 + c) 0x040 31 31 = 1 →
      EndsIn (.selfRefreshEntry c r) s fun t => ((t.chan c).rank r).phase = .drain ∧ Keeps { dram := true } s t) ∧
    (((s.chan c).rank r).phase = .drain → EndsIn (.srDrainComplete c r) s fun t =>
      (t.chan c).rank r = { (s.chan c).rank r with phase := .selfRefresh, debt := 0 } ∧ (∀ e ∈ (t.chan c).openRow, e.1 / 64 ≠ r) ∧
      (t.reg (0x060 + c) 0x098).toNat = min ((s.reg (0x060 + c) 0x098).toNat + 1) (2 ^ 32 - 1)) ∧
    (((s.chan c).rank r).phase = .exiting → EndsIn (.selfRefreshExit c r) s fun t => ((t.chan c).rank r).phase = .active) ∧
    ((s.chan c).alert = false → EndsIn (.alert c) s fun t => (t.chan c).alert = true ∧ (t.chan c).replays = 0 ∧
      (t.reg (0x060 + c) 0x010).getLsbD 1 = true) ∧
    (∀ recs, (s.chan c).alert = true →
      (EndsIn (.alertRecoveryEnd c false recs) s fun t => (t.chan c).alert = false ∧ (t.chan c).replays = 0) ∧
      ((s.chan c).replays < 2 → EndsIn (.alertRecoveryEnd c true recs) s fun t => (t.chan c).alert = true ∧
        (t.chan c).replays = (s.chan c).replays + 1) ∧
      (2 ≤ (s.chan c).replays → EndsIn (.alertRecoveryEnd c true recs) s fun t => t.dcState c = 4 ∧ t.fld 0x1E0 0x04C 0 0 = 1 ∧
        (t.reg (0x060 + c) 0x010).getLsbD 2 = true)) ∧
    (∀ dly i (h : i < dly.length), i < 10 → ((s.chan c).rank r).phase = .active → (s.chan c).alert = false → s.mayPeriodic = true →
      EndsIn (.driftTracking c r dly) s fun t => t.fld (0x060 + c) (0x050 + 4 * i) 7 0 = dly[i] % 256 ∧ Keeps { regs := true } s t) ∧
    (∀ a, c = (s.dramLoc a).1 → s.issues c = true → s.mayBg .dramScrub = true → s.inDram (a / 64 * 64) 64 = true →
      s.poisoned (a / 64) = false → (∀ q ∈ (s.chan c).wq, q.burst = a / 64 → q.whole = false) →
      EndsIn (.dramScrub a 2 .plain) s fun t => t.poisoned (a / 64) = true ∧
        t.reg (0x060 + c) 0x0A8 = BitVec.ofNat 32 (a / 64 * 64))

namespace Sys2Proof.Claims

/-- A descriptor of a ring as it stands in memory. -/
def DescAt (s : State) (grp i : Nat) (d : List Byte) : Prop := i = s.ringNext grp ∧ s.physRead (s.descAddr grp i) 32 = some d

/-- The decompression engine's answer for a grain: its frame as it arrived, decoded, under its cached frames and staged blocks. -/
def GrainDecodes (w : FrameWork) (g : GrainWork) (arrived : Option (List Byte)) (bytes : List Byte) : Prop :=
  ∃ d, decodeFrame (arrived.getD w.data) = .ok d ∧ grainData g (.ok d) = .ok bytes

/-- The two states of an HMAC key: FIPS 198-1's inner and outer block absorbed. -/
def keyState (alg : Nat) (key : List Byte) : KeyState := { inner := hmacState alg key 0x36, outer := hmacState alg key 0x5C }

end Sys2Proof.Claims

/-- R74, R230, R241, R243, R244, R249; R250, R251: the lowest idle engine takes the first eligible frame; a compressed grain's frame is
made from its blocks, of a payload that the engine's encoder can make; a decoded grain of a `READ` goes to its output, and the last one
ends the command. A valid `COMPRESS` descriptor starts on the lowest idle engine of its group, and the next one is then looked at; one
with a field out of range ends with status 0x22; a written-back descriptor at the head lets the head move on. -/
def Obligations.EngineFrames : Prop :=
  (∀ (s : State),
     (∀ grp e w, grp < 2 → s.idleEngine grp = some e → w ∈ s.framesWaiting grp →
       (w.prio = 1 ∨ s.unbookedOk grp (s.unbookedRun grp) = true) → EndsIn (.engineDispatch grp) s fun t =>
         Keeps { regs := true, eng := true } s t ∧ ∃ v ∈ s.framesWaiting grp, SMap.find (t.grpRun grp) e = some v ∧ frameBefore w v = false) ∧
     (∀ e cand w n g it, SMap.find s.eng.ceRun e = some w → w.desc = none → w.poison = false → w.who = some (.item n) → s.item n = some it →
       it.grains.find? (fun x => x.grain == w.grain) = some g → (∀ x ∈ it.grains, x.st ≠ .failed) →
       (w.makes cand = true → EndsIn (.frameCompressed e cand false) s fun t => SMap.find t.eng.ceRun e = none ∧
         ∃ h, t.gw (.item n) w.grain = some h ∧ h.st = .done ∧ h.data = padFrame (makeFrame w.level w.deflate w.data cand).1) ∧
       (w.makes cand = false → EndsIn (.frameCompressed e cand false) s fun t => t = s)) ∧
     (∀ e arrived w n g it bytes, SMap.find s.eng.deRun e = some w → w.desc = none → w.who = some (.item n) → s.item n = some it →
       it.op = 0x01 → it.finished = false → it.grains = [g] → g.grain = w.grain → g.entry ≠ 0 → GrainDecodes w g arrived bytes →
       EndsIn (.frameDecoded e arrived false) s fun t => SMap.find t.eng.deRun e = none ∧
         ∃ j, t.item n = some j ∧ j.out = it.out ++ maskBytes g.mask bytes ∧ j.grains = [] ∧ Done j 0 [])) ∧
  (∀ (s : State),
     (∀ e i d src, s.idleEngine 0 = some e → s.ringReady 0 = true → s.unbookedOk 0 (s.unbookedRun 0) = true → s.framesWaiting 0 = [] →
       DescAt s 0 i d → le d 0 1 = 1 → le d 1 1 / 16 ≤ 2 → le d 1 1 % 16 ≤ 4 → le d 2 1 ≤ 1 → 4096 ≤ le d 4 4 → le d 4 4 ≤ 65536 →
       le d 4 4 % 4096 = 0 → 32 + le d 4 4 ≤ le d 24 4 → s.physRead (le d 8 8) (le d 4 4) = some src →
       EndsIn (.fwqDescriptorStart 0) s fun t => t.ringNext 0 = (i + 1) % s.ringSize 0 ∧
         ∃ w, SMap.find t.eng.ceRun e = some w ∧ w.data = src ∧ w.desc = some i) ∧
     (∀ grp e i d, grp < 2 → s.idleEngine grp = some e → s.ringReady grp = true → s.unbookedOk grp (s.unbookedRun grp) = true →
       s.framesWaiting grp = [] → DescAt s grp i d → 4 < le d 1 1 % 16 → EndsIn (.fwqDescriptorStart grp) s fun t =>
         t.ringNext grp = (i + 1) % s.ringSize grp ∧ SMap.find t.eng.fwqEnded (4096 * grp + i) = some (0x22, 0)) ∧
     (∀ grp i r, grp < 3 → SMap.find s.eng.fwqEnded (4096 * grp + i) = some r → s.ringHead grp = i → 1 < s.ringSize grp → s.ringSize grp ≤ 4096 →
       i < s.ringSize grp → SMap.getD false s.eng.fwqBack (4096 * grp + (i + 1) % s.ringSize grp) = false →
       EndsIn (.fwqDescriptorDone grp i) s fun t => SMap.find t.eng.fwqEnded (4096 * grp + i) = none ∧
         t.ringHead grp = (i + 1) % s.ringSize grp))

/-- R254, R259 to R262, R267, R270, R551: key slots are loaded, erased and locked by a control core, where the page is on and, for the work,
enabled; a digest engine absorbs one block of its
message at a time, and a message that ends delivers its digest, or the word of a comparison. -/
def Obligations.DigestsAndKeys : Prop :=
  (∀ (s : State) (k req : Nat), k < 64 → req < 24 →
    (s.pageOn 0x198 = false → EndsIn (.load k req) s fun t => t.dig = s.dig ∧ RegsBut s t [rkey 0x003 0x020]) ∧
    (s.pageOn 0x198 = true → s.enabled 0x198 = false → EndsIn (.load k req) s fun t => t.dig.ksWait = s.dig.ksWait ++ [(1, k)] ∧
      Keeps { dig := true } s t) ∧
    (s.pageOn 0x198 = true → s.enabled 0x198 = true →
    ((s.ksUsers k = 0 → s.ksLocked k = false → s.ksHold k = true → s.fld 0x198 0x044 9 8 ≠ 0 → s.fld 0x198 0x044 7 0 ≠ 0 →
      EndsIn (.load k req) s fun t => t.ksLoaded k = true ∧ t.ksAlg k = 0x10 + s.fld 0x198 0x044 9 8 ∧ t.dig.staged = [] ∧
        SMap.find t.dig.keys k = some (keyState (0x10 + s.fld 0x198 0x044 9 8) (s.stagedKey (s.fld 0x198 0x044 7 0))) ∧
        t.reg 0x198 0x048 = 1 ∧ Keeps { regs := true, dig := true } s t) ∧
    (s.ksUsers k = 0 → s.ksLocked k = false → EndsIn (.erase k req) s fun t => SMap.find t.dig.keys k = none ∧
      t.ksLoaded k = false ∧ t.reg 0x198 0x048 = 1) ∧
    (s.ksLoaded k = true → s.ksLocked k = false → EndsIn (.lock k req) s fun t => t.ksLocked k = true ∧ t.dig = s.dig ∧
      t.reg 0x198 0x048 = 1)))) ∧
  (∀ (s : State) (e n : Nat) (c : DigCtx) (upA upB : Bool), e < 8 → (s.dig.ctxs.find? fun x => decide (x.2.engine = e + 1)) = some (n, c) →
    (s.dig.ctxs = [(n, c)] → c.absorb.done = false → c.hasBlock = true → (c.absorb.final = true → c.absorb.hasBlock = true) →
      EndsIn (.digestBlockEnd e upA upB) s fun t =>
      ∃ y, SMap.find t.dig.ctxs n = some y ∧ y.state = shaBlock (algBig c.alg) c.state ((c.part ++ c.ready).take (algBlock c.alg)) ∧
        y.len = c.absorb.len ∧ y.part = c.absorb.part ∧ y.ready = c.absorb.ready) ∧
    (∀ it, c.hasBlock = true → c.absorb.done = true → 0 < c.item → s.item (c.item - 1) = some it → it.finished = false →
      EndsIn (.digestBlockEnd e upA upB) s fun t => ∃ j, t.item (c.item - 1) = some j ∧
        Done j 0 (if c.cmp = true then beBytes 4 (compareWord (algDigest c.alg c.absorb.state == c.expected) upA upB)
          else algDigest c.alg c.absorb.state)))

/-- R274, R275, R277, R278, R280, R285, R288 to R291, R293 to R295: a ready result goes to its search's output or to firmware's registers; an update record
writes its entry in its slot; a sweep of a region, one of classifier entries and an entry whose check fails leave invalid entries; firmware searches, writes and
invalidates. An operation takes a slot that the cap leaves it in the present window (log entry 150); a sweep without one waits. -/
def Obligations.SearchUnit : Prop :=
  ∀ (s : State) (b : Nat),
    (∀ n r rest it, takeFirst (fun (e : Nat × Nat × SrchResult) => decide (e.1 = b)) s.srch.pipe = (some (b, n + 1, r), rest) →
      s.item n = some it → it.finished = false → EndsIn (.searchResult b false false) s fun t => t.srch.pipe = rest ∧
        ∃ j, t.item n = some j ∧ j.out = it.out ++ s.resultRecord it r ∧ j.pos = it.pos + 1 ∧
          (it.pos + 1 = it.count → Done j 0 [])) ∧
    (∀ r rest, takeFirst (fun (e : Nat × Nat × SrchResult) => decide (e.1 = b)) s.srch.pipe = (some (b, 0, r), rest) → r.nMatch < 2 ^ 32 →
      EndsIn (.searchResult b false false) s fun t => t.srch.pipe = rest ∧ t.srch.fwOp = 0 ∧ (t.reg 0x1A4 0x09C).toNat = r.nMatch ∧
        (t.reg 0x1A4 0x010).getLsbD 0 = true) ∧
    (∀ n it x op e, s.item n = some it → it.op = 0x0C → it.finished = false → nbit it.cflags 0 = false → b = s.srchBank it →
      (s.srch.updQ.find? fun m => match s.item m with | some y => decide (s.srchBank y = b) | none => false) = some n →
      s.bankOn b = true → s.lowerSlots it = false → s.slotLeft b (if it.promised then .update else .unbooked) = true →
      (it.promised = true → it.startUs + s.fld 0x1A4 0x0A0 4 0 ≤ s.now) → updRecord it it.givenTo = (x, op, e, true) → x < 4096 * (s.inst it.inst).segs →
      EndsIn (.updateRecordSlot n true) s fun t =>
        t.entry (65536 * b + (4096 * (s.inst it.inst).segStart + x)) =
          (if op = 1 then e else { s.entry (65536 * b + (4096 * (s.inst it.inst).segStart + x)) with valid := false }) ∧
        ∃ j, t.item n = some j ∧ j.givenTo = it.givenTo + 1 ∧
          (it.givenTo + 1 = it.count → Done j 0 (updResult it.count 0xFFFFFFFF 0))) ∧
    (s.slotLeft b .unbooked = false → EndsIn (.regionSweep b) s fun t => t = s) ∧
    (∀ g i ports rest, b = 0 → s.bankOn 0 = true → s.slotLeft 0 .unbooked = true → s.srch.clsSweeps = (g, i, ports) :: rest → EndsIn (.regionSweep b) s fun t =>
      t.srch.clsSweeps = rest ∧ (t.entry g).names i ports = false ∧ (∀ k, k ≠ g → t.entry k = s.entry k)) ∧
    (∀ g left rest, b ≠ 0 → s.bankOn b = true → s.slotLeft b .unbooked = true → takeFirst (fun (e : Nat × Nat) => decide (e.1 / 65536 = b)) s.srch.sweeps = (some (g, left), rest) →
      EndsIn (.regionSweep b) s fun t => (t.entry g).valid = false ∧ (∀ k, k ≠ g → t.entry k = s.entry k) ∧
        t.srch.sweeps = if left ≤ 1 then rest else (g + 1, left - 1) :: rest) ∧
    (∀ i, s.bankOn b = true → b < 4 → i < 65536 → s.mayPeriodic = true → s.slotLeft b .unbooked = true →
      EndsIn (.entryParityCheck b i 2) s fun t => (t.entry (65536 * b + i)).valid = false ∧
      t.fld (0x1A0 + b) 0x058 15 0 = i ∧ (t.reg (0x1A0 + b) 0x010).getLsbD 0 = true) ∧
    (s.pageOn 0x1A4 = false → EndsIn (.fwSearch b false) s fun t => t.srch = s.srch ∧ RegsBut s t [rkey 0x003 0x020]) ∧
    (s.srch.fwOp = 0 → s.pageOn 0x1A4 = true → s.enabled 0x1A4 = true → s.bankOn (b % 4) = true → s.slotLeft (b % 4) .unbooked = true →
      (∀ global, EndsIn (.fwSearch b global) s fun t => t.srch.fwOp = 1 ∧ t.srch.pipe = s.srch.pipe ++
        [(b % 4, 0, searchResult (s.matching (b % 4) (s.fw160 0x050) (s.fw160 0x070) (s.fld 0x1A4 0x044 15 0) global))]) ∧
      (∀ i, i < 65536 → EndsIn (.fwWrite b i) s fun t => t.srch.fwOp = 0 ∧ t.fld 0x1A4 0x090 31 30 = 2 ∧
        (t.entry (65536 * (b % 4) + i)).valid = true ∧ (t.entry (65536 * (b % 4) + i)).key = s.fw160 0x050 ∧
        (t.entry (65536 * (b % 4) + i)).mask = s.fw160 0x070 ∧ (t.entry (65536 * (b % 4) + i)).prio = s.fld 0x1A4 0x048 15 0 ∧
        (t.entry (65536 * (b % 4) + i)).assoc = (s.reg 0x1A4 0x04C).toNat) ∧
      (∀ i, i < 65536 → EndsIn (.fwInvalidate b i) s fun t => (t.entry (65536 * (b % 4) + i)).valid = false ∧ t.srch.fwOp = 0))

namespace Sys2Proof.Claims

/-- Channels whose die in a place's slot can take the next program unit there. -/
def unitChans (s : State) (p : Place) : List Nat :=
  ((List.range 32).map (· + 32 * p.group)).filter fun c => s.takesUnit (16 * c + p.slot) p.block p.page

/-- Those of them that carry data in the next skein: not its parity members (R186). -/
def dataChans (s : State) (p : Place) : List Nat :=
  (unitChans s p).filter fun c =>
    !(parityChans s.flash.nextSkein p.group (decide (s.fld (grpPage p.group) 0x040 0 0 = 1)) (unitChans s p)).contains c

/-- A skein of a place can hold a frame in one program unit: the group is enabled, and it has members that carry data (R185, R551). -/
def CanPlace (s : State) (p : Place) (frame : List Byte) : Prop :=
  s.enabled (grpPage p.group) = true ∧ dataChans s p ≠ [] ∧ ∀ c ∈ unitChans s p, cdiv frame.length 64 ≤ s.unitLen c

/-- The next skein has started and carries a frame. -/
def SkeinCarries (s t : State) (frame : List Byte) : Prop :=
  t.flash.nextSkein = s.flash.nextSkein + 1 ∧
    ∃ sk, SMap.find t.flash.skeins s.flash.nextSkein = some sk ∧ ∃ m ∈ sk.moves, m.frame = frame

/-- A die takes work: it is good, and its channel and group are enabled (R168, R551). -/
def DieWorks (s : State) (d : Nat) : Prop :=
  s.dieGood d = true ∧ s.chanOn (dieCh d) = true ∧ s.enabled (grpPage (dieGroup d)) = true

/-- Background reading of a grain has begun (R188, R192). -/
def ReadingBegun (s t : State) (kind : BgKind) (k : Nat) : Prop :=
  ∃ b, SMap.find t.flash.bg s.flash.nextBg = some b ∧ b.kind = kind ∧ k ∈ b.keys

/-- The frame as it stands on the media, or as the other members of its skein give it. -/
def mediaFrame (s : State) (k : Nat) : List Byte := (s.moveOf (BitVec.ofNat 64 (frameKey (s.mapAt k))) []).frame

end Sys2Proof.Claims

/-- R168, R177, R188, R189, R193, R195, R200 to R202: what happens on a die: the first operation starts, or asks the running one to suspend; a
sense completes, and its codewords go to the decoder; a suspension completes, and serves the senses then queued, at most four; a program, an
erase pass or fail; a die that has not answered for twice its erase time has failed; a channel is trained. -/
def Obligations.DieOperations : Prop :=
  ∀ (s : State) (d : Nat), d < 2048 →
    (∀ o, DieWorks s d → (s.die d).op = none → (s.die d).susp = none →
      bestOp (fun y => s.mayStart y && s.shareKept d y) (s.die d).queue = some o →
      EndsIn (.dieDispatch d) s fun t => (t.die d).op = some o ∧ (t.die d).queue = (takeFirst (fun y => decide (y = o)) (s.die d).queue).2 ∧
        (t.die d).resumeUs = s.now ∧ (∀ e, e ≠ d → t.die e = s.die e) ∧ Keeps { flash := true } s t) ∧
    (∀ o, DieWorks s d → (s.die d).op = some o → o.kind ≠ .sense → (∃ q ∈ (s.die d).queue, q.kind = .sense) → s.canSuspend d = true →
      EndsIn (.dieDispatch d) s fun t => (t.die d).suspending = true ∧ (t.die d).suspN = (s.die d).suspN + 1 ∧ (t.die d).op = some o) ∧
    (∀ o w g, (s.die d).op = some o → (s.die d).susp = none → o.kind = .sense → o.who = some w → s.gw w o.grain = some g →
      EndsIn (.senseComplete d) s fun t => (t.die d).op = none ∧ t.gw w o.grain = some { g with
        cws := g.cws.map fun e => if o.cw = none ∨ o.cw = some e.1 then (e.1, e.2.sensed d) else e }) ∧
    (∀ o, (s.die d).suspending = true → (s.die d).op = some o → (∃ q ∈ (s.die d).queue, q.kind = .sense) →
      (∀ q ∈ (s.die d).queue, q.now = false) → EndsIn (.suspendComplete d) s fun t =>
        (t.die d).susp = some o ∧ (t.die d).op = none ∧ (t.die d).suspending = false ∧
        (∀ q ∈ (t.die d).queue, q.now = true → q.kind = .sense) ∧
        ((t.die d).queue.filter fun q => q.now).length = min 4 ((s.die d).queue.filter fun q => decide (q.kind = .sense)).length) ∧
    (∀ o, (s.die d).op = some o → o.kind = .erase → EndsIn (.eraseComplete d) s fun t =>
      (t.die d).op = none ∧ (t.blk (blkKey d o.loc.toNat)).st = .free ∧
        (t.blk (blkKey d o.loc.toNat)).erases = (s.blk (blkKey d o.loc.toNat)).erases + 1 ∧
        t.reg (grpPage (dieGroup d)) 0x060 = BitVec.ofNat 32 (t.freeCount (dieGroup d))) ∧
    (∀ o, (s.die d).op = some o → o.kind = .erase → EndsIn (.eraseFailure d) s fun t => (t.die d).op = none ∧
      (t.blk (blkKey d o.loc.toNat)).st = .retired ∧ (t.reg (fcPage (dieCh d)) 0x010).getLsbD 3 = true) ∧
    (∀ o sk place, (s.die d).op = some o → o.kind = .program → SMap.find s.flash.skeins o.skein = some sk →
      EndsIn (.programFailure d place) s fun t => (t.die d).op = none ∧ (t.blk (blkKey d sk.block)).st = .retired ∧
        (t.reg (fcPage (dieCh d)) 0x010).getLsbD 2 = true) ∧
    (∀ o, (s.die d).op = some o → s.dieGood d = true →
      (s.die d).resumeUs + 2 * s.fld (fcPage (dieCh d)) 0x048 31 16 ≤ s.now → EndsIn (.dieTimeout d) s fun t =>
        t.dieState d = 2 ∧ (t.die d).op = none) ∧
    (∀ c i eye dies, c < 128 → i < 16 → s.fld (fcPage c) 0x008 0 0 = 1 → s.fld (fcPage c) (0x080 + 4 * i) 31 31 = 1 →
      s.dieState (16 * c + i) = 0 → (dies.getD i { answers := false }).answers = true → EndsIn (.channelTrainingDone c false eye dies) s fun t =>
        t.dieState (16 * c + i) = 1 ∧ (t.die (16 * c + i)).blocks = (dies.getD i { answers := false }).blocks ∧
        t.fld (fcPage c) 0x058 31 31 = 1)

/-- R188 to R192, R200: a program that passes leaves its skein; the last one of a skein swaps the entry of each frame that still stands
where the frame came from, unless a member has failed; the last codeword decoded gives its grain's frame, one that cannot be corrected is sensed
again where R190 says so, or ends its command and is queued for a background re-read; a rebuild that has its members queues what it was for
for refresh. -/
def Obligations.ProgramsAndDecodes : Prop :=
  (∀ (s : State) (d : Nat) (o : DieOp) (sk : Skein), (s.die d).op = some o → o.kind = .program → SMap.find s.flash.skeins o.skein = some sk →
    (sk.left.erase (dieCh d) ≠ [] → EndsIn (.programComplete d) s fun t => (t.die d).op = none ∧ t.flash.map = s.flash.map ∧
      SMap.find t.flash.skeins o.skein = some { sk with left := sk.left.erase (dieCh d) }) ∧
    (∀ m k old, sk.left.erase (dieCh d) = [] → sk.failed = [] → sk.moves = [m] → m.keys = [k] → m.olds = [old] → s.segIsLost k = false →
      EndsIn (.programComplete d) s fun t => (t.die d).op = none ∧
        t.mapAt k = (if s.mapAt k = old then m.new else s.mapAt k) ∧ ∀ k', k' ≠ k → t.mapAt k' = s.mapAt k') ∧
    (sk.left.erase (dieCh d) = [] → sk.failed ≠ [] → EndsIn (.programComplete d) s fun t => (t.die d).op = none ∧
      t.flash.map = s.flash.map)) ∧
  (∀ (s : State) (d : DecodeIn) (it : Item) (g : GrainWork) (c : Cw) (r : SenseOf), d.bg = false → s.item d.item = some it →
    it.grains = [g] → d.grain = g.grain → g.st = .sense → SMap.find g.cws d.cw = some c → c.rebuilding = false →
    SMap.find c.reads d.die = some r → r.left = 0 →
    (d.ok = true → g.cws = [(d.cw, c)] → EndsIn (.codewordDecode d) s fun t => ∃ h, t.gw (.item d.item) d.grain = some h ∧ h.st = .frame ∧
      h.entry = g.entry) ∧
    (∀ next, next = policy (1000 * s.now) (s.retryNs (dieCh d.die) r.tried) (s.rebuildNs g.entry) (s.tEnd (.item d.item) d.post)
        (s.canRebuild g.entry) → d.ok = false →
      (next = .retry → EndsIn (.codewordDecode d) s fun t => (∃ h, t.gw (.item d.item) d.grain = some h ∧ h.st = .sense ∧ h.again = true) ∧
        ∃ o ∈ (t.die d.die).queue, o.kind = .sense ∧ o.cls = 2 ∧ o.who = some (.item d.item) ∧ o.cw = some d.cw ∧ o.ladder = r.tried + 1 ∧
          o.loc = g.entry) ∧
      (next = .fail → it.op = 0x01 → it.finished = false → EndsIn (.codewordDecode d) s fun t =>
        mapKey g.inst g.grain ∈ t.flash.rereadQ ∧
        ∃ j, t.item d.item = some j ∧ Done j 0x0301 (beBytes 8 (4 * g.grain + firstBlock g.baseNeed))))) ∧
  (∀ (s : State) (d : DecodeIn) (x : BgWork) (c : Cw) (r : SenseOf), d.bg = true → SMap.find s.flash.bg d.item = some x →
    x.kind = .rebuild → x.gw.grain = d.grain → x.gw.cws = [(d.cw, c)] → c.rebuilding = true → c.reads = [(d.die, r)] → r.left = 0 → d.ok = true →
    EndsIn (.codewordDecode d) s fun t => SMap.find t.flash.bg d.item = none ∧
      ∀ k ∈ x.keys, s.stillThere x.gw.entry k = true → k ∈ t.flash.refreshQ)

/-- R88, R176, R178, R180, R181, R196, R435, R509: the map. An entry is swapped only from the value it was read with; a write's grain enters the
cache with its frame; a checkpoint, where the scheduler gives it its turn, holds its segment as it stands, under the device key; a lost segment
is usable again once rebuilt; superseded records go. -/
def Obligations.FlashMap : Prop :=
  ∀ (s : State) (key : Nat),
    (∀ old new, s.segIsLost key = false → EndsIn (.mapUpdate 0 key old new) s fun t => Keeps { flash := true } s t ∧
      t.mapAt key = (if s.mapAt key = old then new else s.mapAt key) ∧ ∀ k, k ≠ key → t.mapAt k = s.mapAt k) ∧
    (∀ n it g old new c, 0 < n → s.segIsLost key = false → s.item n = some it → (it.grains.find? fun x => decide (mapKey x.inst x.grain = key)) = some g →
      isWriting it.op = true → g.st = .done → it.finished = false → s.replayed = true → s.lockedMask g.inst g.grain = 0 → it.beaten = [] →
      s.newerBlocks key it.asn = 0 → s.laterBlocks g.inst g.grain it.asn = 0 → 0 < g.mask → g.mask < 16 → g.data ≠ [] →
      s.mirrored g.inst = false → c = s.cacheSlot (g.data.length / 64) →
      EndsIn (.mapUpdate n key old new) s fun t => t.mapAt key = cacheEntry c (g.data.length / 64) ∧
        t.flash.nextRec = c + g.data.length / 64 ∧ ∃ j, t.item n = some j ∧ ∀ h ∈ j.grains, h.grain ≠ g.grain) ∧
    (∀ seg, (s.mayBg .ckpt = false → EndsIn (.mapCheckpoint seg) s fun t => t = s) ∧
      (s.mayBg .ckpt = true → SMap.getD false s.flash.segLost seg = false →
        EndsIn (.mapCheckpoint seg) s fun t => Keeps { flash := true } s t ∧ t.flash.map = s.flash.map ∧
          (∀ e ∈ t.flash.delta, keySeg e.key ≠ seg) ∧ SMap.getD false t.flash.segDirty seg = false ∧
          SMap.find t.flash.ckpt seg = some (s.devCipher true seg (ckptBytes (s.flash.map.filter fun e => decide (keySeg e.1 = seg)))))) ∧
    (∀ seg, EndsIn (.mapSegmentRebuild seg) s fun t => SMap.getD false t.flash.segLost seg = false ∧
      t.mapAt key = (s.rebuildSegment seg).mapAt key) ∧
    (EndsIn .supersededRecordExpiry s fun t => Keeps { regs := true, flash := true } s t ∧ t.flash.map = s.flash.map ∧
      ∀ r ∈ t.flash.kept, s.now + 1 < r.2.superAt + 10)

/-- R188, R191, R192, R199, R207, R208: background work on the media. The drain programs what is cached to a new skein, under its instance's key;
the block with the least valid data, or the fewest erases, is given up where its group's shares give the work its turn; scrub reads a block;
calibration stores thresholds; a grain to be refreshed moves; one of a failed die, or one that could not be read, is read in the background, and
one beyond its skein's parity is `LOST`. -/
def Obligations.BackgroundWork : Prop :=
  ∀ (s : State) (p : Place),
    (∀ k c r base e, s.pwr.pf = false → p.group = s.drainGroup → s.flash.units = [] →
      (s.flash.map.filter fun e => decide (eKind e.2 = 2)) = [(k, e)] → s.segIsLost k = false → nbit (s.inst (keyInst k)).iflags 1 = false →
      s.chain k = ([(c, r)], base) → r.mask = 15 → r.made = 15 → r.poison = false → r.programming = false → r.frame ≠ [] →
      CanPlace s p (s.cipher true (keyInst k) (keyGrain k) r.frame) →
      EndsIn (.cacheDrain p) s fun t => SkeinCarries s t (s.cipher true (keyInst k) (keyGrain k) r.frame)) ∧
    (∀ g, s.closedBlks g ≠ [] → (∀ k, s.segIsLost k = false) → (∀ e ∈ s.flash.blks, e.2.st ≠ .pendingErase) →
      (s.mayMedia g .collect = true → EndsIn (.garbageCollection g p) s fun t => ∃ e ∈ s.closedBlks g, (t.blk e.1).st = .pendingErase ∧
        ∀ f ∈ s.closedBlks g, s.validOf (e.1 / 2 ^ 14) (e.1 % 2 ^ 14) ≤ s.validOf (f.1 / 2 ^ 14) (f.1 % 2 ^ 14)) ∧
      (s.mayMedia g .collect = false → EndsIn (.garbageCollection g p) s fun t => t = s)) ∧
    (∀ g a b, s.closedBlks g ≠ [] → (∀ k, s.segIsLost k = false) → s.mayMedia g .level = true → s.mostErased { p with group := g } = true →
      a ∈ s.flash.blks → b ∈ s.flash.blks → dieGroup (a.1 / 2 ^ 14) = g → dieGroup (b.1 / 2 ^ 14) = g →
      s.dieGood (a.1 / 2 ^ 14) = true → s.dieGood (b.1 / 2 ^ 14) = true →
      a.2.st ≠ .retired → b.2.st ≠ .retired → b.2.erases + s.fld (grpPage g) 0x050 31 16 < a.2.erases →
      EndsIn (.wearLevelling g p) s fun t => ∃ e ∈ s.closedBlks g, (t.blk e.1).st = .pendingErase ∧
        ∀ f ∈ s.closedBlks g, e.2.erases ≤ f.2.erases) ∧
    (∀ die block, (s.blk (blkKey die block)).st = .closed → s.mayMedia (dieGroup die) .scrub = true → EndsIn (.scrub die block) s fun t =>
      (t.blk (blkKey die block)).scrubbed = s.now + 1 ∧ t.flash.nextBg = s.flash.nextBg + (s.readsOf die block).length) ∧
    (∀ die block thresh e, (s.blk (blkKey die block)).st = .closed → s.calDue (dieGroup die) (s.blk (blkKey die block)) = true →
      s.mayMedia (dieGroup die) .calibrate = true → e ∈ s.flash.blks → e.1 / 2 ^ 14 = die → e.2.st = .closed →
      e.2.closedAt / 3600000000 = (s.blk (blkKey die block)).closedAt / 3600000000 → EndsIn (.calibration die block thresh) s fun t =>
        (t.blk e.1).thresh = thresh ∧ Keeps { flash := true } s t) ∧
    (s.flash.readbackQ = [] → ∀ k, s.segIsLost k = false →
      (k ∈ s.flash.refreshQ → eKind (s.mapAt k) = 1 → s.moving (s.mapAt k) = false → CanPlace s p (mediaFrame s k) →
        EndsIn (.refresh [k] p) s fun t => k ∉ t.flash.refreshQ ∧ SkeinCarries s t (mediaFrame s k)) ∧
      (∀ e, s.baseOf k = some e → s.enabled (grpPage (dieGroup (eDie e))) = true →
        (k ∈ s.flash.rebuildQ → s.dieGood (eDie e) = false →
          ((∀ x, frameKey x = frameKey e → s.canRebuild x = true) → EndsIn (.dieRebuild [k]) s fun t => k ∉ t.flash.rebuildQ ∧
            ReadingBegun s t .rebuild k ∧ t.flash.map = s.flash.map) ∧
          ((∀ x, frameKey x = frameKey e → s.canRebuild x = false) → eKind (s.mapAt k) = 1 → EndsIn (.dieRebuild [k]) s fun t =>
            k ∉ t.flash.rebuildQ ∧ t.mapAt k = lostEntry)) ∧
        (k ∈ s.flash.rereadQ → s.dieGood (eDie e) = true → EndsIn (.backgroundReread k) s fun t => k ∉ t.flash.rereadQ ∧
          ReadingBegun s t .reread k ∧ ∃ o ∈ (t.die (eDie e)).queue, o.kind = .sense ∧ o.who = some (.bg s.flash.nextBg))))

namespace Sys2Proof.Claims

/-- The messages the SRD has posted and no consumer has taken, oldest first: those in the outbound mailbox and those that wait for it. -/
def posted (s : State) : List OutMsg := s.srd.outbox ++ s.srd.outWait

/-- The head message is taken off the outbound mailbox. -/
def Taken (s t : State) : Prop := posted t = (posted s).drop 1

/-- The request in hand is answered with one message, which is the last one posted. -/
def Answered (s t : State) (m : OutMsg) : Prop := t.srd.inbox = s.srd.inbox.drop 1 ∧ posted t = posted s ++ [m]

/-- The reason for which the SRD does not commit a seal that arrived at a stamp (R404, R413). -/
def sealRefusal (s : State) (x : SrdSt) (m : List Byte) (stamp : Nat) : Nat :=
  if srdMalformed m then 6
  else if x.verify then 2
  else if x.tstate = tsUnset then 1
  else if s.now > stamp + 3500 then 4
  else if be m 1 1 % 2 = 1 ∧ x.freeLock = none then 3
  else 0

/-- What the console's authorised commands leave when no nonce is open, and when the signature does not verify. -/
def NeedsNonce (i : Bool → Instr) (s : State) : Prop :=
  (∀ ok, s.srd.nonce = none → EndsIn (i ok) s fun t => t = s) ∧
    (s.srd.powered = true → EndsIn (i false) s fun t => t = s.setSrd { s.srd with nonce := none })

/-- The SRD is powered and a nonce is open. -/
def Authorised (s : State) : Prop := s.srd.powered = true ∧ ∃ n, s.srd.nonce = some n

end Sys2Proof.Claims

/-- R399, R402 to R404, R407, R410, R413 to R416: the inbound mailbox. A message is posted with its arrival stamp, or the requester or the full
mailbox is refused; firmware posts a seal command's request; a committed seal extends its chain, takes the next counter value and
the lowest lock index; a refused one changes no chain; tokens are verified and checkpoints fetched. The order in which
a request is refused is read by inference (log entry 78). -/
def Obligations.SealRequests : Prop :=
  ∀ (s : State), s.srd.powered = true →
    (∀ req, req < 24 → s.srd.inbox.length < 16 → EndsIn (.mbInPost req 0) s fun t => Keeps { regs := true, srd := true } s t ∧
      t.srd = { s.srd with inbox := s.srd.inbox ++ [(s.srd.stagedBytes, s.now)] } ∧ t.fld 0x1D0 0x040 4 0 = 15 - s.srd.inbox.length) ∧
    (∀ req, (24 ≤ req ∨ 16 ≤ s.srd.inbox.length) → EndsIn (.mbInPost req 0) s fun t => t.srd = s.srd ∧ t.flash = s.flash) ∧
    (∀ req n it, n ≠ 0 → s.item n = some it → isSeal it.op = true → it.state = .queued → it.finished = false → s.now ≤ it.startUs + 800 →
      s.cmd.activating = 0 → s.srd.inbox.length < 16 → EndsIn (.mbInPost req n) s fun t =>
        t.srd.inbox = s.srd.inbox ++ [(it.sealMsg t.srd.reqId, s.now)] ∧ SMap.find t.srd.waitCmd t.srd.reqId = some (n, s.now) ∧
        ∃ j, t.item n = some j ∧ j.state = .running) ∧
    (∀ m stamp rest dt x, s.srd.inbox = (m, stamp) :: rest → x = s.srd.tick dt → be m 0 1 = 1 →
      (sealRefusal s x m stamp ≠ 0 → 0 < s.outFree → EndsIn (.srdSeal dt) s fun t =>
        Answered s t { type := 0x81, sstat := sealRefusal s x m stamp, inst := be m 2 2, req := be m 4 4 } ∧
        t.srd.chains = s.srd.chains ∧ t.srd.locks = s.srd.locks ∧ t.srd.counter = s.srd.counter) ∧
      (∀ tok, sealRefusal s x m stamp = 0 → be m 1 1 % 2 = 0 → 0 < s.outFree → tok = x.token (be m 2 2) (cut m 32 32) →
        EndsIn (.srdSeal dt) s fun t => Answered s t { type := 0x81, inst := be m 2 2, req := be m 4 4, data := tok } ∧
          t.srd.counter = s.srd.counter + 1 ∧ t.srd.locks = s.srd.locks ∧ (t.srd.chain (be m 2 2)).head = sha256 tok ∧
          (t.srd.chain (be m 2 2)).headSeq = s.srd.counter + 1 ∧
          (t.srd.chain (be m 2 2)).tokens = (tok :: (s.srd.chain (be m 2 2)).tokens).take 8) ∧
      (∀ idx, sealRefusal s x m stamp = 0 → be m 1 1 % 2 = 1 → 1 < s.outFree → x.freeLock = some idx → EndsIn (.srdSeal dt) s fun t =>
        t.srd.inbox = rest ∧ t.srd.counter = s.srd.counter + 1 ∧
        ∃ l a, SMap.find t.srd.locks idx = some l ∧ l.inst = be m 2 2 ∧ l.lba = be m 8 8 ∧ l.count = be m 16 4 ∧
          l.expiry = cdiv x.time (10 ^ 9) + 86400 * be m 20 4 ∧ posted t = posted s ++ [lockMsg 0x91 idx l, a] ∧ a.type = 0x81 ∧ a.sstat = 0)) ∧
    (∀ m stamp rest, s.srd.inbox = (m, stamp) :: rest → be m 0 1 = 2 → srdMalformed m = false → 0 < s.outFree →
      EndsIn .srdVerify s fun t => ∃ word, Answered s t { type := 0x82, inst := be m 2 2, req := be m 4 4, data := beBytes 4 word ++ beBytes 1 (s.srd.verifyReason (cut m 32 128)) } ∧
        word = (if s.srd.verifyReason (cut m 32 128) = 0 then 0x5A5AA5A5 else 0xA5A55A5A)) ∧
    (∀ m stamp rest, s.srd.inbox = (m, stamp) :: rest → be m 0 1 = 3 → srdMalformed m = false → 0 < s.outFree →
      (∀ d, s.srd.getData (be m 1 1 % 4) (be m 2 2) (be m 8 8) = some d →
        EndsIn .srdGet s fun t => Answered s t { type := 0x83, inst := be m 2 2, req := be m 4 4, data := d }) ∧
      (s.srd.getData (be m 1 1 % 4) (be m 2 2) (be m 8 8) = none →
        EndsIn .srdGet s fun t => Answered s t { type := 0x83, sstat := 5, inst := be m 2 2, req := be m 4 4 }))

/-- R402, R414: a token the SRD makes verifies at that SRD, under the seal-break count at which it was made and at every later one, as
long as that count's key is held. -/
def Obligations.SealTokenVerifies : Prop :=
  ∀ (x y : SrdSt) (i : Nat) (digest : List Byte), digest.length = 32 → x.srdId < 2 ^ 64 → x.sealBreak < 2 ^ 32 → y.srdId = x.srdId →
    x.sealBreak ≤ y.sealBreak → y.sealKeyAt x.sealBreak = x.sealKeyAt x.sealBreak → x.sealKeyAt x.sealBreak ≠ 0 →
    y.verifyReason (x.token i digest) = 0

/-- R88, R407 to R409, R411, R413, R416, R419: the outbound mailbox and the locks. Each message is taken from the head by its consumer; the
mapping engine's copy of the locks follows `LOCK_SET` and `LOCK_CLEAR`; a lock goes when its time has passed; a mailbox reset empties
the mailboxes and the copy, and the locks are posted again; the answer to a seal command ends it. -/
def Obligations.SealMessages : Prop :=
  ∀ (s : State),
    (∀ m rest n at', s.srd.outbox = m :: rest → m.type < 0x90 → (∀ e ∈ s.srd.waitCmd, s.now ≤ e.2.2 + 4000) →
      SMap.find s.srd.waitCmd m.req = some (n, at') → ∀ it, s.item n = some it → it.finished = false → EndsIn .mbOutPop s fun t =>
        Taken s t ∧ SMap.find t.srd.waitCmd m.req = none ∧ ∃ j ts, t.item n = some j ∧
          Done j 0 (beBytes 1 m.sstat ++ beBytes 1 ts ++ zeros 6 ++ padTo (sealLen it.op) m.data)) ∧
    (∀ m rest, s.srd.outbox = m :: rest →
      (m.type = 0x91 → EndsIn .lockSet s fun t => Keeps { regs := true, flash := true, srd := true } s t ∧ Taken s t ∧
        SMap.find t.flash.locks m.lock = some { inst := m.inst, lba := m.lba, count := m.count } ∧
        ∀ k, k ≠ m.lock → SMap.find t.flash.locks k = SMap.find s.flash.locks k) ∧
      (m.type = 0x92 → EndsIn .lockClear s fun t => Keeps { regs := true, flash := true, srd := true } s t ∧ Taken s t ∧
        SMap.find t.flash.locks m.lock = none ∧ ∀ k, k ≠ m.lock → SMap.find t.flash.locks k = SMap.find s.flash.locks k) ∧
      (m.type = 0x93 → EndsIn .replayEnd s fun t => Keeps { regs := true, srd := true } s t ∧ Taken s t ∧ t.fld 0x1D0 0x050 6 6 = 1) ∧
      (m.type = 0x90 → EndsIn .statusMessage s fun t => Taken s t ∧ t.fld 0x1D0 0x050 7 7 = 1 ∧
        t.fld 0x1D0 0x050 1 0 = nbits (be m.data 8 1) 1 0 ∧ t.reg 0x1D0 0x058 = BitVec.ofNat 32 (be m.data 14 4) ∧ t.flash = s.flash)) ∧
    (∀ idx dt x l, x = s.srd.tick dt → SMap.find s.srd.locks idx = some l → s.srd.powered = true → s.srd.tstate ≠ tsUnset →
      (l.expiry * 10 ^ 9 < x.time → EndsIn (.lockExpiry idx dt) s fun t => SMap.find t.srd.locks idx = none ∧
        posted t = posted s ++ [lockMsg 0x92 idx l] ∧ ∀ k, k ≠ idx → SMap.find t.srd.locks k = SMap.find s.srd.locks k) ∧
      (x.time ≤ l.expiry * 10 ^ 9 → EndsIn (.lockExpiry idx dt) s fun t => t.srd.locks = s.srd.locks ∧ posted t = posted s)) ∧
    (s.srd.powered = true → EndsIn .mailboxReset s fun t => t.srd.inbox = [] ∧ t.flash.locks = [] ∧ t.fld 0x1D0 0x050 6 6 = 0 ∧
      t.srd.locks = s.srd.locks ∧ ∃ ls, posted t = ls ++ [{ type := 0x93 }] ∧ ∀ idx l, SMap.find s.srd.locks idx = some l →
        s.srd.time ≤ l.expiry * 10 ^ 9 → lockMsg 0x91 idx l ∈ ls)

/-- R393, R395 to R398, R405, R406: the time base and the tamper loops. Time runs by the ticks that pass; a loop open at two samples in a
row counts once; a reference that fails starts `HOLDOVER`; checkpoints are signed at the hour and at power-on; the store outlives VDD_SRD.
That the rows carry the time that passed is the model's choice (log entry 75). -/
def Obligations.SealedTime : Prop :=
  ∀ (s : State) (dt : Nat) (x : SrdSt), x = s.srd.tick dt →
    (∀ sealN t0, s.srd.powered = true → SMap.getD 0 s.srd.loopHigh 0 = 1 → SMap.getD false s.srd.loopCounted 0 = false → t0 = true →
      EndsIn (.tamperSample sealN t0 false dt) s fun t => t.srd.tamper = true ∧ t.srd.tamperCnt = satAdd 32 s.srd.tamperCnt 1 ∧
        t.srd.time = x.time ∧ (999 ≤ s.srd.jumpRun → s.srd.jumpLevel = !sealN → t.srd.jumper = !sealN)) ∧
    (∀ good ref err utc leap, s.srd.powered = true → s.srd.pendTime = some (utc, leap) → s.srd.maxIssued ≤ (utc + leap) * 10 ^ 9 →
      EndsIn (.ppsEdge good ref err dt) s fun t => t.srd.time = ((utc + leap) * 10 ^ 9 : Int).toNat ∧ t.srd.leap = leap ∧
        t.srd.tstate = (if ref then tsDisciplined else tsHoldover) ∧ t.srd.pendTime = none) ∧
    (∀ err, s.srd.powered = true → s.srd.pendTime = none → s.srd.tstate = tsHoldover → 9 ≤ s.srd.goodPps →
      (err.natAbs < 1000 → EndsIn (.ppsEdge true true err dt) s fun t => t.srd.tstate = tsDisciplined ∧ t.srd.time = x.time) ∧
      (10 ^ 6 < err → EndsIn (.ppsEdge true true err dt) s fun t => t.srd.tstate = tsHoldover ∧ x.time ≤ t.srd.time)) ∧
    (s.srd.tstate = tsDisciplined → s.srd.powered = true →
      (EndsIn (.referenceLoss dt) s fun t => t.srd.tstate = tsHoldover ∧ t.srd.holdoverNs = 0 ∧ t.srd.tenMhz = false ∧ t.srd.time = s.srd.time + 10 * dt) ∧
      (EndsIn (.ppsTimeout dt) s fun t => t.srd.tstate = tsHoldover ∧ t.srd.holdoverNs = 0 ∧ t.srd.ppsPresent = false ∧ t.srd.time = s.srd.time + 10 * dt)) ∧
    (s.srd.powered = true → s.srd.tstate ≠ tsUnset → x.lastHour < x.hour → EndsIn (.hourCheckpoint dt) s fun t => Keeps { srd := true } s t ∧
      t.srd.lastHour = x.hour ∧ t.srd.counter = s.srd.counter + (s.srd.chains.filter fun e => e.2.head ≠ []).length ∧
      ∀ i, (s.srd.chain i).head ≠ [] → (t.srd.chain i).cp ≠ [] ∧ (t.srd.chain i).since = 0 ∧ (t.srd.chain i).head = (s.srd.chain i).head) ∧
    (∀ utc leap, s.srd.pendLeap = some (utc, leap) → s.srd.powered = true → s.srd.tstate ≠ tsUnset → utc ≤ x.utc → x.leap ≤ leap →
      EndsIn (.leapApply dt) s fun t => Keeps { srd := true } s t ∧ t.srd.leap = leap ∧ t.srd.pendLeap = none ∧
        t.srd.time = x.time + (leap - x.leap).toNat * 10 ^ 9) ∧
    (s.srd.powered = true → EndsIn (.statusPost dt) s fun t => Keeps { regs := true, srd := true } s t ∧
      posted t = posted s ++ [{ type := 0x90, data := x.statusData }]) ∧
    (EndsIn .vddSrdLoss s fun t => t.srd.powered = false ∧ t.srd.tstate = tsUnset ∧ posted t = [] ∧ t.srd.inbox = [] ∧
      t.srd.counter = s.srd.counter ∧ t.srd.chains = s.srd.chains ∧ t.srd.locks = s.srd.locks ∧ t.srd.sealBreak = s.srd.sealBreak) ∧
    (EndsIn .srdPowerOn s fun t => t.srd.powered = true ∧ t.srd.tstate = tsUnset ∧ t.srd.locks = s.srd.locks ∧ t.srd.verify = s.srd.verify ∧
      t.srd.sealBreak = s.srd.sealBreak ∧ t.srd.tamperCnt = s.srd.tamperCnt ∧ s.srd.counter ≤ t.srd.counter ∧ t.srd.inbox = [] ∧
      ∃ d, posted t = [{ type := 0x90, data := d }])

/-- R400, R401, R417, R418: the console. Reports and nonces are always answered; an authorised command takes the nonce, and does nothing
unless its signature verifies; each has its effect where R417 allows it. -/
def Obligations.ConsoleCommands : Prop :=
  (∀ (s : State) (utc bad version id : Nat) (leap : Int) (image auth : List Byte) (imgOk : Bool),
    NeedsNonce (.timeSet utc leap) s ∧ NeedsNonce (.leapSet utc leap) s ∧ NeedsNonce (.verifyEnter bad) s ∧
      NeedsNonce (.fwLoad image version imgOk) s ∧ NeedsNonce .keygen s ∧ NeedsNonce (.provision id auth) s ∧
      NeedsNonce (.verifyExit 0) s) ∧
  (∀ (s : State) (dt : Nat), s.srd.powered = true →
    (EndsIn (.status dt) s fun t => Keeps { srd := true } s t ∧ t.srd.answer = (s.srd.tick dt).statusData) ∧
    (EndsIn .ident s fun t => Keeps { srd := true } s t ∧ t.srd.answer = s.srd.keyInfo) ∧
    (EndsIn .nonce s fun t => Keeps { srd := true } s t ∧ t.srd.nonce = some t.srd.answer ∧ t.srd.answer.length = 32 ∧
      t.srd.draws = s.srd.draws + 1) ∧
    (EndsIn .nonceLapse s fun t => t = s.setSrd { s.srd with nonce := none })) ∧
  (∀ (s : State), Authorised s →
    (∀ utc leap, s.srd.tenMhz = true → s.srd.ppsPresent = true → s.srd.maxIssued ≤ (utc + leap) * 10 ^ 9 →
      EndsIn (.timeSet utc leap true) s fun t => t = s.setSrd { s.srd with nonce := none, pendTime := some (utc, leap) }) ∧
    (∀ utc leap, s.srd.leap ≤ leap →
      EndsIn (.leapSet utc leap true) s fun t => t = s.setSrd { s.srd with nonce := none, pendLeap := some (utc, leap) }) ∧
    (∀ bad, s.srd.jumper = false → s.srd.sealBreak + bad < 256 → EndsIn (.verifyEnter bad true) s fun t => t.srd.verify = true ∧
      t.srd.sealBreak = s.srd.sealBreak + bad + 1 ∧ t.srd.nonce = none ∧ ∃ d, posted t = posted s ++ [{ type := 0x90, data := d }]) ∧
    (∀ dt, s.srd.verify = true → s.srd.jumper = true → EndsIn (.verifyExit dt true) s fun t => t.srd.verify = false ∧
      t.srd.tamper = false ∧ t.srd.swDigest = sha256 s.srd.image ∧ t.srd.sealBreak = s.srd.sealBreak ∧ t.srd.locks = s.srd.locks ∧
      ∃ d, posted t = posted s ++ [{ type := 0x90, data := d }]) ∧
    (∀ image version, s.srd.verify = true → EndsIn (.fwLoad image version true true) s fun t =>
      t = s.setSrd { s.srd with nonce := none, image := image, swVersion := version % 2 ^ 32 }) ∧
    (s.srd.verify = true → EndsIn (.keygen true) s fun t => Keeps { srd := true } s t ∧ t.srd.nonce = none ∧
      SMap.getD 0 t.srd.sealKeys s.srd.sealBreak = s.srd.draws + 1 ∧ t.srd.signKey = s.srd.draws + 2) ∧
    (∀ id auth, s.srd.lcSeen = 1 → s.srd.provisioned = false → EndsIn (.provision id auth true) s fun t => Keeps { srd := true } s t ∧
      t.srd.provisioned = true ∧ t.srd.srdId = id % 2 ^ 64 ∧ t.srd.authDigest = padTo 48 auth ∧ t.srd.storeWrap ≠ 0 ∧
      SMap.getD 0 t.srd.sealKeys s.srd.sealBreak ≠ 0 ∧ t.srd.signKey ≠ 0))

namespace Sys2Proof.Claims

/-- A message was the last one handed to a link. -/
def Gives (s t : State) (j : Nat) (m : KnotMsg) : Prop := SMap.find t.knot.out j = some (SMap.getD [] s.knot.out j ++ [m])

/-- Nothing but the link itself is tied to a peer: no part either way, not the home, not the buddy. -/
def Untied (s : State) (j : Nat) : Prop :=
  (∀ e ∈ s.knot.fwd, e.2 ≠ j) ∧ (∀ p ∈ s.knot.parts, p.peer ≠ j) ∧ s.home ≠ j ∧ (s.hasBuddy = true → j ≠ s.buddy)

/-- The rows by which a link that is `UP` loses its peer (R423, R441). -/
def losesPeer (s : State) (j : Nat) (i : Instr) : Prop :=
  i = .retrain j ∨ i = .upLinkFailure j ∨ (i = .peerTimeout j ∧ (s.link j).lastFlit + s.fld 0x040 0x0C4 31 16 ≤ s.now)

end Sys2Proof.Claims

/-- R420, R422 to R426, R430, R441 to R443, R551: knot links. A link whose page is enabled trains, falls back to the half rate once, compares identities and comes `UP`,
or stops in `FAILED` or `MISMATCH`; a flit with a bad CRC is replayed; idle flits carry the step and the home; a lost peer's link goes
`DOWN` with all that is tied to it; a peer that is down may be given up. -/
def Obligations.KnotLinks : Prop :=
  ∀ (s : State) (j : Nat), j < 8 →
    (s.linkState j = 0 → s.klClass j = 3 → j ≠ s.selfId →
      (s.enabled (klPage j) = true → EndsIn (.knotSignalDetect j) s fun t => t.linkState j = 1 ∧ (t.link j).sig = true ∧
        Keeps { regs := true, knot := true } s t) ∧
      (s.enabled (klPage j) = false → EndsIn (.knotSignalDetect j) s fun t => t.linkState j = 0 ∧ (t.link j).sig = true ∧
        Keeps { knot := true } s t)) ∧
    (s.linkState j = 1 → (∀ p, (p = true → (s.link j).half = true) → EndsIn (.laneLock j p) s fun t => t.linkState j = 2) ∧
      ((s.link j).half = false → (EndsIn (.laneLock j true) s fun t => t.linkState j = 1 ∧ (t.link j).half = true) ∧
        EndsIn (.laneLockTimeout j) s fun t => t.linkState j = 1 ∧ (t.link j).half = true) ∧
      ((s.link j).half = true → EndsIn (.laneLockTimeout j) s fun t => t.linkState j = 4)) ∧
    (∀ ver id sig home buddy, s.linkState j = 2 → ver < 256 → id < 8 →
      (s.identOk j ver id sig buddy = false → EndsIn (.knotIdent j ver id sig home buddy) s fun t => t.linkState j = 5 ∧ t.knot = s.knot ∧
        (t.reg (klPage j) 0x010).getLsbD 2 = true ∧ t.fld (klPage j) 0x040 31 24 = ver ∧ t.fld (klPage j) 0x040 18 16 = id) ∧
      (s.identOk j ver id sig buddy = true → EndsIn (.knotIdent j ver id sig home buddy) s fun t => t.linkUp j = true ∧
        t.knot.homeKnown = true ∧ (t.link j).rxSeq = 0 ∧ (s.knot.homeKnown = true → t.home = s.home) ∧
        ∀ h, h < 8 → home = some h → s.knot.homeKnown = false → t.home = h)) ∧
    (∀ seq idle lat, s.linkUp j = true →
      (EndsIn (.flitReceive j seq false idle lat) s fun t => (t.link j).replay = true ∧ (t.link j).rxSeq = (s.link j).rxSeq ∧
        (t.reg (klPage j) 0x054).toNat = satAdd 32 (s.reg (klPage j) 0x054).toNat 1 ∧ t.home = s.home) ∧
      (seq = (s.link j).rxSeq → (∀ step h, h < 8 → EndsIn (.flitReceive j seq true (some (step, h)) lat) s fun t =>
          (t.link j).rxSeq = seq + 1 ∧ (t.link j).lastFlit = s.now ∧ (t.link j).peerStep = step ∧ t.home = h) ∧
        EndsIn (.flitReceive j seq true none lat) s fun t => (t.link j).rxSeq = seq + 1 ∧ (t.link j).lastFlit = s.now ∧ t.home = s.home)) ∧
    (s.linkUp j = true → EndsIn (.idleFlit j) s fun t => Keeps { knot := true } s t ∧ SMap.find t.knot.out j = some [.idle s.cadStep s.home] ∧
      (t.link j).idleSent = (s.link j).idleSent + 1) ∧
    (s.linkUp j = false → (EndsIn (.retrain j) s fun t => t.linkState j = 0 ∧ t.knot = s.knot) ∧
      (j ≠ s.selfId → EndsIn (.evict j) s fun t => t.knot.evicted = s.knot.evicted ||| 2 ^ j ∧
        (s.hasBuddy = true → j = s.buddy → t.knot.mirror = []))) ∧
    (∀ i, s.linkUp j = true → losesPeer s j i →
      (Untied s j → EndsIn i s fun t => t.linkState j = 0 ∧ (t.link j).sig = false ∧ SMap.find t.knot.out j = none ∧ t.home = s.home ∧
        (t.reg (klPage j) 0x010).getLsbD 1 = true) ∧
      (∀ n it x, s.knot.fwd = [(n, j)] → s.knot.parts = [] → s.home ≠ j → s.hasBuddy = false → s.item n = some it → it.aborted = false →
        it.outstanding = true → CanTell s it x → EndsIn i s fun t => t.linkState j = 0 ∧ t.knot.fwd = [] ∧
          ∃ y, t.item n = some y ∧ y.state = .reported ∧ y.status = stPeerLost))

/-- R88, R198, R429, R433 to R440: commands that cross a knot. The home grants ASNs and refuses a read that meets a granted write; a grant lets its
command go on, its absence makes it `BUSY`; a part runs at its owner and its result goes back to the command; a cached record is
held for the buddy until it is released or returned. -/
def Obligations.KnotCommands : Prop :=
  (∀ (s : State) (j item op inst lba count asn : Nat), s.home = s.selfId →
    (s.linkUp j = true → s.isKnot inst = true →
      (isReading op = true → s.knotHazard inst lba count = true → EndsIn (.asnRequest j item op inst lba count) s fun t =>
        Keeps { knot := true } s t ∧ Gives s t j (.refused item 3)) ∧
      ((isReading op = true → s.knotHazard inst lba count = false) → EndsIn (.asnRequest j item op inst lba count) s fun t =>
        Keeps { insts := true, knot := true } s t ∧ (t.inst inst).asn = (s.inst inst).asn + 1 ∧ Gives s t j (.grant item ((s.inst inst).asn + 1)) ∧
        (isWriting op = true → (inst, (s.inst inst).asn + 1, lba, count) ∈ t.knot.granted))) ∧
    (EndsIn (.asnCancel inst asn) s fun t => Keeps { knot := true } s t ∧ (inst, asn) ∈ t.knot.skipped ∧
      ∀ g, g ∈ t.knot.granted ↔ g ∈ s.knot.granted ∧ ¬(g.1 = inst ∧ g.2.1 = asn))) ∧
  (∀ (s : State) (inst asn : Nat), EndsIn (.writeCompleteReport inst asn) s fun t => Keeps { knot := true } s t ∧
    ∀ g, g ∈ t.knot.granted ↔ g ∈ s.knot.granted ∧ ¬(g.1 = inst ∧ g.2.1 = asn)) ∧
  (∀ (s : State) (n asn reason : Nat) (r : AsnReq) (it : Item) (x : Conn), (s.knot.asnReqs.find? fun r => decide (r.item = n)) = some r →
    r.cancelled = false → s.item n = some it → it.aborters = 0 → CanSend s it.conn x →
    (s.hasPromise it = true →
      (0 < it.outLen → isReading it.op = false → it.op ≠ 0x05 → EndsIn (.asnGrant n asn 0) s fun t =>
        Sent t it.conn x tAccept it.tag (beBytes 4 it.deadlineUs ++ beBytes 1 it.cls ++ zeros 3) ∧ (∀ q ∈ t.knot.asnReqs, q.item ≠ n) ∧
        ∃ y, t.item n = some y ∧ y.promised = true ∧ y.state = .dataPhase ∧ y.asn = asn) ∧
      (reason ≠ 0 → EndsIn (.asnGrant n asn reason) s fun t => t.item n = none ∧ (∀ q ∈ t.knot.asnReqs, q.item ≠ n) ∧
        ∃ us, Sent t it.conn x tBusy it.tag (beBytes 2 reason ++ zeros 2 ++ beBytes 4 us)) ∧
      (EndsIn (.asnGrantTimeout n) s fun t => t.item n = none ∧ Sent t it.conn x tBusy it.tag (beBytes 2 6 ++ zeros 2 ++ beBytes 4 2) ∧
        ∀ q ∈ t.knot.asnReqs, q.item = n → q.cancelled = true)) ∧
    (s.hasPromise it = false → isReading it.op = false → it.op ≠ 0x05 → EndsIn (.asnGrant n asn 0) s fun t => n ∈ t.cmd.bestQ ∧
      ∃ y, t.item n = some y ∧ y.asn = asn)) ∧
  (∀ (s : State) (p : PartIn), p.peer < 8 → s.linkUp p.peer = true → p.abort = false →
    (s.partOwn p = false → EndsIn (.partReceive p) s fun t => Gives s t p.peer (.result p.tag p.lba p.count stPeerLost [] []) ∧ t.cmd = s.cmd) ∧
    (s.partOwn p = true → s.cmd.resetting = true → EndsIn (.partReceive p) s fun t =>
      Gives s t p.peer (.result p.tag p.lba p.count stDeviceReset [] []) ∧ t.cmd = s.cmd) ∧
    (s.partOwn p = true → s.cmd.resetting = false → p.op ∈ [0x01, 0x02, 0x03, 0x04, 0x05, 0x08, 0x10, 0x11] →
      EndsIn (.partReceive p) s fun t => ∃ q ∈ t.knot.parts, q.item = s.cmd.next ∧ q.peer = p.peer ∧ q.tag = p.tag ∧
        q.asn = p.asn)) ∧
  (∀ (s : State) (r : PartEnd) (it : Item), (r.item, r.peer) ∈ s.knot.fwd → s.item r.item = some it → it.aborted = false → it.finished = false →
    it.outstanding = true →
    (r.status = 0 → it.op = 0x05 → EndsIn (.partResult r) s fun t => t.knot.fwd = s.knot.fwd.erase (r.item, r.peer) ∧
      t.item r.item = some { it with parts := it.parts - 1 }) ∧
    (r.status = 0 → isWriting it.op = true → it.grains = [] → it.parts = 1 → it.firstFail = 0 → EndsIn (.partResult r) s fun t =>
      ∃ y, t.item r.item = some y ∧ Done y 0 []) ∧
    (r.status ≠ 0 → r.status ≠ stRetentionLocked → isWriting it.op = true → EndsIn (.partResult r) s fun t =>
      ∃ y, t.item r.item = some y ∧ Done y r.status r.result) ∧
    (∀ g, it.op = 0x01 → it.grains = [g] → grainsOf r.lba r.count = [(g.grain, g.mask)] → r.status = 0 → EndsIn (.partResult r) s fun t =>
      ∃ y, t.item r.item = some y ∧ y.out = it.out ++ maskBytes g.mask (spreadBlocks r.data 0 g.mask) ∧ Done y 0 [])) ∧
  (∀ (s : State) (j caddr item credit : Nat) (r : MirrorIn),
    (s.linkUp j = true → j = s.buddy → s.hasBuddy = true → r.frame.length ≤ s.mirrorRoom → EndsIn (.mirrorRecord j caddr r false) s fun t =>
      ∃ m, SMap.find t.knot.mirror caddr = some m ∧ m.inst = r.inst ∧ m.grain = r.grain ∧ m.mask = r.mask ∧ m.made = r.made ∧ m.asn = r.asn ∧
        m.frame = r.frame ∧ Gives s t j (.held caddr t.mirrorRoom)) ∧
    (0 < r.mask → r.mask < 16 → r.frame ≠ [] → s.newerBlocks (mapKey r.inst r.grain) r.asn = 0 → EndsIn (.mirrorRecord j caddr r true) s fun t =>
      t.mapAt (mapKey r.inst r.grain) = cacheEntry (s.cacheSlot (r.frame.length / 64)) (r.frame.length / 64)) ∧
    (EndsIn (.mirrorHeld item credit) s fun t => Keeps { cmd := true, knot := true } s t ∧ t.knot.credit = credit ∧
      ∀ it, s.item item = some it → t.item item = some { it with mirrorWait := it.mirrorWait - 1 }) ∧
    (EndsIn (.mirrorRelease caddr false) s fun t => SMap.find t.knot.mirror caddr = none ∧ ∀ k, k ≠ caddr →
      SMap.find t.knot.mirror k = SMap.find s.knot.mirror k) ∧
    (s.cacheRec caddr = none → s.linkUp s.buddy = true → EndsIn (.mirrorRelease caddr true) s fun t => Keeps { knot := true } s t ∧
      Gives s t s.buddy (.release caddr)))

namespace Sys2Proof.Claims

/-- The main reset has happened between two states (R469, R471): nothing is left of the commands, the transport and DRAM, the domains are off and
wait for their stage, no power-fail sequence runs; the SRD's store, locks and time stand (R393). -/
def MainReset (s t : State) : Prop :=
  t.cmd.items = [] ∧ t.host = {} ∧ t.dram.bytes = [] ∧ t.flash.map = [] ∧ t.pwr.pf = false ∧ t.pwr.dumpBad = false ∧
    t.pwr.seq = (if s.therm.latched then 0 else 1) ∧ (∀ d, 2 ≤ d → d < 24 → t.domStat d = 2) ∧ t.fld pgRst 0x040 1 1 = 1 ∧
    t.srd.counter = s.srd.counter ∧ t.srd.chains = s.srd.chains ∧ t.srd.locks = s.srd.locks ∧ t.srd.time = s.srd.time

/-- A power-fail sequence has begun with a cause (R473): phase 1, admission stopped, its event held for the next start. -/
def FailBegun (s t : State) (cause code : Nat) : Prop :=
  t.pwr.pf = true ∧ t.phase = 1 ∧ t.fld pgPwr 0x054 7 4 = cause ∧ t.cmd.stopped = true ∧ t.reg pgPwr 0x050 = 0 ∧
    ∃ e, t.tel.heldEv = s.tel.heldEv ++ [e] ∧ e.code = code

/-- Cache records as a dump holds them: each frame under the device key (R172, R477). -/
def sealedRecs (s : State) : List (Nat × CacheRec) :=
  s.flash.recs.map fun e => (e.1, { e.2 with frame := s.devCipher true e.1 e.2.frame })

/-- Bytes of a dump that mirrors nothing: the cache, the map-delta log and the journal (R477). -/
def dumpLen (s : State) (d : Dump) : Nat := s.flash.cacheUsed + Config.deltaBytes * s.flash.delta.length + 64 * d.journal.length

/-- Domains that a row of the power-up table switches on (R471). -/
def stageDoms : List (Nat × List Nat) :=
  [(2, [14]), (3, [15, 16, 17, 18]), (4, [21, 22]), (5, [2, 3, 4]), (6, [5, 6, 7, 8]), (7, [9, 10, 11, 12]), (8, [13]), (9, [19, 20, 23])]

end Sys2Proof.Claims

/-- R203, R473 to R480: the power-fail sequence. PFAIL_N begins it once; the freeze journals what is in flight and stops everything; the dump takes the
map-delta log and the cache, enciphered, and of each good die's reserve the blocks its share fills; the closing record makes it valid; PFAIL_N high restarts; PWR_GOOD falling too early loses the dump. -/
def Obligations.PowerFail : Prop :=
  ∀ (s : State),
    (s.pwr.pwrGood = true → s.pwr.pf = false → EndsIn .pfail s fun t => FailBegun s t 1 0x0050 ∧ t.pwr.pfailN = false ∧
      Keeps { regs := true, cmd := true, pwr := true, tel := true } s t) ∧
    (s.pwr.pf = true → EndsIn .pfail s fun t => t.phase = s.phase ∧ t.tel = s.tel ∧ t.cmd = s.cmd) ∧
    (s.pwr.pf = true → s.pwr.frozen = false → EndsIn .freeze s fun t => t.phase = 2 ∧ t.pwr.frozen = true ∧ t.cmd.items = [] ∧ t.host = {} ∧
      ∃ d, t.otp.dump = some d ∧ d.valid = false ∧ d.cause = s.fld pgPwr 0x054 7 4 ∧ d.seq = s.otp.runNum ∧
        d.journal = (s.journalOf s.pwr.pfStatus s.otp.runNum).take 262144) ∧
    (∀ d, s.pwr.frozen = true → s.phase = 2 → s.otp.dump = some d → EndsIn .dumpStart s fun t => t.phase = 3 ∧
      (∀ k, 2 ≤ k → k ≤ 13 → t.domStat k = 2) ∧ t.flash.recs = s.flash.recs ∧ t.flash.map = s.flash.map ∧
      (∃ e, t.otp.dump = some e ∧ e.delta = s.flash.delta ∧ e.recs = sealedRecs s ∧ e.journal = d.journal) ∧
      (∀ i, i ∉ s.allGood → t.die i = s.die i) ∧
      ∀ i n, s.hasBuddy = false → s.allGood = [i] → n = s.shareBlocks i (dumpLen s d) →
        (t.die i).dumped = (s.die i).dumped ++ (s.die i).reserve.take n ∧ (t.die i).reserve = (s.die i).reserve.drop n) ∧
    (∀ d, s.pwr.pf = true → s.phase = 3 → s.pwr.dumpBad = false → s.otp.dump = some d → s.pwr.mainWait = false →
      EndsIn .dumpDone s fun t => t.phase = 4 ∧ t.otp.dump = some { d with valid := true } ∧ ∀ k, 2 ≤ k → k < 24 → t.domStat k = 2) ∧
    (s.pwr.pf = true → s.phase = 4 → s.pwr.pwrGood = true → s.pwr.sysResetN = true → EndsIn .pfailRestart s fun t =>
      MainReset s t ∧ t.pwr.pfailN = true) ∧
    (EndsIn .pwrGoodFall s fun t => t.pwr.pwrGood = false ∧ t.cmd.items = [] ∧ (∀ k, 2 ≤ k → k < 24 → t.domStat k = 2) ∧
      (s.pwr.pf = true → s.phase ≠ 4 → t.pwr.dumpBad = true))

/-- R393, R456, R468 to R472, R481, R482, R484: power-up, clocks and resets. PWR_GOOD and SYS_RESET_N cause the main reset; the stages switch the
domains on in order and release CC0; fuse load gives the life-cycle state; REFCLK is checked; the warm reset keeps DRAM. -/
def Obligations.PowerUpAndResets : Prop :=
  ∀ (s : State),
    (∀ id boot test, s.pwr.supplyAon = true → s.pwr.sysResetN = true → s.pwr.pf = false → EndsIn (.pwrGoodRise id boot test) s fun t =>
      MainReset s t ∧ t.pwr.pwrGood = true ∧ t.otp.strapId = id % 8 ∧ t.otp.testEn = test) ∧
    (s.pwr.sysResetN = false → s.pwr.pwrGood = true → s.pwr.pf = false → EndsIn (.sysResetN true) s fun t => MainReset s t ∧
      t.fld pgRst 0x040 3 3 = 1) ∧
    (s.pwr.sysResetN = true → s.pwr.pwrGood = true → s.pwr.pfailN = true → s.pwr.pf = false → EndsIn (.sysResetN false) s fun t =>
      FailBegun s t 2 0x0050 ∧ t.fld pgRst 0x040 7 7 = 1) ∧
    (∀ k ds, (k, ds) ∈ stageDoms → s.pwr.seq = k → EndsIn .powerUpStage s fun t => t.pwr.seq = k + 1 ∧ (∀ d ∈ ds, t.domStat d = 0) ∧
      ∀ d, d < 24 → d ∉ ds → t.domStat d = s.domStat d) ∧
    (s.pwr.seq = 1 → s.fld pgClk 0x040 31 31 = 1 → EndsIn .powerUpStage s fun t => t.pwr.seq = 2) ∧
    (s.pwr.seq = 10 → EndsIn .powerUpStage s fun t => t.pwr.seq = 11 ∧ t.fld pgClk 0x040 12 0 = 0x1FFF) ∧
    (s.pwr.seq = 11 → s.fld 0x002 0x048 31 31 = 1 → EndsIn .powerUpStage s fun t => t.pwr.seq = 0 ∧ t.buf = {} ∧ (t.core 256).running = true ∧
      (t.core 256).pc = 0xFFF00000 ∧ ∀ n, 0 < n → n < 24 → (t.core (256 + n)).running = false) ∧
    (EndsIn .fuseLoad s fun t => t.srd.lcSeen = t.lc ∧ t.lc = s.fuseLc % 16 ∧ t.fld 0x002 0x048 31 31 = 1 ∧
      (t.lc ≠ s.otp.lastLc → t.dig = {}) ∧ Keeps { regs := true, dig := true, srd := true, otp := true } s t) ∧
    (s.pwr.aonLost = false → s.pwr.pwrGood = true →
      (∀ p : Int, p.natAbs ≤ 500 → EndsIn (.clockCheck (some p)) s fun t => t.fld pgClk 0x040 31 31 = 1 ∧ t.pwr = s.pwr) ∧
      (∀ ppm : Option Int, (∀ p, ppm = some p → 500 < p.natAbs) → s.pwr.pf = false → s.pwr.seq = 0 → EndsIn (.clockCheck ppm) s fun t =>
        t.fld pgClk 0x040 31 31 = 0 ∧ FailBegun s t 4 0x0050 ∧ t.fld pgRst 0x040 6 6 = 1)) ∧
    (EndsIn .aonClkLoss s fun t => t.pwr = { s.pwr with aonLost := true } ∧ t.fld pgClk 0x040 30 30 = 0) ∧
    (EndsIn .aonClkReturn s fun t => t.pwr = { s.pwr with aonLost := false } ∧ t.fld pgClk 0x040 30 30 = 1) ∧
    (EndsIn .aonPor s fun t => t.pwr.pwrGood = false ∧ t.jtag = {} ∧ t.shVal = [] ∧ t.cmd.items = [] ∧ (∀ d, 2 ≤ d → d < 24 → t.domStat d = 2) ∧
      t.srd.counter = s.srd.counter ∧ t.srd.chains = s.srd.chains ∧ t.srd.locks = s.srd.locks) ∧
    (EndsIn .vddAonLoss s fun t => t.pwr.supplyAon = false ∧ t.therm.tripN = true ∧ t.therm.latched = false ∧ t.srd.lcSeen = 7 ∧
      t.cmd.items = [] ∧ t.srd.counter = s.srd.counter ∧ t.srd.chains = s.srd.chains ∧ t.srd.locks = s.srd.locks) ∧
    (s.cmd.resetting = true → (∀ e ∈ s.cmd.items, e.2.outstanding = false) → EndsIn .deviceResetEffect s fun t => t.cmd.items = [] ∧
      t.dram.bytes = s.dram.bytes ∧ t.flash.map = s.flash.map ∧ t.fld pgRst 0x040 2 2 = 1 ∧ (∀ d, 2 ≤ d → d < 24 → t.domStat d = 0) ∧
      (t.core 256).running = true ∧ t.pwr.warmStart = true ∧ t.otp.warmJournal = (s.journalOf stDeviceReset 0).take 262144)

/-- R35, R446 to R457, R463 to R465: temperature, the step and the domains. `THERMAL_SAMPLE`: a sample enters the model; at a temperature at or
above `THROTTLE_C` the step falls by one, at most each 2 ms; at 112 °C the device shuts down with a dump. `RISE_COMPLETE`: a rise under way raises
the step, unless it is held, and without one nothing changes. `ANALOGUE_TRIP`: the device shuts down without a dump. `DOMAIN_OFF`: a held request
takes effect once its condition holds, and waits before. `DOMAIN_ON`: a domain that switches comes back, with its registers reset unless it was in
retention, and a request made meanwhile is held; a power-fail sequence has abandoned the switch. -/
def Obligations.ThermalAndDomains : Prop :=
  (∀ (s : State) (x : ThermIn),
    (EndsIn (.thermalSample x) s fun t => t.therm.samples = s.therm.samples + 1 ∧
      t.therm.pHist = ((x.pmon.take 24).sum :: s.therm.pHist).take 20 ∧
      ∀ n v, n < 64 → x.temps.getD n none = some v → (t.sensor n).temp = v) ∧
    (s.step' < 15 → s.sinceDescent = 2000 → degC (s.fld pgTherm 0x040 15 8 : Nat) ≤ (s.thermSample x).2 → (s.thermSample x).2 < degC 112 →
      EndsIn (.thermalSample x) s fun t => t.step' = s.step' + 1 ∧ t.sinceDescent = 0 ∧ t.cadStep = s.step' + 1) ∧
    (s.therm.latched = false → s.pwr.pf = false → degC 112 ≤ (s.thermSample x).2 → EndsIn (.thermalSample x) s fun t =>
      t.therm.latched = true ∧ t.therm.tripN = false ∧ t.pwr.pf = true ∧ t.pwr.frozen = true ∧ t.fld pgPwr 0x054 7 4 = 3 ∧ t.cmd.items = [])) ∧
  (∀ (s : State),
    (s.therm.rising = true → s.step' ≠ 0 →
      (s.stepHeld = false → EndsIn .riseComplete s fun t => t.step' = s.step' - 1 ∧ t.cadStep = s.step' - 1 ∧ t.therm.rising = false) ∧
      (s.stepHeld = true → EndsIn .riseComplete s fun t => t = { s with therm := { s.therm with rising := false } })) ∧
    ((s.therm.rising = false ∨ s.step' = 0) → EndsIn .riseComplete s fun t => t = s)) ∧
  (∀ (s : State), EndsIn .analogueTrip s fun t => t.therm.latched = true ∧ t.therm.tripN = false ∧ t.cmd.items = [] ∧ t.cmd.stopped = true ∧
    t.otp.dump = s.otp.dump ∧ ∀ d, 2 ≤ d → d < 24 → t.domStat d = 2) ∧
  (∀ (s : State) (d : Nat), 2 ≤ d → d < 24 →
    (nbit (s.fld pgPwr 0x050 23 0) d = true → s.domIdle d = true → s.domClean d = true → EndsIn (.domainOff d) s fun t =>
      nbit (t.fld pgPwr 0x050 23 0) d = false ∧ (t.reg pgPwr 0x010).getLsbD 0 = true ∧
      (s.domReq d = 1 → t.domStat d = 1 ∧ t.buf = s.buf) ∧
      (s.domReq d ≠ 1 → t.domStat d = 2 ∧ ∀ k, keyDomain k = d → t.regAt k = regReset k)) ∧
    ((nbit (s.fld pgPwr 0x050 23 0) d = false ∨ s.domIdle d = false ∨ s.domClean d = false) → EndsIn (.domainOff d) s fun t => t = s) ∧
    (s.domStat d = 3 → s.pwr.pf = false → EndsIn (.domainOn d) s fun t => t.domStat d = 0 ∧
      (s.domReq d ≠ 0 → nbit (t.fld pgPwr 0x050 23 0) d = true) ∧ (t.reg pgPwr 0x010).getLsbD 0 = true ∧ d ∉ t.pwr.switching ∧
      (d ∈ s.pwr.switching → ∀ k, keyDomain k = d → t.regAt k = regReset k) ∧ (d ∉ s.pwr.switching → t.buf = s.buf)) ∧
    ((s.domStat d ≠ 3 ∨ s.pwr.pf = true) → EndsIn (.domainOn d) s fun t => t = s))

namespace Sys2Proof.Claims

/-- Background work waited in a window and got less than its share of a die or of a listed resource (R510). -/
def FellShort (s : State) (got : List (Nat × Nat)) : Prop :=
  s.dieShort = true ∨ ∃ e ∈ got, 2048 ≤ e.1 ∧
    e.2 < 100000 * s.capAt e.1 (s.floorStep 0) 0 * min (s.fld 0x1F0 0x040 7 0) s.reservePct / 100

end Sys2Proof.Claims

/-- R469, R503, R509, R510, R512, R513, R531, R533, R551: telemetry and test. `ASYNC_EVENT_SEND`: an event that waits is sent on its connection, at
most one of a code in 1 ms. `SNAP`: the live histograms become readable and are zeroed; with `ENABLE` 0 it waits. `BACKGROUND_WINDOW`: a window in
which background work fell short is counted, and each period missed; a disabled scheduler closes none. `TAP_RESET`: the TAP holds `IDCODE`.
`TAP_INSTRUCTION`: the TAP takes its instructions, those that would drive pins only with TEST_EN. -/
def Obligations.TelemetryAndTest : Prop :=
  (∀ (s : State) (c code : Nat) (x : Conn) (e : Nat × List Byte), CanSend s c x → x.state = .established →
    (x.evPending.find? fun e => decide (e.1 = code)) = some e →
    (SMap.getD 0 s.tel.asyncLast (64 * c + code) = 0 → EndsIn (.asyncEventSend c code) s fun t =>
      Sent t c x tAsync 0 (beBytes 2 code ++ padTo 14 e.2) ∧ ∃ y, t.conn c = some y ∧ ∀ p ∈ y.evPending, p.1 ≠ code) ∧
    (0 < SMap.getD 0 s.tel.asyncLast (64 * c + code) → s.now + 1 < SMap.getD 0 s.tel.asyncLast (64 * c + code) + 1000 →
      EndsIn (.asyncEventSend c code) s fun t => t = s)) ∧
  (∀ (s : State),
    (s.enabled 0x1E0 = true → EndsIn .snap s fun t => Keeps { regs := true, tel := true } s t ∧ t.tel = { s.tel with live := [] } ∧
      ∀ i, i < 128 →
        t.reg 0x1E0 (0x100 + 0x80 * (i / 32) + 4 * (i % 32)) = BitVec.ofNat 32 (SMap.getD 0 s.tel.live i) ∧
        t.reg 0x1E0 (0x400 + 0x80 * (i / 32) + 4 * (i % 32)) = BitVec.ofNat 32 (SMap.getD 0 s.tel.live (128 + i))) ∧
    (s.enabled 0x1E0 = false → EndsIn .snap s fun t => t = { s with tel := { s.tel with snapWait := true } })) ∧
  (∀ (s : State) (got : List (Nat × Nat)) (late : Nat),
    (s.enabled 0x1F0 = false → EndsIn (.backgroundWindow got late) s fun t => t = s) ∧
    (s.enabled 0x1F0 = true → EndsIn (.backgroundWindow got late) s fun t =>
      (FellShort s got → (t.reg 0x1F0 0x050).toNat = satAdd 32 (s.reg 0x1F0 0x050).toNat 1) ∧
      (¬FellShort s got → t.reg 0x1F0 0x050 = s.reg 0x1F0 0x050) ∧
      (t.reg 0x1F0 0x04C).toNat = satAdd 32 (s.reg 0x1F0 0x04C).toNat late ∧
      t.flash = { s.flash with bgNs := [] } ∧ t.tel.winUs = s.now)) ∧
  (∀ (s : State), EndsIn .tapReset s fun t => Keeps { jtag := true } s t ∧ t.jtag.ir = 0x02 ∧ t.jtag.drive = false) ∧
  (∀ (s : State) (code : Nat),
    ((code ∉ [0x00, 0x01, 0x02, 0x08, 0x09, 0x10, 0x11, 0x20, 0x3F] ∨ (code ∈ [0x00, 0x08, 0x09, 0x10, 0x11] ∧ s.otp.testEn = false)) →
      EndsIn (.tapInstruction code) s fun t => t.jtag = { s.jtag with ir := 0x3F, drive := false }) ∧
    (code ∈ [0x01, 0x02, 0x20, 0x3F] → EndsIn (.tapInstruction code) s fun t => t.jtag = { s.jtag with ir := code, drive := false }) ∧
    (code ∈ [0x00, 0x08, 0x09, 0x10, 0x11] → s.otp.testEn = true → EndsIn (.tapInstruction code) s fun t =>
      t.jtag = { s.jtag with ir := code, drive := true }))

namespace Sys2Proof.Claims

/-- The block runs for a number of steps. -/
def runFor : Nat → State → Option State
  | 0, s => some s
  | n + 1, s =>
    match step s with
    | .next t => runFor n t
    | .fault _ => none
    | .refused _ => none

/-- The rows by which the sealed record domain itself changes what its store holds of chains, locks, keys and seal breaks. -/
def storeRow : Instr → Bool
  | .srdPowerOn => true
  | .srdSeal _ => true
  | .hourCheckpoint _ => true
  | .lockExpiry _ _ => true
  | .verifyEnter _ _ => true
  | .verifyExit _ _ => true
  | .keygen _ => true
  | .provision _ _ _ => true
  | _ => false

/-- The parts of the state a row may change. -/
def parts : Instr → Foot
  | .registerWrite .. | .errClr .. | .irqForce .. | .fwqTail .. | .domReq .. | .coreReset .. | .coreHold .. | .bootStage .. =>
    { regs := true, shVal := true, shMask := true, resp := true, cfg := true, host := true, cmd := true, cad := true, insts := true,
      flash := true, buf := true, eng := true, dig := true, srch := true, cores := true, scan := true, dram := true, srd := true,
      knot := true, pwr := true, otp := true, tel := true }
  | .begin .. | .linkChange .. | .driftTracking .. => { regs := true }
  | .commit .. | .txnTimeout => { regs := true, shVal := true, shMask := true, cfg := true, dram := true, tel := true }
  | .rollback .. => { regs := true, shVal := true, shMask := true }
  | .blockApply .. | .instanceResetComplete .. | .instanceDeleteComplete .. =>
    { regs := true, shVal := true, shMask := true, cfg := true, host := true, cmd := true, cad := true, insts := true, flash := true,
      buf := true, eng := true, dig := true, srch := true, cores := true, scan := true, dram := true, knot := true, tel := true }
  | .holdDeadline => { regs := true, cfg := true, dram := true, tel := true }
  | .fuseSlotProgrammed .. => { regs := true, shVal := true, shMask := true, cfg := true, dram := true, otp := true, tel := true }
  | .frameReceive .. => { regs := true, host := true }
  | .classification .. => { regs := true, host := true, srch := true, freeCtr := true }
  | .hello .. | .calendarSlotAdvance .. =>
    { regs := true, host := true, cmd := true, cad := true, insts := true, flash := true, buf := true, eng := true, dig := true,
      srch := true, cores := true, scan := true, dram := true, knot := true, tel := true, freeCtr := true }
  | .close .. | .abort .. | .retransmitTimeout .. | .keepaliveTimeout .. | .dataTimeout .. | .read .. | .write .. | .writeZeroes .. |
      .deallocate .. | .flush .. | .scan .. | .loadProgram .. | .unloadProgram .. | .search .. | .tableUpdate .. | .digest .. |
      .compareDigest .. | .sealRecord .. | .verifySeal .. | .getSealCheckpoint .. | .identify .. | .getLog .. | .setFeature .. |
      .getFeature .. | .createInstance .. | .deleteInstance .. | .resetInstance .. | .setQuota .. | .migrationLogStop .. |
      .migrationLogStart .. | .migrationLogRead .. | .migrationLogReadClear .. | .fwDownload .. | .fwActivate .. | .regRead .. |
      .regWrite .. | .deviceReset .. | .deadlineWatchdog .. | .retrain .. | .peerTimeout .. | .upLinkFailure .. | .unknownOpcode .. =>
    { regs := true, host := true, cmd := true, cad := true, insts := true, flash := true, buf := true, eng := true, dig := true,
      srch := true, cores := true, scan := true, dram := true, knot := true, tel := true }
  | .keepalive .. | .ack .. | .nak .. | .sendXferRdy .. | .dataInSend .. | .sendCloseNormal .. | .asyncEventSend .. =>
    { regs := true, host := true, cmd := true, insts := true, tel := true }
  | .dataOut .. | .bestEffortStart .. | .partReceive .. =>
    { regs := true, shVal := true, shMask := true, pairHi := true, resp := true, cfg := true, host := true, cmd := true, cad := true,
      insts := true, flash := true, buf := true, eng := true, dig := true, srch := true, cores := true, scan := true, dram := true,
      srd := true, knot := true, pwr := true, otp := true, tel := true }
  | .frameTransmit .. | .keepaliveSend .. | .delayedAck .. => { host := true, cmd := true, tel := true }
  | .helloRcvdTimeout .. => { host := true }
  | .admissionDecision .. | .asnGrant .. =>
    { regs := true, shVal := true, shMask := true, pairHi := true, resp := true, cfg := true, host := true, cmd := true, cad := true,
      insts := true, flash := true, buf := true, eng := true, dig := true, srch := true, cores := true, scan := true, dram := true,
      srd := true, knot := true, pwr := true, otp := true, tel := true, freeCtr := true }
  | .commandComplete .. =>
    { regs := true, shVal := true, shMask := true, cfg := true, host := true, cmd := true, cad := true, insts := true, flash := true,
      buf := true, eng := true, dig := true, srch := true, cores := true, scan := true, dram := true, srd := true, knot := true,
      tel := true }
  | .abortComplete .. | .flushComplete .. | .asnGrantTimeout .. =>
    { regs := true, host := true, cmd := true, cad := true, insts := true, flash := true, buf := true, dram := true, knot := true,
      tel := true }
  | .deviceResetEffect =>
    { regs := true, shVal := true, shMask := true, pairHi := true, cfg := true, host := true, cmd := true, cad := true, insts := true,
      flash := true, buf := true, eng := true, dig := true, srch := true, cores := true, ctlStores := true, scan := true, dram := true,
      srd := true, knot := true, pwr := true, otp := true, tel := true }
  | .activationGraceExpiry =>
    { regs := true, shVal := true, shMask := true, cfg := true, host := true, cmd := true, cad := true, insts := true, flash := true,
      buf := true, eng := true, dig := true, srch := true, cores := true, scan := true, dram := true, knot := true, otp := true,
      tel := true }
  | .dieDispatch .. | .programComplete .. | .supersededRecordExpiry => { regs := true, flash := true }
  | .senseComplete .. => { cmd := true, flash := true }
  | .codewordDecode .. | .dieTimeout .. =>
    { regs := true, host := true, cmd := true, insts := true, flash := true, dig := true, cores := true, scan := true, dram := true,
      tel := true }
  | .suspendComplete .. | .mapCheckpoint .. | .calibration .. => { flash := true }
  | .programFailure .. | .cacheDrain .. | .scrub .. | .refresh .. | .dieRebuild .. | .backgroundReread .. =>
    { regs := true, host := true, cmd := true, insts := true, flash := true, dram := true, tel := true }
  | .eraseComplete .. | .eraseFailure .. | .channelTrainingDone .. | .garbageCollection .. | .wearLevelling .. =>
    { regs := true, host := true, flash := true, dram := true, tel := true }
  | .mapUpdate .. =>
    { regs := true, cmd := true, cad := true, insts := true, flash := true, buf := true, dig := true, cores := true, scan := true,
      dram := true, knot := true, tel := true }
  | .mapSegmentRebuild .. =>
    { regs := true, cmd := true, flash := true, buf := true, dig := true, cores := true, scan := true, dram := true, tel := true }
  | .alloc .. | .cell .. | .hitch .. | .free .. => { regs := true, buf := true, dram := true, tel := true }
  | .freeListRebuild .. => { regs := true, buf := true }
  | .engineDispatch .. => { regs := true, eng := true }
  | .frameCompressed .. =>
    { regs := true, cmd := true, flash := true, buf := true, eng := true, dig := true, cores := true, scan := true, dram := true,
      tel := true }
  | .frameDecoded .. =>
    { regs := true, host := true, cmd := true, insts := true, flash := true, buf := true, eng := true, dig := true, cores := true,
      scan := true, dram := true, tel := true }
  | .fwqDescriptorStart .. => { regs := true, buf := true, eng := true, dig := true, cores := true, dram := true, tel := true }
  | .fwqDescriptorDone .. => { regs := true, buf := true, eng := true, cores := true, dram := true }
  | .load .. | .erase .. | .lock .. => { regs := true, dig := true, dram := true, tel := true }
  | .digestBlockEnd .. =>
    { regs := true, cmd := true, buf := true, eng := true, dig := true, cores := true, dram := true, tel := true }
  | .searchResult .. => { regs := true, cmd := true, srch := true, freeCtr := true }
  | .updateRecordSlot .. => { regs := true, cmd := true, srch := true, dram := true, tel := true }
  | .regionSweep .. => { regs := true, srch := true }
  | .entryParityCheck .. | .fwSearch .. | .fwWrite .. | .fwInvalidate .. => { regs := true, srch := true, dram := true, tel := true }
  | .add .. | .sub .. | .adds .. | .subs .. | .and .. | .or .. | .xor .. | .andn .. | .shl .. | .shr .. | .sar .. | .rot .. | .min .. |
      .max .. | .minu .. | .maxu .. | .neg .. | .negs .. | .abs .. | .clz .. | .popc .. | .bswap .. | .sextb .. | .sexth .. |
      .zexth .. | .mul .. | .mulh .. | .mulhu .. | .mac .. | .div .. | .divu .. | .rem .. | .remu .. | .addi .. | .andi .. | .ori .. |
      .xori .. | .shli .. | .shri .. | .sari .. | .roti .. | .cmp .. | .cmpi .. | .pand .. | .por .. | .pxor .. | .pandn .. |
      .pnot .. | .psetg .. | .pget .. | .pput .. | .movl .. | .movh .. | .br .. | .jr .. | .loop .. | .loopi .. | .repi .. | .rep .. |
      .lclr .. | .nop .. | .halt .. | .trap .. | .eret .. | .wfi .. | .wfiWake .. | .tlbinv .. | .csrr .. | .csrw .. | .rnext .. |
      .rput .. | .fldx .. | .tapr .. | .illegalInstruction .. =>
    { regs := true, cmd := true, cores := true, scan := true, freeCtr := true }
  | .lb .. | .lbu .. | .lh .. | .lhu .. | .lw .. | .ldx .. | .ret .. | .pop .. | .lrest .. =>
    { regs := true, pairHi := true, resp := true, cmd := true, cores := true, scan := true, dram := true, tel := true, freeCtr := true }
  | .sb .. | .sh .. | .sw .. | .stx .. | .call .. | .callr .. | .push .. | .lsave .. =>
    { regs := true, shVal := true, shMask := true, resp := true, cfg := true, host := true, cmd := true, cad := true, insts := true,
      flash := true, buf := true, eng := true, dig := true, srch := true, cores := true, ctlStores := true, scan := true, dram := true,
      srd := true, knot := true, pwr := true, otp := true, tel := true, freeCtr := true }
  | .fence .. | .cas .. =>
    { regs := true, cmd := true, buf := true, cores := true, ctlStores := true, scan := true, dram := true, freeCtr := true }
  | .custom .. => { regs := true, cmd := true, cores := true, scan := true, dram := true, tel := true, freeCtr := true }
  | .interruptTaken .. | .timerInterrupt .. => { cores := true, freeCtr := true }
  | .budgetExhausted .. | .ringStall .. | .collectorGrant => { regs := true, cmd := true, cores := true, scan := true }
  | .runStart .. | .jobStart .. | .closingJobStart .. => { regs := true, cores := true, scan := true }
  | .dramRead .. | .dramWrite .. | .alertRecoveryEnd .. | .selfRefreshExit .. =>
    { regs := true, host := true, cmd := true, cad := true, insts := true, flash := true, buf := true, eng := true, dig := true,
      srch := true, cores := true, scan := true, dram := true, knot := true, otp := true, tel := true }
  | .refreshTick .. | .srDrainComplete .. | .alert .. => { regs := true, dram := true }
  | .selfRefreshEntry .. => { dram := true }
  | .dramScrub .. => { regs := true, host := true, insts := true, flash := true, dram := true, otp := true, tel := true }
  | .dramTraining .. => { regs := true, dram := true, tel := true }
  | .srdPowerOn | .tamperSample .. | .ppsEdge .. | .referenceLoss .. | .ppsTimeout .. | .srdSeal .. | .srdVerify | .srdGet |
      .lockExpiry .. | .replayEnd | .statusPost .. | .verifyEnter .. | .verifyExit .. | .vddSrdLoss =>
    { regs := true, srd := true }
  | .mbInPost .. => { regs := true, cmd := true, dram := true, srd := true, tel := true }
  | .mbOutPop => { regs := true, cmd := true, srd := true }
  | .hourCheckpoint .. | .status .. | .ident | .nonce | .nonceLapse | .timeSet .. | .leapSet .. | .leapApply .. | .fwLoad .. |
      .keygen .. | .provision .. =>
    { srd := true }
  | .mailboxReset | .lockSet | .lockClear => { regs := true, flash := true, srd := true }
  | .statusMessage => { regs := true, host := true, dram := true, srd := true, tel := true }
  | .knotSignalDetect .. | .laneLock .. | .laneLockTimeout .. | .flitReceive .. | .mirrorRelease .. => { regs := true, knot := true }
  | .knotIdent .. => { regs := true, dram := true, knot := true, tel := true }
  | .idleFlit .. | .asnCancel .. | .writeCompleteReport .. => { knot := true }
  | .evict .. => { regs := true, host := true, insts := true, knot := true }
  | .asnRequest .. => { insts := true, knot := true }
  | .partResult .. =>
    { regs := true, cmd := true, cad := true, flash := true, buf := true, dig := true, cores := true, scan := true, dram := true,
      knot := true, tel := true }
  | .mirrorRecord .. => { regs := true, cmd := true, insts := true, flash := true, knot := true }
  | .mirrorHeld .. => { cmd := true, knot := true }
  | .thermalSample .. =>
    { regs := true, shVal := true, shMask := true, cfg := true, host := true, cmd := true, cad := true, insts := true, flash := true,
      buf := true, eng := true, dig := true, srch := true, cores := true, ctlStores := true, scan := true, dram := true, knot := true,
      therm := true, pwr := true, otp := true, tel := true }
  | .riseComplete => { regs := true, host := true, dram := true, therm := true, tel := true }
  | .analogueTrip =>
    { regs := true, cfg := true, host := true, cmd := true, cad := true, insts := true, flash := true, buf := true, eng := true,
      dig := true, srch := true, cores := true, ctlStores := true, scan := true, dram := true, knot := true, therm := true,
      pwr := true, otp := true, tel := true }
  | .pwrGoodRise .. | .dumpDone | .pfailRestart | .sysResetN .. =>
    { regs := true, shVal := true, shMask := true, pairHi := true, cfg := true, host := true, cmd := true, cad := true, insts := true,
      flash := true, buf := true, eng := true, dig := true, srch := true, cores := true, ctlStores := true, scan := true, dram := true,
      srd := true, knot := true, therm := true, pwr := true, otp := true, tel := true }
  | .powerUpStage => { regs := true, buf := true, cores := true, pwr := true }
  | .pwrGoodFall =>
    { regs := true, cfg := true, host := true, cmd := true, cad := true, insts := true, flash := true, buf := true, eng := true,
      dig := true, srch := true, cores := true, ctlStores := true, scan := true, dram := true, knot := true, pwr := true, otp := true,
      tel := true }
  | .pfail | .clockCheck .. => { regs := true, cmd := true, pwr := true, tel := true }
  | .freeze =>
    { regs := true, shVal := true, shMask := true, cfg := true, host := true, cmd := true, cad := true, insts := true, flash := true,
      buf := true, eng := true, dig := true, srch := true, cores := true, ctlStores := true, scan := true, knot := true, pwr := true,
      otp := true, tel := true }
  | .dumpStart =>
    { regs := true, flash := true, buf := true, eng := true, dig := true, srch := true, cores := true, scan := true, otp := true }
  | .domainOff .. =>
    { regs := true, shVal := true, shMask := true, pairHi := true, cfg := true, buf := true, eng := true, dig := true, srch := true,
      cores := true, scan := true }
  | .domainOn .. =>
    { regs := true, shVal := true, shMask := true, pairHi := true, cfg := true, buf := true, eng := true, dig := true, srch := true,
      cores := true, scan := true, pwr := true }
  | .aonClkLoss | .aonClkReturn => { regs := true, pwr := true }
  | .aonPor =>
    { regs := true, shVal := true, shMask := true, pairHi := true, resp := true, cfg := true, host := true, cmd := true, cad := true,
      insts := true, flash := true, buf := true, eng := true, dig := true, srch := true, cores := true, ctlStores := true,
      scan := true, dram := true, srd := true, knot := true, therm := true, pwr := true, otp := true, tel := true, jtag := true }
  | .fuseLoad => { regs := true, dig := true, srd := true, otp := true }
  | .startWatchdogExpiry =>
    { regs := true, shVal := true, shMask := true, cfg := true, cores := true, dram := true, otp := true, tel := true }
  | .scrapErase => { regs := true, flash := true, otp := true }
  | .snap => { regs := true, tel := true }
  | .backgroundWindow .. => { regs := true, flash := true, dram := true, tel := true }
  | .tapReset | .tapInstruction .. => { jtag := true }
  | .regacc .. =>
    { regs := true, shVal := true, shMask := true, pairHi := true, resp := true, cfg := true, host := true, cmd := true, cad := true,
      insts := true, flash := true, buf := true, eng := true, dig := true, srch := true, cores := true, scan := true, dram := true,
      srd := true, knot := true, pwr := true, otp := true, tel := true, jtag := true }
  | .vddAonLoss =>
    { regs := true, cfg := true, host := true, cmd := true, cad := true, insts := true, flash := true, buf := true, eng := true,
      dig := true, srch := true, cores := true, ctlStores := true, scan := true, dram := true, srd := true, knot := true,
      therm := true, pwr := true, otp := true, tel := true, jtag := true }

end Sys2Proof.Claims

/-- A step runs the command at the front of the queue with the queue's rest; on an empty queue the block idles (the model's choice, log entry 2). -/
def Obligations.StepRunsFront : Prop :=
  (∀ (s : State) (c : Instr) (rest : List Instr), s.pending = c :: rest → step s = exec c { s with pending := rest }) ∧
    ∀ (s : State), s.pending = [] → step s = .next s

/-- R32, R79, R130, R337: after reset the queue is empty, every register holds its table's reset value (some that are not 0 are named), the
stored memories have their canonical form, and every control core stands at the first word of the boot ROM, not yet running. -/
def Obligations.ResetState : Prop :=
  State.reset.pending = [] ∧ Memory.wf State.reset = true ∧ (∀ page off, State.reset.reg page off = regReset (rkey page off)) ∧
    State.reset.fld 0x001 0x044 15 8 = 0xFF ∧ State.reset.fld 0x001 0x048 13 0 = 100 ∧ State.reset.fld 0x010 0x040 7 0 = 8 ∧
    (∀ n, n < 24 → State.reset.core (256 + n) = ctlReset ∧ (State.reset.core (256 + n)).running = false) ∧
    ∀ n, n < 16 → State.reset.fld (0x030 + n) 0x044 15 0 = 0x2DD2 ∧ State.reset.fld (0x030 + n) 0x048 15 0 = 200 ∧
      State.reset.fld (0x030 + n) 0x050 13 0 = 8192

/-- An invariant of every step: what the block stores by address keeps its canonical form, whatever command stands in front; the form
and what an unlisted address reads as are the model's choice (log entry 13). -/
def Obligations.StepKeepsMemoryForm : Prop :=
  ∀ (s t : State), Memory.wf s = true → step s = .next t → Memory.wf t = true

/-- R126, R483: every command of the table completes in every state and changes no part of the state but those its row may change (the frame of
each row): none touches the queue,
none moves time backwards, no fuse slot that is programmed changes, memory keeps its form. That a row whose event cannot happen
completes too, and changes nothing, is the model's choice (log entry 1). -/
def Obligations.EveryCommandCompletes : Prop := ∀ (i : Instr) (s : State), EndsIn i s fun t => Keeps (parts i) s t

/-- The queue drains: as many steps as commands stand in it run them all and leave it empty; that nothing else joins it is the model's
choice (log entry 2). -/
def Obligations.QueueDrains : Prop :=
  ∀ (s : State), ∃ t, runFor s.pending.length s = some t ∧ t.pending = [] ∧ s.now ≤ t.now

/-- R393, R399, R403, R408: whatever command the device takes, the SRD's monotonic counter never goes back, and no command but those of the SRD itself
changes its chains, locks, keys, seal-break count or identity: no reset, power loss, register write or host command does. -/
def Obligations.SealedStoreStands : Prop :=
  ∀ (i : Instr) (s t : State), exec i s = .next t → s.srd.counter ≤ t.srd.counter ∧
    (storeRow i = false → t.srd.counter = s.srd.counter ∧ t.srd.chains = s.srd.chains ∧ t.srd.locks = s.srd.locks ∧
      t.srd.sealKeys = s.srd.sealKeys ∧ t.srd.signKey = s.srd.signKey ∧ t.srd.sealBreak = s.srd.sealBreak ∧ t.srd.srdId = s.srd.srdId)
end

