-- ==== Sys2Proof/Laws/Maps.lean ====
section
/-! SUPPORT. Sparse stores: what reading after writing gives, and that writing keeps the canonical form. -/

namespace Sys2Proof

variable {α : Type}

@[simp] theorem SMap.find_nil (k : Nat) : SMap.find ([] : SMap α) k = none := rfl

@[simp] theorem SMap.getD_nil (d : α) (k : Nat) : SMap.getD d ([] : SMap α) k = d := rfl

theorem SMap.find_cons (e : Nat × α) (m : SMap α) (k : Nat) :
    SMap.find (e :: m) k = if e.1 = k then some e.2 else SMap.find m k := rfl

theorem SMap.find_put (m : SMap α) (k j : Nat) (v : α) :
    SMap.find (SMap.put m k v) j = if j = k then some v else SMap.find m j := by
  induction m with
  | nil => simp only [SMap.put, SMap.find_cons, SMap.find_nil, eq_comm]
  | cons e m ih =>
    simp only [SMap.put]
    split
    · simp only [SMap.find_cons, eq_comm]
    · split
      · next h => subst h; simp only [SMap.find_cons, eq_comm]; split <;> rfl
      · simp only [SMap.find_cons, ih]; split <;> split <;> first | rfl | omega

theorem SMap.find_dropIf (p : Nat → Bool) (m : SMap α) (j : Nat) :
    SMap.find (SMap.dropIf p m) j = if p j then none else SMap.find m j := by
  induction m with
  | nil => simp [SMap.dropIf]
  | cons e m ih =>
    simp only [SMap.dropIf, List.filter_cons] at *
    split <;> simp only [SMap.find_cons, ih] <;> grind

theorem SMap.find_del (m : SMap α) (k j : Nat) :
    SMap.find (SMap.del m k) j = if j = k then none else SMap.find m j := by
  have h := SMap.find_dropIf (fun i => decide (i = k)) m j
  simpa [SMap.dropIf, SMap.del] using h

theorem SMap.find_modify (m : SMap α) (k j : Nat) (f : α → α) :
    SMap.find (SMap.modify m k f) j = if j = k then (SMap.find m j).map f else SMap.find m j := by
  induction m with
  | nil => simp [SMap.modify]
  | cons e m ih =>
    simp only [SMap.modify, List.map_cons] at *
    simp only [SMap.find_cons, ih]
    split <;> split <;> simp_all

theorem SMap.getD_setD [DecidableEq α] (d : α) (m : SMap α) (k j : Nat) (v : α) :
    SMap.getD d (SMap.setD d m k v) j = if j = k then v else SMap.getD d m j := by
  unfold SMap.getD SMap.setD
  split
  · next h => rw [SMap.find_del]; split <;> simp [h]
  · rw [SMap.find_put]; split <;> rfl

/-- Reading a store whose defaults differ from key to key. -/
theorem SMap.getD_setD_at [DecidableEq α] (d : Nat → α) (m : SMap α) (k j : Nat) (v : α) :
    SMap.getD (d j) (SMap.setD (d k) m k v) j = if j = k then v else SMap.getD (d j) m j := by
  unfold SMap.getD SMap.setD
  split
  · next h => rw [SMap.find_del]; split <;> simp_all
  · rw [SMap.find_put]; split <;> rfl

/-- A key of the store after a write was there before or is the key written. -/
theorem SMap.mem_put (m : SMap α) (k : Nat) (v : α) (e : Nat × α) (h : e ∈ SMap.put m k v) : e = (k, v) ∨ e ∈ m := by
  induction m with
  | nil => simpa [SMap.put] using h
  | cons x m ih =>
    simp only [SMap.put] at h
    split at h
    · simpa using h
    · split at h <;> simp only [List.mem_cons] at h ⊢ <;> grind

theorem SMap.pairwise_put (m : SMap α) (k : Nat) (v : α) (h : m.Pairwise fun a b => a.1 < b.1) :
    (SMap.put m k v).Pairwise fun a b => a.1 < b.1 := by
  induction m with
  | nil => simp [SMap.put]
  | cons x m ih =>
    simp only [List.pairwise_cons] at h
    simp only [SMap.put]
    split
    · refine List.pairwise_cons.2 ⟨fun e he => ?_, List.pairwise_cons.2 h⟩
      rcases List.mem_cons.1 he with rfl | he
      · assumption
      · have := h.1 e he; simp_all; omega
    · split
      · exact List.pairwise_cons.2 ⟨fun e he => by have := h.1 e he; simp_all, h.2⟩
      · refine List.pairwise_cons.2 ⟨fun e he => ?_, ih h.2⟩
        rcases SMap.mem_put m k v e he with rfl | he
        · simp; omega
        · exact h.1 e he

theorem SMap.wf_iff [DecidableEq α] (d : Nat → α) (m : SMap α) :
    SMap.wf d m = true ↔ (m.Pairwise fun a b => a.1 < b.1) ∧ ∀ e ∈ m, e.2 ≠ d e.1 := by
  simp [SMap.wf]

@[simp] theorem SMap.wf_nil [DecidableEq α] (d : Nat → α) : SMap.wf d ([] : SMap α) = true := rfl

/-- Unlisting keys keeps the canonical form. -/
theorem SMap.wf_filter [DecidableEq α] (d : Nat → α) (m : SMap α) (p : Nat × α → Bool) (h : SMap.wf d m = true) :
    SMap.wf d (m.filter p) = true := by
  rw [SMap.wf_iff] at h ⊢
  exact ⟨h.1.filter _, fun e he => h.2 e (List.mem_filter.1 he).1⟩

/-- A write keeps the canonical form: writing what the key holds unlisted takes it off the list. -/
theorem SMap.wf_setD [DecidableEq α] (d : Nat → α) (m : SMap α) (k : Nat) (v : α) (h : SMap.wf d m = true) :
    SMap.wf d (SMap.setD (d k) m k v) = true := by
  unfold SMap.setD
  split
  · exact SMap.wf_filter d m _ h
  · next hv =>
    rw [SMap.wf_iff] at h ⊢
    refine ⟨SMap.pairwise_put m k v h.1, fun e he => ?_⟩
    rcases SMap.mem_put m k v e he with rfl | he
    · exact hv
    · exact h.2 e he

end Sys2Proof
end

