-- ==== Sys2Proof/Laws/Touch.lean ====
section
/-! SUPPORT. Composing footprints: sequences, choices, loops, and one lemma per set of parts that some record update of
the model writes. -/

namespace Sys2Proof.Machine

theorem Touch.refl {f : Foot} {s : State} : Touch f s s where
  pending := rfl
  regs := fun _ => rfl
  shVal := fun _ => rfl
  shMask := fun _ => rfl
  pairHi := fun _ => rfl
  resp := fun _ => rfl
  cfg := fun _ => rfl
  host := fun _ => rfl
  cmd := fun _ => rfl
  cad := fun _ => rfl
  insts := fun _ => rfl
  flash := fun _ => rfl
  buf := fun _ => rfl
  eng := fun _ => rfl
  dig := fun _ => rfl
  srch := fun _ => rfl
  cores := fun _ => rfl
  ctlStores := fun _ => rfl
  scan := fun _ => rfl
  dram := fun _ => rfl
  srd := fun _ => rfl
  knot := fun _ => rfl
  therm := fun _ => rfl
  pwr := fun _ => rfl
  otp := fun _ => rfl
  tel := fun _ => rfl
  jtag := fun _ => rfl
  freeCtr := fun _ => rfl
  now := Nat.le_refl _
  fuses := fun _ _ => rfl
  mem := id

theorem Foot.le_regs {a b : Foot} (h : a.le b = true) (e : b.regs = false) : a.regs = false := by
  simp only [Foot.le, Bool.and_eq_true, Bool.or_eq_true, Bool.not_eq_true'] at h; grind

theorem Foot.le_shVal {a b : Foot} (h : a.le b = true) (e : b.shVal = false) : a.shVal = false := by
  simp only [Foot.le, Bool.and_eq_true, Bool.or_eq_true, Bool.not_eq_true'] at h; grind

theorem Foot.le_shMask {a b : Foot} (h : a.le b = true) (e : b.shMask = false) : a.shMask = false := by
  simp only [Foot.le, Bool.and_eq_true, Bool.or_eq_true, Bool.not_eq_true'] at h; grind

theorem Foot.le_pairHi {a b : Foot} (h : a.le b = true) (e : b.pairHi = false) : a.pairHi = false := by
  simp only [Foot.le, Bool.and_eq_true, Bool.or_eq_true, Bool.not_eq_true'] at h; grind

theorem Foot.le_resp {a b : Foot} (h : a.le b = true) (e : b.resp = false) : a.resp = false := by
  simp only [Foot.le, Bool.and_eq_true, Bool.or_eq_true, Bool.not_eq_true'] at h; grind

theorem Foot.le_cfg {a b : Foot} (h : a.le b = true) (e : b.cfg = false) : a.cfg = false := by
  simp only [Foot.le, Bool.and_eq_true, Bool.or_eq_true, Bool.not_eq_true'] at h; grind

theorem Foot.le_host {a b : Foot} (h : a.le b = true) (e : b.host = false) : a.host = false := by
  simp only [Foot.le, Bool.and_eq_true, Bool.or_eq_true, Bool.not_eq_true'] at h; grind

theorem Foot.le_cmd {a b : Foot} (h : a.le b = true) (e : b.cmd = false) : a.cmd = false := by
  simp only [Foot.le, Bool.and_eq_true, Bool.or_eq_true, Bool.not_eq_true'] at h; grind

theorem Foot.le_cad {a b : Foot} (h : a.le b = true) (e : b.cad = false) : a.cad = false := by
  simp only [Foot.le, Bool.and_eq_true, Bool.or_eq_true, Bool.not_eq_true'] at h; grind

theorem Foot.le_insts {a b : Foot} (h : a.le b = true) (e : b.insts = false) : a.insts = false := by
  simp only [Foot.le, Bool.and_eq_true, Bool.or_eq_true, Bool.not_eq_true'] at h; grind

theorem Foot.le_flash {a b : Foot} (h : a.le b = true) (e : b.flash = false) : a.flash = false := by
  simp only [Foot.le, Bool.and_eq_true, Bool.or_eq_true, Bool.not_eq_true'] at h; grind

theorem Foot.le_buf {a b : Foot} (h : a.le b = true) (e : b.buf = false) : a.buf = false := by
  simp only [Foot.le, Bool.and_eq_true, Bool.or_eq_true, Bool.not_eq_true'] at h; grind

theorem Foot.le_eng {a b : Foot} (h : a.le b = true) (e : b.eng = false) : a.eng = false := by
  simp only [Foot.le, Bool.and_eq_true, Bool.or_eq_true, Bool.not_eq_true'] at h; grind

theorem Foot.le_dig {a b : Foot} (h : a.le b = true) (e : b.dig = false) : a.dig = false := by
  simp only [Foot.le, Bool.and_eq_true, Bool.or_eq_true, Bool.not_eq_true'] at h; grind

theorem Foot.le_srch {a b : Foot} (h : a.le b = true) (e : b.srch = false) : a.srch = false := by
  simp only [Foot.le, Bool.and_eq_true, Bool.or_eq_true, Bool.not_eq_true'] at h; grind

theorem Foot.le_cores {a b : Foot} (h : a.le b = true) (e : b.cores = false) : a.cores = false := by
  simp only [Foot.le, Bool.and_eq_true, Bool.or_eq_true, Bool.not_eq_true'] at h; grind

theorem Foot.le_ctlStores {a b : Foot} (h : a.le b = true) (e : b.ctlStores = false) : a.ctlStores = false := by
  simp only [Foot.le, Bool.and_eq_true, Bool.or_eq_true, Bool.not_eq_true'] at h; grind

theorem Foot.le_scan {a b : Foot} (h : a.le b = true) (e : b.scan = false) : a.scan = false := by
  simp only [Foot.le, Bool.and_eq_true, Bool.or_eq_true, Bool.not_eq_true'] at h; grind

theorem Foot.le_dram {a b : Foot} (h : a.le b = true) (e : b.dram = false) : a.dram = false := by
  simp only [Foot.le, Bool.and_eq_true, Bool.or_eq_true, Bool.not_eq_true'] at h; grind

theorem Foot.le_srd {a b : Foot} (h : a.le b = true) (e : b.srd = false) : a.srd = false := by
  simp only [Foot.le, Bool.and_eq_true, Bool.or_eq_true, Bool.not_eq_true'] at h; grind

theorem Foot.le_knot {a b : Foot} (h : a.le b = true) (e : b.knot = false) : a.knot = false := by
  simp only [Foot.le, Bool.and_eq_true, Bool.or_eq_true, Bool.not_eq_true'] at h; grind

theorem Foot.le_therm {a b : Foot} (h : a.le b = true) (e : b.therm = false) : a.therm = false := by
  simp only [Foot.le, Bool.and_eq_true, Bool.or_eq_true, Bool.not_eq_true'] at h; grind

theorem Foot.le_pwr {a b : Foot} (h : a.le b = true) (e : b.pwr = false) : a.pwr = false := by
  simp only [Foot.le, Bool.and_eq_true, Bool.or_eq_true, Bool.not_eq_true'] at h; grind

theorem Foot.le_otp {a b : Foot} (h : a.le b = true) (e : b.otp = false) : a.otp = false := by
  simp only [Foot.le, Bool.and_eq_true, Bool.or_eq_true, Bool.not_eq_true'] at h; grind

theorem Foot.le_tel {a b : Foot} (h : a.le b = true) (e : b.tel = false) : a.tel = false := by
  simp only [Foot.le, Bool.and_eq_true, Bool.or_eq_true, Bool.not_eq_true'] at h; grind

theorem Foot.le_jtag {a b : Foot} (h : a.le b = true) (e : b.jtag = false) : a.jtag = false := by
  simp only [Foot.le, Bool.and_eq_true, Bool.or_eq_true, Bool.not_eq_true'] at h; grind

theorem Foot.le_freeCtr {a b : Foot} (h : a.le b = true) (e : b.freeCtr = false) : a.freeCtr = false := by
  simp only [Foot.le, Bool.and_eq_true, Bool.or_eq_true, Bool.not_eq_true'] at h; grind

theorem Foot.imp {a c : Bool} (h : c = false → a = false) : (!a || c) = true := by
  cases a <;> cases c <;> simp_all

theorem Foot.le_trans {a b c : Foot} (h : a.le b = true) (k : b.le c = true) : a.le c = true := by
  simp only [Foot.le, Bool.and_eq_true]
  exact ⟨⟨⟨⟨⟨⟨⟨⟨⟨⟨⟨⟨⟨⟨⟨⟨⟨⟨⟨⟨⟨⟨⟨⟨⟨⟨Foot.imp fun e => Foot.le_regs h (Foot.le_regs k e),
    Foot.imp fun e => Foot.le_shVal h (Foot.le_shVal k e)⟩,
    Foot.imp fun e => Foot.le_shMask h (Foot.le_shMask k e)⟩,
    Foot.imp fun e => Foot.le_pairHi h (Foot.le_pairHi k e)⟩,
    Foot.imp fun e => Foot.le_resp h (Foot.le_resp k e)⟩,
    Foot.imp fun e => Foot.le_cfg h (Foot.le_cfg k e)⟩,
    Foot.imp fun e => Foot.le_host h (Foot.le_host k e)⟩,
    Foot.imp fun e => Foot.le_cmd h (Foot.le_cmd k e)⟩,
    Foot.imp fun e => Foot.le_cad h (Foot.le_cad k e)⟩,
    Foot.imp fun e => Foot.le_insts h (Foot.le_insts k e)⟩,
    Foot.imp fun e => Foot.le_flash h (Foot.le_flash k e)⟩,
    Foot.imp fun e => Foot.le_buf h (Foot.le_buf k e)⟩,
    Foot.imp fun e => Foot.le_eng h (Foot.le_eng k e)⟩,
    Foot.imp fun e => Foot.le_dig h (Foot.le_dig k e)⟩,
    Foot.imp fun e => Foot.le_srch h (Foot.le_srch k e)⟩,
    Foot.imp fun e => Foot.le_cores h (Foot.le_cores k e)⟩,
    Foot.imp fun e => Foot.le_ctlStores h (Foot.le_ctlStores k e)⟩,
    Foot.imp fun e => Foot.le_scan h (Foot.le_scan k e)⟩,
    Foot.imp fun e => Foot.le_dram h (Foot.le_dram k e)⟩,
    Foot.imp fun e => Foot.le_srd h (Foot.le_srd k e)⟩,
    Foot.imp fun e => Foot.le_knot h (Foot.le_knot k e)⟩,
    Foot.imp fun e => Foot.le_therm h (Foot.le_therm k e)⟩,
    Foot.imp fun e => Foot.le_pwr h (Foot.le_pwr k e)⟩,
    Foot.imp fun e => Foot.le_otp h (Foot.le_otp k e)⟩,
    Foot.imp fun e => Foot.le_tel h (Foot.le_tel k e)⟩,
    Foot.imp fun e => Foot.le_jtag h (Foot.le_jtag k e)⟩,
    Foot.imp fun e => Foot.le_freeCtr h (Foot.le_freeCtr k e)⟩

/-- An operation after another: its footprint must lie in the footprint of the whole. -/
theorem Touch.on {f k : Foot} {r s t : State} (g : Touch k s t) (e : k.le f = true) (h : Touch f r s) : Touch f r t where
  pending := g.pending.trans h.pending
  regs := fun z => (g.regs (Foot.le_regs e z)).trans (h.regs z)
  shVal := fun z => (g.shVal (Foot.le_shVal e z)).trans (h.shVal z)
  shMask := fun z => (g.shMask (Foot.le_shMask e z)).trans (h.shMask z)
  pairHi := fun z => (g.pairHi (Foot.le_pairHi e z)).trans (h.pairHi z)
  resp := fun z => (g.resp (Foot.le_resp e z)).trans (h.resp z)
  cfg := fun z => (g.cfg (Foot.le_cfg e z)).trans (h.cfg z)
  host := fun z => (g.host (Foot.le_host e z)).trans (h.host z)
  cmd := fun z => (g.cmd (Foot.le_cmd e z)).trans (h.cmd z)
  cad := fun z => (g.cad (Foot.le_cad e z)).trans (h.cad z)
  insts := fun z => (g.insts (Foot.le_insts e z)).trans (h.insts z)
  flash := fun z => (g.flash (Foot.le_flash e z)).trans (h.flash z)
  buf := fun z => (g.buf (Foot.le_buf e z)).trans (h.buf z)
  eng := fun z => (g.eng (Foot.le_eng e z)).trans (h.eng z)
  dig := fun z => (g.dig (Foot.le_dig e z)).trans (h.dig z)
  srch := fun z => (g.srch (Foot.le_srch e z)).trans (h.srch z)
  cores := fun z => (g.cores (Foot.le_cores e z)).trans (h.cores z)
  ctlStores := fun z => (g.ctlStores (Foot.le_ctlStores e z)).trans (h.ctlStores z)
  scan := fun z => (g.scan (Foot.le_scan e z)).trans (h.scan z)
  dram := fun z => (g.dram (Foot.le_dram e z)).trans (h.dram z)
  srd := fun z => (g.srd (Foot.le_srd e z)).trans (h.srd z)
  knot := fun z => (g.knot (Foot.le_knot e z)).trans (h.knot z)
  therm := fun z => (g.therm (Foot.le_therm e z)).trans (h.therm z)
  pwr := fun z => (g.pwr (Foot.le_pwr e z)).trans (h.pwr z)
  otp := fun z => (g.otp (Foot.le_otp e z)).trans (h.otp z)
  tel := fun z => (g.tel (Foot.le_tel e z)).trans (h.tel z)
  jtag := fun z => (g.jtag (Foot.le_jtag e z)).trans (h.jtag z)
  freeCtr := fun z => (g.freeCtr (Foot.le_freeCtr e z)).trans (h.freeCtr z)
  now := Nat.le_trans h.now g.now
  fuses := fun k hk => (g.fuses k (by rw [h.fuses k hk]; exact hk)).trans (h.fuses k hk)
  mem := fun w => g.mem (h.mem w)

theorem Touch.step {f : Foot} {r x t : State} (h : Touch f r x) (k : Touch f r x → Touch f r t) : Touch f r t := k h

theorem Touch.ite {f : Foot} {r s t : State} {c : Prop} {_ : Decidable c} (a : Touch f r s) (b : Touch f r t) :
    Touch f r (if c then s else t) := by
  split <;> assumption

theorem Touch.foldl {f : Foot} {r s : State} {β : Type} {l : List β} {F : State → β → State}
    (hb : ∀ x a, Touch f r x → Touch f r (F x a)) (h : Touch f r s) : Touch f r (l.foldl F s) := by
  induction l generalizing s with
  | nil => exact h
  | cons a l ih => exact ih (hb s a h)

theorem Touch.foldlP {f : Foot} {r : State} {β γ : Type} {l : List β} {F : State × γ → β → State × γ} {i : State × γ}
    (hb : ∀ x a, Touch f r x.1 → Touch f r (F x a).1) (h : Touch f r i.1) : Touch f r (l.foldl F i).1 := by
  induction l generalizing i with
  | nil => exact h
  | cons a l ih => exact ih (hb i a h)

theorem Touch.fst {f : Foot} {r a : State} {β : Type} {b : β} {p : State × β} (e : p = (a, b)) (h : Touch f r p.1) :
    Touch f r a := by
  subst e; exact h

theorem Touch.snd {f : Foot} {r b : State} {β : Type} {a : β} {p : β × State} (e : p = (a, b)) (h : Touch f r p.2) :
    Touch f r b := by
  subst e; exact h

theorem Touch.getD {f : Foot} {r d : State} {o : Option State} (ho : ∀ t, o = some t → Touch f r t) (h : Touch f r d) :
    Touch f r (o.getD d) := by
  cases o with
  | none => exact h
  | some t => exact ho t rfl

theorem Foot.no {b : Bool} {p : Prop} (h : b = true) (e : b = false) : p := by
  subst h; cases e

theorem Touch.upd_cmd_knot {f : Foot} {r s : State} {cmd' : _} {knot' : _} (h : Touch f r s) (ecmd : f.cmd = true) (eknot : f.knot = true) :
    Touch f r { s with cmd := cmd', knot := knot' } where
  pending := h.pending
  regs := h.regs
  shVal := h.shVal
  shMask := h.shMask
  pairHi := h.pairHi
  resp := h.resp
  cfg := h.cfg
  host := h.host
  cmd := fun z => Foot.no ecmd z
  cad := h.cad
  insts := h.insts
  flash := h.flash
  buf := h.buf
  eng := h.eng
  dig := h.dig
  srch := h.srch
  cores := h.cores
  ctlStores := h.ctlStores
  scan := h.scan
  dram := h.dram
  srd := h.srd
  knot := fun z => Foot.no eknot z
  therm := h.therm
  pwr := h.pwr
  otp := h.otp
  tel := h.tel
  jtag := h.jtag
  freeCtr := h.freeCtr
  now := h.now
  fuses := h.fuses
  mem := h.mem

theorem Touch.upd_resp {f : Foot} {r s : State} {resp' : _} (h : Touch f r s) (eresp : f.resp = true) :
    Touch f r { s with resp := resp' } where
  pending := h.pending
  regs := h.regs
  shVal := h.shVal
  shMask := h.shMask
  pairHi := h.pairHi
  resp := fun z => Foot.no eresp z
  cfg := h.cfg
  host := h.host
  cmd := h.cmd
  cad := h.cad
  insts := h.insts
  flash := h.flash
  buf := h.buf
  eng := h.eng
  dig := h.dig
  srch := h.srch
  cores := h.cores
  ctlStores := h.ctlStores
  scan := h.scan
  dram := h.dram
  srd := h.srd
  knot := h.knot
  therm := h.therm
  pwr := h.pwr
  otp := h.otp
  tel := h.tel
  jtag := h.jtag
  freeCtr := h.freeCtr
  now := h.now
  fuses := h.fuses
  mem := h.mem

theorem Touch.upd_pairHi {f : Foot} {r s : State} {pairHi' : _} (h : Touch f r s) (epairHi : f.pairHi = true) :
    Touch f r { s with pairHi := pairHi' } where
  pending := h.pending
  regs := h.regs
  shVal := h.shVal
  shMask := h.shMask
  pairHi := fun z => Foot.no epairHi z
  resp := h.resp
  cfg := h.cfg
  host := h.host
  cmd := h.cmd
  cad := h.cad
  insts := h.insts
  flash := h.flash
  buf := h.buf
  eng := h.eng
  dig := h.dig
  srch := h.srch
  cores := h.cores
  ctlStores := h.ctlStores
  scan := h.scan
  dram := h.dram
  srd := h.srd
  knot := h.knot
  therm := h.therm
  pwr := h.pwr
  otp := h.otp
  tel := h.tel
  jtag := h.jtag
  freeCtr := h.freeCtr
  now := h.now
  fuses := h.fuses
  mem := h.mem

theorem Touch.upd_jtag {f : Foot} {r s : State} {jtag' : _} (h : Touch f r s) (ejtag : f.jtag = true) :
    Touch f r { s with jtag := jtag' } where
  pending := h.pending
  regs := h.regs
  shVal := h.shVal
  shMask := h.shMask
  pairHi := h.pairHi
  resp := h.resp
  cfg := h.cfg
  host := h.host
  cmd := h.cmd
  cad := h.cad
  insts := h.insts
  flash := h.flash
  buf := h.buf
  eng := h.eng
  dig := h.dig
  srch := h.srch
  cores := h.cores
  ctlStores := h.ctlStores
  scan := h.scan
  dram := h.dram
  srd := h.srd
  knot := h.knot
  therm := h.therm
  pwr := h.pwr
  otp := h.otp
  tel := h.tel
  jtag := fun z => Foot.no ejtag z
  freeCtr := h.freeCtr
  now := h.now
  fuses := h.fuses
  mem := h.mem

theorem Touch.upd_flash_tel {f : Foot} {r s : State} {flash' : _} {tel' : _} (h : Touch f r s) (eflash : f.flash = true) (etel : f.tel = true) :
    Touch f r { s with flash := flash', tel := tel' } where
  pending := h.pending
  regs := h.regs
  shVal := h.shVal
  shMask := h.shMask
  pairHi := h.pairHi
  resp := h.resp
  cfg := h.cfg
  host := h.host
  cmd := h.cmd
  cad := h.cad
  insts := h.insts
  flash := fun z => Foot.no eflash z
  buf := h.buf
  eng := h.eng
  dig := h.dig
  srch := h.srch
  cores := h.cores
  ctlStores := h.ctlStores
  scan := h.scan
  dram := h.dram
  srd := h.srd
  knot := h.knot
  therm := h.therm
  pwr := h.pwr
  otp := h.otp
  tel := fun z => Foot.no etel z
  jtag := h.jtag
  freeCtr := h.freeCtr
  now := h.now
  fuses := h.fuses
  mem := h.mem

theorem Touch.upd_cmd_otp {f : Foot} {r s : State} {cmd' : _} {otp' : _} (h : Touch f r s) (ecmd : f.cmd = true) (eotp : f.otp = true) (w1 : otp'.fuses = s.otp.fuses) :
    Touch f r { s with cmd := cmd', otp := otp' } where
  pending := h.pending
  regs := h.regs
  shVal := h.shVal
  shMask := h.shMask
  pairHi := h.pairHi
  resp := h.resp
  cfg := h.cfg
  host := h.host
  cmd := fun z => Foot.no ecmd z
  cad := h.cad
  insts := h.insts
  flash := h.flash
  buf := h.buf
  eng := h.eng
  dig := h.dig
  srch := h.srch
  cores := h.cores
  ctlStores := h.ctlStores
  scan := h.scan
  dram := h.dram
  srd := h.srd
  knot := h.knot
  therm := h.therm
  pwr := h.pwr
  otp := fun z => Foot.no eotp z
  tel := h.tel
  jtag := h.jtag
  freeCtr := h.freeCtr
  now := h.now
  fuses := fun k hk => by simp only [w1]; exact h.fuses k hk
  mem := h.mem

theorem Touch.upd_srd_therm_pwr_jtag {f : Foot} {r s : State} {srd' : _} {therm' : _} {pwr' : _} {jtag' : _} (h : Touch f r s) (esrd : f.srd = true) (etherm : f.therm = true) (epwr : f.pwr = true) (ejtag : f.jtag = true) :
    Touch f r { s with srd := srd', therm := therm', pwr := pwr', jtag := jtag' } where
  pending := h.pending
  regs := h.regs
  shVal := h.shVal
  shMask := h.shMask
  pairHi := h.pairHi
  resp := h.resp
  cfg := h.cfg
  host := h.host
  cmd := h.cmd
  cad := h.cad
  insts := h.insts
  flash := h.flash
  buf := h.buf
  eng := h.eng
  dig := h.dig
  srch := h.srch
  cores := h.cores
  ctlStores := h.ctlStores
  scan := h.scan
  dram := h.dram
  srd := fun z => Foot.no esrd z
  knot := h.knot
  therm := fun z => Foot.no etherm z
  pwr := fun z => Foot.no epwr z
  otp := h.otp
  tel := h.tel
  jtag := fun z => Foot.no ejtag z
  freeCtr := h.freeCtr
  now := h.now
  fuses := h.fuses
  mem := h.mem

theorem Touch.wipe_regs_shVal_shMask_pairHi_resp_cfg_therm_pwr_tel_jtag {f : Foot} {r s : State} {regs' : _} {shVal' : _} {shMask' : _} {pairHi' : _} {resp' : _} {cfg' : _} {therm' : _} {pwr' : _} {tel' : _} {jtag' : _} (h : Touch f r s) (eregs : f.regs = true) (eshVal : f.shVal = true) (eshMask : f.shMask = true) (epairHi : f.pairHi = true) (eresp : f.resp = true) (ecfg : f.cfg = true) (etherm : f.therm = true) (epwr : f.pwr = true) (etel : f.tel = true) (ejtag : f.jtag = true) (hm : Memory.wf s = true → Memory.wf { s with regs := regs', shVal := shVal', shMask := shMask', pairHi := pairHi', resp := resp', cfg := cfg', therm := therm', pwr := pwr', tel := tel', jtag := jtag' } = true) :
    Touch f r { s with regs := regs', shVal := shVal', shMask := shMask', pairHi := pairHi', resp := resp', cfg := cfg', therm := therm', pwr := pwr', tel := tel', jtag := jtag' } where
  pending := h.pending
  regs := fun z => Foot.no eregs z
  shVal := fun z => Foot.no eshVal z
  shMask := fun z => Foot.no eshMask z
  pairHi := fun z => Foot.no epairHi z
  resp := fun z => Foot.no eresp z
  cfg := fun z => Foot.no ecfg z
  host := h.host
  cmd := h.cmd
  cad := h.cad
  insts := h.insts
  flash := h.flash
  buf := h.buf
  eng := h.eng
  dig := h.dig
  srch := h.srch
  cores := h.cores
  ctlStores := h.ctlStores
  scan := h.scan
  dram := h.dram
  srd := h.srd
  knot := h.knot
  therm := fun z => Foot.no etherm z
  pwr := fun z => Foot.no epwr z
  otp := h.otp
  tel := fun z => Foot.no etel z
  jtag := fun z => Foot.no ejtag z
  freeCtr := h.freeCtr
  now := h.now
  fuses := h.fuses
  mem := fun w => hm (h.mem w)

theorem Touch.upd_scan_dram_pwr_otp {f : Foot} {r s : State} {scan' : _} {dram' : _} {pwr' : _} {otp' : _} (h : Touch f r s) (escan : f.scan = true) (edram : f.dram = true) (epwr : f.pwr = true) (eotp : f.otp = true) (w1 : dram'.bytes = s.dram.bytes) (w2 : otp'.fuses = s.otp.fuses) :
    Touch f r { s with scan := scan', dram := dram', pwr := pwr', otp := otp' } where
  pending := h.pending
  regs := h.regs
  shVal := h.shVal
  shMask := h.shMask
  pairHi := h.pairHi
  resp := h.resp
  cfg := h.cfg
  host := h.host
  cmd := h.cmd
  cad := h.cad
  insts := h.insts
  flash := h.flash
  buf := h.buf
  eng := h.eng
  dig := h.dig
  srch := h.srch
  cores := h.cores
  ctlStores := h.ctlStores
  scan := fun z => Foot.no escan z
  dram := fun z => Foot.no edram z
  srd := h.srd
  knot := h.knot
  therm := h.therm
  pwr := fun z => Foot.no epwr z
  otp := fun z => Foot.no eotp z
  tel := h.tel
  jtag := h.jtag
  freeCtr := h.freeCtr
  now := h.now
  fuses := fun k hk => by simp only [w2]; exact h.fuses k hk
  mem := fun w => by simp only [Memory.wf, w1]; exact h.mem w

theorem Touch.wipe_scan_dram_pwr_otp {f : Foot} {r s : State} {scan' : _} {dram' : _} {pwr' : _} {otp' : _} (h : Touch f r s) (escan : f.scan = true) (edram : f.dram = true) (epwr : f.pwr = true) (eotp : f.otp = true) (w1 : otp'.fuses = s.otp.fuses) (hm : Memory.wf s = true → Memory.wf { s with scan := scan', dram := dram', pwr := pwr', otp := otp' } = true) :
    Touch f r { s with scan := scan', dram := dram', pwr := pwr', otp := otp' } where
  pending := h.pending
  regs := h.regs
  shVal := h.shVal
  shMask := h.shMask
  pairHi := h.pairHi
  resp := h.resp
  cfg := h.cfg
  host := h.host
  cmd := h.cmd
  cad := h.cad
  insts := h.insts
  flash := h.flash
  buf := h.buf
  eng := h.eng
  dig := h.dig
  srch := h.srch
  cores := h.cores
  ctlStores := h.ctlStores
  scan := fun z => Foot.no escan z
  dram := fun z => Foot.no edram z
  srd := h.srd
  knot := h.knot
  therm := h.therm
  pwr := fun z => Foot.no epwr z
  otp := fun z => Foot.no eotp z
  tel := h.tel
  jtag := h.jtag
  freeCtr := h.freeCtr
  now := h.now
  fuses := fun k hk => by simp only [w1]; exact h.fuses k hk
  mem := fun w => hm (h.mem w)

theorem Touch.upd_buf_pwr {f : Foot} {r s : State} {buf' : _} {pwr' : _} (h : Touch f r s) (ebuf : f.buf = true) (epwr : f.pwr = true) (w1 : buf'.sram = s.buf.sram) (w2 : buf'.laid = s.buf.laid) :
    Touch f r { s with buf := buf', pwr := pwr' } where
  pending := h.pending
  regs := h.regs
  shVal := h.shVal
  shMask := h.shMask
  pairHi := h.pairHi
  resp := h.resp
  cfg := h.cfg
  host := h.host
  cmd := h.cmd
  cad := h.cad
  insts := h.insts
  flash := h.flash
  buf := fun z => Foot.no ebuf z
  eng := h.eng
  dig := h.dig
  srch := h.srch
  cores := h.cores
  ctlStores := h.ctlStores
  scan := h.scan
  dram := h.dram
  srd := h.srd
  knot := h.knot
  therm := h.therm
  pwr := fun z => Foot.no epwr z
  otp := h.otp
  tel := h.tel
  jtag := h.jtag
  freeCtr := h.freeCtr
  now := h.now
  fuses := h.fuses
  mem := fun w => by simp only [Memory.wf, w1, w2]; exact h.mem w

theorem Touch.wipe_buf_pwr {f : Foot} {r s : State} {buf' : _} {pwr' : _} (h : Touch f r s) (ebuf : f.buf = true) (epwr : f.pwr = true) (hm : Memory.wf s = true → Memory.wf { s with buf := buf', pwr := pwr' } = true) :
    Touch f r { s with buf := buf', pwr := pwr' } where
  pending := h.pending
  regs := h.regs
  shVal := h.shVal
  shMask := h.shMask
  pairHi := h.pairHi
  resp := h.resp
  cfg := h.cfg
  host := h.host
  cmd := h.cmd
  cad := h.cad
  insts := h.insts
  flash := h.flash
  buf := fun z => Foot.no ebuf z
  eng := h.eng
  dig := h.dig
  srch := h.srch
  cores := h.cores
  ctlStores := h.ctlStores
  scan := h.scan
  dram := h.dram
  srd := h.srd
  knot := h.knot
  therm := h.therm
  pwr := fun z => Foot.no epwr z
  otp := h.otp
  tel := h.tel
  jtag := h.jtag
  freeCtr := h.freeCtr
  now := h.now
  fuses := h.fuses
  mem := fun w => hm (h.mem w)

theorem Touch.upd_pwr_otp {f : Foot} {r s : State} {pwr' : _} {otp' : _} (h : Touch f r s) (epwr : f.pwr = true) (eotp : f.otp = true) (w1 : otp'.fuses = s.otp.fuses) :
    Touch f r { s with pwr := pwr', otp := otp' } where
  pending := h.pending
  regs := h.regs
  shVal := h.shVal
  shMask := h.shMask
  pairHi := h.pairHi
  resp := h.resp
  cfg := h.cfg
  host := h.host
  cmd := h.cmd
  cad := h.cad
  insts := h.insts
  flash := h.flash
  buf := h.buf
  eng := h.eng
  dig := h.dig
  srch := h.srch
  cores := h.cores
  ctlStores := h.ctlStores
  scan := h.scan
  dram := h.dram
  srd := h.srd
  knot := h.knot
  therm := h.therm
  pwr := fun z => Foot.no epwr z
  otp := fun z => Foot.no eotp z
  tel := h.tel
  jtag := h.jtag
  freeCtr := h.freeCtr
  now := h.now
  fuses := fun k hk => by simp only [w1]; exact h.fuses k hk
  mem := h.mem

theorem Touch.upd_therm_pwr_otp_tel {f : Foot} {r s : State} {therm' : _} {pwr' : _} {otp' : _} {tel' : _} (h : Touch f r s) (etherm : f.therm = true) (epwr : f.pwr = true) (eotp : f.otp = true) (etel : f.tel = true) (w1 : otp'.fuses = s.otp.fuses) :
    Touch f r { s with therm := therm', pwr := pwr', otp := otp', tel := tel' } where
  pending := h.pending
  regs := h.regs
  shVal := h.shVal
  shMask := h.shMask
  pairHi := h.pairHi
  resp := h.resp
  cfg := h.cfg
  host := h.host
  cmd := h.cmd
  cad := h.cad
  insts := h.insts
  flash := h.flash
  buf := h.buf
  eng := h.eng
  dig := h.dig
  srch := h.srch
  cores := h.cores
  ctlStores := h.ctlStores
  scan := h.scan
  dram := h.dram
  srd := h.srd
  knot := h.knot
  therm := fun z => Foot.no etherm z
  pwr := fun z => Foot.no epwr z
  otp := fun z => Foot.no eotp z
  tel := fun z => Foot.no etel z
  jtag := h.jtag
  freeCtr := h.freeCtr
  now := h.now
  fuses := fun k hk => by simp only [w1]; exact h.fuses k hk
  mem := h.mem

theorem Touch.upd_cmd_pwr_otp {f : Foot} {r s : State} {cmd' : _} {pwr' : _} {otp' : _} (h : Touch f r s) (ecmd : f.cmd = true) (epwr : f.pwr = true) (eotp : f.otp = true) (w1 : otp'.fuses = s.otp.fuses) :
    Touch f r { s with cmd := cmd', pwr := pwr', otp := otp' } where
  pending := h.pending
  regs := h.regs
  shVal := h.shVal
  shMask := h.shMask
  pairHi := h.pairHi
  resp := h.resp
  cfg := h.cfg
  host := h.host
  cmd := fun z => Foot.no ecmd z
  cad := h.cad
  insts := h.insts
  flash := h.flash
  buf := h.buf
  eng := h.eng
  dig := h.dig
  srch := h.srch
  cores := h.cores
  ctlStores := h.ctlStores
  scan := h.scan
  dram := h.dram
  srd := h.srd
  knot := h.knot
  therm := h.therm
  pwr := fun z => Foot.no epwr z
  otp := fun z => Foot.no eotp z
  tel := h.tel
  jtag := h.jtag
  freeCtr := h.freeCtr
  now := h.now
  fuses := fun k hk => by simp only [w1]; exact h.fuses k hk
  mem := h.mem

theorem Touch.upd_cmd_pwr {f : Foot} {r s : State} {cmd' : _} {pwr' : _} (h : Touch f r s) (ecmd : f.cmd = true) (epwr : f.pwr = true) :
    Touch f r { s with cmd := cmd', pwr := pwr' } where
  pending := h.pending
  regs := h.regs
  shVal := h.shVal
  shMask := h.shMask
  pairHi := h.pairHi
  resp := h.resp
  cfg := h.cfg
  host := h.host
  cmd := fun z => Foot.no ecmd z
  cad := h.cad
  insts := h.insts
  flash := h.flash
  buf := h.buf
  eng := h.eng
  dig := h.dig
  srch := h.srch
  cores := h.cores
  ctlStores := h.ctlStores
  scan := h.scan
  dram := h.dram
  srd := h.srd
  knot := h.knot
  therm := h.therm
  pwr := fun z => Foot.no epwr z
  otp := h.otp
  tel := h.tel
  jtag := h.jtag
  freeCtr := h.freeCtr
  now := h.now
  fuses := h.fuses
  mem := h.mem

theorem Touch.upd_flash_dram_knot_otp {f : Foot} {r s : State} {flash' : _} {dram' : _} {knot' : _} {otp' : _} (h : Touch f r s) (eflash : f.flash = true) (edram : f.dram = true) (eknot : f.knot = true) (eotp : f.otp = true) (w1 : dram'.bytes = s.dram.bytes) (w2 : otp'.fuses = s.otp.fuses) :
    Touch f r { s with flash := flash', dram := dram', knot := knot', otp := otp' } where
  pending := h.pending
  regs := h.regs
  shVal := h.shVal
  shMask := h.shMask
  pairHi := h.pairHi
  resp := h.resp
  cfg := h.cfg
  host := h.host
  cmd := h.cmd
  cad := h.cad
  insts := h.insts
  flash := fun z => Foot.no eflash z
  buf := h.buf
  eng := h.eng
  dig := h.dig
  srch := h.srch
  cores := h.cores
  ctlStores := h.ctlStores
  scan := h.scan
  dram := fun z => Foot.no edram z
  srd := h.srd
  knot := fun z => Foot.no eknot z
  therm := h.therm
  pwr := h.pwr
  otp := fun z => Foot.no eotp z
  tel := h.tel
  jtag := h.jtag
  freeCtr := h.freeCtr
  now := h.now
  fuses := fun k hk => by simp only [w2]; exact h.fuses k hk
  mem := fun w => by simp only [Memory.wf, w1]; exact h.mem w

theorem Touch.wipe_flash_dram_knot_otp {f : Foot} {r s : State} {flash' : _} {dram' : _} {knot' : _} {otp' : _} (h : Touch f r s) (eflash : f.flash = true) (edram : f.dram = true) (eknot : f.knot = true) (eotp : f.otp = true) (w1 : otp'.fuses = s.otp.fuses) (hm : Memory.wf s = true → Memory.wf { s with flash := flash', dram := dram', knot := knot', otp := otp' } = true) :
    Touch f r { s with flash := flash', dram := dram', knot := knot', otp := otp' } where
  pending := h.pending
  regs := h.regs
  shVal := h.shVal
  shMask := h.shMask
  pairHi := h.pairHi
  resp := h.resp
  cfg := h.cfg
  host := h.host
  cmd := h.cmd
  cad := h.cad
  insts := h.insts
  flash := fun z => Foot.no eflash z
  buf := h.buf
  eng := h.eng
  dig := h.dig
  srch := h.srch
  cores := h.cores
  ctlStores := h.ctlStores
  scan := h.scan
  dram := fun z => Foot.no edram z
  srd := h.srd
  knot := fun z => Foot.no eknot z
  therm := h.therm
  pwr := h.pwr
  otp := fun z => Foot.no eotp z
  tel := h.tel
  jtag := h.jtag
  freeCtr := h.freeCtr
  now := h.now
  fuses := fun k hk => by simp only [w1]; exact h.fuses k hk
  mem := fun w => hm (h.mem w)

theorem Touch.upd_host_cmd_cad_insts_buf_eng_dig_srch_cores_ctlStores_scan_knot_tel {f : Foot} {r s : State} {host' : _} {cmd' : _} {cad' : _} {insts' : _} {buf' : _} {eng' : _} {dig' : _} {srch' : _} {cores' : _} {ctlStores' : _} {scan' : _} {knot' : _} {tel' : _} (h : Touch f r s) (ehost : f.host = true) (ecmd : f.cmd = true) (ecad : f.cad = true) (einsts : f.insts = true) (ebuf : f.buf = true) (eeng : f.eng = true) (edig : f.dig = true) (esrch : f.srch = true) (ecores : f.cores = true) (ectlStores : f.ctlStores = true) (escan : f.scan = true) (eknot : f.knot = true) (etel : f.tel = true) (w1 : cad'.nowUs = s.cad.nowUs) (w2 : buf'.sram = s.buf.sram) (w3 : buf'.laid = s.buf.laid) :
    Touch f r { s with host := host', cmd := cmd', cad := cad', insts := insts', buf := buf', eng := eng', dig := dig', srch := srch', cores := cores', ctlStores := ctlStores', scan := scan', knot := knot', tel := tel' } where
  pending := h.pending
  regs := h.regs
  shVal := h.shVal
  shMask := h.shMask
  pairHi := h.pairHi
  resp := h.resp
  cfg := h.cfg
  host := fun z => Foot.no ehost z
  cmd := fun z => Foot.no ecmd z
  cad := fun z => Foot.no ecad z
  insts := fun z => Foot.no einsts z
  flash := h.flash
  buf := fun z => Foot.no ebuf z
  eng := fun z => Foot.no eeng z
  dig := fun z => Foot.no edig z
  srch := fun z => Foot.no esrch z
  cores := fun z => Foot.no ecores z
  ctlStores := fun z => Foot.no ectlStores z
  scan := fun z => Foot.no escan z
  dram := h.dram
  srd := h.srd
  knot := fun z => Foot.no eknot z
  therm := h.therm
  pwr := h.pwr
  otp := h.otp
  tel := fun z => Foot.no etel z
  jtag := h.jtag
  freeCtr := h.freeCtr
  now := Nat.le_trans h.now (Nat.le_of_eq w1.symm)
  fuses := h.fuses
  mem := fun w => by simp only [Memory.wf, w2, w3]; exact h.mem w

theorem Touch.wipe_host_cmd_cad_insts_buf_eng_dig_srch_cores_ctlStores_scan_knot_tel {f : Foot} {r s : State} {host' : _} {cmd' : _} {cad' : _} {insts' : _} {buf' : _} {eng' : _} {dig' : _} {srch' : _} {cores' : _} {ctlStores' : _} {scan' : _} {knot' : _} {tel' : _} (h : Touch f r s) (ehost : f.host = true) (ecmd : f.cmd = true) (ecad : f.cad = true) (einsts : f.insts = true) (ebuf : f.buf = true) (eeng : f.eng = true) (edig : f.dig = true) (esrch : f.srch = true) (ecores : f.cores = true) (ectlStores : f.ctlStores = true) (escan : f.scan = true) (eknot : f.knot = true) (etel : f.tel = true) (w1 : cad'.nowUs = s.cad.nowUs) (hm : Memory.wf s = true → Memory.wf { s with host := host', cmd := cmd', cad := cad', insts := insts', buf := buf', eng := eng', dig := dig', srch := srch', cores := cores', ctlStores := ctlStores', scan := scan', knot := knot', tel := tel' } = true) :
    Touch f r { s with host := host', cmd := cmd', cad := cad', insts := insts', buf := buf', eng := eng', dig := dig', srch := srch', cores := cores', ctlStores := ctlStores', scan := scan', knot := knot', tel := tel' } where
  pending := h.pending
  regs := h.regs
  shVal := h.shVal
  shMask := h.shMask
  pairHi := h.pairHi
  resp := h.resp
  cfg := h.cfg
  host := fun z => Foot.no ehost z
  cmd := fun z => Foot.no ecmd z
  cad := fun z => Foot.no ecad z
  insts := fun z => Foot.no einsts z
  flash := h.flash
  buf := fun z => Foot.no ebuf z
  eng := fun z => Foot.no eeng z
  dig := fun z => Foot.no edig z
  srch := fun z => Foot.no esrch z
  cores := fun z => Foot.no ecores z
  ctlStores := fun z => Foot.no ectlStores z
  scan := fun z => Foot.no escan z
  dram := h.dram
  srd := h.srd
  knot := fun z => Foot.no eknot z
  therm := h.therm
  pwr := h.pwr
  otp := h.otp
  tel := fun z => Foot.no etel z
  jtag := h.jtag
  freeCtr := h.freeCtr
  now := Nat.le_trans h.now (Nat.le_of_eq w1.symm)
  fuses := h.fuses
  mem := fun w => hm (h.mem w)

theorem Touch.upd_pwr {f : Foot} {r s : State} {pwr' : _} (h : Touch f r s) (epwr : f.pwr = true) :
    Touch f r { s with pwr := pwr' } where
  pending := h.pending
  regs := h.regs
  shVal := h.shVal
  shMask := h.shMask
  pairHi := h.pairHi
  resp := h.resp
  cfg := h.cfg
  host := h.host
  cmd := h.cmd
  cad := h.cad
  insts := h.insts
  flash := h.flash
  buf := h.buf
  eng := h.eng
  dig := h.dig
  srch := h.srch
  cores := h.cores
  ctlStores := h.ctlStores
  scan := h.scan
  dram := h.dram
  srd := h.srd
  knot := h.knot
  therm := h.therm
  pwr := fun z => Foot.no epwr z
  otp := h.otp
  tel := h.tel
  jtag := h.jtag
  freeCtr := h.freeCtr
  now := h.now
  fuses := h.fuses
  mem := h.mem

theorem Touch.wipe_regs_shVal_shMask_pairHi_cfg {f : Foot} {r s : State} {regs' : _} {shVal' : _} {shMask' : _} {pairHi' : _} {cfg' : _} (h : Touch f r s) (eregs : f.regs = true) (eshVal : f.shVal = true) (eshMask : f.shMask = true) (epairHi : f.pairHi = true) (ecfg : f.cfg = true) (hm : Memory.wf s = true → Memory.wf { s with regs := regs', shVal := shVal', shMask := shMask', pairHi := pairHi', cfg := cfg' } = true) :
    Touch f r { s with regs := regs', shVal := shVal', shMask := shMask', pairHi := pairHi', cfg := cfg' } where
  pending := h.pending
  regs := fun z => Foot.no eregs z
  shVal := fun z => Foot.no eshVal z
  shMask := fun z => Foot.no eshMask z
  pairHi := fun z => Foot.no epairHi z
  resp := h.resp
  cfg := fun z => Foot.no ecfg z
  host := h.host
  cmd := h.cmd
  cad := h.cad
  insts := h.insts
  flash := h.flash
  buf := h.buf
  eng := h.eng
  dig := h.dig
  srch := h.srch
  cores := h.cores
  ctlStores := h.ctlStores
  scan := h.scan
  dram := h.dram
  srd := h.srd
  knot := h.knot
  therm := h.therm
  pwr := h.pwr
  otp := h.otp
  tel := h.tel
  jtag := h.jtag
  freeCtr := h.freeCtr
  now := h.now
  fuses := h.fuses
  mem := fun w => hm (h.mem w)

theorem Touch.upd_therm {f : Foot} {r s : State} {therm' : _} (h : Touch f r s) (etherm : f.therm = true) :
    Touch f r { s with therm := therm' } where
  pending := h.pending
  regs := h.regs
  shVal := h.shVal
  shMask := h.shMask
  pairHi := h.pairHi
  resp := h.resp
  cfg := h.cfg
  host := h.host
  cmd := h.cmd
  cad := h.cad
  insts := h.insts
  flash := h.flash
  buf := h.buf
  eng := h.eng
  dig := h.dig
  srch := h.srch
  cores := h.cores
  ctlStores := h.ctlStores
  scan := h.scan
  dram := h.dram
  srd := h.srd
  knot := h.knot
  therm := fun z => Foot.no etherm z
  pwr := h.pwr
  otp := h.otp
  tel := h.tel
  jtag := h.jtag
  freeCtr := h.freeCtr
  now := h.now
  fuses := h.fuses
  mem := h.mem

theorem Touch.upd_srd {f : Foot} {r s : State} {srd' : _} (h : Touch f r s) (esrd : f.srd = true) :
    Touch f r { s with srd := srd' } where
  pending := h.pending
  regs := h.regs
  shVal := h.shVal
  shMask := h.shMask
  pairHi := h.pairHi
  resp := h.resp
  cfg := h.cfg
  host := h.host
  cmd := h.cmd
  cad := h.cad
  insts := h.insts
  flash := h.flash
  buf := h.buf
  eng := h.eng
  dig := h.dig
  srch := h.srch
  cores := h.cores
  ctlStores := h.ctlStores
  scan := h.scan
  dram := h.dram
  srd := fun z => Foot.no esrd z
  knot := h.knot
  therm := h.therm
  pwr := h.pwr
  otp := h.otp
  tel := h.tel
  jtag := h.jtag
  freeCtr := h.freeCtr
  now := h.now
  fuses := h.fuses
  mem := h.mem

theorem Touch.upd_shVal_shMask_cfg {f : Foot} {r s : State} {shVal' : _} {shMask' : _} {cfg' : _} (h : Touch f r s) (eshVal : f.shVal = true) (eshMask : f.shMask = true) (ecfg : f.cfg = true) :
    Touch f r { s with shVal := shVal', shMask := shMask', cfg := cfg' } where
  pending := h.pending
  regs := h.regs
  shVal := fun z => Foot.no eshVal z
  shMask := fun z => Foot.no eshMask z
  pairHi := h.pairHi
  resp := h.resp
  cfg := fun z => Foot.no ecfg z
  host := h.host
  cmd := h.cmd
  cad := h.cad
  insts := h.insts
  flash := h.flash
  buf := h.buf
  eng := h.eng
  dig := h.dig
  srch := h.srch
  cores := h.cores
  ctlStores := h.ctlStores
  scan := h.scan
  dram := h.dram
  srd := h.srd
  knot := h.knot
  therm := h.therm
  pwr := h.pwr
  otp := h.otp
  tel := h.tel
  jtag := h.jtag
  freeCtr := h.freeCtr
  now := h.now
  fuses := h.fuses
  mem := h.mem

theorem Touch.upd_cfg {f : Foot} {r s : State} {cfg' : _} (h : Touch f r s) (ecfg : f.cfg = true) :
    Touch f r { s with cfg := cfg' } where
  pending := h.pending
  regs := h.regs
  shVal := h.shVal
  shMask := h.shMask
  pairHi := h.pairHi
  resp := h.resp
  cfg := fun z => Foot.no ecfg z
  host := h.host
  cmd := h.cmd
  cad := h.cad
  insts := h.insts
  flash := h.flash
  buf := h.buf
  eng := h.eng
  dig := h.dig
  srch := h.srch
  cores := h.cores
  ctlStores := h.ctlStores
  scan := h.scan
  dram := h.dram
  srd := h.srd
  knot := h.knot
  therm := h.therm
  pwr := h.pwr
  otp := h.otp
  tel := h.tel
  jtag := h.jtag
  freeCtr := h.freeCtr
  now := h.now
  fuses := h.fuses
  mem := h.mem

theorem Touch.upd_shVal_shMask {f : Foot} {r s : State} {shVal' : _} {shMask' : _} (h : Touch f r s) (eshVal : f.shVal = true) (eshMask : f.shMask = true) :
    Touch f r { s with shVal := shVal', shMask := shMask' } where
  pending := h.pending
  regs := h.regs
  shVal := fun z => Foot.no eshVal z
  shMask := fun z => Foot.no eshMask z
  pairHi := h.pairHi
  resp := h.resp
  cfg := h.cfg
  host := h.host
  cmd := h.cmd
  cad := h.cad
  insts := h.insts
  flash := h.flash
  buf := h.buf
  eng := h.eng
  dig := h.dig
  srch := h.srch
  cores := h.cores
  ctlStores := h.ctlStores
  scan := h.scan
  dram := h.dram
  srd := h.srd
  knot := h.knot
  therm := h.therm
  pwr := h.pwr
  otp := h.otp
  tel := h.tel
  jtag := h.jtag
  freeCtr := h.freeCtr
  now := h.now
  fuses := h.fuses
  mem := h.mem

theorem Touch.upd_cmd_srch {f : Foot} {r s : State} {cmd' : _} {srch' : _} (h : Touch f r s) (ecmd : f.cmd = true) (esrch : f.srch = true) :
    Touch f r { s with cmd := cmd', srch := srch' } where
  pending := h.pending
  regs := h.regs
  shVal := h.shVal
  shMask := h.shMask
  pairHi := h.pairHi
  resp := h.resp
  cfg := h.cfg
  host := h.host
  cmd := fun z => Foot.no ecmd z
  cad := h.cad
  insts := h.insts
  flash := h.flash
  buf := h.buf
  eng := h.eng
  dig := h.dig
  srch := fun z => Foot.no esrch z
  cores := h.cores
  ctlStores := h.ctlStores
  scan := h.scan
  dram := h.dram
  srd := h.srd
  knot := h.knot
  therm := h.therm
  pwr := h.pwr
  otp := h.otp
  tel := h.tel
  jtag := h.jtag
  freeCtr := h.freeCtr
  now := h.now
  fuses := h.fuses
  mem := h.mem

theorem Touch.upd_ctlStores {f : Foot} {r s : State} {ctlStores' : _} (h : Touch f r s) (ectlStores : f.ctlStores = true) :
    Touch f r { s with ctlStores := ctlStores' } where
  pending := h.pending
  regs := h.regs
  shVal := h.shVal
  shMask := h.shMask
  pairHi := h.pairHi
  resp := h.resp
  cfg := h.cfg
  host := h.host
  cmd := h.cmd
  cad := h.cad
  insts := h.insts
  flash := h.flash
  buf := h.buf
  eng := h.eng
  dig := h.dig
  srch := h.srch
  cores := h.cores
  ctlStores := fun z => Foot.no ectlStores z
  scan := h.scan
  dram := h.dram
  srd := h.srd
  knot := h.knot
  therm := h.therm
  pwr := h.pwr
  otp := h.otp
  tel := h.tel
  jtag := h.jtag
  freeCtr := h.freeCtr
  now := h.now
  fuses := h.fuses
  mem := h.mem

theorem Touch.upd_scan {f : Foot} {r s : State} {scan' : _} (h : Touch f r s) (escan : f.scan = true) :
    Touch f r { s with scan := scan' } where
  pending := h.pending
  regs := h.regs
  shVal := h.shVal
  shMask := h.shMask
  pairHi := h.pairHi
  resp := h.resp
  cfg := h.cfg
  host := h.host
  cmd := h.cmd
  cad := h.cad
  insts := h.insts
  flash := h.flash
  buf := h.buf
  eng := h.eng
  dig := h.dig
  srch := h.srch
  cores := h.cores
  ctlStores := h.ctlStores
  scan := fun z => Foot.no escan z
  dram := h.dram
  srd := h.srd
  knot := h.knot
  therm := h.therm
  pwr := h.pwr
  otp := h.otp
  tel := h.tel
  jtag := h.jtag
  freeCtr := h.freeCtr
  now := h.now
  fuses := h.fuses
  mem := h.mem

theorem Touch.upd_srch {f : Foot} {r s : State} {srch' : _} (h : Touch f r s) (esrch : f.srch = true) :
    Touch f r { s with srch := srch' } where
  pending := h.pending
  regs := h.regs
  shVal := h.shVal
  shMask := h.shMask
  pairHi := h.pairHi
  resp := h.resp
  cfg := h.cfg
  host := h.host
  cmd := h.cmd
  cad := h.cad
  insts := h.insts
  flash := h.flash
  buf := h.buf
  eng := h.eng
  dig := h.dig
  srch := fun z => Foot.no esrch z
  cores := h.cores
  ctlStores := h.ctlStores
  scan := h.scan
  dram := h.dram
  srd := h.srd
  knot := h.knot
  therm := h.therm
  pwr := h.pwr
  otp := h.otp
  tel := h.tel
  jtag := h.jtag
  freeCtr := h.freeCtr
  now := h.now
  fuses := h.fuses
  mem := h.mem

theorem Touch.upd_dig {f : Foot} {r s : State} {dig' : _} (h : Touch f r s) (edig : f.dig = true) :
    Touch f r { s with dig := dig' } where
  pending := h.pending
  regs := h.regs
  shVal := h.shVal
  shMask := h.shMask
  pairHi := h.pairHi
  resp := h.resp
  cfg := h.cfg
  host := h.host
  cmd := h.cmd
  cad := h.cad
  insts := h.insts
  flash := h.flash
  buf := h.buf
  eng := h.eng
  dig := fun z => Foot.no edig z
  srch := h.srch
  cores := h.cores
  ctlStores := h.ctlStores
  scan := h.scan
  dram := h.dram
  srd := h.srd
  knot := h.knot
  therm := h.therm
  pwr := h.pwr
  otp := h.otp
  tel := h.tel
  jtag := h.jtag
  freeCtr := h.freeCtr
  now := h.now
  fuses := h.fuses
  mem := h.mem

theorem Touch.upd_eng {f : Foot} {r s : State} {eng' : _} (h : Touch f r s) (eeng : f.eng = true) :
    Touch f r { s with eng := eng' } where
  pending := h.pending
  regs := h.regs
  shVal := h.shVal
  shMask := h.shMask
  pairHi := h.pairHi
  resp := h.resp
  cfg := h.cfg
  host := h.host
  cmd := h.cmd
  cad := h.cad
  insts := h.insts
  flash := h.flash
  buf := h.buf
  eng := fun z => Foot.no eeng z
  dig := h.dig
  srch := h.srch
  cores := h.cores
  ctlStores := h.ctlStores
  scan := h.scan
  dram := h.dram
  srd := h.srd
  knot := h.knot
  therm := h.therm
  pwr := h.pwr
  otp := h.otp
  tel := h.tel
  jtag := h.jtag
  freeCtr := h.freeCtr
  now := h.now
  fuses := h.fuses
  mem := h.mem

theorem Touch.upd_cores {f : Foot} {r s : State} {cores' : _} (h : Touch f r s) (ecores : f.cores = true) :
    Touch f r { s with cores := cores' } where
  pending := h.pending
  regs := h.regs
  shVal := h.shVal
  shMask := h.shMask
  pairHi := h.pairHi
  resp := h.resp
  cfg := h.cfg
  host := h.host
  cmd := h.cmd
  cad := h.cad
  insts := h.insts
  flash := h.flash
  buf := h.buf
  eng := h.eng
  dig := h.dig
  srch := h.srch
  cores := fun z => Foot.no ecores z
  ctlStores := h.ctlStores
  scan := h.scan
  dram := h.dram
  srd := h.srd
  knot := h.knot
  therm := h.therm
  pwr := h.pwr
  otp := h.otp
  tel := h.tel
  jtag := h.jtag
  freeCtr := h.freeCtr
  now := h.now
  fuses := h.fuses
  mem := h.mem

theorem Touch.upd_otp {f : Foot} {r s : State} {otp' : _} (h : Touch f r s) (eotp : f.otp = true) (w1 : otp'.fuses = s.otp.fuses) :
    Touch f r { s with otp := otp' } where
  pending := h.pending
  regs := h.regs
  shVal := h.shVal
  shMask := h.shMask
  pairHi := h.pairHi
  resp := h.resp
  cfg := h.cfg
  host := h.host
  cmd := h.cmd
  cad := h.cad
  insts := h.insts
  flash := h.flash
  buf := h.buf
  eng := h.eng
  dig := h.dig
  srch := h.srch
  cores := h.cores
  ctlStores := h.ctlStores
  scan := h.scan
  dram := h.dram
  srd := h.srd
  knot := h.knot
  therm := h.therm
  pwr := h.pwr
  otp := fun z => Foot.no eotp z
  tel := h.tel
  jtag := h.jtag
  freeCtr := h.freeCtr
  now := h.now
  fuses := fun k hk => by simp only [w1]; exact h.fuses k hk
  mem := h.mem

theorem Touch.upd_knot {f : Foot} {r s : State} {knot' : _} (h : Touch f r s) (eknot : f.knot = true) :
    Touch f r { s with knot := knot' } where
  pending := h.pending
  regs := h.regs
  shVal := h.shVal
  shMask := h.shMask
  pairHi := h.pairHi
  resp := h.resp
  cfg := h.cfg
  host := h.host
  cmd := h.cmd
  cad := h.cad
  insts := h.insts
  flash := h.flash
  buf := h.buf
  eng := h.eng
  dig := h.dig
  srch := h.srch
  cores := h.cores
  ctlStores := h.ctlStores
  scan := h.scan
  dram := h.dram
  srd := h.srd
  knot := fun z => Foot.no eknot z
  therm := h.therm
  pwr := h.pwr
  otp := h.otp
  tel := h.tel
  jtag := h.jtag
  freeCtr := h.freeCtr
  now := h.now
  fuses := h.fuses
  mem := h.mem

theorem Touch.upd_flash {f : Foot} {r s : State} {flash' : _} (h : Touch f r s) (eflash : f.flash = true) :
    Touch f r { s with flash := flash' } where
  pending := h.pending
  regs := h.regs
  shVal := h.shVal
  shMask := h.shMask
  pairHi := h.pairHi
  resp := h.resp
  cfg := h.cfg
  host := h.host
  cmd := h.cmd
  cad := h.cad
  insts := h.insts
  flash := fun z => Foot.no eflash z
  buf := h.buf
  eng := h.eng
  dig := h.dig
  srch := h.srch
  cores := h.cores
  ctlStores := h.ctlStores
  scan := h.scan
  dram := h.dram
  srd := h.srd
  knot := h.knot
  therm := h.therm
  pwr := h.pwr
  otp := h.otp
  tel := h.tel
  jtag := h.jtag
  freeCtr := h.freeCtr
  now := h.now
  fuses := h.fuses
  mem := h.mem

theorem Touch.upd_flash_knot {f : Foot} {r s : State} {flash' : _} {knot' : _} (h : Touch f r s) (eflash : f.flash = true) (eknot : f.knot = true) :
    Touch f r { s with flash := flash', knot := knot' } where
  pending := h.pending
  regs := h.regs
  shVal := h.shVal
  shMask := h.shMask
  pairHi := h.pairHi
  resp := h.resp
  cfg := h.cfg
  host := h.host
  cmd := h.cmd
  cad := h.cad
  insts := h.insts
  flash := fun z => Foot.no eflash z
  buf := h.buf
  eng := h.eng
  dig := h.dig
  srch := h.srch
  cores := h.cores
  ctlStores := h.ctlStores
  scan := h.scan
  dram := h.dram
  srd := h.srd
  knot := fun z => Foot.no eknot z
  therm := h.therm
  pwr := h.pwr
  otp := h.otp
  tel := h.tel
  jtag := h.jtag
  freeCtr := h.freeCtr
  now := h.now
  fuses := h.fuses
  mem := h.mem

theorem Touch.upd_cad {f : Foot} {r s : State} {cad' : _} (h : Touch f r s) (ecad : f.cad = true) (w1 : cad'.nowUs = s.cad.nowUs) :
    Touch f r { s with cad := cad' } where
  pending := h.pending
  regs := h.regs
  shVal := h.shVal
  shMask := h.shMask
  pairHi := h.pairHi
  resp := h.resp
  cfg := h.cfg
  host := h.host
  cmd := h.cmd
  cad := fun z => Foot.no ecad z
  insts := h.insts
  flash := h.flash
  buf := h.buf
  eng := h.eng
  dig := h.dig
  srch := h.srch
  cores := h.cores
  ctlStores := h.ctlStores
  scan := h.scan
  dram := h.dram
  srd := h.srd
  knot := h.knot
  therm := h.therm
  pwr := h.pwr
  otp := h.otp
  tel := h.tel
  jtag := h.jtag
  freeCtr := h.freeCtr
  now := Nat.le_trans h.now (Nat.le_of_eq w1.symm)
  fuses := h.fuses
  mem := h.mem

theorem Touch.upd_buf {f : Foot} {r s : State} {buf' : _} (h : Touch f r s) (ebuf : f.buf = true) (w1 : buf'.sram = s.buf.sram) (w2 : buf'.laid = s.buf.laid) :
    Touch f r { s with buf := buf' } where
  pending := h.pending
  regs := h.regs
  shVal := h.shVal
  shMask := h.shMask
  pairHi := h.pairHi
  resp := h.resp
  cfg := h.cfg
  host := h.host
  cmd := h.cmd
  cad := h.cad
  insts := h.insts
  flash := h.flash
  buf := fun z => Foot.no ebuf z
  eng := h.eng
  dig := h.dig
  srch := h.srch
  cores := h.cores
  ctlStores := h.ctlStores
  scan := h.scan
  dram := h.dram
  srd := h.srd
  knot := h.knot
  therm := h.therm
  pwr := h.pwr
  otp := h.otp
  tel := h.tel
  jtag := h.jtag
  freeCtr := h.freeCtr
  now := h.now
  fuses := h.fuses
  mem := fun w => by simp only [Memory.wf, w1, w2]; exact h.mem w

theorem Touch.wipe_buf {f : Foot} {r s : State} {buf' : _} (h : Touch f r s) (ebuf : f.buf = true) (hm : Memory.wf s = true → Memory.wf { s with buf := buf' } = true) :
    Touch f r { s with buf := buf' } where
  pending := h.pending
  regs := h.regs
  shVal := h.shVal
  shMask := h.shMask
  pairHi := h.pairHi
  resp := h.resp
  cfg := h.cfg
  host := h.host
  cmd := h.cmd
  cad := h.cad
  insts := h.insts
  flash := h.flash
  buf := fun z => Foot.no ebuf z
  eng := h.eng
  dig := h.dig
  srch := h.srch
  cores := h.cores
  ctlStores := h.ctlStores
  scan := h.scan
  dram := h.dram
  srd := h.srd
  knot := h.knot
  therm := h.therm
  pwr := h.pwr
  otp := h.otp
  tel := h.tel
  jtag := h.jtag
  freeCtr := h.freeCtr
  now := h.now
  fuses := h.fuses
  mem := fun w => hm (h.mem w)

theorem Touch.upd_insts {f : Foot} {r s : State} {insts' : _} (h : Touch f r s) (einsts : f.insts = true) :
    Touch f r { s with insts := insts' } where
  pending := h.pending
  regs := h.regs
  shVal := h.shVal
  shMask := h.shMask
  pairHi := h.pairHi
  resp := h.resp
  cfg := h.cfg
  host := h.host
  cmd := h.cmd
  cad := h.cad
  insts := fun z => Foot.no einsts z
  flash := h.flash
  buf := h.buf
  eng := h.eng
  dig := h.dig
  srch := h.srch
  cores := h.cores
  ctlStores := h.ctlStores
  scan := h.scan
  dram := h.dram
  srd := h.srd
  knot := h.knot
  therm := h.therm
  pwr := h.pwr
  otp := h.otp
  tel := h.tel
  jtag := h.jtag
  freeCtr := h.freeCtr
  now := h.now
  fuses := h.fuses
  mem := h.mem

theorem Touch.upd_cmd {f : Foot} {r s : State} {cmd' : _} (h : Touch f r s) (ecmd : f.cmd = true) :
    Touch f r { s with cmd := cmd' } where
  pending := h.pending
  regs := h.regs
  shVal := h.shVal
  shMask := h.shMask
  pairHi := h.pairHi
  resp := h.resp
  cfg := h.cfg
  host := h.host
  cmd := fun z => Foot.no ecmd z
  cad := h.cad
  insts := h.insts
  flash := h.flash
  buf := h.buf
  eng := h.eng
  dig := h.dig
  srch := h.srch
  cores := h.cores
  ctlStores := h.ctlStores
  scan := h.scan
  dram := h.dram
  srd := h.srd
  knot := h.knot
  therm := h.therm
  pwr := h.pwr
  otp := h.otp
  tel := h.tel
  jtag := h.jtag
  freeCtr := h.freeCtr
  now := h.now
  fuses := h.fuses
  mem := h.mem

theorem Touch.upd_host {f : Foot} {r s : State} {host' : _} (h : Touch f r s) (ehost : f.host = true) :
    Touch f r { s with host := host' } where
  pending := h.pending
  regs := h.regs
  shVal := h.shVal
  shMask := h.shMask
  pairHi := h.pairHi
  resp := h.resp
  cfg := h.cfg
  host := fun z => Foot.no ehost z
  cmd := h.cmd
  cad := h.cad
  insts := h.insts
  flash := h.flash
  buf := h.buf
  eng := h.eng
  dig := h.dig
  srch := h.srch
  cores := h.cores
  ctlStores := h.ctlStores
  scan := h.scan
  dram := h.dram
  srd := h.srd
  knot := h.knot
  therm := h.therm
  pwr := h.pwr
  otp := h.otp
  tel := h.tel
  jtag := h.jtag
  freeCtr := h.freeCtr
  now := h.now
  fuses := h.fuses
  mem := h.mem

theorem Touch.upd_tel {f : Foot} {r s : State} {tel' : _} (h : Touch f r s) (etel : f.tel = true) :
    Touch f r { s with tel := tel' } where
  pending := h.pending
  regs := h.regs
  shVal := h.shVal
  shMask := h.shMask
  pairHi := h.pairHi
  resp := h.resp
  cfg := h.cfg
  host := h.host
  cmd := h.cmd
  cad := h.cad
  insts := h.insts
  flash := h.flash
  buf := h.buf
  eng := h.eng
  dig := h.dig
  srch := h.srch
  cores := h.cores
  ctlStores := h.ctlStores
  scan := h.scan
  dram := h.dram
  srd := h.srd
  knot := h.knot
  therm := h.therm
  pwr := h.pwr
  otp := h.otp
  tel := fun z => Foot.no etel z
  jtag := h.jtag
  freeCtr := h.freeCtr
  now := h.now
  fuses := h.fuses
  mem := h.mem

theorem Touch.upd_dram {f : Foot} {r s : State} {dram' : _} (h : Touch f r s) (edram : f.dram = true) (w1 : dram'.bytes = s.dram.bytes) :
    Touch f r { s with dram := dram' } where
  pending := h.pending
  regs := h.regs
  shVal := h.shVal
  shMask := h.shMask
  pairHi := h.pairHi
  resp := h.resp
  cfg := h.cfg
  host := h.host
  cmd := h.cmd
  cad := h.cad
  insts := h.insts
  flash := h.flash
  buf := h.buf
  eng := h.eng
  dig := h.dig
  srch := h.srch
  cores := h.cores
  ctlStores := h.ctlStores
  scan := h.scan
  dram := fun z => Foot.no edram z
  srd := h.srd
  knot := h.knot
  therm := h.therm
  pwr := h.pwr
  otp := h.otp
  tel := h.tel
  jtag := h.jtag
  freeCtr := h.freeCtr
  now := h.now
  fuses := h.fuses
  mem := fun w => by simp only [Memory.wf, w1]; exact h.mem w

theorem Touch.wipe_dram {f : Foot} {r s : State} {dram' : _} (h : Touch f r s) (edram : f.dram = true) (hm : Memory.wf s = true → Memory.wf { s with dram := dram' } = true) :
    Touch f r { s with dram := dram' } where
  pending := h.pending
  regs := h.regs
  shVal := h.shVal
  shMask := h.shMask
  pairHi := h.pairHi
  resp := h.resp
  cfg := h.cfg
  host := h.host
  cmd := h.cmd
  cad := h.cad
  insts := h.insts
  flash := h.flash
  buf := h.buf
  eng := h.eng
  dig := h.dig
  srch := h.srch
  cores := h.cores
  ctlStores := h.ctlStores
  scan := h.scan
  dram := fun z => Foot.no edram z
  srd := h.srd
  knot := h.knot
  therm := h.therm
  pwr := h.pwr
  otp := h.otp
  tel := h.tel
  jtag := h.jtag
  freeCtr := h.freeCtr
  now := h.now
  fuses := h.fuses
  mem := fun w => hm (h.mem w)

theorem Touch.upd_freeCtr {f : Foot} {r s : State} {freeCtr' : _} (h : Touch f r s) (efreeCtr : f.freeCtr = true) :
    Touch f r { s with freeCtr := freeCtr' } where
  pending := h.pending
  regs := h.regs
  shVal := h.shVal
  shMask := h.shMask
  pairHi := h.pairHi
  resp := h.resp
  cfg := h.cfg
  host := h.host
  cmd := h.cmd
  cad := h.cad
  insts := h.insts
  flash := h.flash
  buf := h.buf
  eng := h.eng
  dig := h.dig
  srch := h.srch
  cores := h.cores
  ctlStores := h.ctlStores
  scan := h.scan
  dram := h.dram
  srd := h.srd
  knot := h.knot
  therm := h.therm
  pwr := h.pwr
  otp := h.otp
  tel := h.tel
  jtag := h.jtag
  freeCtr := fun z => Foot.no efreeCtr z
  now := h.now
  fuses := h.fuses
  mem := h.mem

theorem Touch.wipe_regs {f : Foot} {r s : State} {regs' : _} (h : Touch f r s) (eregs : f.regs = true) (hm : Memory.wf s = true → Memory.wf { s with regs := regs' } = true) :
    Touch f r { s with regs := regs' } where
  pending := h.pending
  regs := fun z => Foot.no eregs z
  shVal := h.shVal
  shMask := h.shMask
  pairHi := h.pairHi
  resp := h.resp
  cfg := h.cfg
  host := h.host
  cmd := h.cmd
  cad := h.cad
  insts := h.insts
  flash := h.flash
  buf := h.buf
  eng := h.eng
  dig := h.dig
  srch := h.srch
  cores := h.cores
  ctlStores := h.ctlStores
  scan := h.scan
  dram := h.dram
  srd := h.srd
  knot := h.knot
  therm := h.therm
  pwr := h.pwr
  otp := h.otp
  tel := h.tel
  jtag := h.jtag
  freeCtr := h.freeCtr
  now := h.now
  fuses := h.fuses
  mem := fun w => hm (h.mem w)

end Sys2Proof.Machine
end

