-- ==== Sys2Proof/Laws/FootRegs.lean ====
section
/-! SUPPORT. What each operation of Machine/Regs.lean can touch. -/

namespace Sys2Proof.Machine
open Sys2Proof

theorem State.setRegAt_touch {s : State} {key : Nat} {v : W32} : Touch { regs := true } s (s.setRegAt key v) :=
  { (Touch.refl : Touch { regs := true } s s) with
    regs := nofun
    mem := fun w => by
      simp only [Memory.wf, State.setRegAt, Bool.and_eq_true] at w ⊢
      exact ⟨w.1, SMap.wf_setD regReset s.regs key v w.2⟩ }

theorem State.setReg_touch {s : State} {page off : ℕ} {v : W32} :
    Touch { regs := true } s (State.setReg s page off v) := by
  unfold State.setReg
  exact State.setRegAt_touch.on rfl .refl

theorem State.setFld_touch {s : State} {page off hi lo x : ℕ} :
    Touch { regs := true } s (State.setFld s page off hi lo x) := by
  unfold State.setFld
  exact State.setReg_touch.on rfl .refl

theorem State.countN_touch {s : State} {page off n : ℕ} :
    Touch { regs := true } s (State.countN s page off n) := by
  unfold State.countN
  exact State.setReg_touch.on rfl .refl

theorem State.count_touch {s : State} {page off : ℕ} :
    Touch { regs := true } s (State.count s page off) := by
  unfold State.count
  exact State.countN_touch.on rfl .refl

theorem State.setPair_touch {s : State} {page lo v : ℕ} :
    Touch { regs := true } s (State.setPair s page lo v) := by
  unfold State.setPair
  exact State.setReg_touch.on rfl (State.setReg_touch.on rfl .refl)

theorem State.countPair_touch {s : State} {page lo n : ℕ} :
    Touch { regs := true } s (State.countPair s page lo n) := by
  unfold State.countPair
  exact State.setPair_touch.on rfl .refl

theorem State.raise_touch {s : State} {page n : ℕ} :
    Touch { regs := true } s (State.raise s page n) := by
  unfold State.raise
  exact State.setReg_touch.on rfl .refl

theorem State.note_touch {s : State} {page code unit detail : ℕ} :
    Touch { regs := true } s (State.note s page code unit detail) := by
  unfold State.note
  extract_lets v0
  refine .step (x := v0) (State.count_touch.on rfl .refl) fun h1 => ?_
  exact .ite h1 (State.raise_touch.on rfl (State.setReg_touch.on rfl h1))

theorem State.setDomStat_touch {s : State} {d v : ℕ} :
    Touch { regs := true } s (State.setDomStat s d v) := by
  unfold State.setDomStat
  exact State.setFld_touch.on rfl .refl

theorem State.free_touch {s : State} :
    Touch { freeCtr := true } s (State.free s).2 := by
  unfold State.free
  exact .upd_freeCtr .refl rfl

theorem State.clearCounters_touch {s : State} {page : ℕ} :
    Touch { regs := true } s (State.clearCounters s page) := by
  unfold State.clearCounters
  split
  · rename_i w0 e1
    exact .refl
  · rename_i w2 w3 w4 e5
    extract_lets v6
    refine .step (x := v6) (State.setReg_touch.on rfl .refl) fun h7 => ?_
    exact .foldl (fun x8 y9 h10 => (.ite (.foldl (fun x11 y12 h13 => (.foldl (fun x14 y15 h16 => (State.setFld_touch.on rfl h16)) h13)) h10) h10)) h7

end Sys2Proof.Machine
end

