-- ==== Sys2Proof/Laws/FootEvents.lean ====
section
/-! SUPPORT. What each operation of Machine/Events.lean can touch. -/

namespace Sys2Proof.Machine
open Sys2Proof

/-- Writing bytes keeps the canonical form. -/
theorem writeBytes_wf (m : SMap Byte) (a : Nat) (l : List Byte) (h : SMap.wf (fun _ => 0) m = true) :
    SMap.wf (fun _ => 0) (writeBytes m a l) = true := by
  induction l generalizing m a with
  | nil => exact h
  | cons b l ih => exact ih _ _ (SMap.wf_setD (fun _ => 0) m a b h)

theorem State.putBytes_touch {s : State} {a : Nat} {l : List Byte} : Touch { dram := true } s (s.putBytes a l) :=
  { (Touch.refl : Touch { dram := true } s s) with
    dram := nofun
    mem := fun w => by
      simp only [Memory.wf, State.putBytes, Bool.and_eq_true] at w ⊢
      exact ⟨⟨writeBytes_wf s.dram.bytes a l w.1.1, w.1.2⟩, w.2⟩ }

theorem State.writeEvent_touch {s : State} {e : EvRec} :
    Touch { regs := true, dram := true } s (State.writeEvent s e) := by
  unfold State.writeEvent
  extract_lets v0 v1 v2 v3 v4 v5 v6 v7
  refine .step (x := v5) (State.setPair_touch.on rfl .refl) fun h8 => ?_
  refine .step (x := v6) (.ite (State.count_touch.on rfl h8) h8) fun h9 => ?_
  refine .step (x := v7) (.ite (State.putBytes_touch.on rfl h9) h9) fun h10 => ?_
  exact .ite (State.raise_touch.on rfl h10) h10

theorem State.logEvent_touch {s : State} {e : EvRec} :
    Touch { regs := true, dram := true, tel := true } s (State.logEvent s e) := by
  unfold State.logEvent
  exact .ite (State.writeEvent_touch.on rfl .refl) (.upd_tel .refl rfl)

theorem State.post_touch {s : State} {code unit page detail : ℕ} :
    Touch { regs := true, dram := true, tel := true } s (State.post s code unit page detail) := by
  unfold State.post
  extract_lets v0 v1
  exact .ite (.ite (State.logEvent_touch.on rfl .refl) (.upd_tel .refl rfl)) (.ite (State.logEvent_touch.on rfl .refl) (State.count_touch.on rfl .refl))

theorem State.postHeld_touch {s : State} :
    Touch { regs := true, dram := true, tel := true } s (State.postHeld s) := by
  unfold State.postHeld
  exact .ite (.foldl (fun x0 y1 h2 => (State.logEvent_touch.on rfl h2)) (.upd_tel .refl rfl)) .refl

theorem State.postWaiting_touch {s : State} :
    Touch { regs := true, dram := true, tel := true } s (State.postWaiting s) := by
  unfold State.postWaiting
  extract_lets v0 v1
  refine .step (x := v1) (.ite (.foldl (fun x3 y4 h5 => (State.writeEvent_touch.on rfl h5)) (.upd_tel .refl rfl)) .refl) fun h2 => ?_
  exact State.postHeld_touch.on rfl h2

theorem State.capture_touch {s : State} {page code unit detail : ℕ} :
    Touch { regs := true, dram := true, tel := true } s (State.capture s page code unit detail) := by
  unfold State.capture
  extract_lets v0 v1
  refine .step (x := v1) (State.note_touch.on rfl .refl) fun h2 => ?_
  exact .ite h2 (State.post_touch.on rfl h2)

theorem State.fault_touch {s : State} {ev page code unit detail : ℕ} :
    Touch { regs := true, dram := true, tel := true } s (State.fault s ev page code unit detail) := by
  unfold State.fault
  exact State.post_touch.on rfl (State.note_touch.on rfl .refl)

theorem State.async_touch {s : State} {code : ℕ} {eligible : Conn → Bool} {detail : List Byte} :
    Touch { host := true } s (State.async s code eligible detail) := by
  unfold State.async
  extract_lets v0 v1 v2 v3
  exact .upd_host .refl rfl

end Sys2Proof.Machine
end

