-- ==== Sys2Proof/Laws/FootFuse.lean ====
section
/-! SUPPORT. What each operation of Machine/Fuse.lean can touch. -/

namespace Sys2Proof.Machine
open Sys2Proof

theorem State.setGrpStat_touch {s : State} {g : ℕ} :
    Touch { regs := true } s (State.setGrpStat s g) := by
  unfold State.setGrpStat
  extract_lets v0 v1
  exact State.setReg_touch.on rfl .refl

theorem State.loadPortAuth_touch {s : State} :
    Touch { regs := true } s (State.loadPortAuth s) := by
  unfold State.loadPortAuth
  extract_lets v0
  exact State.setReg_touch.on rfl (State.setReg_touch.on rfl .refl)

theorem State.loadMacs_touch {s : State} {n : ℕ} :
    Touch { regs := true } s (State.loadMacs s n) := by
  unfold State.loadMacs
  refine .foldl (fun x3 y4 h5 => ?_) ?_
  · extract_lets v6
    exact State.setReg_touch.on rfl (State.setReg_touch.on rfl h5)
  · exact .refl

theorem State.loadTherm_touch {s : State} :
    Touch { regs := true } s (State.loadTherm s) := by
  unfold State.loadTherm
  split
  · rename_i w0 e1
    exact .refl
  · rename_i w2 w3 e4
    extract_lets v5
    refine .step (x := v5) (.foldl (fun x7 y8 h9 => (State.setFld_touch.on rfl h9)) .refl) fun h6 => ?_
    exact .foldl (fun x10 y11 h12 => (State.setFld_touch.on rfl h12)) h6

theorem State.loadFuses_touch {s : State} :
    Touch { regs := true } s (State.loadFuses s) := by
  unfold State.loadFuses
  extract_lets v0 v1 v2 v3 v4 v5 v6 v7 v8 v9
  refine .step (x := v1) (State.setReg_touch.on rfl .refl) fun h10 => ?_
  refine .step (x := v2) (State.setReg_touch.on rfl h10) fun h11 => ?_
  refine .step (x := v4) (State.setReg_touch.on rfl h11) fun h12 => ?_
  refine .step (x := v5) (.foldl (fun x14 y15 h16 => (State.setGrpStat_touch.on rfl h16)) h12) fun h13 => ?_
  refine .step (x := v6) (State.setReg_touch.on rfl h13) fun h17 => ?_
  refine .step (x := v7) (State.setPair_touch.on rfl h17) fun h18 => ?_
  refine .step (x := v8) (State.loadPortAuth_touch.on rfl h18) fun h19 => ?_
  refine .step (x := v9) (.foldl (fun x21 y22 h23 => (State.loadMacs_touch.on rfl h23)) h19) fun h20 => ?_
  exact State.loadTherm_touch.on rfl h20

end Sys2Proof.Machine
end

