-- ==== Sys2Proof/Laws/FootCfg.lean ====
section
/-! SUPPORT. What each operation of Machine/Cfg.lean can touch. -/

namespace Sys2Proof.Machine
open Sys2Proof

theorem State.conflict_touch {s : State} :
    Touch { regs := true } s (State.conflict s) := by
  unfold State.conflict
  exact State.count_touch.on rfl .refl

theorem State.dropShadows_touch {s : State} :
    Touch { regs := true, shVal := true, shMask := true } s (State.dropShadows s) := by
  unfold State.dropShadows
  exact .foldl (fun x0 y1 h2 => (.ite h2 (State.setFld_touch.on rfl h2))) (.upd_shVal_shMask .refl rfl rfl)

theorem State.txnEnd_touch {s : State} {result : ℕ} :
    Touch { regs := true } s (State.txnEnd s result) := by
  unfold State.txnEnd
  exact State.raise_touch.on rfl (State.setFld_touch.on rfl (State.setFld_touch.on rfl .refl))

theorem State.rollBack_touch {s : State} {result : ℕ} :
    Touch { regs := true, shVal := true, shMask := true } s (State.rollBack s result) := by
  unfold State.rollBack
  exact State.txnEnd_touch.on rfl (State.dropShadows_touch.on rfl .refl)

theorem State.rollBackErr_touch {s : State} {result : ℕ} :
    Touch { regs := true, shVal := true, shMask := true, cfg := true, dram := true, tel := true } s (State.rollBackErr s result) := by
  unfold State.rollBackErr
  extract_lets v0 v1
  refine .step (x := v1) (State.rollBack_touch.on rfl (.upd_cfg .refl rfl)) fun h2 => ?_
  exact State.capture_touch.on rfl h2

theorem State.shadow_touch {s : State} {k hi lo x : ℕ} :
    Touch { shVal := true, shMask := true } s (State.shadow s k hi lo x) := by
  unfold State.shadow
  extract_lets v0 v1
  exact .upd_shVal_shMask .refl rfl rfl

theorem State.txnBegin_touch {s : State} {req : ℕ} :
    Touch { regs := true } s (State.txnBegin s req) := by
  unfold State.txnBegin
  refine .ite ?_ ?_
  · exact State.conflict_touch.on rfl .refl
  · extract_lets v0
    exact State.setReg_touch.on rfl .refl

theorem State.pendApply_touch {s : State} {page : ℕ} :
    Touch { regs := true } s (State.pendApply s page) := by
  unfold State.pendApply
  exact State.setFld_touch.on rfl (State.setFld_touch.on rfl .refl)

theorem State.commitEnd_touch {s : State} {result : ℕ} :
    Touch { regs := true, cfg := true } s (State.commitEnd s result) := by
  unfold State.commitEnd
  extract_lets v0 v1
  refine .step (x := v1) (.upd_cfg .refl rfl) fun h2 => ?_
  exact State.txnEnd_touch.on rfl (.foldl (fun x3 y4 h5 => (.ite (State.pendApply_touch.on rfl h5) h5)) h2)

theorem State.commitKey_touch {s : State} {k : ℕ} :
    Touch { cfg := true } s (State.commitKey s k) := by
  unfold State.commitKey
  extract_lets v0 v1
  exact .upd_cfg .refl rfl

theorem State.commitStart_touch {s : State} : Touch { regs := true, shVal := true, shMask := true, cfg := true } s (State.commitStart s) := by
  unfold State.commitStart
  extract_lets v0 v1 v2 v3 v4 v5 v6
  refine .step (x := v3) (.foldl (fun x a h => State.commitKey_touch.on rfl h) .refl) fun h7 => ?_
  refine .step (x := v5) (.upd_shVal_shMask_cfg h7 rfl rfl rfl) fun h8 => ?_
  refine .step (x := v6) (State.setFld_touch.on rfl h8) fun h9 => ?_
  exact .ite (State.commitEnd_touch.on rfl h9) h9

theorem State.txnCommit_touch {s : State} {req : ℕ} :
    Touch { regs := true, shVal := true, shMask := true, cfg := true, dram := true, tel := true } s (State.txnCommit s req) := by
  unfold State.txnCommit
  refine .ite ?_ ?_
  · exact State.conflict_touch.on rfl .refl
  · extract_lets v0 v1 v2
    exact .ite (State.commitStart_touch.on rfl .refl) (.ite (State.rollBackErr_touch.on rfl (State.capture_touch.on rfl .refl)) (.ite (State.rollBackErr_touch.on rfl .refl) (State.setFld_touch.on rfl (.upd_cfg .refl rfl))))

theorem State.txnRollback_touch {s : State} {req : ℕ} :
    Touch { regs := true, shVal := true, shMask := true } s (State.txnRollback s req) := by
  unfold State.txnRollback
  exact .ite (State.conflict_touch.on rfl .refl) (State.rollBack_touch.on rfl .refl)

theorem State.burnSlot_touch {s : State} {g n v : Nat} : Touch { otp := true } s (State.burnSlot s g n v) := by
  unfold State.burnSlot
  split
  · next h =>
    exact { (Touch.refl : Touch { otp := true } s s) with
      otp := nofun
      fuses := fun k hk => by
        rw [SMap.getD_setD]
        split
        · next e => subst e; exact absurd h.2 hk
        · rfl }
  · exact .refl

theorem State.slotProgrammed_touch {s : State} {ok : Bool} :
    Touch { regs := true, shVal := true, shMask := true, cfg := true, dram := true, otp := true, tel := true } s (State.slotProgrammed s ok) := by
  unfold State.slotProgrammed
  refine .ite ?_ ?_
  · exact .refl
  · split
    · rename_i w0 e1
      exact .refl
    · rename_i w2 w3 w4 e5
      extract_lets v6 v7 v8 v9 v10 v11
      refine .step (x := v8) (State.setGrpStat_touch.on rfl (State.burnSlot_touch.on rfl .refl)) fun h12 => ?_
      refine .step (x := v9) (.ite (State.raise_touch.on rfl (State.setFld_touch.on rfl (State.setFld_touch.on rfl h12))) h12) fun h13 => ?_
      refine .step (x := v11) (.upd_cfg h13 rfl) fun h14 => ?_
      exact .ite (.ite (State.commitStart_touch.on rfl h14) h14) (.ite (State.rollBackErr_touch.on rfl h12) h12)

theorem State.progLost_touch {s : State} :
    Touch { regs := true, cfg := true, otp := true } s (State.progLost s) := by
  unfold State.progLost
  split
  · rename_i w0 w1 w2 w3 e4 e5
    extract_lets v6 v7
    refine .step (x := v6) (State.setGrpStat_touch.on rfl (State.burnSlot_touch.on rfl .refl)) fun h8 => ?_
    exact .upd_cfg h8 rfl
  · rename_i w9 w10 e11
    exact .refl

theorem State.holdDeadline_touch {s : State} :
    Touch { regs := true, cfg := true, dram := true, tel := true } s (State.holdDeadline s) := by
  unfold State.holdDeadline
  refine .ite ?_ ?_
  · extract_lets v0
    exact State.commitEnd_touch.on rfl (State.capture_touch.on rfl .refl)
  · exact .refl

theorem State.txnTimeout_touch {s : State} :
    Touch { regs := true, shVal := true, shMask := true, cfg := true, dram := true, tel := true } s (State.txnTimeout s) := by
  unfold State.txnTimeout
  exact .ite (State.rollBackErr_touch.on rfl .refl) .refl

theorem State.ownerReset_touch {s : State} {core : ℕ} :
    Touch { regs := true, shVal := true, shMask := true, cfg := true, dram := true, tel := true } s (State.ownerReset s core) := by
  unfold State.ownerReset
  exact .ite (State.rollBackErr_touch.on rfl .refl) .refl

end Sys2Proof.Machine
end

