-- ==== Sys2Proof/Laws/FootWire.lean ====
section
/-! SUPPORT. What each operation of Machine/Wire.lean can touch. -/

namespace Sys2Proof.Machine
open Sys2Proof

theorem State.setConn_touch {s : State} {c : ℕ} {x : Conn} :
    Touch { host := true } s (State.setConn s c x) := by
  unfold State.setConn
  exact .upd_host .refl rfl

theorem State.modConn_touch {s : State} {c : ℕ} {f : Conn → Conn} :
    Touch { host := true } s (State.modConn s c f) := by
  unfold State.modConn
  exact .upd_host .refl rfl

theorem State.freeConn_touch {s : State} {c : ℕ} :
    Touch { host := true } s (State.freeConn s c) := by
  unfold State.freeConn
  exact .upd_host .refl rfl

theorem State.margin_touch {s : State} {it : Item} :
    Touch { tel := true } s (State.margin s it) := by
  unfold State.margin
  refine .ite ?_ ?_
  · exact .refl
  · extract_lets v0 v1 v2 v3 v4 v5
    exact .upd_tel .refl rfl

theorem State.respLeaves_touch {s : State} {f : EgFrame} :
    Touch { cmd := true, tel := true } s (State.respLeaves s f) := by
  unfold State.respLeaves
  refine .ite ?_ ?_
  · exact .refl
  · split
    · rename_i w0 e1
      exact .refl
    · rename_i w2 w3 e4
      extract_lets v5 v6
      refine .step (x := v5) (State.margin_touch.on rfl .refl) fun h7 => ?_
      exact .upd_cmd h7 rfl

theorem State.pushFrame_touch {s : State} {port sub : ℕ} {front : Bool} {f : EgFrame} :
    Touch { host := true, cmd := true, tel := true } s (State.pushFrame s port sub front f) := by
  unfold State.pushFrame
  extract_lets v0 v1 v2
  exact .ite (State.respLeaves_touch.on rfl .refl) (.upd_host .refl rfl)

theorem State.sendFrame_touch {s : State} {port sub : ℕ} :
    Touch { host := true, cmd := true, tel := true } s (State.sendFrame s port sub) := by
  unfold State.sendFrame
  extract_lets v0 v1
  split
  · rename_i w2 e3
    exact .refl
  · rename_i w4 w5 w6 e7
    extract_lets v8
    refine .step (x := v8) (.upd_host .refl rfl) fun h9 => ?_
    exact State.respLeaves_touch.on rfl h9

theorem State.offerMig_touch {s : State} {inst : ℕ} {payload : List Byte} :
    Touch { regs := true, insts := true } s (State.offerMig s inst payload) := by
  unfold State.offerMig
  extract_lets v0 v1
  refine .step (x := v1) (.upd_insts .refl rfl) fun h2 => ?_
  exact .ite (State.raise_touch.on rfl h2) h2

theorem State.offerFor_touch {s : State} {x : Conn} {p : TxPdu} :
    Touch { regs := true, insts := true } s (State.offerFor s x p) := by
  unfold State.offerFor
  exact .ite (State.offerMig_touch.on rfl .refl) .refl

theorem State.rdySent_touch {s : State} {c : ℕ} {p : TxPdu} :
    Touch { cmd := true } s (State.rdySent s c p) := by
  unfold State.rdySent
  refine .ite ?_ ?_
  · exact .refl
  · extract_lets v0 v1
    exact .upd_cmd .refl rfl

theorem State.emit_touch {s : State} {c : ℕ} {x : Conn} {p : TxPdu} {front : Bool} :
    Touch { regs := true, host := true, cmd := true, insts := true, tel := true } s (State.emit s c x p front) := by
  unfold State.emit
  exact State.pushFrame_touch.on rfl (State.rdySent_touch.on rfl (State.offerFor_touch.on rfl .refl))

theorem State.sendSeq_touch {s : State} {c type flags tag : ℕ} {payload : List Byte} {item : optParam ℕ 0} {front : optParam Bool false} {logged : optParam Bool true} :
    Touch { regs := true, host := true, cmd := true, insts := true, tel := true } s (State.sendSeq s c type flags tag payload item front logged) := by
  unfold State.sendSeq
  split
  · rename_i w0 e1
    exact .refl
  · rename_i w2 w3 e4
    refine .ite ?_ ?_
    · exact .refl
    · extract_lets v5 v6 v7
      exact .ite (State.emit_touch.on rfl (State.setConn_touch.on rfl .refl)) (State.setConn_touch.on rfl .refl)

theorem State.sendUnseq_touch {s : State} {c type tag : ℕ} {payload : List Byte} :
    Touch { host := true, cmd := true, tel := true } s (State.sendUnseq s c type tag payload) := by
  unfold State.sendUnseq
  split
  · rename_i w0 e1
    exact .refl
  · rename_i w2 w3 e4
    exact .ite .refl (State.pushFrame_touch.on rfl (State.setConn_touch.on rfl .refl))

theorem State.sendAck_touch {s : State} {c : ℕ} :
    Touch { host := true, cmd := true, tel := true } s (State.sendAck s c) := by
  unfold State.sendAck
  exact State.sendUnseq_touch.on rfl .refl

theorem State.drainWaiting_touch {n : Nat} {s : State} {c : Nat} :
    Touch { regs := true, host := true, cmd := true, insts := true, tel := true } s (State.drainWaiting n s c) := by
  induction n generalizing s with
  | zero => exact .refl
  | succ n ih =>
    rw [State.drainWaiting]
    split
    · exact .refl
    · split
      · exact .refl
      · exact .ite (ih.on rfl (State.emit_touch.on rfl (State.setConn_touch.on rfl .refl))) .refl

theorem State.resend_touch {s : State} {c : ℕ} {p : TxPdu} {extra : ℕ} :
    Touch { regs := true, host := true, cmd := true, insts := true, tel := true } s (State.resend s c p extra) := by
  unfold State.resend
  split
  · rename_i w0 e1
    exact .refl
  · rename_i w2 w3 e4
    extract_lets v5 v6
    exact State.emit_touch.on rfl (State.setConn_touch.on rfl .refl)

theorem State.replyClose_touch {s : State} {p : PduIn} {reason : ℕ} :
    Touch { host := true, cmd := true, tel := true } s (State.replyClose s p reason) := by
  unfold State.replyClose
  exact State.pushFrame_touch.on rfl .refl

theorem State.replyNoConn_touch {s : State} {p : PduIn} :
    Touch { host := true, cmd := true, tel := true } s (State.replyNoConn s p) := by
  unfold State.replyNoConn
  extract_lets v0 v1
  exact .ite .refl (State.replyClose_touch.on rfl (.upd_host .refl rfl))

theorem State.drop_touch {s : State} {port reason : ℕ} :
    Touch { regs := true } s (State.drop s port reason) := by
  unfold State.drop
  refine .ite ?_ ?_
  · exact .refl
  · extract_lets v0 v1 v2
    refine .step (x := v2) (State.count_touch.on rfl .refl) fun h3 => ?_
    exact .ite (State.raise_touch.on rfl h3) h3

end Sys2Proof.Machine
end

