-- ==== Sys2Proof/Laws/FootBuf.lean ====
section
/-! SUPPORT. What each operation of Machine/Buf.lean can touch. -/

namespace Sys2Proof.Machine
open Sys2Proof

theorem State.sramSet_touch {s : State} {a : Nat} {b : Byte} : Touch { buf := true } s (State.sramSet s a b) :=
  { (Touch.refl : Touch { buf := true } s s) with
    buf := nofun
    mem := fun w => by
      simp only [Memory.wf, State.sramSet, Bool.and_eq_true] at w ⊢
      exact ⟨⟨w.1.1, SMap.wf_setD (sramDefault s.buf.laid) s.buf.sram a b w.1.2⟩, w.2⟩ }

theorem State.sramWrite_touch {l : List Byte} {s : State} {a : Nat} : Touch { buf := true } s (State.sramWrite s a l) := by
  induction l generalizing s a with
  | nil => exact .refl
  | cons b l ih => exact ih.on rfl (State.sramSet_touch.on rfl .refl)

theorem State.setListHead_touch {s : State} {p h : ℕ} :
    Touch { buf := true } s (State.setListHead s p h) := by
  unfold State.setListHead
  exact .upd_buf .refl rfl rfl rfl

theorem State.setRec_touch {s : State} {h : ℕ} {r : BufRec} :
    Touch { buf := true } s (State.setRec s h r) := by
  unfold State.setRec
  exact .upd_buf .refl rfl rfl rfl

theorem State.setUse_touch {s : State} {r v : ℕ} :
    Touch { regs := true } s (State.setUse s r v) := by
  unfold State.setUse
  exact State.setFld_touch.on rfl .refl

theorem State.setFree_touch {s : State} {p v : ℕ} :
    Touch { regs := true } s (State.setFree s p v) := by
  unfold State.setFree
  extract_lets v0 v1
  refine .step (x := v0) (State.setFld_touch.on rfl .refl) fun h2 => ?_
  refine .step (x := v1) (.ite (State.setFld_touch.on rfl h2) h2) fun h3 => ?_
  exact .ite (State.raise_touch.on rfl h3) h3

theorem State.misuse_touch {s : State} {code ap r h : ℕ} :
    Touch { regs := true, dram := true, tel := true } s (State.misuse s code ap r h) := by
  unfold State.misuse
  extract_lets v0 v1 v2 v3
  refine .step (x := v1) (State.count_touch.on rfl .refl) fun h4 => ?_
  refine .step (x := v2) (State.fault_touch.on rfl h4) fun h5 => ?_
  refine .step (x := v3) (.ite h5 (State.setReg_touch.on rfl h5)) fun h6 => ?_
  exact State.raise_touch.on rfl h6

theorem State.linkFault_touch {s : State} {code ap p : ℕ} :
    Touch { regs := true, dram := true, tel := true } s (State.linkFault s code ap p) := by
  unfold State.linkFault
  exact State.fault_touch.on rfl (State.count_touch.on rfl .refl)

theorem State.startRebuild_touch {s : State} {p : ℕ} :
    Touch { regs := true } s (State.startRebuild s p) := by
  unfold State.startRebuild
  exact State.raise_touch.on rfl (State.setFld_touch.on rfl .refl)

theorem State.cycleOn_touch {s : State} {q : BufReq} :
    Touch { buf := true } s (State.cycleOn s q) := by
  unfold State.cycleOn
  extract_lets v0
  exact .upd_buf .refl rfl rfl rfl

theorem State.result_touch {s : State} {q : BufReq} {r : AllocRes} :
    Touch { buf := true } s (State.result s q r) := by
  unfold State.result
  extract_lets v0 v1 v2
  exact .upd_buf .refl rfl rfl rfl

theorem State.take_touch {s : State} {p : ℕ} {q : BufReq} {booked : Bool} :
    Touch { regs := true, buf := true, dram := true, tel := true } s (State.take s p q booked).1 := by
  unfold State.take
  extract_lets v0 v1 v2 v3 v4 v5 v6 v7
  refine .step (x := v4) (State.setFree_touch.on rfl (State.setListHead_touch.on rfl .refl)) fun h8 => ?_
  refine .step (x := v5) (State.setRec_touch.on rfl h8) fun h9 => ?_
  refine .step (x := v6) (State.setUse_touch.on rfl h9) fun h10 => ?_
  refine .step (x := v7) (.ite (State.setFld_touch.on rfl h10) h10) fun h11 => ?_
  split
  · rename_i e12
    exact h11
  · rename_i e13
    exact State.startRebuild_touch.on rfl (State.linkFault_touch.on rfl .refl)

theorem State.allocLoop_touch {p : Nat} {q : BufReq} {fb : Bool} {n : Nat} {s : State} {i : Nat} :
    Touch { regs := true, buf := true, dram := true, tel := true } s (State.allocLoop p q fb n s i).1 := by
  induction n generalizing s i with
  | zero => exact .refl
  | succ n ih =>
    rw [State.allocLoop]
    extract_lets u
    split
    · split
      · exact .refl
      · split
        · split
          · next e => exact .fst e (State.take_touch.on rfl .refl)
          · next e =>
            have h := Touch.fst e (State.take_touch.on rfl (.refl (f := { regs := true, buf := true, dram := true, tel := true })))
            dsimp only
            split
            · exact h
            · exact ih.on rfl h
        · exact .refl
    · dsimp only
      split
      · exact .refl
      · exact ih

theorem State.reject_touch {s : State} {code : ℕ} {q : BufReq} {h : ℕ} :
    Touch { regs := true, buf := true, dram := true, tel := true } s (State.reject s code q h) := by
  unfold State.reject
  exact State.result_touch.on rfl (State.misuse_touch.on rfl .refl)

theorem State.answerEmpty_touch {s : State} {q : BufReq} :
    Touch { regs := true, buf := true } s (State.answerEmpty s q) := by
  unfold State.answerEmpty
  exact State.result_touch.on rfl (State.count_touch.on rfl .refl)

theorem State.answerQuota_touch {s : State} {q : BufReq} :
    Touch { regs := true, buf := true } s (State.answerQuota s q) := by
  unfold State.answerQuota
  exact State.result_touch.on rfl (State.count_touch.on rfl .refl)

theorem State.zeroBuf_touch {s : State} {ap h : ℕ} :
    Touch { buf := true } s (State.zeroBuf s ap h) := by
  unfold State.zeroBuf
  exact .ite (State.sramWrite_touch.on rfl .refl) .refl

theorem State.cellHeader_touch {s : State} {h next flags : ℕ} :
    Touch { buf := true } s (State.cellHeader s h next flags) := by
  unfold State.cellHeader
  exact State.sramWrite_touch.on rfl (State.sramWrite_touch.on rfl .refl)

theorem State.joinList_touch {s : State} {h : ℕ} :
    Touch { regs := true, buf := true } s (State.joinList s h) := by
  unfold State.joinList
  extract_lets v0
  exact .ite .refl (State.setFree_touch.on rfl (State.setListHead_touch.on rfl (State.sramWrite_touch.on rfl .refl)))

theorem State.leaveList_touch {s : State} {h : ℕ} :
    Touch { regs := true, buf := true } s (State.leaveList s h) := by
  unfold State.leaveList
  extract_lets v0
  exact .ite .refl (State.setFld_touch.on rfl (State.setListHead_touch.on rfl .refl))

theorem State.inCycle_touch {s : State} {f : State → State}
    (hf : ∀ x, Touch { regs := true, buf := true, dram := true, tel := true } x (f x)) :
    Touch { regs := true, buf := true, dram := true, tel := true } s (State.inCycle s f) := by
  unfold State.inCycle
  exact .foldl (fun _ _ h => State.joinList_touch.on rfl h)
    ((hf _).on rfl (.foldl (fun _ _ h => State.leaveList_touch.on rfl h) .refl))

theorem State.stageBuf_touch {s : State} {q : BufReq} {h : ℕ} :
    Touch { buf := true } s (State.stageBuf s q h) := by
  unfold State.stageBuf
  extract_lets v0 v1
  refine .ite ?_ ?_
  · exact .refl
  · split
    · rename_i w2 w3 w4 e5
      exact .upd_buf .refl rfl rfl rfl

theorem State.allocated_touch {s : State} {q : BufReq} {p h : ℕ} {chain : Bool} :
    Touch { regs := true, buf := true } s (State.allocated s q p h chain) := by
  unfold State.allocated
  extract_lets v0 v1 v2 v3
  refine .step (x := v0) (.ite (State.count_touch.on rfl .refl) .refl) fun h4 => ?_
  refine .step (x := v1) (State.stageBuf_touch.on rfl (State.zeroBuf_touch.on rfl h4)) fun h5 => ?_
  refine .step (x := v3) (.ite (State.cellHeader_touch.on rfl (State.setRec_touch.on rfl h5)) h5) fun h6 => ?_
  exact State.result_touch.on rfl h6

theorem State.alloc_touch {s : State} {q : BufReq} {p : ℕ} {booked fb chain : Bool} :
    Touch { regs := true, buf := true, dram := true, tel := true } s (State.alloc s q p booked fb chain) := by
  unfold State.alloc
  refine .ite ?_ ?_
  · exact State.reject_touch.on rfl .refl
  · refine .ite ?_ ?_
    · exact State.answerEmpty_touch.on rfl .refl
    · refine .ite ?_ ?_
      · refine .ite ?_ ?_
        · exact State.result_touch.on rfl .refl
        · split
          · rename_i w0 w1 w2 e3
            refine .step (x := w1) (.fst e3 (State.take_touch.on rfl .refl)) fun h4 => ?_
            exact State.allocated_touch.on rfl h4
          · rename_i w5 w6 e7
            refine .step (x := w6) (.fst e7 (State.take_touch.on rfl .refl)) fun h8 => ?_
            exact State.result_touch.on rfl h8
      · split
        · rename_i w9 w10 e11
          refine .step (x := w10) (.fst e11 (State.allocLoop_touch.on rfl .refl)) fun h12 => ?_
          exact State.answerQuota_touch.on rfl h12
        · rename_i w13 w14 e15
          refine .step (x := w14) (.fst e15 (State.allocLoop_touch.on rfl .refl)) fun h16 => ?_
          exact State.answerEmpty_touch.on rfl h16
        · rename_i w17 w18 w19 e20
          refine .step (x := w18) (.fst e20 (State.allocLoop_touch.on rfl .refl)) fun h21 => ?_
          exact State.allocated_touch.on rfl h21

theorem State.cell_touch {s : State} {q : BufReq} {t : ℕ} :
    Touch { regs := true, buf := true, dram := true, tel := true } s (State.cell s q t) := by
  unfold State.cell
  refine .ite ?_ ?_
  · exact State.reject_touch.on rfl .refl
  · refine .ite ?_ ?_
    · exact State.reject_touch.on rfl .refl
    · extract_lets v0
      refine .ite ?_ ?_
      · exact State.reject_touch.on rfl .refl
      · refine .ite ?_ ?_
        · exact State.answerEmpty_touch.on rfl .refl
        · split
          · rename_i w1 w2 e3
            refine .step (x := w2) (.fst e3 (State.allocLoop_touch.on rfl .refl)) fun h4 => ?_
            exact State.answerQuota_touch.on rfl h4
          · rename_i w5 w6 e7
            refine .step (x := w6) (.fst e7 (State.allocLoop_touch.on rfl .refl)) fun h8 => ?_
            exact State.answerEmpty_touch.on rfl h8
          · rename_i w9 w10 w11 e12
            refine .step (x := w10) (.fst e12 (State.allocLoop_touch.on rfl .refl)) fun h13 => ?_
            extract_lets v14 v15 v16 v17
            refine .step (x := v14) (State.setRec_touch.on rfl h13) fun h18 => ?_
            refine .step (x := v16) (State.setRec_touch.on rfl h18) fun h19 => ?_
            refine .step (x := v17) (State.cellHeader_touch.on rfl (State.zeroBuf_touch.on rfl h19)) fun h20 => ?_
            exact State.result_touch.on rfl (State.cellHeader_touch.on rfl h20)

theorem State.hitch_touch {s : State} {q : BufReq} {h b : ℕ} :
    Touch { regs := true, buf := true, dram := true, tel := true } s (State.hitch s q h b) := by
  unfold State.hitch
  refine .ite ?_ ?_
  · exact State.reject_touch.on rfl .refl
  · refine .ite ?_ ?_
    · exact State.reject_touch.on rfl .refl
    · refine .ite ?_ ?_
      · exact State.reject_touch.on rfl .refl
      · refine .ite ?_ ?_
        · exact State.reject_touch.on rfl .refl
        · split
          · rename_i w0 e1
            exact State.reject_touch.on rfl .refl
          · rename_i w2 w3 e4
            exact State.result_touch.on rfl (State.setRec_touch.on rfl .refl)

theorem State.uncharge_touch {s : State} {h : ℕ} :
    Touch { regs := true } s (State.uncharge s h) := by
  unfold State.uncharge
  extract_lets v0 v1 v2
  refine .step (x := v2) (.ite .refl (State.setUse_touch.on rfl .refl)) fun h3 => ?_
  exact .ite (State.setFld_touch.on rfl h3) h3

theorem State.giveBack_touch {s : State} {h : ℕ} :
    Touch { regs := true, buf := true } s (State.giveBack s h) := by
  unfold State.giveBack
  extract_lets v0 v1
  refine .step (x := v0) (State.setRec_touch.on rfl (State.uncharge_touch.on rfl .refl)) fun h2 => ?_
  exact State.joinList_touch.on rfl (.ite h2 (.upd_buf h2 rfl rfl rfl))

theorem State.walkChain_touch {hd ap n : Nat} {s : State} {h : Nat} :
    Touch { regs := true, buf := true, dram := true, tel := true } s (State.walkChain hd ap n s h) := by
  induction n generalizing s h with
  | zero => exact .refl
  | succ n ih =>
    rw [State.walkChain]
    refine .step (x := s.giveBack h) (State.giveBack_touch.on rfl .refl) fun h1 => ?_
    exact .ite h1 (.ite (ih.on rfl h1) (State.startRebuild_touch.on rfl (State.linkFault_touch.on rfl h1)))

theorem State.unstageBuf_touch {s : State} {n h : ℕ} :
    Touch { buf := true } s (State.unstageBuf s n h) := by
  unfold State.unstageBuf
  extract_lets v0
  exact .upd_buf .refl rfl rfl rfl

theorem State.emptySlot_touch {s : State} {ap h k : ℕ} :
    Touch { regs := true, buf := true, dram := true, tel := true } s (State.emptySlot s ap h k) := by
  unfold State.emptySlot
  extract_lets v0 v1 v2 v3 v4 v5 v6
  refine .step (x := v2) (State.unstageBuf_touch.on rfl .refl) fun h7 => ?_
  refine .step (x := v6) (State.setUse_touch.on rfl h7) fun h8 => ?_
  exact .ite (.ite (State.setRec_touch.on rfl (State.setUse_touch.on rfl h8)) (State.setRec_touch.on rfl h7)) (.ite (State.walkChain_touch.on rfl (State.setRec_touch.on rfl h7)) (State.giveBack_touch.on rfl (State.setRec_touch.on rfl h7)))

theorem State.freeBuf_touch {s : State} {q : BufReq} {h : ℕ} :
    Touch { regs := true, buf := true, dram := true, tel := true } s (State.freeBuf s q h) := by
  unfold State.freeBuf
  refine .ite ?_ ?_
  · exact State.reject_touch.on rfl .refl
  · extract_lets v0
    refine .ite ?_ ?_
    · exact State.reject_touch.on rfl .refl
    · refine .ite ?_ ?_
      · exact State.reject_touch.on rfl .refl
      · split
        · rename_i w1 e2
          exact State.reject_touch.on rfl .refl
        · rename_i w3 w4 e5
          exact State.result_touch.on rfl (State.emptySlot_touch.on rfl .refl)

theorem State.freeHitches_touch {s : State} {n : ℕ} :
    Touch { regs := true, buf := true, dram := true, tel := true } s (State.freeHitches s n) := by
  unfold State.freeHitches
  extract_lets v0 v1
  refine .step (x := v0) (.foldl (fun x3 y4 h5 => (State.emptySlot_touch.on rfl h5)) .refl) fun h2 => ?_
  exact .upd_buf h2 rfl rfl rfl

theorem State.landGrain_touch {s : State} {n nth : ℕ} {data : List Byte} :
    Touch { buf := true } s (State.landGrain s n nth data) := by
  unfold State.landGrain
  split
  · rename_i w0 e1
    exact .refl
  · rename_i w2 w3 e4
    exact State.sramWrite_touch.on rfl .refl

theorem State.landData_touch {s : State} {n o : ℕ} {data : List Byte} :
    Touch { buf := true } s (State.landData s n o data) := by
  unfold State.landData
  refine .foldl (fun x3 y4 h5 => ?_) ?_
  · extract_lets v6 v7
    exact .ite (State.sramWrite_touch.on rfl h5) h5
  · exact .refl

theorem State.thread_touch {s : State} {l : List ℕ} :
    Touch { buf := true } s (State.thread s l) := by
  unfold State.thread
  exact .foldl (fun x0 y1 h2 => (State.sramWrite_touch.on rfl h2)) .refl

theorem State.rebuilt_touch {s : State} {p : ℕ} :
    Touch { regs := true, buf := true } s (State.rebuilt s p) := by
  unfold State.rebuilt
  refine .ite ?_ ?_
  · exact .refl
  · extract_lets v0 v1 v2 v3
    refine .step (x := v1) (.foldl (fun x5 y6 h7 => (.ite h7 (State.setRec_touch.on rfl (State.uncharge_touch.on rfl h7)))) .refl) fun h4 => ?_
    refine .step (x := v2) (State.setListHead_touch.on rfl (State.thread_touch.on rfl h4)) fun h8 => ?_
    exact State.setFld_touch.on rfl (State.setFree_touch.on rfl (.upd_buf h8 rfl rfl rfl))

/-- A new layout keeps what SRAM holds listed, but for the link bytes it builds. -/
theorem State.relaid_touch {s : State} {cs : List Nat} {f : BufSt}
    (hf : f = { s.buf with laid := cs :: s.buf.laid, head := [], recs := [], cyc := [], stage := [],
                           sram := s.buf.sram.filter fun e => (builtLink cs e.1).isNone }) :
    Touch { buf := true } s { s with buf := f } :=
  { (Touch.refl : Touch { buf := true } s s) with
    buf := nofun
    mem := fun w => by
      subst hf
      simp only [Memory.wf, Bool.and_eq_true, SMap.wf_iff] at w ⊢
      refine ⟨⟨w.1.1, w.1.2.1.filter _, fun e he => ?_⟩, w.2⟩
      have h := List.mem_filter.1 he
      have hn : builtLink cs e.1 = none := Option.isNone_iff_eq_none.1 h.2
      simpa [sramDefault, hn] using w.1.2.2 e h.1 }

theorem State.layOut_touch {s : State} {cs : List Nat} : Touch { regs := true, buf := true } s (State.layOut s cs) := by
  unfold State.layOut
  extract_lets v0 v1 v2 v3
  refine .step (x := v0) (.foldl (fun x5 y6 h7 => (State.uncharge_touch.on rfl h7)) .refl) fun h4 => ?_
  refine .step (x := v3) ((State.relaid_touch rfl).on rfl h4) fun h8 => ?_
  exact .foldl (fun x9 y10 h11 => (State.startRebuild_touch.on rfl (State.setFree_touch.on rfl (State.setFld_touch.on rfl h11)))) h8

theorem State.clearLows_touch {s : State} :
    Touch { regs := true } s (State.clearLows s) := by
  unfold State.clearLows
  exact .foldl (fun x0 y1 h2 => (State.setFld_touch.on rfl h2)) .refl

end Sys2Proof.Machine
end

