-- ==== Sys2Proof/Laws/FootItem.lean ====
section
/-! SUPPORT. What each operation of Machine/Item.lean can touch. -/

namespace Sys2Proof.Machine
open Sys2Proof

theorem State.setItem_touch {s : State} {n : ℕ} {it : Item} :
    Touch { cmd := true } s (State.setItem s n it) := by
  unfold State.setItem
  exact .upd_cmd .refl rfl

theorem State.modItem_touch {s : State} {n : ℕ} {f : Item → Item} :
    Touch { cmd := true } s (State.modItem s n f) := by
  unfold State.modItem
  exact .upd_cmd .refl rfl

theorem State.mapItems_touch {s : State} {f : ℕ → Item → Item} :
    Touch { cmd := true } s (State.mapItems s f) := by
  unfold State.mapItems
  exact .upd_cmd .refl rfl

theorem State.delItem_touch {s : State} {n : ℕ} :
    Touch { cmd := true } s (State.delItem s n) := by
  unfold State.delItem
  exact .upd_cmd .refl rfl

theorem State.setInst_touch {s : State} {i : ℕ} {x : InstSt} :
    Touch { insts := true } s (State.setInst s i x) := by
  unfold State.setInst
  exact .upd_insts .refl rfl

theorem State.modInst_touch {s : State} {i : ℕ} {f : InstSt → InstSt} :
    Touch { insts := true } s (State.modInst s i f) := by
  unfold State.modInst
  exact State.setInst_touch.on rfl .refl

theorem State.deferredError_touch {s : State} {i origin status blocks firstLba asn : ℕ} :
    Touch { host := true, insts := true } s (State.deferredError s i origin status blocks firstLba asn) := by
  unfold State.deferredError
  extract_lets v0 v1
  exact .ite (State.setInst_touch.on rfl .refl) (State.async_touch.on rfl (State.setInst_touch.on rfl .refl))

theorem State.logOutcome_touch {s : State} {it : Item} {status : ℕ} :
    Touch { insts := true } s (State.logOutcome s it status) := by
  unfold State.logOutcome
  extract_lets v0
  exact .ite (State.setInst_touch.on rfl .refl) (State.setInst_touch.on rfl .refl)

theorem State.unstage_touch {s : State} {inst asn : ℕ} {p : ℕ → Bool} :
    Touch { cmd := true } s (State.unstage s inst asn p) := by
  unfold State.unstage
  exact State.mapItems_touch.on rfl .refl

theorem State.dropBookings_touch {s : State} {n : ℕ} {keep : Bool} :
    Touch { cad := true } s (State.dropBookings s n keep) := by
  unfold State.dropBookings
  exact .upd_cad .refl rfl rfl

theorem State.endCreate_touch {s : State} {it : Item} :
    Touch { insts := true } s (State.endCreate s it) := by
  unfold State.endCreate
  extract_lets v0
  exact .ite .refl (State.setInst_touch.on rfl .refl)

theorem State.releaseItem_touch {s : State} {n : ℕ} {keep : optParam Bool false} :
    Touch { regs := true, cmd := true, cad := true, insts := true, flash := true, buf := true, dram := true, knot := true, tel := true } s (State.releaseItem s n keep) := by
  unfold State.releaseItem
  split
  · rename_i w0 e1
    exact .refl
  · rename_i w2 w3 e4
    extract_lets v5 v6 v7 v8 v9 v10
    refine .step (x := v5) (State.freeHitches_touch.on rfl (State.endCreate_touch.on rfl (State.dropBookings_touch.on rfl .refl))) fun h11 => ?_
    refine .step (x := v8) (.upd_flash_knot h11 rfl rfl) fun h12 => ?_
    refine .step (x := v10) (.ite (State.setFld_touch.on rfl h12) h12) fun h13 => ?_
    exact State.modItem_touch.on rfl h13

theorem State.countDone_touch {s : State} {it : Item} :
    Touch { regs := true } s (State.countDone s it) := by
  unfold State.countDone
  exact .ite (State.count_touch.on rfl .refl) (.ite (State.count_touch.on rfl .refl) .refl)

theorem State.sendAbortResp_touch {s : State} {c tag outcome : ℕ} {item : optParam ℕ 0} :
    Touch { regs := true, host := true, cmd := true, insts := true, tel := true } s (State.sendAbortResp s c tag outcome item) := by
  unfold State.sendAbortResp
  exact State.sendSeq_touch.on rfl .refl

theorem State.answerAborts_touch {n : Nat} {s : State} {c tag outcome : Nat} :
    Touch { regs := true, host := true, cmd := true, insts := true, tel := true } s (State.answerAborts n s c tag outcome) := by
  induction n generalizing s with
  | zero => exact .refl
  | succ n ih => exact ih.on rfl (State.sendAbortResp_touch.on rfl .refl)

theorem State.commitResp_touch {s : State} {n status : ℕ} {result : List Byte} {front : optParam Bool false} :
    Touch { regs := true, host := true, cmd := true, cad := true, insts := true, flash := true, buf := true, dram := true, knot := true, tel := true } s (State.commitResp s n status result front) := by
  unfold State.commitResp
  split
  · rename_i w0 e1
    exact .refl
  · rename_i w2 w3 e4
    extract_lets v5 v6
    refine .step (x := v5) (State.countDone_touch.on rfl (State.releaseItem_touch.on rfl .refl)) fun h7 => ?_
    refine .step (x := v6) (State.modItem_touch.on rfl h7) fun h8 => ?_
    exact .ite (State.delItem_touch.on rfl (State.logOutcome_touch.on rfl h7)) (State.sendSeq_touch.on rfl h8)

theorem State.refuseItem_touch {s : State} {n status : ℕ} :
    Touch { regs := true, host := true, cmd := true, cad := true, insts := true, flash := true, buf := true, dram := true, knot := true, tel := true } s (State.refuseItem s n status) := by
  unfold State.refuseItem
  split
  · rename_i w0 e1
    exact .refl
  · rename_i w2 w3 e4
    extract_lets v5 v6 v7
    refine .step (x := v5) (State.releaseItem_touch.on rfl .refl) fun h8 => ?_
    refine .step (x := v6) (State.modItem_touch.on rfl h8) fun h9 => ?_
    refine .step (x := v7) (State.sendSeq_touch.on rfl h9) fun h10 => ?_
    exact .ite (State.delItem_touch.on rfl (State.logOutcome_touch.on rfl h8)) (State.answerAborts_touch.on rfl h10)

theorem State.commitAborted_touch {s : State} {n : ℕ} :
    Touch { regs := true, host := true, cmd := true, cad := true, insts := true, flash := true, buf := true, dram := true, knot := true, tel := true } s (State.commitAborted s n) := by
  unfold State.commitAborted
  split
  · rename_i w0 e1
    exact .refl
  · rename_i w2 w3 e4
    extract_lets v5 v6 v7
    refine .step (x := v5) (State.countDone_touch.on rfl (State.releaseItem_touch.on rfl .refl)) fun h8 => ?_
    refine .step (x := v6) (State.modItem_touch.on rfl h8) fun h9 => ?_
    refine .step (x := v7) (State.sendAbortResp_touch.on rfl h9) fun h10 => ?_
    exact .ite (State.delItem_touch.on rfl (State.logOutcome_touch.on rfl h8)) (State.answerAborts_touch.on rfl h10)

theorem State.refuse_touch {s : State} {it : Item} {status : ℕ} :
    Touch { regs := true, host := true, cmd := true, insts := true, tel := true } s (State.refuse s it status) := by
  unfold State.refuse
  extract_lets v0 v1 v2
  refine .step (x := v2) (State.setItem_touch.on rfl (.upd_cmd .refl rfl)) fun h3 => ?_
  exact State.sendSeq_touch.on rfl h3

theorem State.finish_touch {s : State} {n status : ℕ} {result : optParam (List Byte) []} :
    Touch { cmd := true } s (State.finish s n status result) := by
  unfold State.finish
  exact State.modItem_touch.on rfl .refl

theorem State.reportAcked_touch {s : State} {item : ℕ} :
    Touch { cmd := true } s (State.reportAcked s item) := by
  unfold State.reportAcked
  exact .ite .refl (State.delItem_touch.on rfl .refl)

end Sys2Proof.Machine
end

