-- ==== Sys2Proof/Laws/FootDram.lean ====
section
/-! SUPPORT. What each operation of Machine/Dram.lean can touch. -/

namespace Sys2Proof.Machine
open Sys2Proof

theorem State.draw_touch {s : State} :
    Touch { otp := true } s (State.draw s).2 := by
  unfold State.draw
  exact .upd_otp .refl rfl rfl

theorem State.setChan_touch {s : State} {c : ℕ} {x : Chan} :
    Touch { dram := true } s (State.setChan s c x) := by
  unfold State.setChan
  exact .upd_dram .refl rfl rfl

theorem State.setPoison_touch {s : State} {burst : ℕ} {b : Bool} :
    Touch { dram := true } s (State.setPoison s burst b) := by
  unfold State.setPoison
  exact .upd_dram .refl rfl rfl

theorem State.dramWrite_touch {s : State} {a : Nat} {data : List Byte} : Touch { dram := true } s (State.dramWrite s a data) := by
  unfold State.dramWrite
  refine Touch.refl.wipe_dram rfl fun w => ?_
  simp only [Memory.wf, Bool.and_eq_true] at w ⊢
  refine ⟨⟨?_, w.1.2⟩, w.2⟩
  have key : ∀ (l : List (Byte × Nat)) (m : SMap Byte), SMap.wf (fun _ => 0) m = true → SMap.wf (fun _ => 0)
      (l.foldl (fun m e => if s.dramFaulty (a + e.2) then m else SMap.setD 0 m (a + e.2) e.1) m) = true := by
    intro l
    induction l with
    | nil => exact fun m h => h
    | cons e l ih =>
      intro m h
      refine ih _ ?_
      dsimp only
      split
      · exact h
      · exact SMap.wf_setD (fun _ => 0) m _ _ h
  exact key _ _ w.1.1

theorem State.openRow_touch {s : State} {c a : ℕ} :
    Touch { regs := true, dram := true, otp := true } s (State.openRow s c a) := by
  unfold State.openRow
  extract_lets v0 v1 v2
  refine .step (x := v2) (State.setChan_touch.on rfl .refl) fun h3 => ?_
  refine .ite ?_ ?_
  · exact .refl
  · split
    · rename_i w4 w5 w6 e7
      refine .step (x := w6) (.snd e7 (State.draw_touch.on rfl h3)) fun h8 => ?_
      exact .ite (State.count_touch.on rfl h8) h8

theorem State.remember_touch {s : State} {c burst : ℕ} :
    Touch { dram := true } s (State.remember s c burst) := by
  unfold State.remember
  extract_lets v0
  exact State.setChan_touch.on rfl .refl

theorem State.dramOut_touch {s : State} {port : ℕ} {obj : DramObj} {d : DOut} :
    Touch { dram := true } s (State.dramOut s port obj d) := by
  unfold State.dramOut
  exact .upd_dram .refl rfl rfl

theorem State.eccRead_touch {s : State} {c port burst ecc : ℕ} {wasPoisoned : Bool} :
    Touch { regs := true, dram := true, tel := true } s (State.eccRead s c port burst ecc wasPoisoned).1 := by
  unfold State.eccRead
  extract_lets v0 v1 v2 v3 v4 v5
  refine .step (x := v2) (.ite .refl (State.setPoison_touch.on rfl .refl)) fun h6 => ?_
  refine .step (x := v3) (State.setChan_touch.on rfl h6) fun h7 => ?_
  refine .step (x := v4) (State.count_touch.on rfl h7) fun h8 => ?_
  refine .step (x := v5) (State.setReg_touch.on rfl (State.setReg_touch.on rfl h8)) fun h9 => ?_
  split
  · rename_i e10
    exact .refl
  · rename_i e11
    split
    · rename_i e12
      exact State.count_touch.on rfl .refl
    · rename_i e13
      split
      · rename_i e14
        exact State.raise_touch.on rfl (State.fault_touch.on rfl h9)
      · rename_i e15
        split
        · rename_i e16
          exact State.count_touch.on rfl .refl
        · rename_i e17
          exact .refl

theorem State.serveRead_touch {s : State} {c : ℕ} {q : DReq} :
    Touch { regs := true, dram := true, otp := true, tel := true } s (State.serveRead s c q) := by
  unfold State.serveRead
  extract_lets v0
  refine .step (x := v0) (State.remember_touch.on rfl (State.openRow_touch.on rfl .refl)) fun h1 => ?_
  split
  · rename_i w2 w3 w4 e5
    refine .step (x := w3) (.fst e5 (State.eccRead_touch.on rfl h1)) fun h6 => ?_
    exact State.dramOut_touch.on rfl h6

theorem State.forward_touch {s : State} {q : DReq} :
    Touch { dram := true } s (State.forward s q) := by
  unfold State.forward
  exact State.dramOut_touch.on rfl .refl

theorem State.serveWrite_touch {s : State} {c : ℕ} {q : DReq} :
    Touch { regs := true, dram := true, otp := true, tel := true } s (State.serveWrite s c q) := by
  unfold State.serveWrite
  extract_lets v0 v1 v2 v3
  refine .step (x := v0) (State.remember_touch.on rfl (State.openRow_touch.on rfl .refl)) fun h4 => ?_
  refine .step (x := v1) (.ite h4 (State.eccRead_touch.on rfl h4)) fun h5 => ?_
  exact .foldl (fun x6 y7 h8 => (State.forward_touch.on rfl h8)) (State.setChan_touch.on rfl h5)

theorem State.refreshTo_touch {s : State} {c r debt : ℕ} :
    Touch { dram := true } s (State.refreshTo s c r debt) := by
  unfold State.refreshTo
  extract_lets v0 v1
  exact State.setChan_touch.on rfl .refl

theorem State.idleRefresh_touch {s : State} {c : ℕ} :
    Touch { dram := true } s (State.idleRefresh s c) := by
  unfold State.idleRefresh
  refine .foldl (fun x3 y4 h5 => ?_) ?_
  · extract_lets v6
    exact .ite (State.refreshTo_touch.on rfl h5) h5
  · exact .refl

theorem State.serveChan_touch {n : Nat} {s : State} {c : Nat} : Touch { regs := true, dram := true, otp := true, tel := true } s (State.serveChan s c n) := by
  induction n generalizing s with
  | zero => exact .refl
  | succ n ih =>
    rw [State.serveChan]
    split
    · exact .refl
    · split
      · exact State.idleRefresh_touch.on rfl .refl
      · refine ih.on rfl (State.idleRefresh_touch.on rfl ?_)
        exact .ite (State.serveWrite_touch.on rfl (State.setChan_touch.on rfl .refl))
          (State.serveRead_touch.on rfl (State.setChan_touch.on rfl .refl))

theorem State.serveAll_touch {s : State} {c : ℕ} :
    Touch { regs := true, dram := true, otp := true, tel := true } s (State.serveAll s c) := by
  unfold State.serveAll
  exact State.serveChan_touch.on rfl .refl

theorem State.wakeRank_touch {s : State} {c r : ℕ} :
    Touch { regs := true, dram := true } s (State.wakeRank s c r) := by
  unfold State.wakeRank
  extract_lets v0 v1 v2
  split
  · rename_i w3 e4
    exact State.count_touch.on rfl (State.setChan_touch.on rfl .refl)
  · rename_i w5 e6
    exact State.setChan_touch.on rfl .refl
  · rename_i w7 e8 e9
    exact State.setChan_touch.on rfl .refl

theorem State.dramReadReq_touch {s : State} {port a ecc : ℕ} {obj : DramObj} {slots : ℕ} :
    Touch { regs := true, dram := true, otp := true, tel := true } s (State.dramReadReq s port a ecc obj slots) := by
  unfold State.dramReadReq
  split
  · rename_i w0 w1 w2 e3
    extract_lets v4 v5 v6 v7 v8 v9 v10
    refine .step (x := v6) (State.wakeRank_touch.on rfl .refl) fun h11 => ?_
    refine .step (x := v10) ?_ fun h12 => ?_
    · unfold v10
      split
      · rename_i w13 w14 e15
        exact .ite (State.count_touch.on rfl (State.forward_touch.on rfl h11)) (State.setChan_touch.on rfl h11)
      · rename_i w16 e17
        exact State.setChan_touch.on rfl h11
    exact .ite (State.dramOut_touch.on rfl .refl) (State.serveChan_touch.on rfl h12)

theorem State.dramWriteReq_touch {s : State} {port a : ℕ} {data : List Byte} {ecc slots : ℕ} :
    Touch { regs := true, dram := true, otp := true, tel := true } s (State.dramWriteReq s port a data ecc slots) := by
  unfold State.dramWriteReq
  split
  · rename_i w0 w1 w2 e3
    extract_lets v4 v5 v6 v7 v8 v9 v10 v11
    refine .step (x := v7) (State.wakeRank_touch.on rfl .refl) fun h12 => ?_
    refine .step (x := v9) (State.dramWrite_touch.on rfl h12) fun h13 => ?_
    exact .ite .refl (.ite (State.dramOut_touch.on rfl .refl) (State.serveChan_touch.on rfl (State.setChan_touch.on rfl h13)))

theorem State.refreshTick_touch {s : State} {c r : ℕ} :
    Touch { regs := true, dram := true } s (State.refreshTick s c r) := by
  unfold State.refreshTick
  extract_lets v0 v1 v2 v3
  refine .step (x := v3) (State.refreshTo_touch.on rfl .refl) fun h4 => ?_
  exact .ite .refl (.ite (State.setChan_touch.on rfl .refl) (.ite (.ite (State.count_touch.on rfl h4) h4) (.ite (State.count_touch.on rfl (State.refreshTo_touch.on rfl .refl)) (.ite (State.refreshTo_touch.on rfl .refl) (State.setChan_touch.on rfl .refl)))))

theorem State.srEnter_touch {s : State} {c r : ℕ} :
    Touch { dram := true } s (State.srEnter s c r) := by
  unfold State.srEnter
  extract_lets v0 v1
  exact .ite (State.setChan_touch.on rfl .refl) .refl

theorem State.srDrained_touch {s : State} {c r : ℕ} :
    Touch { regs := true, dram := true } s (State.srDrained s c r) := by
  unfold State.srDrained
  extract_lets v0 v1 v2
  exact .ite (State.count_touch.on rfl (State.setChan_touch.on rfl .refl)) .refl

theorem State.srExit_touch {s : State} {c r : ℕ} :
    Touch { regs := true, dram := true, otp := true, tel := true } s (State.srExit s c r) := by
  unfold State.srExit
  extract_lets v0 v1
  exact .ite (State.serveAll_touch.on rfl (State.setChan_touch.on rfl .refl)) .refl

theorem State.dramAlert_touch {s : State} {c : ℕ} :
    Touch { regs := true, dram := true } s (State.dramAlert s c) := by
  unfold State.dramAlert
  refine .ite ?_ ?_
  · exact .refl
  · extract_lets v0
    exact State.raise_touch.on rfl (State.count_touch.on rfl (State.setChan_touch.on rfl .refl))

theorem State.chanDead_touch {s : State} {c : ℕ} :
    Touch { regs := true, host := true, dram := true, tel := true } s (State.chanDead s c) := by
  unfold State.chanDead
  extract_lets v0 v1 v2 v3 v4
  refine .step (x := v0) (State.setFld_touch.on rfl .refl) fun h5 => ?_
  refine .step (x := v1) (State.raise_touch.on rfl (State.fault_touch.on rfl h5)) fun h6 => ?_
  refine .step (x := v3) (State.setChan_touch.on rfl h6) fun h7 => ?_
  refine .step (x := v4) (State.raise_touch.on rfl (State.setFld_touch.on rfl h7)) fun h8 => ?_
  exact State.async_touch.on rfl h8

theorem State.setLanes_touch {s : State} {c : ℕ} {d : DimmIn} :
    Touch { regs := true } s (State.setLanes s c d) := by
  unfold State.setLanes
  exact .foldl (fun x0 y1 h2 => (.ite (State.setReg_touch.on rfl h2) h2)) .refl

theorem State.dramTrained_touch {s : State} {dimms : List DimmIn} :
    Touch { regs := true, dram := true, tel := true } s (State.dramTrained s dimms) := by
  unfold State.dramTrained
  extract_lets v0 v1 v2 v3 v4 v5 v6 v7 v8 v9
  refine .step (x := v6) ?_ fun h10 => ?_
  · unfold v6
    refine .foldl (fun x17 y18 h19 => ?_) ?_
    · extract_lets v20 v21 v22 v23
      refine .step (x := v22) (State.setLanes_touch.on rfl h19) fun h24 => ?_
      refine .ite ?_ ?_
      · exact (State.setReg_touch.on rfl h24)
      · split
        · rename_i w25 w26 e27
          exact (State.raise_touch.on rfl (State.capture_touch.on rfl (State.setReg_touch.on rfl h24)))
        · rename_i w28 e29
          exact (.ite (State.setReg_touch.on rfl h24) (State.setReg_touch.on rfl h24))
    · exact .refl
  refine .step (x := v7) (State.setReg_touch.on rfl h10) fun h30 => ?_
  refine .step (x := v8) (State.setFld_touch.on rfl h30) fun h31 => ?_
  refine .step (x := v9) (.ite (State.raise_touch.on rfl h31) h31) fun h32 => ?_
  exact h32.wipe_dram rfl fun w => by
    simp only [Memory.wf, Bool.and_eq_true] at w ⊢
    exact ⟨⟨rfl, w.1.2⟩, w.2⟩

end Sys2Proof.Machine
end

