-- ==== Sys2Proof/Laws/FootFlash.lean ====
section
/-! SUPPORT. What each operation of Machine/Flash.lean can touch. -/

namespace Sys2Proof.Machine
open Sys2Proof

theorem State.setDie_touch {s : State} {d : ℕ} {x : Die} :
    Touch { flash := true } s (State.setDie s d x) := by
  unfold State.setDie
  exact .upd_flash .refl rfl

theorem State.setBlk_touch {s : State} {k : ℕ} {x : Blk} :
    Touch { flash := true } s (State.setBlk s k x) := by
  unfold State.setBlk
  exact .upd_flash .refl rfl

theorem State.knotSend_touch {s : State} {j : ℕ} {m : KnotMsg} :
    Touch { knot := true } s (State.knotSend s j m) := by
  unfold State.knotSend
  exact .ite (.upd_knot .refl rfl) .refl

theorem State.mapSet_touch {s : State} {k : ℕ} {e : W64} :
    Touch { flash := true } s (State.mapSet s k e) := by
  unfold State.mapSet
  extract_lets v0 v1 v2
  exact .ite .refl (.upd_flash .refl rfl)

theorem State.mapSwap_touch {s : State} {k : ℕ} {old new : W64} :
    Touch { flash := true } s (State.mapSwap s k old new).1 := by
  unfold State.mapSwap
  split
  · rename_i e0
    exact State.mapSet_touch.on rfl .refl
  · rename_i e1
    exact .refl

theorem State.setCacheUsed_touch {s : State} {n : ℕ} :
    Touch { regs := true, flash := true } s (State.setCacheUsed s n) := by
  unfold State.setCacheUsed
  exact State.setFld_touch.on rfl (.upd_flash .refl rfl)

theorem State.setCacheRec_touch {s : State} {c : ℕ} {r : CacheRec} :
    Touch { flash := true } s (State.setCacheRec s c r) := by
  unfold State.setCacheRec
  exact .upd_flash .refl rfl

theorem State.freeRec_touch {s : State} {c : ℕ} :
    Touch { regs := true, flash := true } s (State.freeRec s c) := by
  unfold State.freeRec
  split
  · rename_i w0 e1
    exact .refl
  · rename_i w2 w3 e4
    exact State.setCacheUsed_touch.on rfl (.upd_flash .refl rfl)

theorem State.dropRec_touch {s : State} {c : ℕ} :
    Touch { regs := true, flash := true } s (State.dropRec s c) := by
  unfold State.dropRec
  split
  · rename_i w0 e1
    exact .refl
  · rename_i w2 w3 e4
    refine .ite ?_ ?_
    · extract_lets v5
      exact .upd_flash .refl rfl
    · exact State.freeRec_touch.on rfl .refl

theorem State.expireKept_touch {s : State} :
    Touch { regs := true, flash := true } s (State.expireKept s) := by
  unfold State.expireKept
  extract_lets v0 v1 v2
  refine .step (x := v2) (.upd_flash .refl rfl) fun h3 => ?_
  exact State.setCacheUsed_touch.on rfl h3

theorem State.pruneChain_touch {l : List (Nat × CacheRec)} {s : State} {above : Nat} {keep : Option Nat} :
    Touch { regs := true, flash := true } s (State.pruneChain s l above keep) := by
  induction l generalizing s above keep with
  | nil => exact .refl
  | cons e l ih =>
    unfold State.pruneChain
    dsimp only
    refine .ite (ih.on rfl (State.dropRec_touch.on rfl ?_)) ih
    split
    · exact .refl
    · exact Touch.refl.upd_flash rfl

theorem State.addRec_touch {s : State} {k mask made asn : ℕ} {frame : List Byte} :
    Touch { regs := true, flash := true } s (State.addRec s k mask made asn frame) := by
  unfold State.addRec
  extract_lets v0 v1 v2 v3 v4 v5 v6
  refine .step (x := v5) (State.setCacheRec_touch.on rfl (.upd_flash .refl rfl)) fun h7 => ?_
  refine .step (x := v6) (State.mapSet_touch.on rfl (State.setCacheUsed_touch.on rfl h7)) fun h8 => ?_
  exact State.pruneChain_touch.on rfl h8

theorem State.freeChain_touch {s : State} {rs : List (ℕ × CacheRec)} :
    Touch { regs := true, flash := true } s (State.freeChain s rs) := by
  unfold State.freeChain
  exact .foldl (fun x0 y1 h2 => (State.freeRec_touch.on rfl h2)) .refl

theorem State.refuseMarks_touch {s : State} {g : ℕ} :
    Touch { regs := true, host := true, flash := true, dram := true, tel := true } s (State.refuseMarks s g) := by
  unfold State.refuseMarks
  extract_lets v0 v1
  exact .ite (.ite (.upd_flash .refl rfl) .refl) (.ite (State.async_touch.on rfl (State.post_touch.on rfl (.upd_flash .refl rfl))) .refl)

theorem State.showFree_touch {s : State} {g : ℕ} :
    Touch { regs := true, host := true, flash := true, dram := true, tel := true } s (State.showFree s g) := by
  unfold State.showFree
  extract_lets v0 v1 v2 v3 v4 v5 v6
  refine .step (x := v0) (State.setReg_touch.on rfl .refl) fun h7 => ?_
  refine .step (x := v4) (.ite (State.raise_touch.on rfl h7) h7) fun h8 => ?_
  refine .step (x := v5) (.ite (State.raise_touch.on rfl h8) h8) fun h9 => ?_
  exact State.refuseMarks_touch.on rfl (.upd_flash h9 rfl)

theorem State.setUserCap_touch {s : State} {g : ℕ} :
    Touch { regs := true } s (State.setUserCap s g) := by
  unfold State.setUserCap
  exact State.setPair_touch.on rfl .refl

theorem State.raiseUserCap_touch {s : State} {g : ℕ} :
    Touch { regs := true } s (State.raiseUserCap s g) := by
  unfold State.raiseUserCap
  exact .ite (State.setUserCap_touch.on rfl .refl) .refl

theorem State.showDumpMax_touch {s : State} :
    Touch { regs := true } s (State.showDumpMax s) := by
  unfold State.showDumpMax
  extract_lets v0 v1 v2 v3 v4 v5
  refine .step (x := v4) (State.setFld_touch.on rfl .refl) fun h6 => ?_
  exact State.setFld_touch.on rfl h6

theorem State.keepDie_touch {s : State} {d n : ℕ} :
    Touch { flash := true } s (State.keepDie s d n) := by
  unfold State.keepDie
  extract_lets v0 v1 v2
  exact State.setDie_touch.on rfl .refl

theorem State.keepReserve_touch {s : State} :
    Touch { flash := true } s (State.keepReserve s) := by
  unfold State.keepReserve
  extract_lets v0
  exact .foldl (fun x1 y2 h3 => (State.keepDie_touch.on rfl h3)) .refl

theorem State.setDumpMax_touch {s : State} :
    Touch { regs := true, host := true, flash := true, dram := true, tel := true } s (State.setDumpMax s) := by
  unfold State.setDumpMax
  exact .foldl (fun x0 y1 h2 => (State.showFree_touch.on rfl h2)) (State.keepReserve_touch.on rfl (State.showDumpMax_touch.on rfl .refl))

theorem State.pushOp_touch {s : State} {d : ℕ} {o : DieOp} :
    Touch { flash := true } s (State.pushOp s d o) := by
  unfold State.pushOp
  extract_lets v0
  exact State.setDie_touch.on rfl .refl

theorem State.markProg_touch {s : State} {e : W64} {b : Bool} :
    Touch { flash := true } s (State.markProg s e b) := by
  unfold State.markProg
  exact .foldl (fun x0 y1 h2 => (.upd_flash h2 rfl)) .refl

theorem State.startSkein_touch {s : State} {p : Place} {moves : List Move} :
    Touch { regs := true, host := true, flash := true, dram := true, tel := true } s (State.startSkein s p moves) := by
  unfold State.startSkein
  extract_lets v0 v1 v2 v3 v4 v5 v6 v7 v8 v9 v10 v11 v12 v13 v14 v15 v16
  refine .step (x := v10) (.upd_flash .refl rfl) fun h17 => ?_
  refine .step (x := v13) (.upd_flash h17 rfl) fun h18 => ?_
  refine .step (x := v14) ?_ fun h19 => ?_
  · unfold v14
    refine .foldl (fun x26 y27 h28 => ?_) ?_
    · extract_lets v29 v30
      exact State.setBlk_touch.on rfl h28
    · exact h18
  refine .step (x := v15) (State.showFree_touch.on rfl h19) fun h31 => ?_
  refine .step (x := v16) (.foldl (fun x33 y34 h35 => (State.pushOp_touch.on rfl h35)) h31) fun h32 => ?_
  exact .ite .refl (.foldl (fun x36 y37 h38 => (.foldl (fun x39 y40 h41 => (State.markProg_touch.on rfl h41)) h38)) h32)

theorem State.eraseReady_touch {s : State} :
    Touch { flash := true } s (State.eraseReady s) := by
  unfold State.eraseReady
  refine .foldl (fun x3 y4 h5 => ?_) ?_
  · extract_lets v6 v7 v8 v9 v10
    exact .ite (State.pushOp_touch.on rfl h5) h5
  · exact .refl

theorem State.swapMove_touch {s : State} {m : Move} :
    Touch { regs := true, flash := true } s (State.swapMove s m) := by
  unfold State.swapMove
  refine .foldl (fun x3 y4 h5 => ?_) ?_
  · split
    · rename_i w6 w7 w8 w9
      extract_lets v10
      split
      · rename_i w11 w12 e13
        refine .step (x := w12) (.fst e13 (State.mapSwap_touch.on rfl h5)) fun h14 => ?_
        exact State.freeChain_touch.on rfl h14
      · rename_i w15 w16 e17
        refine .step (x := w16) (.fst e17 (State.mapSwap_touch.on rfl h5)) fun h18 => ?_
        exact State.markProg_touch.on rfl h18
  · exact .refl

theorem State.skeinDone_touch {s : State} {k : ℕ} :
    Touch { regs := true, flash := true } s (State.skeinDone s k) := by
  unfold State.skeinDone
  split
  · rename_i w0 e1
    exact .refl
  · rename_i w2 w3 e4
    extract_lets v5 v6 v7 v8 v9 v10
    refine .step (x := v7) (.ite (.foldl (fun x12 y13 h14 => (State.swapMove_touch.on rfl h14)) .refl) (.foldl (fun x15 y16 h17 => (.foldl (fun x18 y19 h20 => (State.markProg_touch.on rfl h20)) h17)) .refl)) fun h11 => ?_
    refine .step (x := v9) (.upd_flash h11 rfl) fun h21 => ?_
    refine .step (x := v10) ?_ fun h22 => ?_
    · unfold v10
      refine .ite ?_ ?_
      · refine .foldl (fun x32 y33 h34 => ?_) ?_
        · extract_lets v35 v36
          exact .ite (State.setBlk_touch.on rfl h34) h34
        · exact h21
      · exact h21
    exact State.eraseReady_touch.on rfl h22

theorem State.skeinMember_touch {s : State} {k ch : ℕ} :
    Touch { regs := true, flash := true } s (State.skeinMember s k ch) := by
  unfold State.skeinMember
  split
  · rename_i w0 e1
    exact .refl
  · rename_i w2 w3 e4
    extract_lets v5 v6 v7
    refine .step (x := v7) (.upd_flash .refl rfl) fun h8 => ?_
    exact .ite (State.skeinDone_touch.on rfl h8) h8

theorem State.takeMoves_touch {s : State} {k die : ℕ} :
    Touch { flash := true } s (State.takeMoves s k die).1 := by
  unfold State.takeMoves
  split
  · rename_i w0 e1
    exact .refl
  · rename_i w2 w3 e4
    extract_lets v5 v6 v7
    refine .step (x := v7) (.upd_flash .refl rfl) fun h8 => ?_
    exact .foldl (fun x9 y10 h11 => (.foldl (fun x12 y13 h14 => (State.markProg_touch.on rfl h14)) h11)) h8

theorem State.modGw_touch {s : State} {w : Who} {grain : ℕ} {f : GrainWork → GrainWork} :
    Touch { cmd := true, flash := true } s (State.modGw s w grain f) := by
  unfold State.modGw
  split
  · rename_i w0 w1
    exact State.modItem_touch.on rfl .refl
  · rename_i w2 w3
    exact .upd_flash .refl rfl
  · rename_i w4 w5
    exact .refl

theorem State.endRead_touch {s : State} {w : Who} {grain : ℕ} :
    Touch { cmd := true, flash := true } s (State.endRead s w grain) := by
  unfold State.endRead
  split
  · rename_i w0 e1
    exact .refl
  · rename_i w2 w3 e4
    refine .ite ?_ ?_
    · extract_lets v5 v6 v7
      refine .step (x := v7) (State.setBlk_touch.on rfl .refl) fun h8 => ?_
      exact State.eraseReady_touch.on rfl (State.modGw_touch.on rfl h8)
    · exact .refl

theorem State.senseOf_touch {s : State} {w : Who} {g : GrainWork} :
    Touch { cmd := true, flash := true } s (State.senseOf s w g) := by
  unfold State.senseOf
  extract_lets v0
  exact State.pushOp_touch.on rfl (State.modGw_touch.on rfl .refl)

theorem State.modCw_touch {s : State} {w : Who} {grain i : ℕ} {f : Cw → Cw} :
    Touch { cmd := true, flash := true } s (State.modCw s w grain i f) := by
  unfold State.modCw
  exact State.modGw_touch.on rfl .refl

theorem State.queueCw_touch {s : State} {w : Who} {g : GrainWork} {i die ladder n post : ℕ} :
    Touch { flash := true } s (State.queueCw s w g i die ladder n post) := by
  unfold State.queueCw
  extract_lets v0 v1
  exact .foldl (fun x2 y3 h4 => (State.pushOp_touch.on rfl h4)) .refl

theorem State.retryCw_touch {s : State} {w : Who} {g : GrainWork} {i die tried post : ℕ} :
    Touch { regs := true, cmd := true, flash := true } s (State.retryCw s w g i die tried post) := by
  unfold State.retryCw
  extract_lets v0 v1
  refine .step (x := v1) (State.modCw_touch.on rfl (State.count_touch.on rfl .refl)) fun h2 => ?_
  exact State.queueCw_touch.on rfl (State.modGw_touch.on rfl h2)

theorem State.rebuildCw_touch {s : State} {w : Who} {g : GrainWork} {i post : ℕ} :
    Touch { cmd := true, flash := true } s (State.rebuildCw s w g i post) := by
  unfold State.rebuildCw
  extract_lets v0 v1 v2 v3
  refine .step (x := v2) (State.modCw_touch.on rfl .refl) fun h4 => ?_
  refine .step (x := v3) (State.modGw_touch.on rfl h4) fun h5 => ?_
  exact .foldl (fun x6 y7 h8 => (State.queueCw_touch.on rfl h8)) h5

theorem State.rebuildAll_touch {s : State} {w : Who} {g : GrainWork} {post : ℕ} :
    Touch { cmd := true, flash := true } s (State.rebuildAll s w g post) := by
  unfold State.rebuildAll
  extract_lets v0
  refine .step (x := v0) (State.modGw_touch.on rfl .refl) fun h1 => ?_
  exact .foldl (fun x2 y3 h4 => (State.rebuildCw_touch.on rfl h4)) h1

theorem State.failGrain_touch {s : State} {w : Who} {grain status detail bad : ℕ} :
    Touch { cmd := true, flash := true } s (State.failGrain s w grain status detail bad) := by
  unfold State.failGrain
  exact State.modGw_touch.on rfl (State.endRead_touch.on rfl .refl)

theorem State.queueRefresh_touch {s : State} {k : ℕ} :
    Touch { flash := true } s (State.queueRefresh s k) := by
  unfold State.queueRefresh
  exact .ite .refl (.upd_flash .refl rfl)

theorem State.queueReread_touch {s : State} {k : ℕ} :
    Touch { flash := true } s (State.queueReread s k) := by
  unfold State.queueReread
  exact .ite .refl (.upd_flash .refl rfl)

theorem State.failCw_touch {s : State} {w : Who} {g : GrainWork} :
    Touch { regs := true, cmd := true, flash := true, dram := true, tel := true } s (State.failCw s w g) := by
  unfold State.failCw
  extract_lets v0 v1 v2
  refine .step (x := v2) (State.post_touch.on rfl (State.raise_touch.on rfl (State.count_touch.on rfl .refl))) fun h3 => ?_
  split
  · rename_i w4 w5
    exact State.failGrain_touch.on rfl (State.queueReread_touch.on rfl h3)
  · rename_i w6 e7
    exact State.failGrain_touch.on rfl h3

theorem State.countHard_touch {s : State} {ch tried : ℕ} :
    Touch { regs := true } s (State.countHard s ch tried) := by
  unfold State.countHard
  exact .ite (State.count_touch.on rfl .refl) .refl

theorem State.cwDone_touch {s : State} {w : Who} {grain i : ℕ} :
    Touch { cmd := true, flash := true } s (State.cwDone s w grain i) := by
  unfold State.cwDone
  extract_lets v0
  refine .step (x := v0) (State.modGw_touch.on rfl .refl) fun h1 => ?_
  split
  · rename_i w2 e3
    exact h1
  · rename_i w4 w5 e6
    exact .ite (State.modGw_touch.on rfl (State.endRead_touch.on rfl h1)) h1

theorem State.cwRebuilt_touch {s : State} {w : Who} {g : GrainWork} {i : ℕ} :
    Touch { regs := true, cmd := true, flash := true } s (State.cwRebuilt s w g i) := by
  unfold State.cwRebuilt
  extract_lets v0
  refine .step (x := v0) (State.queueRefresh_touch.on rfl (State.count_touch.on rfl .refl)) fun h1 => ?_
  exact State.cwDone_touch.on rfl (State.modGw_touch.on rfl h1)

theorem State.ownDecode_touch {s : State} {w : Who} {g : GrainWork} {r : SenseOf} {d : DecodeIn} :
    Touch { regs := true, cmd := true, flash := true, dram := true, tel := true } s (State.ownDecode s w g r d) := by
  unfold State.ownDecode
  extract_lets v0 v1 v2 v3
  refine .step (x := v1) (State.countHard_touch.on rfl .refl) fun h4 => ?_
  refine .ite ?_ ?_
  · exact State.cwDone_touch.on rfl .refl
  · clear_value v3
    split
    · rename_i w5
      exact State.retryCw_touch.on rfl h4
    · rename_i w6
      exact .ite (State.failCw_touch.on rfl (State.post_touch.on rfl (State.raise_touch.on rfl h4))) (State.rebuildCw_touch.on rfl h4)
    · rename_i w7
      exact State.failCw_touch.on rfl h4

theorem State.memberDone_touch {s : State} {w : Who} {g : GrainWork} {i die : ℕ} :
    Touch { regs := true, cmd := true, flash := true } s (State.memberDone s w g i die) := by
  unfold State.memberDone
  extract_lets v0
  refine .step (x := v0) (State.modCw_touch.on rfl .refl) fun h1 => ?_
  split
  · rename_i w2 w3 e4
    exact .ite (State.cwRebuilt_touch.on rfl h1) h1
  · rename_i w5 e6
    exact h1

theorem State.memberDecode_touch {s : State} {w : Who} {g : GrainWork} {c : Cw} {r : SenseOf} {d : DecodeIn} :
    Touch { regs := true, cmd := true, flash := true, dram := true, tel := true } s (State.memberDecode s w g c r d) := by
  unfold State.memberDecode
  extract_lets v0 v1 v2
  refine .step (x := v1) (State.countHard_touch.on rfl .refl) fun h3 => ?_
  refine .step (x := v2) (State.modCw_touch.on rfl h3) fun h4 => ?_
  refine .ite ?_ ?_
  · exact State.memberDone_touch.on rfl .refl
  · refine .ite ?_ ?_
    · exact State.memberDone_touch.on rfl (State.modGw_touch.on rfl h4)
    · split
      · rename_i w5 e6
        exact State.retryCw_touch.on rfl h3
      · rename_i w7 e8
        exact State.failCw_touch.on rfl h3

theorem State.decodeCw_touch {s : State} {d : DecodeIn} :
    Touch { regs := true, cmd := true, flash := true, dram := true, tel := true } s (State.decodeCw s d) := by
  unfold State.decodeCw
  extract_lets v0
  split
  · rename_i w1 e2
    exact .refl
  · rename_i w3 w4 e5
    split
    · rename_i w6 e7
      exact .refl
    · rename_i w8 w9 e10
      split
      · rename_i w11 e12
        exact .refl
      · rename_i w13 w14 e15
        refine .ite ?_ ?_
        · exact .refl
        · refine .ite ?_ ?_
          · exact State.memberDecode_touch.on rfl .refl
          · extract_lets v16
            refine .step (x := v16) (.ite (.ite (State.modGw_touch.on rfl .refl) (State.queueRefresh_touch.on rfl .refl)) .refl) fun h17 => ?_
            exact State.ownDecode_touch.on rfl h17

theorem State.loseGrain_touch {s : State} {k : ℕ} :
    Touch { regs := true, flash := true, dram := true, tel := true } s (State.loseGrain s k) := by
  unfold State.loseGrain
  extract_lets v0 v1
  refine .step (x := v1) ?_ fun h2 => ?_
  · unfold v1
    split
    · rename_i w3 e4
      exact State.mapSet_touch.on rfl .refl
    · rename_i w5 w6 w7 e8
      exact State.setCacheRec_touch.on rfl .refl
  exact State.post_touch.on rfl h2

theorem State.deferLost_touch {s : State} {origin status : ℕ} {ls : List (ℕ × ℕ)} :
    Touch { host := true, insts := true } s (State.deferLost s origin status ls) := by
  unfold State.deferLost
  extract_lets v0
  refine .foldl (fun x4 y5 h6 => ?_) ?_
  · extract_lets v7 v8 v9
    exact State.deferredError_touch.on rfl h6
  · exact .refl

theorem State.loseGrains_touch {s : State} {ks : List ℕ} {readback : Bool} :
    Touch { regs := true, host := true, insts := true, flash := true, dram := true, tel := true } s (State.loseGrains s ks readback) := by
  unfold State.loseGrains
  extract_lets v0 v1 v2
  refine .step (x := v0) (.foldl (fun x4 y5 h6 => (State.queueReread_touch.on rfl h6)) .refl) fun h3 => ?_
  refine .step (x := v2) (.foldl (fun x8 y9 h10 => (State.loseGrain_touch.on rfl h10)) h3) fun h7 => ?_
  exact .ite h7 (State.deferLost_touch.on rfl (.foldl (fun x11 y12 h13 => (State.raise_touch.on rfl h13)) h7))

theorem State.unitFail_touch {s : State} {u key : ℕ} :
    Touch { regs := true, flash := true, dram := true, tel := true } s (State.unitFail s u key) := by
  unfold State.unitFail
  exact .ite .refl (State.post_touch.on rfl (.upd_flash .refl rfl))

theorem State.bgOver_touch {s : State} {b : ℕ} {ok : Bool} :
    Touch { regs := true, host := true, cmd := true, insts := true, flash := true, dram := true, tel := true } s (State.bgOver s b ok) := by
  unfold State.bgOver
  split
  · rename_i w0 e1
    exact .refl
  · rename_i w2 w3 e4
    extract_lets v5 v6 v7 v8
    refine .step (x := v5) (State.endRead_touch.on rfl .refl) fun h9 => ?_
    refine .step (x := v7) (.upd_flash h9 rfl) fun h10 => ?_
    split
    · rename_i w11 e12
      exact .ite h10 (State.unitFail_touch.on rfl h10)
    · rename_i w13 e14
      exact .ite (.foldl (fun x15 y16 h17 => (State.queueReread_touch.on rfl h17)) h10) (.ite (.foldl (fun x18 y19 h20 => (State.queueRefresh_touch.on rfl h20)) h10) h10)
    · rename_i w21 e22
      exact .ite (State.loseGrains_touch.on rfl h10) (.ite (.foldl (fun x23 y24 h25 => (State.queueRefresh_touch.on rfl h25)) h10) h10)
    · rename_i w26 e27 e28 e29
      exact .ite (.foldl (fun x30 y31 h32 => (State.queueRefresh_touch.on rfl h32)) h10) (State.loseGrains_touch.on rfl h10)

theorem State.bgCheck_touch {s : State} {w : Who} :
    Touch { regs := true, host := true, cmd := true, insts := true, flash := true, dram := true, tel := true } s (State.bgCheck s w) := by
  unfold State.bgCheck
  split
  · rename_i w0 w1
    split
    · rename_i w2 e3
      exact .refl
    · rename_i w4 w5 e6
      exact .ite (State.bgOver_touch.on rfl .refl) (.ite (State.bgOver_touch.on rfl .refl) .refl)
  · rename_i w7 e8
    exact .refl

theorem State.bgRead_touch {s : State} {kind : BgKind} {keys : List ℕ} {e : W64} {unit : ℕ} :
    Touch { regs := true, host := true, cmd := true, insts := true, flash := true, dram := true, tel := true } s (State.bgRead s kind keys e unit) := by
  unfold State.bgRead
  extract_lets v0 v1 v2 v3 v4 v5 v6 v7 v8
  refine .step (x := v5) (.upd_flash .refl rfl) fun h9 => ?_
  refine .step (x := v8) (State.setBlk_touch.on rfl h9) fun h10 => ?_
  exact .ite (State.senseOf_touch.on rfl h10) (.ite (State.rebuildAll_touch.on rfl h10) (State.bgCheck_touch.on rfl (State.failCw_touch.on rfl h10)))

theorem State.decodeEnd_touch {s : State} {d : DecodeIn} :
    Touch { regs := true, host := true, cmd := true, insts := true, flash := true, dram := true, tel := true } s (State.decodeEnd s d) := by
  unfold State.decodeEnd
  exact State.bgCheck_touch.on rfl (State.decodeCw_touch.on rfl .refl)

theorem State.startReadbacks_touch {s : State} :
    Touch { regs := true, host := true, cmd := true, insts := true, flash := true, dram := true, tel := true } s (State.startReadbacks s) := by
  unfold State.startReadbacks
  extract_lets v0 v1 v2
  refine .step (x := v2) (.upd_flash .refl rfl) fun h3 => ?_
  exact .foldl (fun x4 y5 h6 => (.ite h6 (State.bgRead_touch.on rfl h6))) h3

theorem State.selectVolume_touch {s : State} {d : ℕ} :
    Touch { flash := true } s (State.selectVolume s d) := by
  unfold State.selectVolume
  extract_lets v0 v1 v2
  exact .upd_flash .refl rfl

theorem State.startOp_touch {s : State} {d : ℕ} {o : DieOp} :
    Touch { flash := true } s (State.startOp s d o) := by
  unfold State.startOp
  extract_lets v0 v1 v2 v3 v4 v5
  refine .step (x := v1) (.ite (.upd_flash .refl rfl) .refl) fun h6 => ?_
  refine .step (x := v2) (State.selectVolume_touch.on rfl h6) fun h7 => ?_
  exact .ite (State.setDie_touch.on rfl h7) (.ite (State.setDie_touch.on rfl h7) (State.setDie_touch.on rfl h7))

theorem State.dieDispatch_touch {s : State} {d : ℕ} :
    Touch { regs := true, flash := true } s (State.dieDispatch s d) := by
  unfold State.dieDispatch
  extract_lets v0
  refine .ite ?_ ?_
  · exact .refl
  · split
    · rename_i w1 w2 e3
      exact .ite (State.count_touch.on rfl (State.setDie_touch.on rfl .refl)) .refl
    · rename_i w4 e5
      split
      · rename_i w6 w7 e8
        exact State.startOp_touch.on rfl .refl
      · rename_i w9 e10
        exact .refl

theorem State.resumeDie_touch {s : State} {d : ℕ} :
    Touch { flash := true } s (State.resumeDie s d) := by
  unfold State.resumeDie
  extract_lets v0
  split
  · rename_i w1 w2 e3
    exact .ite (State.setDie_touch.on rfl .refl) .refl
  · rename_i w4 e5
    exact .refl

theorem State.senseDone_touch {s : State} {d : ℕ} :
    Touch { cmd := true, flash := true } s (State.senseDone s d) := by
  unfold State.senseDone
  extract_lets v0 v1
  refine .step (x := v1) (State.resumeDie_touch.on rfl (State.setDie_touch.on rfl .refl)) fun h2 => ?_
  split
  · rename_i w3 w4 e5
    refine .ite ?_ ?_
    · split
      · rename_i w6 e7
        exact h2
      · rename_i w8 w9 e10
        exact State.modGw_touch.on rfl h2
    · exact .refl
  · rename_i w11 e12
    exact .refl

theorem State.suspendDone_touch {s : State} {d : ℕ} :
    Touch { flash := true } s (State.suspendDone s d) := by
  unfold State.suspendDone
  extract_lets v0
  refine .ite ?_ ?_
  · split
    · rename_i w1 w2 w3 e4
      exact State.resumeDie_touch.on rfl (State.setDie_touch.on rfl .refl)
  · exact .refl

theorem State.endOp_touch {s : State} {d : ℕ} :
    Touch { flash := true } s (State.endOp s d) := by
  unfold State.endOp
  exact State.setDie_touch.on rfl .refl

theorem State.programDone_touch {s : State} {d : ℕ} :
    Touch { regs := true, flash := true } s (State.programDone s d) := by
  unfold State.programDone
  split
  · rename_i w0 w1 e2
    exact .ite (State.skeinMember_touch.on rfl (State.endOp_touch.on rfl .refl)) .refl
  · rename_i w3 e4
    exact .refl

theorem State.forgetUnits_touch {s : State} {d block : ℕ} :
    Touch { flash := true } s (State.forgetUnits s d block) := by
  unfold State.forgetUnits
  extract_lets v0 v1
  exact .upd_flash .refl rfl

theorem State.eraseDone_touch {s : State} {d : ℕ} :
    Touch { regs := true, host := true, flash := true, dram := true, tel := true } s (State.eraseDone s d) := by
  unfold State.eraseDone
  split
  · rename_i w0 w1 e2
    refine .ite ?_ ?_
    · extract_lets v3 v4 v5 v6 v7 v8 v9 v10 v11
      refine .step (x := v6) (State.forgetUnits_touch.on rfl (State.endOp_touch.on rfl .refl)) fun h12 => ?_
      refine .step (x := v8) (.upd_flash h12 rfl) fun h13 => ?_
      refine .step (x := v9) (State.setBlk_touch.on rfl h13) fun h14 => ?_
      refine .step (x := v11) (.ite (State.setDie_touch.on rfl h14) h14) fun h15 => ?_
      exact State.showFree_touch.on rfl h15
    · exact .refl
  · rename_i w16 e17
    exact .refl

theorem State.retire_touch {s : State} {b : ℕ} :
    Touch { flash := true } s (State.retire s b) := by
  unfold State.retire
  exact State.setBlk_touch.on rfl .refl

theorem State.eraseFailed_touch {s : State} {d : ℕ} :
    Touch { regs := true, host := true, flash := true, dram := true, tel := true } s (State.eraseFailed s d) := by
  unfold State.eraseFailed
  split
  · rename_i w0 w1 e2
    refine .ite ?_ ?_
    · extract_lets v3 v4 v5
      refine .step (x := v4) (State.raise_touch.on rfl (State.count_touch.on rfl (State.retire_touch.on rfl (State.endOp_touch.on rfl .refl)))) fun h6 => ?_
      exact State.setDumpMax_touch.on rfl (State.setDie_touch.on rfl h6)
    · exact .refl
  · rename_i w7 e8
    exact .refl

theorem State.programFailed_touch {s : State} {d : ℕ} {place : Place} :
    Touch { regs := true, host := true, cmd := true, insts := true, flash := true, dram := true, tel := true } s (State.programFailed s d place) := by
  unfold State.programFailed
  split
  · rename_i w0 w1 e2
    refine .ite ?_ ?_
    · extract_lets v3 v4 v5 v6
      refine .step (x := v4) (State.post_touch.on rfl (State.raise_touch.on rfl (State.count_touch.on rfl (State.endOp_touch.on rfl .refl)))) fun h7 => ?_
      refine .step (x := v6) (State.retire_touch.on rfl h7) fun h8 => ?_
      split
      · rename_i w9 w10 w11 e12
        refine .step (x := w10) (.fst e12 (State.takeMoves_touch.on rfl h8)) fun h13 => ?_
        extract_lets v14 v15 v16 v17 v18
        refine .step (x := v14) (State.skeinMember_touch.on rfl h13) fun h19 => ?_
        refine .step (x := v15) (.ite h19 (State.startSkein_touch.on rfl h19)) fun h20 => ?_
        refine .step (x := v18) (.upd_flash h20 rfl) fun h21 => ?_
        exact State.startReadbacks_touch.on rfl (State.showFree_touch.on rfl h21)
    · exact .refl
  · rename_i w22 e23
    exact .refl

theorem State.failOp_touch {s : State} {d : ℕ} {o : DieOp} : Touch { regs := true, host := true, cmd := true, insts := true, flash := true, dram := true, tel := true } s (State.failOp s d o) := by
  unfold State.failOp
  split
  · exact State.skeinMember_touch.on rfl (State.takeMoves_touch.on rfl .refl)
  · split
    · exact .refl
    · extract_lets v13 v14 v15
      have one : ∀ (x : State) (i : Nat), Touch { regs := true, host := true, cmd := true, insts := true, flash := true, dram := true, tel := true } x (v15 x i) := fun x i => by
        unfold v15
        split
        · exact .refl
        · refine .ite (.ite ?_ ?_) ?_
          · extract_lets v24
            refine .step (x := v24) (State.modCw_touch.on rfl .refl) fun h25 => ?_
            exact State.bgCheck_touch.on rfl (State.memberDone_touch.on rfl (State.modGw_touch.on rfl h25))
          · exact .ite .refl (State.bgCheck_touch.on rfl (State.failCw_touch.on rfl .refl))
          · exact .ite (State.rebuildCw_touch.on rfl .refl)
              (.ite .refl (State.bgCheck_touch.on rfl (State.failCw_touch.on rfl .refl)))
      split
      · exact one _ _
      · exact .foldl (fun x a h => (one x a).on rfl h) .refl
  · exact .refl

theorem State.dieFailed_touch {s : State} {d : ℕ} :
    Touch { regs := true, host := true, cmd := true, insts := true, flash := true, dram := true, tel := true } s (State.dieFailed s d) := by
  unfold State.dieFailed
  refine .ite ?_ ?_
  · exact .refl
  · extract_lets v0 v1 v2 v3 v4 v5 v6 v7 v8 v9
    refine .step (x := v3) (State.raise_touch.on rfl (State.count_touch.on rfl (State.setFld_touch.on rfl .refl))) fun h10 => ?_
    refine .step (x := v4) (State.setFld_touch.on rfl (State.setFld_touch.on rfl h10)) fun h11 => ?_
    refine .step (x := v5) (State.async_touch.on rfl (State.post_touch.on rfl h11)) fun h12 => ?_
    refine .step (x := v6) (State.setDie_touch.on rfl h12) fun h13 => ?_
    refine .step (x := v7) (.foldl (fun x15 y16 h17 => (State.failOp_touch.on rfl h17)) h13) fun h14 => ?_
    exact State.setDumpMax_touch.on rfl (.upd_flash h14 rfl)

theorem State.dieTimeout_touch {s : State} {d : ℕ} :
    Touch { regs := true, host := true, cmd := true, insts := true, flash := true, dram := true, tel := true } s (State.dieTimeout s d) := by
  unfold State.dieTimeout
  extract_lets v0
  exact .ite .refl (State.dieFailed_touch.on rfl .refl)

theorem State.channelTrained_touch {s : State} {c : ℕ} {fail : Bool} {eye : ℕ} {dies : List DieIn} :
    Touch { regs := true, host := true, flash := true, dram := true, tel := true } s (State.channelTrained s c fail eye dies) := by
  unfold State.channelTrained
  refine .ite ?_ ?_
  · exact .refl
  · extract_lets v0 v1 v2 v3 v4
    refine .step (x := v1) (State.raise_touch.on rfl (State.setReg_touch.on rfl .refl)) fun h5 => ?_
    refine .step (x := v3) ?_ fun h6 => ?_
    · unfold v3
      refine .foldl (fun x13 y14 h15 => ?_) ?_
      · extract_lets v16 v17 v18 v19
        refine .step (x := v19) (State.setDie_touch.on rfl (State.setFld_touch.on rfl h15)) fun h20 => ?_
        exact .ite (State.setFld_touch.on rfl h15) (.ite (.foldl (fun x21 y22 h23 => (.ite (State.retire_touch.on rfl h23) h23)) h20) h15)
      · exact h5
    refine .step (x := v4) (State.setFld_touch.on rfl h6) fun h24 => ?_
    exact State.raiseUserCap_touch.on rfl (State.setDumpMax_touch.on rfl h24)

theorem State.rankCkpts_touch {s : State} :
    Touch { flash := true } s (State.rankCkpts s) := by
  unfold State.rankCkpts
  exact .upd_flash .refl rfl

theorem State.checkpoint_touch {s : State} {g : ℕ} :
    Touch { flash := true } s (State.checkpoint s g) := by
  unfold State.checkpoint
  extract_lets v0 v1
  exact .ite .refl (State.rankCkpts_touch.on rfl (.upd_flash .refl rfl))

theorem State.rebuildSegment_touch {s : State} {g : ℕ} :
    Touch { regs := true, flash := true } s (State.rebuildSegment s g) := by
  unfold State.rebuildSegment
  extract_lets v0 v1 v2
  refine .step (x := v2) (.upd_flash .refl rfl) fun h3 => ?_
  exact .foldl (fun x4 y5 h6 => (.ite (State.skeinDone_touch.on rfl h6) h6)) h3

theorem State.giveBg_touch {s : State} {w : SchedWork} :
    Touch { flash := true } s (State.giveBg s w) := by
  unfold State.giveBg
  extract_lets v0 v1 v2
  exact .upd_flash .refl rfl

theorem State.giveMedia_touch {s : State} {g : ℕ} {w : MediaWork} :
    Touch { flash := true } s (State.giveMedia s g w) := by
  unfold State.giveMedia
  extract_lets v0 v1 v2
  exact State.giveBg_touch.on rfl (.upd_flash .refl rfl)

theorem State.runCheckpoint_touch {s : State} {g : ℕ} :
    Touch { flash := true } s (State.runCheckpoint s g) := by
  unfold State.runCheckpoint
  exact .ite (State.checkpoint_touch.on rfl (State.giveBg_touch.on rfl .refl)) .refl

theorem State.relocateBlock_touch {s : State} {b : ℕ} {place : Place} :
    Touch { regs := true, host := true, flash := true, dram := true, tel := true } s (State.relocateBlock s b place) := by
  unfold State.relocateBlock
  extract_lets v0 v1 v2
  refine .step (x := v2) (State.setBlk_touch.on rfl .refl) fun h3 => ?_
  exact State.eraseReady_touch.on rfl (State.startSkein_touch.on rfl h3)

theorem State.collect_touch {s : State} {g : ℕ} {place : Place} :
    Touch { regs := true, host := true, flash := true, dram := true, tel := true } s (State.collect s g place) := by
  unfold State.collect
  split
  · rename_i w0 e1
    exact .refl
  · rename_i w2 w3 e4
    exact .ite (State.relocateBlock_touch.on rfl (State.giveMedia_touch.on rfl .refl)) .refl

theorem State.levelWear_touch {s : State} {g : ℕ} {place : Place} :
    Touch { regs := true, host := true, flash := true, dram := true, tel := true } s (State.levelWear s g place) := by
  unfold State.levelWear
  extract_lets v0
  clear_value v0
  split
  · rename_i w1
    exact .refl
  · rename_i w2 w3
    exact .ite (State.relocateBlock_touch.on rfl (State.giveMedia_touch.on rfl .refl)) .refl

theorem State.scrubBlk_touch {s : State} {die block : ℕ} :
    Touch { regs := true, host := true, cmd := true, insts := true, flash := true, dram := true, tel := true } s (State.scrubBlk s die block) := by
  unfold State.scrubBlk
  extract_lets v0 v1 v2 v3
  refine .step (x := v3) (State.setBlk_touch.on rfl (State.giveMedia_touch.on rfl .refl)) fun h4 => ?_
  exact .ite .refl (.foldl (fun x5 y6 h7 => (State.bgRead_touch.on rfl h7)) h4)

theorem State.calibrate_touch {s : State} {die block thresh : ℕ} :
    Touch { flash := true } s (State.calibrate s die block thresh) := by
  unfold State.calibrate
  extract_lets v0 v1 v2
  exact .ite .refl (.foldl (fun x3 y4 h5 => (.ite (State.setBlk_touch.on rfl h5) h5)) (State.giveMedia_touch.on rfl .refl))

theorem State.refresh_touch {s : State} {ks : List ℕ} {place : Place} :
    Touch { regs := true, host := true, cmd := true, insts := true, flash := true, dram := true, tel := true } s (State.refresh s ks place) := by
  unfold State.refresh
  extract_lets v0 v1 v2 v3 v4 v5
  refine .step (x := v0) (State.startReadbacks_touch.on rfl .refl) fun h6 => ?_
  refine .step (x := v3) (State.startSkein_touch.on rfl h6) fun h7 => ?_
  exact .upd_flash h7 rfl

theorem State.rebuildDie_touch {s : State} {ks : List ℕ} :
    Touch { regs := true, host := true, cmd := true, insts := true, flash := true, dram := true, tel := true } s (State.rebuildDie s ks) := by
  unfold State.rebuildDie
  extract_lets v0 v1 v2 v3 v4
  refine .step (x := v0) (State.startReadbacks_touch.on rfl .refl) fun h5 => ?_
  refine .step (x := v4) (.upd_flash h5 rfl) fun h6 => ?_
  exact .foldl (fun x7 y8 h9 => (State.bgRead_touch.on rfl h9)) h6

theorem State.reread_touch {s : State} {k : ℕ} :
    Touch { regs := true, host := true, cmd := true, insts := true, flash := true, dram := true, tel := true } s (State.reread s k) := by
  unfold State.reread
  extract_lets v0 v1
  refine .step (x := v0) (State.startReadbacks_touch.on rfl .refl) fun h2 => ?_
  refine .ite ?_ ?_
  · exact h2
  · split
    · rename_i w3 e4
      exact .upd_flash h2 rfl
    · rename_i w5 w6 e7
      exact .ite h2 (State.bgRead_touch.on rfl (.upd_flash h2 rfl))

theorem State.loseBlocks_touch {s : State} {i : ℕ} {lbas : List ℕ} :
    Touch { insts := true } s (State.loseBlocks s i lbas) := by
  unfold State.loseBlocks
  exact State.modInst_touch.on rfl .refl

theorem State.modUnit_touch {s : State} {u : ℕ} {f : MergeUnit → MergeUnit} :
    Touch { flash := true } s (State.modUnit s u f) := by
  unfold State.modUnit
  exact .upd_flash .refl rfl

theorem State.combine_touch {s : State} {u : ℕ} :
    Touch { regs := true, insts := true, flash := true, dram := true, tel := true } s (State.combine s u) := by
  unfold State.combine
  split
  · rename_i w0 e1
    exact .refl
  · rename_i w2 w3 e4
    refine .ite ?_ ?_
    · exact .refl
    · refine .ite ?_ ?_
      · exact .upd_flash .refl rfl
      · extract_lets v5 v6
        refine .step (x := v6) ?_ fun h7 => ?_
        · unfold v6
          refine .foldl (fun x14 y15 h16 => ?_) ?_
          · extract_lets v17
            exact .ite (State.loseBlocks_touch.on rfl h16) h16
          · exact .refl
        split
        · rename_i w18 w19 e20
          exact State.unitFail_touch.on rfl .refl
        · rename_i w21 e22
          exact State.modUnit_touch.on rfl h7

theorem State.unitBase_touch {s : State} {u : ℕ} {keys : List ℕ} {d : List Byte} :
    Touch { regs := true, insts := true, flash := true, dram := true, tel := true } s (State.unitBase s u keys d) := by
  unfold State.unitBase
  exact State.combine_touch.on rfl (State.modUnit_touch.on rfl .refl)

theorem State.openUnit_touch {s : State} {ks : List ℕ} :
    Touch { regs := true, host := true, cmd := true, insts := true, flash := true, dram := true, tel := true } s (State.openUnit s ks) := by
  unfold State.openUnit
  refine .ite ?_ ?_
  · exact .refl
  · extract_lets v0 v1 v2 v3 v4 v5 v6 v7 v8
    refine .step (x := v8) (.upd_flash .refl rfl) fun h9 => ?_
    clear_value v7
    split
    · rename_i w10 w11
      exact .ite (State.unitFail_touch.on rfl (.upd_flash .refl rfl)) (.upd_flash .refl rfl)
    · rename_i w12
      exact State.combine_touch.on rfl (.foldl (fun x13 y14 h15 => (State.bgRead_touch.on rfl h15)) h9)

theorem State.openUnits_touch {s : State} :
    Touch { regs := true, host := true, cmd := true, insts := true, flash := true, dram := true, tel := true } s (State.openUnits s) := by
  unfold State.openUnits
  exact .foldl (fun x0 y1 h2 => (State.openUnit_touch.on rfl h2)) .refl

theorem State.dropStale_touch {s : State} :
    Touch { flash := true } s (State.dropStale s) := by
  unfold State.dropStale
  exact .upd_flash .refl rfl

theorem State.drain_touch {s : State} {p : Place} :
    Touch { regs := true, host := true, cmd := true, insts := true, flash := true, dram := true, tel := true } s (State.drain s p) := by
  unfold State.drain
  refine .ite ?_ ?_
  · exact .refl
  · extract_lets v0 v1 v2 v3 v4
    refine .step (x := v0) (State.openUnits_touch.on rfl (State.dropStale_touch.on rfl .refl)) fun h5 => ?_
    refine .step (x := v3) (State.startSkein_touch.on rfl h5) fun h6 => ?_
    refine .ite ?_ ?_
    · exact h5
    · split
      · rename_i w7 e8
        exact h6
      · rename_i w9 w10 e11
        extract_lets v12
        exact .upd_flash h6 rfl

end Sys2Proof.Machine
end

