-- ==== Sys2Proof/Laws/FootSearch.lean ====
section
/-! SUPPORT. What each operation of Machine/Search.lean can touch. -/

namespace Sys2Proof.Machine
open Sys2Proof

theorem State.setEntry_touch {s : State} {g : ℕ} {e : SrchEntry} :
    Touch { regs := true, srch := true } s (State.setEntry s g e) := by
  unfold State.setEntry
  exact State.count_touch.on rfl (.upd_srch .refl rfl)

theorem State.search_touch {s : State} {b key mask segs : ℕ} {global : Bool} :
    Touch { regs := true } s (State.search s b key mask segs global).1 := by
  unfold State.search
  extract_lets v0 v1 v2
  refine .step (x := v1) (State.count_touch.on rfl .refl) fun h3 => ?_
  refine .step (x := v2) (.ite (State.count_touch.on rfl h3) h3) fun h4 => ?_
  exact .ite (State.count_touch.on rfl h4) h4

theorem State.spendSlot_touch {s : State} {b : ℕ} {k : SlotKind} :
    Touch { srch := true } s (State.spendSlot s b k) := by
  unfold State.spendSlot
  exact .upd_srch .refl rfl

theorem State.searchKeys_touch {n f : Nat} {s : State} :
    Touch { regs := true, cmd := true, srch := true } s (State.searchKeys n f s) := by
  induction f generalizing s with
  | zero => exact .refl
  | succ f ih =>
    rw [State.searchKeys]
    split
    · exact .refl
    · split
      · exact .refl
      · exact ih.on rfl (State.modItem_touch.on rfl (State.spendSlot_touch.on rfl
          ((State.search_touch.on rfl Touch.refl).upd_srch rfl)))

theorem State.searchGo_touch {s : State} {n : ℕ} :
    Touch { regs := true, cmd := true, srch := true } s (State.searchGo s n) := by
  unfold State.searchGo
  split
  · rename_i w0 e1
    exact .refl
  · rename_i w2 w3 e4
    exact .ite .refl (State.searchKeys_touch.on rfl .refl)

theorem State.searchAll_touch {s : State} :
    Touch { regs := true, cmd := true, srch := true } s (State.searchAll s) := by
  unfold State.searchAll
  exact .foldl (fun x0 y1 h2 => (State.searchGo_touch.on rfl h2)) .refl

theorem State.fwResult_touch {s : State} {r : SrchResult} :
    Touch { regs := true, srch := true } s (State.fwResult s r) := by
  unfold State.fwResult
  extract_lets v0 v1 v2 v3
  refine .step (x := v1) (State.setReg_touch.on rfl .refl) fun h4 => ?_
  refine .step (x := v2) (State.setReg_touch.on rfl (State.setReg_touch.on rfl (State.setReg_touch.on rfl h4))) fun h5 => ?_
  exact State.raise_touch.on rfl (.upd_srch h5 rfl)

theorem State.readOut_touch {s : State} {r : SrchResult} {badPrio badAssoc : Bool} :
    Touch { freeCtr := true } s (State.readOut s r badPrio badAssoc).1 := by
  unfold State.readOut
  split
  · exact .refl
  · cases badPrio
    · exact .refl
    · exact State.free_touch

theorem State.searchReady_touch {s : State} {b : ℕ} {badPrio badAssoc : Bool} :
    Touch { regs := true, cmd := true, srch := true, freeCtr := true } s (State.searchReady s b badPrio badAssoc) := by
  unfold State.searchReady
  split
  · rename_i w0 w1 w2 e3
    split
    · rename_i w4
      exact .refl
    · rename_i w5 w6 w7 w8
      split
      · rename_i w9 w10 w11 e12
        refine .step (x := w10) (.fst e12 (State.readOut_touch.on rfl (.upd_srch .refl rfl))) fun h13 => ?_
        refine .ite ?_ ?_
        · exact State.fwResult_touch.on rfl h13
        · split
          · rename_i w14 e15
            exact h13
          · rename_i w16 w17 e18
            extract_lets v19
            refine .step (x := v19) (State.modItem_touch.on rfl h13) fun h20 => ?_
            exact .ite (State.finish_touch.on rfl h20) h20

theorem State.countFault_touch {s : State} {unit : ℕ} :
    Touch { regs := true, dram := true, tel := true } s (State.countFault s unit) := by
  unfold State.countFault
  exact State.post_touch.on rfl (State.raise_touch.on rfl (State.count_touch.on rfl .refl))

theorem State.updDone_touch {s : State} {n : ℕ} :
    Touch { srch := true } s (State.updDone s n) := by
  unfold State.updDone
  exact .upd_srch .refl rfl

theorem State.updSlot_touch {s : State} {n : ℕ} {delivered : Bool} :
    Touch { regs := true, cmd := true, srch := true, dram := true, tel := true } s (State.updSlot s n delivered) := by
  unfold State.updSlot
  split
  · rename_i w0 e1
    exact .refl
  · rename_i w2 w3 e4
    extract_lets v5 v6 v7 v8 v9 v10 v11
    refine .ite ?_ ?_
    · exact .refl
    · refine .ite ?_ ?_
      · exact .refl
      · refine .ite ?_ ?_
        · exact .ite (State.countFault_touch.on rfl (State.searchAll_touch.on rfl (State.updDone_touch.on rfl (State.finish_touch.on rfl (State.modItem_touch.on rfl .refl))))) .refl
        · split
          · rename_i w12 w13 w14 w15 w16 e17
            extract_lets v18 v19 v20 v21 v22
            refine .step (x := v21) (State.spendSlot_touch.on rfl (State.setEntry_touch.on rfl .refl)) fun h23 => ?_
            refine .step (x := v22) (State.modItem_touch.on rfl h23) fun h24 => ?_
            exact .ite (State.searchAll_touch.on rfl (State.updDone_touch.on rfl (State.finish_touch.on rfl (State.modItem_touch.on rfl .refl)))) (.ite (State.searchAll_touch.on rfl (State.updDone_touch.on rfl (State.finish_touch.on rfl h24))) h24)

theorem State.clsSweep_touch {s : State} :
    Touch { regs := true, srch := true } s (State.clsSweep s) := by
  unfold State.clsSweep
  split
  · rename_i w0 e1
    exact .refl
  · rename_i w2 w3 w4 w5 w6 e7
    extract_lets v8 v9 v10
    refine .step (x := v9) (.upd_srch .refl rfl) fun h11 => ?_
    exact .ite (State.setEntry_touch.on rfl h11) h11

theorem State.sweepSlot_touch {s : State} {b : ℕ} :
    Touch { regs := true, srch := true } s (State.sweepSlot s b) := by
  unfold State.sweepSlot
  refine .ite ?_ ?_
  · exact .refl
  · refine .ite ?_ ?_
    · exact .ite .refl (State.spendSlot_touch.on rfl (State.clsSweep_touch.on rfl .refl))
    · split
      · rename_i w0 w1 w2 e3
        split
        · rename_i w4
          exact .refl
        · rename_i w5 w6 w7
          extract_lets v8 v9 v10
          refine .step (x := v9) (State.spendSlot_touch.on rfl (State.setEntry_touch.on rfl .refl)) fun h11 => ?_
          exact .upd_srch h11 rfl

theorem State.startSweep_touch {s : State} {b seg n : ℕ} :
    Touch { srch := true } s (State.startSweep s b seg n) := by
  unfold State.startSweep
  exact .ite .refl (.upd_srch .refl rfl)

theorem State.dropClassifier_touch {s : State} {i ports : ℕ} :
    Touch { srch := true } s (State.dropClassifier s i ports) := by
  unfold State.dropClassifier
  extract_lets v0 v1
  exact .upd_srch .refl rfl

theorem State.checkEntry_touch {s : State} {b i err : ℕ} :
    Touch { regs := true, srch := true, dram := true, tel := true } s (State.checkEntry s b i err) := by
  unfold State.checkEntry
  refine .ite ?_ ?_
  · exact .refl
  · refine .ite ?_ ?_
    · exact State.spendSlot_touch.on rfl .refl
    · extract_lets v0 v1 v2 v3 v4 v5 v6
      refine .step (x := v0) (State.spendSlot_touch.on rfl .refl) fun h7 => ?_
      refine .step (x := v5) (.upd_srch h7 rfl) fun h8 => ?_
      refine .step (x := v6) (State.setFld_touch.on rfl (State.count_touch.on rfl h8)) fun h9 => ?_
      exact State.raise_touch.on rfl (State.fault_touch.on rfl h9)

theorem State.fwSlot_touch {s : State} :
    Touch { regs := true, srch := true } s (State.fwSlot s) := by
  unfold State.fwSlot
  extract_lets v0 v1 v2 v3 v4 v5 v6
  refine .step (x := v1) (State.spendSlot_touch.on rfl .refl) fun h7 => ?_
  refine .step (x := v4) (State.setEntry_touch.on rfl h7) fun h8 => ?_
  refine .step (x := v6) (.upd_srch h8 rfl) fun h9 => ?_
  refine .ite ?_ ?_
  · exact .refl
  · refine .ite ?_ ?_
    · split
      · rename_i w10 w11 w12 e13
        refine .step (x := w11) (.fst e13 (State.search_touch.on rfl h7)) fun h14 => ?_
        exact .upd_srch h14 rfl
    · exact State.raise_touch.on rfl (State.setFld_touch.on rfl h9)

theorem State.nextWindow_touch {s : State} {cap : ℕ} :
    Touch { regs := true, cmd := true, srch := true } s (State.nextWindow s cap) := by
  unfold State.nextWindow
  extract_lets v0 v1
  refine .step (x := v0) (.foldl (fun x3 y4 h5 => (.ite (State.countN_touch.on rfl h5) h5)) .refl) fun h2 => ?_
  exact State.fwSlot_touch.on rfl (State.searchAll_touch.on rfl (.upd_srch h2 rfl))

theorem State.fwCmd_touch {s : State} {op bank index : ℕ} {global : Bool} :
    Touch { regs := true, srch := true, dram := true, tel := true } s (State.fwCmd s op bank index global) := by
  unfold State.fwCmd
  refine .ite ?_ ?_
  · exact State.capture_touch.on rfl .refl
  · extract_lets v0 v1 v2 v3
    refine .step (x := v3) (.upd_srch .refl rfl) fun h4 => ?_
    exact State.fwSlot_touch.on rfl (State.setFld_touch.on rfl h4)

theorem State.fwWrite_touch {s : State} {op bank index : ℕ} {global : Bool} :
    Touch { regs := true, srch := true, dram := true, tel := true } s (State.fwWrite s op bank index global) := by
  unfold State.fwWrite
  exact .ite (State.count_touch.on rfl .refl) (State.fwCmd_touch.on rfl .refl)

end Sys2Proof.Machine
end

