-- ==== Sys2Proof/Laws/FootPhys.lean ====
section
/-! SUPPORT. What each operation of Machine/Phys.lean can touch. -/

namespace Sys2Proof.Machine
open Sys2Proof

theorem State.setCore_touch {s : State} {c : ℕ} {x : Core} :
    Touch { cores := true } s (State.setCore s c x) := by
  unfold State.setCore
  exact .upd_cores .refl rfl

theorem State.physSet_touch {s : State} {a : ℕ} {b : Byte} :
    Touch { buf := true, cores := true, dram := true } s (State.physSet s a b) := by
  unfold State.physSet
  split
  · rename_i w0 w1 e2
    exact State.dramWrite_touch.on rfl .refl
  · rename_i w3 w4 e5
    exact State.sramSet_touch.on rfl .refl
  · rename_i w6 w7 w8 e9
    exact State.setCore_touch.on rfl .refl
  · rename_i w10 w11 w12 e13
    exact State.setCore_touch.on rfl .refl
  · rename_i w14 w15 e16
    exact .refl
  · rename_i w17 w18 e19
    exact .refl
  · rename_i w20 e21
    exact .refl

theorem State.physWrite_touch {s : State} {a : Nat} {data : List Byte} {t : State} (e : State.physWrite s a data = some t) :
    Touch { buf := true, cores := true, dram := true } s t := by
  unfold State.physWrite at e
  split at e
  · split at e
    · split at e
      · cases e; exact State.dramWrite_touch.on rfl .refl
      · cases e
    · cases e; exact .foldl (fun x a h => State.physSet_touch.on rfl h) .refl
  · cases e

theorem State.physPut_touch {s : State} {a : ℕ} {data : List Byte} :
    Touch { buf := true, cores := true, dram := true } s (State.physPut s a data) := by
  unfold State.physPut
  exact .getD (fun _ z0 => (State.physWrite_touch z0).on rfl .refl) .refl

end Sys2Proof.Machine
end

