-- ==== Sys2Proof/Laws/FootEngine.lean ====
section
/-! SUPPORT. What each operation of Machine/Engine.lean can touch. -/

namespace Sys2Proof.Machine
open Sys2Proof

theorem State.setRun_touch {s : State} {grp e : ℕ} {w : Option FrameWork} :
    Touch { regs := true, eng := true } s (State.setRun s grp e w) := by
  unfold State.setRun
  extract_lets v0 v1 v2
  refine .step (x := v2) (.ite (.upd_eng .refl rfl) (.upd_eng .refl rfl)) fun h3 => ?_
  exact State.setFld_touch.on rfl h3

theorem State.engineDispatch_touch {s : State} {grp : ℕ} :
    Touch { regs := true, eng := true } s (State.engineDispatch s grp) := by
  unfold State.engineDispatch
  extract_lets v0 v1
  clear_value v1
  split
  · rename_i w2 w3 w4 w5 e6
    exact State.setRun_touch.on rfl .refl
  · rename_i w7 w8 w9 e10
    exact .refl

theorem State.descEnd_touch {s : State} {grp i status len : ℕ} :
    Touch { eng := true } s (State.descEnd s grp i status len) := by
  unfold State.descEnd
  exact .upd_eng .refl rfl

theorem State.passHead_touch {grp n : Nat} {s : State} :
    Touch { regs := true, eng := true } s (State.passHead grp n s) := by
  induction n generalizing s with
  | zero => exact .refl
  | succ n ih =>
    rw [State.passHead]
    exact .ite (ih.on rfl (State.setFld_touch.on rfl (Touch.refl.upd_eng rfl))) .refl

theorem State.userGone_touch {s : State} {k : ℕ} :
    Touch { regs := true } s (State.userGone s k) := by
  unfold State.userGone
  exact State.setFld_touch.on rfl .refl

theorem State.descBack_touch {s : State} {grp i : ℕ} :
    Touch { regs := true, buf := true, eng := true, cores := true, dram := true } s (State.descBack s grp i) := by
  unfold State.descBack
  split
  · rename_i w0 e1
    exact .refl
  · rename_i w2 w3 w4 e5
    extract_lets v6 v7 v8 v9 v10 v11 v12 v13 v14 v15 v16
    refine .step (x := v8) (.upd_eng .refl rfl) fun h17 => ?_
    refine .step (x := v10) (.ite (.ite h17 (State.physPut_touch.on rfl h17)) (State.physPut_touch.on rfl h17)) fun h18 => ?_
    refine .step (x := v11) (State.physPut_touch.on rfl h18) fun h19 => ?_
    refine .step (x := v13) ?_ fun h20 => ?_
    · unfold v13
      split
      · rename_i w21 w22 e23
        exact State.userGone_touch.on rfl (.upd_eng h19 rfl)
      · rename_i w24 e25
        exact h19
    refine .step (x := v15) (.upd_eng h20 rfl) fun h26 => ?_
    refine .step (x := v16) (.ite (State.raise_touch.on rfl h26) h26) fun h27 => ?_
    exact State.passHead_touch.on rfl h27

theorem State.dmaSeen_touch {s : State} {page a n : ℕ} :
    Touch { regs := true, dram := true, tel := true } s (State.dmaSeen s page a n) := by
  unfold State.dmaSeen
  refine .ite ?_ ?_
  · extract_lets v0
    exact State.capture_touch.on rfl .refl
  · exact .refl

theorem State.ringTake_touch {s : State} {grp : ℕ} :
    Touch { eng := true } s (State.ringTake s grp) := by
  unfold State.ringTake
  exact .upd_eng .refl rfl

theorem State.descRun_touch {s : State} {grp e i op fmt cap : ℕ} {src : Option (List Byte)} {poison : Bool} :
    Touch { regs := true, eng := true } s (State.descRun s grp e i op fmt cap src poison) := by
  unfold State.descRun
  split
  · rename_i w0
    exact State.descEnd_touch.on rfl .refl
  · rename_i w1 w2
    refine .ite ?_ ?_
    · exact State.descEnd_touch.on rfl .refl
    · extract_lets v3
      exact State.setRun_touch.on rfl .refl

theorem State.descStart_touch {s : State} {grp : ℕ} :
    Touch { regs := true, eng := true, dram := true, tel := true } s (State.descStart s grp) := by
  unfold State.descStart
  split
  · rename_i w0 e1
    exact .refl
  · rename_i w2 w3 e4
    refine .ite ?_ ?_
    · exact .refl
    · extract_lets v5 v6 v7 v8 v9 v10 v11 v12 v13 v14 v15
      refine .step (x := v8) (State.dmaSeen_touch.on rfl (State.ringTake_touch.on rfl .refl)) fun h16 => ?_
      exact .ite (State.descEnd_touch.on rfl h16) (.ite (State.descEnd_touch.on rfl h16) (.ite (State.descEnd_touch.on rfl h16) (State.descRun_touch.on rfl (State.dmaSeen_touch.on rfl h16))))

theorem State.descOut_touch {s : State} {grp i page : ℕ} {out : List Byte} :
    Touch { regs := true, buf := true, eng := true, cores := true, dram := true, tel := true } s (State.descOut s grp i page out) := by
  unfold State.descOut
  split
  · rename_i w0 e1
    exact State.descEnd_touch.on rfl .refl
  · rename_i w2 w3 e4
    refine .ite ?_ ?_
    · exact State.descEnd_touch.on rfl .refl
    · split
      · rename_i w5 e6
        exact State.descEnd_touch.on rfl (State.dmaSeen_touch.on rfl .refl)
      · rename_i w7 w8 e9
        refine .step (x := w8) ((State.physWrite_touch e9).on rfl .refl) fun h10 => ?_
        exact State.descEnd_touch.on rfl h10

theorem State.giveRoom_touch {s : State} {n surplus : ℕ} :
    Touch { flash := true } s (State.giveRoom s n surplus) := by
  unfold State.giveRoom
  exact .upd_flash .refl rfl

theorem State.frameFor_touch {s : State} {w : FrameWork} {frame : List Byte} :
    Touch { cmd := true, flash := true } s (State.frameFor s w frame) := by
  unfold State.frameFor
  split
  · rename_i w0 w1 e2
    extract_lets v3 v4
    exact State.modUnit_touch.on rfl (.upd_flash .refl rfl)
  · rename_i w5 w6 e7
    extract_lets v8
    exact State.giveRoom_touch.on rfl (State.modGw_touch.on rfl .refl)
  · rename_i w9 e10 e11
    exact .refl

theorem State.frameOut_touch {s : State} {e : ℕ} {w : FrameWork} {r : List Byte × Bool × Bool} :
    Touch { regs := true, cmd := true, flash := true, buf := true, eng := true, cores := true, dram := true, tel := true } s (State.frameOut s e w r) := by
  unfold State.frameOut
  extract_lets v0 v1 v2 v3
  refine .step (x := v1) (State.countPair_touch.on rfl (State.countPair_touch.on rfl (State.count_touch.on rfl .refl))) fun h4 => ?_
  refine .step (x := v2) (.ite (State.count_touch.on rfl h4) h4) fun h5 => ?_
  refine .step (x := v3) (.ite (State.post_touch.on rfl (State.raise_touch.on rfl (State.count_touch.on rfl h5))) h5) fun h6 => ?_
  split
  · rename_i w7 w8 e9
    exact State.descOut_touch.on rfl h6
  · rename_i w10 e11
    exact State.frameFor_touch.on rfl h6

theorem State.descPoison_touch {s : State} {grp i : ℕ} :
    Touch { eng := true } s (State.descPoison s grp i) := by
  unfold State.descPoison
  exact State.descEnd_touch.on rfl .refl

theorem State.frameMade_touch {s : State} {e : ℕ} {cand : List Byte} {poison : Bool} :
    Touch { regs := true, cmd := true, flash := true, buf := true, eng := true, cores := true, dram := true, tel := true } s (State.frameMade s e cand poison) := by
  unfold State.frameMade
  split
  · rename_i w0 e1
    exact .refl
  · rename_i w2 w3 e4
    refine .ite ?_ ?_
    · exact .refl
    · extract_lets v5
      refine .step (x := v5) (State.setRun_touch.on rfl .refl) fun h6 => ?_
      refine .ite ?_ ?_
      · split
        · rename_i w7 w8 e9
          exact .ite (State.descPoison_touch.on rfl h6) (State.descEnd_touch.on rfl h6)
        · rename_i w10 e11
          split
          · rename_i w12 w13 e14
            exact State.failGrain_touch.on rfl h6
          · rename_i w15 w16 e17
            exact State.unitFail_touch.on rfl h6
          · rename_i w18 e19 e20
            exact h6
      · exact State.frameOut_touch.on rfl h6

theorem State.countDecode_touch {s : State} {e : ℕ} {r : Dec (List Byte)} {key : ℕ} :
    Touch { regs := true, dram := true, tel := true } s (State.countDecode s e r key) := by
  unfold State.countDecode
  extract_lets v0 v1
  refine .step (x := v1) (State.count_touch.on rfl .refl) fun h2 => ?_
  split
  · rename_i w3 w4
    exact State.countPair_touch.on rfl h2
  · rename_i w5 w6
    exact .ite h2 (State.post_touch.on rfl (State.raise_touch.on rfl (State.count_touch.on rfl h2)))

theorem State.bgDecoded_touch {s : State} {b : ℕ} {r : Dec (List Byte)} :
    Touch { regs := true, host := true, cmd := true, insts := true, flash := true, dram := true, tel := true } s (State.bgDecoded s b r) := by
  unfold State.bgDecoded
  split
  · rename_i w0 w1 w2 w3 e4
    exact State.bgOver_touch.on rfl (.ite (State.unitBase_touch.on rfl .refl) .refl)
  · rename_i w5 w6 w7 e8
    exact State.bgOver_touch.on rfl .refl

theorem State.landFor_touch {s : State} {w : Who} {grain : ℕ} {d : List Byte} :
    Touch { buf := true } s (State.landFor s w grain d) := by
  unfold State.landFor
  split
  · rename_i w0 w1
    split
    · rename_i w2 w3 e4
      exact State.landGrain_touch.on rfl .refl
    · rename_i w5 e6
      exact .refl
  · rename_i w7 e8
    exact .refl

theorem State.frameDecoded_touch {s : State} {e : ℕ} {arrived : Option (List Byte)} {poison : Bool} :
    Touch { regs := true, host := true, cmd := true, insts := true, flash := true, buf := true, eng := true, cores := true, dram := true, tel := true } s (State.frameDecoded s e arrived poison) := by
  unfold State.frameDecoded
  split
  · rename_i w0 e1
    exact .refl
  · rename_i w2 w3 e4
    extract_lets v5 v6 v7 v8
    refine .step (x := v5) (State.setRun_touch.on rfl .refl) fun h9 => ?_
    split
    · rename_i w10 w11 e12
      extract_lets v13
      refine .step (x := v13) (State.countDecode_touch.on rfl h9) fun h14 => ?_
      clear_value v6
      split
      · rename_i w15 w16
        exact State.descOut_touch.on rfl h14
      · rename_i w17 w18
        exact .ite (State.descPoison_touch.on rfl h14) (State.descEnd_touch.on rfl h14)
    · rename_i w19 e20
      clear_value v7
      split
      · rename_i w21 w22 w23 e24
        exact h9
      · rename_i w25 w26 w27 w28 e29
        exact State.bgDecoded_touch.on rfl (State.countDecode_touch.on rfl h9)
      · rename_i w30 w31 w32 w33 e34 e35
        extract_lets v36 v37 v38 v39
        refine .step (x := v39) (State.countDecode_touch.on rfl h9) fun h40 => ?_
        clear_value v37
        split
        · rename_i w41 w42
          exact State.landFor_touch.on rfl (State.modGw_touch.on rfl h40)
        · rename_i w43 w44
          exact State.failGrain_touch.on rfl h40
        · rename_i w45 w46 w47 e48
          exact State.failGrain_touch.on rfl (.ite (State.queueReread_touch.on rfl h40) h40)

end Sys2Proof.Machine
end

