-- ==== Sys2Proof/Laws/FootDigest.lean ====
section
/-! SUPPORT. What each operation of Machine/Digest.lean can touch. -/

namespace Sys2Proof.Machine
open Sys2Proof

theorem State.ksEnd_touch {s : State} {reason : Option ℕ} :
    Touch { regs := true, dig := true } s (State.ksEnd s reason) := by
  unfold State.ksEnd
  extract_lets v0 v1
  refine .step (x := v1) ?_ fun h2 => ?_
  · unfold v1
    split
    · rename_i w3
      exact State.setReg_touch.on rfl .refl
    · rename_i w4 w5
      exact State.setReg_touch.on rfl (.upd_dig .refl rfl)
  exact State.raise_touch.on rfl h2

theorem State.ksLoad_touch {s : State} {k : ℕ} :
    Touch { regs := true, dig := true } s (State.ksLoad s k) := by
  unfold State.ksLoad
  extract_lets v0 v1 v2 v3 v4 v5
  refine .step (x := v5) (.upd_dig .refl rfl) fun h6 => ?_
  exact .ite (State.ksEnd_touch.on rfl .refl) (.ite (State.ksEnd_touch.on rfl .refl) (.ite (State.ksEnd_touch.on rfl .refl) (.ite (State.ksEnd_touch.on rfl .refl) (State.ksEnd_touch.on rfl (State.setFld_touch.on rfl (State.setFld_touch.on rfl (State.setFld_touch.on rfl h6)))))))

theorem State.ksErase_touch {s : State} {k : ℕ} :
    Touch { regs := true, dig := true } s (State.ksErase s k) := by
  unfold State.ksErase
  refine .ite ?_ ?_
  · exact State.ksEnd_touch.on rfl .refl
  · refine .ite ?_ ?_
    · exact State.ksEnd_touch.on rfl .refl
    · extract_lets v0 v1
      refine .step (x := v1) (.upd_dig .refl rfl) fun h2 => ?_
      exact State.ksEnd_touch.on rfl (State.setFld_touch.on rfl h2)

theorem State.ksLock_touch {s : State} {k : ℕ} :
    Touch { regs := true, dig := true } s (State.ksLock s k) := by
  unfold State.ksLock
  exact .ite (State.ksEnd_touch.on rfl .refl) (.ite (State.ksEnd_touch.on rfl .refl) (State.ksEnd_touch.on rfl (State.setFld_touch.on rfl .refl)))

theorem State.ksDo_touch {s : State} {op k : ℕ} :
    Touch { regs := true, dig := true } s (State.ksDo s op k) := by
  unfold State.ksDo
  split
  · rename_i w0
    exact State.ksLoad_touch.on rfl .refl
  · rename_i w1
    exact State.ksErase_touch.on rfl .refl
  · rename_i w2
    exact State.ksLock_touch.on rfl .refl
  · rename_i w3 e4 e5 e6
    exact .refl

theorem State.ksCmd_touch {s : State} {op k : ℕ} :
    Touch { regs := true, dig := true } s (State.ksCmd s op k) := by
  unfold State.ksCmd
  exact .ite (State.ksDo_touch.on rfl .refl) (.upd_dig .refl rfl)

theorem State.ksRun_touch {s : State} :
    Touch { regs := true, dig := true } s (State.ksRun s) := by
  unfold State.ksRun
  exact .ite (.foldl (fun x0 y1 h2 => (State.ksDo_touch.on rfl h2)) (.upd_dig .refl rfl)) .refl

theorem State.ksRefused_touch {s : State} {req : ℕ} :
    Touch { regs := true, dram := true, tel := true } s (State.ksRefused s req).2 := by
  unfold State.ksRefused
  split
  · rename_i e0
    exact State.capture_touch.on rfl .refl
  · rename_i e1
    exact .refl

theorem State.wipeDigest_touch {s : State} :
    Touch { regs := true, dig := true } s (State.wipeDigest s) := by
  unfold State.wipeDigest
  extract_lets v0
  refine .step (x := v0) (.foldl (fun x2 y3 h4 => (State.setReg_touch.on rfl h4)) .refl) fun h1 => ?_
  exact .upd_dig h1 rfl

theorem State.setCtx_touch {s : State} {n : ℕ} {c : DigCtx} :
    Touch { dig := true } s (State.setCtx s n c) := by
  unfold State.setCtx
  exact .upd_dig .refl rfl

theorem State.delCtx_touch {s : State} {n : ℕ} :
    Touch { dig := true } s (State.delCtx s n) := by
  unfold State.delCtx
  exact .upd_dig .refl rfl

theorem State.digFeed_touch {s : State} {n : ℕ} :
    Touch { regs := true, cmd := true, dig := true } s (State.digFeed s n) := by
  unfold State.digFeed
  split
  · rename_i w0 e1
    exact .refl
  · rename_i w2 w3 e4
    refine .ite ?_ ?_
    · exact .refl
    · extract_lets v5 v6
      split
      · rename_i w7 w8 w9 e10
        exact .ite .refl (State.modItem_touch.on rfl (State.setCtx_touch.on rfl .refl))
      · rename_i w11 e12
        refine .ite ?_ ?_
        · exact .refl
        · split
          · rename_i w13 w14 e15
            exact State.modItem_touch.on rfl (State.setCtx_touch.on rfl .refl)
          · rename_i w16 e17
            exact .ite (State.modItem_touch.on rfl (State.count_touch.on rfl .refl)) .refl

theorem State.digRetry_touch {s : State} :
    Touch { regs := true, cmd := true, dig := true } s (State.digRetry s) := by
  unfold State.digRetry
  exact .foldl (fun x0 y1 h2 => (State.digFeed_touch.on rfl h2)) .refl

theorem State.digDeliver_touch {s : State} {e n : ℕ} {c : DigCtx} {upA upB : Bool} :
    Touch { regs := true, cmd := true, buf := true, eng := true, dig := true, cores := true, dram := true, tel := true } s (State.digDeliver s e n c upA upB) := by
  unfold State.digDeliver
  extract_lets v0 v1 v2 v3 v4 v5
  refine .step (x := v3) (State.delCtx_touch.on rfl .refl) fun h6 => ?_
  refine .step (x := v4) (.ite (State.raise_touch.on rfl (State.fault_touch.on rfl (State.count_touch.on rfl h6))) h6) fun h7 => ?_
  refine .step (x := v5) ?_ fun h8 => ?_
  · unfold v5
    refine .ite ?_ ?_
    · exact State.finish_touch.on rfl h7
    · refine .ite ?_ ?_
      · exact State.descEnd_touch.on rfl h7
      · split
        · rename_i w9 e10
          exact State.descEnd_touch.on rfl h7
        · rename_i w11 w12 e13
          split
          · rename_i w14 e15
            exact State.descEnd_touch.on rfl (State.dmaSeen_touch.on rfl h7)
          · rename_i w16 w17 e18
            refine .step (x := w17) ((State.physWrite_touch e18).on rfl h7) fun h19 => ?_
            exact State.descEnd_touch.on rfl h19
  exact State.digRetry_touch.on rfl h8

theorem State.heStat_touch {s : State} {e : ℕ} {x : Option (ℕ × DigCtx)} :
    Touch { regs := true } s (State.heStat s e x) := by
  unfold State.heStat
  exact State.setReg_touch.on rfl .refl

theorem State.heTake_touch {s : State} {e : ℕ} {was : Option ℕ} :
    Touch { regs := true, dig := true } s (State.heTake s e was) := by
  unfold State.heTake
  extract_lets v0 v1
  refine .step (x := v1) ?_ fun h2 => ?_
  · unfold v1
    split
    · rename_i w3 w4 w5 e6
      exact State.setCtx_touch.on rfl .refl
    · rename_i w7 e8
      exact .refl
  split
  · rename_i w9 e10
    exact State.heStat_touch.on rfl h2
  · rename_i w11 w12 w13 e14
    extract_lets v15
    refine .step (x := v15) ?_ fun h16 => ?_
    · unfold v15
      split
      · rename_i w17 w18 w19 e20
        exact .ite .refl (State.count_touch.on rfl (State.setCtx_touch.on rfl .refl))
      · rename_i w21 e22
        exact .refl
    exact State.heStat_touch.on rfl (State.setCtx_touch.on rfl h16)

theorem State.digestBlockEnd_touch {s : State} {e : ℕ} {upA upB : Bool} :
    Touch { regs := true, cmd := true, buf := true, eng := true, dig := true, cores := true, dram := true, tel := true } s (State.digestBlockEnd s e upA upB) := by
  unfold State.digestBlockEnd
  refine .ite ?_ ?_
  · exact .refl
  · split
    · rename_i w0 e1
      extract_lets v2
      clear_value v2
      split
      · rename_i w3 w4
        exact State.heTake_touch.on rfl .refl
      · rename_i w5
        exact .refl
    · rename_i w6 w7 w8 e9
      refine .ite ?_ ?_
      · exact State.heTake_touch.on rfl .refl
      · extract_lets v10 v11 v12 v13 v14
        refine .step (x := v12) (State.countPair_touch.on rfl (State.count_touch.on rfl .refl)) fun h15 => ?_
        refine .step (x := v13) (State.heTake_touch.on rfl (State.digDeliver_touch.on rfl h15)) fun h16 => ?_
        exact .ite (.ite (State.count_touch.on rfl h16) h16) (State.heTake_touch.on rfl (State.setCtx_touch.on rfl h15))

theorem State.digDescStart_touch {s : State} :
    Touch { regs := true, buf := true, eng := true, dig := true, cores := true, dram := true, tel := true } s (State.digDescStart s) := by
  unfold State.digDescStart
  refine .ite ?_ ?_
  · exact .refl
  · extract_lets v0 v1 v2 v3 v4 v5 v6 v7 v8 v9 v10 v11 v12 v13 v14 v15 v16
    refine .step (x := v12) (State.dmaSeen_touch.on rfl (State.dmaSeen_touch.on rfl (State.dmaSeen_touch.on rfl (State.ringTake_touch.on rfl (.upd_dig .refl rfl))))) fun h17 => ?_
    refine .step (x := v13) (State.setFld_touch.on rfl h17) fun h18 => ?_
    refine .step (x := v15) (.ite (.upd_eng h18 rfl) h17) fun h19 => ?_
    refine .ite ?_ ?_
    · exact State.descEnd_touch.on rfl (State.dmaSeen_touch.on rfl (State.ringTake_touch.on rfl (.upd_dig .refl rfl)))
    · refine .ite ?_ ?_
      · exact State.descBack_touch.on rfl (State.descEnd_touch.on rfl (State.dmaSeen_touch.on rfl (State.ringTake_touch.on rfl (.upd_dig .refl rfl))))
      · refine .ite ?_ ?_
        · exact State.descBack_touch.on rfl (State.descEnd_touch.on rfl (State.dmaSeen_touch.on rfl (State.ringTake_touch.on rfl (.upd_dig .refl rfl))))
        · split
          · rename_i w20 e21
            exact .ite .refl (State.count_touch.on rfl (.upd_dig .refl rfl))
          · rename_i w22 w23 e24
            split
            · rename_i w25 w26 w27 w28 e29 e30
              exact State.setCtx_touch.on rfl h19
            · rename_i w31 w32 e33
              exact .ite (State.descPoison_touch.on rfl h19) (State.descEnd_touch.on rfl h19)

theorem State.ksWrite_touch {s : State} {req op slot : ℕ} :
    Touch { regs := true, dig := true, dram := true, tel := true } s (State.ksWrite s req op slot) := by
  unfold State.ksWrite
  exact .ite (State.count_touch.on rfl .refl) (.ite (State.ksRefused_touch.on rfl .refl) (State.ksCmd_touch.on rfl .refl))

end Sys2Proof.Machine
end

