-- ==== Sys2Proof/Laws/FootScan.lean ====
section
/-! SUPPORT. What each operation of Machine/Scan.lean can touch. -/

namespace Sys2Proof.Machine
open Sys2Proof

theorem State.loadProgram_touch {s : State} {n : ℕ} {it : Item} {m : List Byte} :
    Touch { cmd := true, insts := true, scan := true } s (State.loadProgram s n it m) := by
  unfold State.loadProgram
  extract_lets v0 v1 v2 v3 v4 v5
  refine .step (x := v3) (State.modInst_touch.on rfl .refl) fun h6 => ?_
  exact .ite (State.finish_touch.on rfl .refl) (State.finish_touch.on rfl (.upd_scan h6 rfl))

theorem State.freeProg_touch {s : State} {k : ℕ} :
    Touch { scan := true } s (State.freeProg s k) := by
  unfold State.freeProg
  split
  · rename_i w0 w1 e2
    exact .ite (.upd_scan .refl rfl) .refl
  · rename_i w3 e4
    exact .refl

theorem State.unloadProgram_touch {s : State} {inst handle : ℕ} :
    Touch { scan := true } s (State.unloadProgram s inst handle) := by
  unfold State.unloadProgram
  extract_lets v0 v1
  exact State.freeProg_touch.on rfl (.upd_scan .refl rfl)

theorem State.setCluster_touch {s : State} {cc : ℕ} {x : Cluster} :
    Touch { scan := true } s (State.setCluster s cc x) := by
  unfold State.setCluster
  exact .upd_scan .refl rfl

theorem State.modScan_touch {s : State} {n : ℕ} {f : ScanSt → ScanSt} :
    Touch { scan := true } s (State.modScan s n f) := by
  unfold State.modScan
  exact .upd_scan .refl rfl

theorem State.syncCluster_touch {s : State} {cc : ℕ} :
    Touch { regs := true } s (State.syncCluster s cc) := by
  unfold State.syncCluster
  extract_lets v0 v1 v2
  refine .step (x := v2) (State.setFld_touch.on rfl (State.setFld_touch.on rfl .refl)) fun h3 => ?_
  exact .foldl (fun x4 y5 h6 => (State.setFld_touch.on rfl h6)) h3

theorem State.startScan_touch {s : State} {n : ℕ} {it : Item} :
    Touch { scan := true } s (State.startScan s n it) := by
  unfold State.startScan
  extract_lets v0 v1
  exact .upd_scan .refl rfl

theorem State.wipeCluster_touch {s : State} {cc : ℕ} :
    Touch { regs := true, cores := true, scan := true } s (State.wipeCluster s cc) := by
  unfold State.wipeCluster
  extract_lets v0 v1
  refine .step (x := v0) (.foldl (fun x3 y4 h5 => (State.setCore_touch.on rfl h5)) .refl) fun h2 => ?_
  exact State.count_touch.on rfl (State.setCluster_touch.on rfl h2)

theorem State.loadCluster_touch {s : State} {cc : ℕ} {m : List Byte} :
    Touch { cores := true, scan := true } s (State.loadCluster s cc m) := by
  unfold State.loadCluster
  extract_lets v0 v1 v2 v3 v4
  refine .step (x := v3) (State.setCluster_touch.on rfl .refl) fun h5 => ?_
  exact .foldl (fun x6 y7 h8 => (State.setCore_touch.on rfl h8)) h5

theorem State.runStart_touch {s : State} {n cc : ℕ} :
    Touch { regs := true, cores := true, scan := true } s (State.runStart s n cc) := by
  unfold State.runStart
  split
  · rename_i w0 w1 w2 w3 e4 e5
    extract_lets v6 v7 v8 v9 v10 v11 v12 v13
    refine .step (x := v9) (.ite (State.wipeCluster_touch.on rfl .refl) .refl) fun h14 => ?_
    refine .step (x := v10) (State.loadCluster_touch.on rfl h14) fun h15 => ?_
    refine .step (x := v12) (State.setCluster_touch.on rfl h15) fun h16 => ?_
    refine .step (x := v13) (State.modScan_touch.on rfl h16) fun h17 => ?_
    exact .ite .refl (State.syncCluster_touch.on rfl (State.setFld_touch.on rfl h17))
  · rename_i w18 w19 e20
    exact .refl

theorem State.jobOn_touch {s : State} {n c : ℕ} {it : Item} {x : ScanSt} {idx : ℕ} {j : Job} :
    Touch { regs := true, cores := true } s (State.jobOn s n c it x idx j) := by
  unfold State.jobOn
  extract_lets v0 v1 v2 v3 v4
  exact State.syncCluster_touch.on rfl (State.setCore_touch.on rfl .refl)

theorem State.jobStart_touch {s : State} {n : ℕ} :
    Touch { regs := true, cores := true, scan := true } s (State.jobStart s n) := by
  unfold State.jobStart
  split
  · rename_i w0 w1 w2 w3 e4 e5
    split
    · rename_i w6 w7 w8 w9 w10 w11 e12 e13
      extract_lets v14 v15
      refine .step (x := v15) (State.modScan_touch.on rfl .refl) fun h16 => ?_
      exact .ite .refl (State.jobOn_touch.on rfl h16)
    · rename_i w17 w18 e19
      exact .refl
  · rename_i w20 w21 e22
    exact .refl

theorem State.scanGrain_touch {s : State} {n idx : ℕ} {g : List Byte} :
    Touch { scan := true } s (State.scanGrain s n idx g) := by
  unfold State.scanGrain
  split
  · rename_i w0 w1 w2 w3 e4 e5
    refine .ite ?_ ?_
    · exact .refl
    · extract_lets v6
      exact State.modScan_touch.on rfl .refl
  · rename_i w7 w8 e9
    exact .refl

theorem State.freeClusters_touch {s : State} {n : ℕ} :
    Touch { regs := true, scan := true } s (State.freeClusters s n) := by
  unfold State.freeClusters
  split
  · rename_i w0 e1
    exact .refl
  · rename_i w2 w3 e4
    extract_lets v5 v6 v7
    refine .step (x := v5) (.foldl (fun x9 y10 h11 => (State.syncCluster_touch.on rfl (State.setCluster_touch.on rfl h11))) .refl) fun h8 => ?_
    refine .step (x := v7) (.upd_scan h8 rfl) fun h12 => ?_
    exact State.freeProg_touch.on rfl h12

theorem State.squashScan_touch {s : State} {n : ℕ} :
    Touch { regs := true, cores := true, scan := true } s (State.squashScan s n) := by
  unfold State.squashScan
  extract_lets v0 v1
  refine .step (x := v0) (.foldl (fun x3 y4 h5 => (State.count_touch.on rfl (State.setCore_touch.on rfl h5))) .refl) fun h2 => ?_
  exact .upd_scan h2 rfl

theorem State.scanStop_touch {s : State} {n status flags : ℕ} :
    Touch { regs := true, cmd := true, cores := true, scan := true } s (State.scanStop s n status flags) := by
  unfold State.scanStop
  split
  · rename_i w0 w1 w2 w3 e4 e5
    refine .ite ?_ ?_
    · exact .refl
    · extract_lets v6 v7 v8 v9 v10
      refine .step (x := v9) (State.squashScan_touch.on rfl (State.modScan_touch.on rfl .refl)) fun h11 => ?_
      refine .step (x := v10) (State.modItem_touch.on rfl h11) fun h12 => ?_
      exact State.freeClusters_touch.on rfl (State.finish_touch.on rfl h12)
  · rename_i w13 w14 e15
    exact .refl

theorem State.scanFail_touch {s : State} {n idx status : ℕ} :
    Touch { regs := true, cmd := true, cores := true, scan := true } s (State.scanFail s n idx status) := by
  unfold State.scanFail
  exact State.scanStop_touch.on rfl (State.modScan_touch.on rfl .refl)

theorem State.scanAdvance_touch {s : State} {n : ℕ} :
    Touch { regs := true, cmd := true, scan := true } s (State.scanAdvance s n) := by
  unfold State.scanAdvance
  split
  · rename_i w0 w1 w2 w3 e4 e5
    refine .ite ?_ ?_
    · exact .refl
    · extract_lets v6 v7
      refine .step (x := v7) (.ite (State.modScan_touch.on rfl .refl) .refl) fun h8 => ?_
      split
      · rename_i w9 e10
        exact h8
      · rename_i w11 w12 e13
        exact .ite (State.freeClusters_touch.on rfl (State.finish_touch.on rfl h8)) h8
  · rename_i w14 w15 e16
    exact .refl

theorem State.scanSkip_touch {s : State} {n idx : ℕ} :
    Touch { regs := true, cmd := true, scan := true } s (State.scanSkip s n idx) := by
  unfold State.scanSkip
  exact State.scanAdvance_touch.on rfl (State.modScan_touch.on rfl .refl)

theorem State.closingJobStart_touch {s : State} {c : ℕ} :
    Touch { regs := true, cores := true, scan := true } s (State.closingJobStart s c) := by
  unfold State.closingJobStart
  split
  · rename_i w0 e1
    exact .refl
  · rename_i w2 w3 w4 e5
    split
    · rename_i w6 e7
      exact .refl
    · rename_i w8 w9 e10
      refine .ite ?_ ?_
      · exact .refl
      · extract_lets v11
        refine .step (x := v11) (State.modScan_touch.on rfl .refl) fun h12 => ?_
        exact State.jobOn_touch.on rfl h12

theorem State.jobEnd_touch {s : State} {c : ℕ} :
    Touch { regs := true, cmd := true, cores := true, scan := true } s (State.jobEnd s c) := by
  unfold State.jobEnd
  split
  · rename_i w0 e1
    exact .refl
  · rename_i w2 w3 e4
    extract_lets v5 v6 v7 v8
    refine .step (x := v6) (State.setCore_touch.on rfl .refl) fun h9 => ?_
    refine .step (x := v7) (State.syncCluster_touch.on rfl (State.count_touch.on rfl h9)) fun h10 => ?_
    refine .step (x := v8) (.ite h10 (State.modScan_touch.on rfl h10)) fun h11 => ?_
    exact State.scanAdvance_touch.on rfl h11

theorem State.jobFault_touch {s : State} {c : ℕ} {f : NFault} :
    Touch { regs := true, cmd := true, cores := true, scan := true } s (State.jobFault s c f) := by
  unfold State.jobFault
  split
  · rename_i w0 e1
    exact .refl
  · rename_i w2 w3 e4
    extract_lets v5 v6 v7 v8 v9 v10 v11
    refine .step (x := v6) (State.setCore_touch.on rfl .refl) fun h12 => ?_
    refine .step (x := v8) (State.setFld_touch.on rfl h12) fun h13 => ?_
    refine .step (x := v9) (.ite (State.raise_touch.on rfl (State.count_touch.on rfl h13)) (State.raise_touch.on rfl (State.count_touch.on rfl h13))) fun h14 => ?_
    refine .step (x := v10) (State.syncCluster_touch.on rfl (State.count_touch.on rfl h14)) fun h15 => ?_
    refine .step (x := v11) (State.modScan_touch.on rfl h15) fun h16 => ?_
    exact State.scanStop_touch.on rfl h16

theorem State.budgetExhausted_touch {s : State} {c stall : ℕ} :
    Touch { regs := true, cmd := true, cores := true, scan := true } s (State.budgetExhausted s c stall) := by
  unfold State.budgetExhausted
  extract_lets v0 v1
  refine .step (x := v1) (State.setCore_touch.on rfl .refl) fun h2 => ?_
  exact .ite (State.jobFault_touch.on rfl h2) h2

theorem State.moveRec_touch {s : State} {cc : ℕ} {r : ColRec} :
    Touch { regs := true, cmd := true, cores := true, scan := true } s (State.moveRec s cc r) := by
  unfold State.moveRec
  extract_lets v0 v1 v2
  refine .step (x := v1) (State.setCluster_touch.on rfl .refl) fun h3 => ?_
  refine .step (x := v2) (State.setReg_touch.on rfl h3) fun h4 => ?_
  split
  · rename_i w5 e6
    exact h4
  · rename_i w7 w8 e9
    extract_lets v10 v11 v12 v13
    refine .step (x := v12) (State.countPair_touch.on rfl h4) fun h14 => ?_
    refine .step (x := v13) (State.modItem_touch.on rfl h14) fun h15 => ?_
    exact .ite (State.scanStop_touch.on rfl (State.setCluster_touch.on rfl h4)) (State.scanAdvance_touch.on rfl (State.modScan_touch.on rfl h15))

theorem State.grantFrom_touch {n : Nat} {s : State} {cc : Nat} :
    Touch { regs := true, cmd := true, cores := true, scan := true } s (State.grantFrom s n cc) := by
  induction n generalizing s cc with
  | zero => exact .refl
  | succ n ih =>
    rw [State.grantFrom]
    split
    · exact ih
    · exact .ite (State.moveRec_touch.on rfl .refl) (ih.on rfl (State.count_touch.on rfl .refl))

theorem State.collectorGrant_touch {s : State} :
    Touch { regs := true, cmd := true, cores := true, scan := true } s (State.collectorGrant s) := by
  unfold State.collectorGrant
  exact State.grantFrom_touch.on rfl .refl

theorem State.ringStall_touch {s : State} {n : ℕ} :
    Touch { regs := true, cmd := true, cores := true, scan := true } s (State.ringStall s n) := by
  unfold State.ringStall
  split
  · rename_i w0 w1 w2 w3 e4 e5
    extract_lets v6
    exact .ite (State.scanStop_touch.on rfl .refl) .refl
  · rename_i w7 w8 e9
    exact .refl

end Sys2Proof.Machine
end

