-- ==== Sys2Proof/Laws/FootWork.lean ====
section
/-! SUPPORT. What each operation of Machine/Work.lean can touch. -/

namespace Sys2Proof.Machine
open Sys2Proof

theorem State.lookUp_touch {s : State} {asn : ℕ} {g : GrainWork} :
    Touch { flash := true } s (State.lookUp s asn g).1 := by
  unfold State.lookUp
  extract_lets v0 v1 v2 v3 v4 v5 v6 v7 v8 v9 v10
  split
  · rename_i e11
    exact .refl
  · rename_i e12
    exact .ite (State.setBlk_touch.on rfl .refl) .refl

theorem State.takeReads_touch {s : State} {n : Nat} : Touch { cmd := true, flash := true } s (State.takeReads s n) := by
  unfold State.takeReads
  split
  · exact .refl
  · refine State.modItem_touch.on rfl (.foldlP (fun x a h => ?_) .refl)
    dsimp only
    split
    · exact h
    · exact State.lookUp_touch.on rfl h

theorem State.staged_touch {s : State} {n : ℕ} :
    Touch { cmd := true } s (State.staged s n) := by
  unfold State.staged
  split
  · rename_i w0 e1
    exact .refl
  · rename_i w2 w3 e4
    exact State.mapItems_touch.on rfl .refl

theorem State.dropWork_touch {s : State} {n : ℕ} :
    Touch { cmd := true, flash := true } s (State.dropWork s n) := by
  unfold State.dropWork
  split
  · rename_i w0 e1
    exact .refl
  · rename_i w2 w3 e4
    extract_lets v5 v6 v7
    refine .step (x := v5) (.foldl (fun x9 y10 h11 => (State.endRead_touch.on rfl h11)) .refl) fun h8 => ?_
    exact State.modItem_touch.on rfl (.upd_flash h8 rfl)

theorem State.dropCtx_touch {s : State} {n : ℕ} :
    Touch { regs := true, cmd := true, dig := true } s (State.dropCtx s n) := by
  unfold State.dropCtx
  split
  · rename_i w0 w1 w2 e3
    exact State.digRetry_touch.on rfl (State.delCtx_touch.on rfl .refl)
  · rename_i w4 e5
    exact .refl

theorem State.deliver_touch {f : Nat} {s : State} {n : Nat} :
    Touch { regs := true, cmd := true, flash := true, dig := true, cores := true, scan := true } s (State.deliver f s n) := by
  induction f generalizing s with
  | zero => exact .refl
  | succ f ih =>
    rw [State.deliver]
    split
    · exact .refl
    · split
      · exact .refl
      · refine .ite .refl (.ite ?_ (.ite .refl ?_))
        · exact .ite (State.dropWork_touch.on rfl (State.scanFail_touch.on rfl .refl))
            (State.finish_touch.on rfl (State.dropCtx_touch.on rfl (State.dropWork_touch.on rfl .refl)))
        · refine ih.on rfl ?_
          split
          · exact .ite (State.finish_touch.on rfl (State.modItem_touch.on rfl (State.modItem_touch.on rfl .refl)))
              (State.modItem_touch.on rfl (State.modItem_touch.on rfl .refl))
          · exact .ite (State.scanSkip_touch.on rfl (State.modItem_touch.on rfl .refl))
              (State.scanGrain_touch.on rfl (State.modItem_touch.on rfl .refl))
          · exact State.digFeed_touch.on rfl (State.modItem_touch.on rfl (State.modItem_touch.on rfl .refl))

theorem State.deliverAll_touch {s : State} :
    Touch { regs := true, cmd := true, flash := true, dig := true, cores := true, scan := true } s (State.deliverAll s) := by
  unfold State.deliverAll
  exact .foldl (fun x0 y1 h2 => (State.deliver_touch.on rfl h2)) .refl

theorem State.startGrain_touch {s : State} {n : ℕ} {it : Item} {g : GrainWork} :
    Touch { regs := true, cmd := true, flash := true, buf := true, dram := true, tel := true } s (State.startGrain s n it g) := by
  unfold State.startGrain
  refine .ite ?_ ?_
  · exact .refl
  · refine .ite ?_ ?_
    · exact State.failGrain_touch.on rfl .refl
    · refine .ite ?_ ?_
      · exact State.failGrain_touch.on rfl .refl
      · refine .ite ?_ ?_
        · exact .ite (.ite (State.rebuildAll_touch.on rfl .refl) (State.failCw_touch.on rfl .refl)) (State.senseOf_touch.on rfl .refl)
        · refine .ite ?_ ?_
          · exact .refl
          · extract_lets v0 v1 v2 v3
            refine .step (x := v0) (State.endRead_touch.on rfl .refl) fun h4 => ?_
            exact .ite (State.modGw_touch.on rfl h4) (State.landFor_touch.on rfl (State.modGw_touch.on rfl h4))

theorem State.startReads_touch {s : State} {n : ℕ} :
    Touch { regs := true, cmd := true, flash := true, buf := true, dig := true, cores := true, scan := true, dram := true, tel := true } s (State.startReads s n) := by
  unfold State.startReads
  split
  · rename_i w0 e1
    exact .refl
  · rename_i w2 w3 e4
    exact State.deliver_touch.on rfl (.foldl (fun x5 y6 h7 => (State.startGrain_touch.on rfl h7)) .refl)

theorem State.wakeReads_touch {s : State} {inst : ℕ} :
    Touch { regs := true, cmd := true, flash := true, buf := true, dig := true, cores := true, scan := true, dram := true, tel := true } s (State.wakeReads s inst) := by
  unfold State.wakeReads
  exact .foldl (fun x0 y1 h2 => (State.startReads_touch.on rfl h2)) .refl

theorem State.endWriter_touch {s : State} {n : ℕ} :
    Touch { regs := true, cmd := true, flash := true, buf := true, dig := true, cores := true, scan := true, dram := true, tel := true } s (State.endWriter s n) := by
  unfold State.endWriter
  split
  · rename_i w0 e1
    exact .refl
  · rename_i w2 w3 e4
    exact .ite (State.wakeReads_touch.on rfl (State.unstage_touch.on rfl .refl)) .refl

theorem State.writeFail_touch {s : State} {n : ℕ} :
    Touch { regs := true, cmd := true, flash := true, buf := true, dig := true, cores := true, scan := true, dram := true, tel := true } s (State.writeFail s n) := by
  unfold State.writeFail
  split
  · rename_i w0 e1
    exact .refl
  · rename_i w2 w3 e4
    split
    · rename_i w5 w6 e7
      exact .ite (State.finish_touch.on rfl (State.endWriter_touch.on rfl (State.dropWork_touch.on rfl .refl))) .refl
    · rename_i w8 e9
      exact .refl

theorem State.startWrites_touch {s : State} {n : ℕ} :
    Touch { cmd := true } s (State.startWrites s n) := by
  unfold State.startWrites
  exact State.modItem_touch.on rfl .refl

theorem State.blockWritten_touch {s : State} {n inst asn lba : ℕ} :
    Touch { cmd := true, insts := true, flash := true } s (State.blockWritten s n inst asn lba) := by
  unfold State.blockWritten
  extract_lets v0 v1 v2
  refine .step (x := v0) (.ite (State.modInst_touch.on rfl .refl) .refl) fun h3 => ?_
  refine .step (x := v2) (.upd_flash h3 rfl) fun h4 => ?_
  exact State.mapItems_touch.on rfl h4

theorem State.putGrain_touch {s : State} {k mask made asn : ℕ} {frame : List Byte} :
    Touch { regs := true, flash := true } s (State.putGrain s k mask made asn frame) := by
  unfold State.putGrain
  extract_lets v0 v1 v2
  refine .step (x := v2) (.ite (.upd_flash .refl rfl) .refl) fun h3 => ?_
  exact .ite (.ite (State.mapSet_touch.on rfl (.foldl (fun x4 y5 h6 => (State.dropRec_touch.on rfl h6)) h3)) (State.addRec_touch.on rfl h3)) (State.addRec_touch.on rfl h3)

theorem State.mirrorNew_touch {s : State} {n k : ℕ} :
    Touch { cmd := true, knot := true } s (State.mirrorNew s n k) := by
  unfold State.mirrorNew
  refine .ite ?_ ?_
  · exact .refl
  · split
    · rename_i w0 e1
      exact .refl
    · rename_i w2 w3 e4
      extract_lets v5 v6
      refine .step (x := v6) (.upd_knot .refl rfl) fun h7 => ?_
      exact State.knotSend_touch.on rfl (State.modItem_touch.on rfl h7)

theorem State.trimLate_touch {s : State} {n : ℕ} {it : Item} :
    Touch { cad := true } s (State.trimLate s n it) := by
  unfold State.trimLate
  extract_lets v0 v1
  exact .ite .refl (.upd_cad .refl rfl rfl)

theorem State.writeDone_touch {s : State} {n : ℕ} :
    Touch { cmd := true, cad := true, flash := true } s (State.writeDone s n) := by
  unfold State.writeDone
  split
  · rename_i w0 e1
    exact .refl
  · rename_i w2 w3 e4
    refine .ite ?_ ?_
    · exact .refl
    · extract_lets v5 v6
      refine .step (x := v6) (State.trimLate_touch.on rfl (.upd_flash .refl rfl)) fun h7 => ?_
      exact .ite (State.finish_touch.on rfl h7) (State.finish_touch.on rfl h7)

theorem State.commitGrain_touch {s : State} {n : ℕ} {it : Item} {g : GrainWork} :
    Touch { regs := true, cmd := true, cad := true, insts := true, flash := true, buf := true, dig := true, cores := true, scan := true, dram := true, knot := true, tel := true } s (State.commitGrain s n it g) := by
  unfold State.commitGrain
  extract_lets v0 v1 v2 v3 v4 v5 v6 v7 v8 v9
  refine .step (x := v4) (.ite (State.modItem_touch.on rfl .refl) .refl) fun h10 => ?_
  refine .step (x := v5) (State.putGrain_touch.on rfl h10) fun h11 => ?_
  refine .step (x := v6) (.foldl (fun x13 y14 h15 => (State.blockWritten_touch.on rfl h15)) h11) fun h12 => ?_
  refine .step (x := v7) (.ite h10 (.ite (State.mirrorNew_touch.on rfl h12) h12)) fun h16 => ?_
  refine .step (x := v8) (State.modItem_touch.on rfl h16) fun h17 => ?_
  refine .step (x := v9) (State.unstage_touch.on rfl (State.giveRoom_touch.on rfl h17)) fun h18 => ?_
  exact State.writeDone_touch.on rfl (State.wakeReads_touch.on rfl h18)

theorem State.mapUpdate_touch {s : State} {n key : ℕ} {old new : W64} :
    Touch { regs := true, cmd := true, cad := true, insts := true, flash := true, buf := true, dig := true, cores := true, scan := true, dram := true, knot := true, tel := true } s (State.mapUpdate s n key old new) := by
  unfold State.mapUpdate
  refine .ite ?_ ?_
  · exact .refl
  · refine .ite ?_ ?_
    · exact State.mapSwap_touch.on rfl .refl
    · split
      · rename_i w0 e1
        exact .refl
      · rename_i w2 w3 e4
        split
        · rename_i w5 e6
          exact .refl
        · rename_i w7 w8 e9
          exact .ite (State.commitGrain_touch.on rfl .refl) .refl

theorem State.segmentRebuild_touch {s : State} {seg : ℕ} :
    Touch { regs := true, cmd := true, flash := true, buf := true, dig := true, cores := true, scan := true, dram := true, tel := true } s (State.segmentRebuild s seg) := by
  unfold State.segmentRebuild
  extract_lets v0
  refine .step (x := v0) (State.rebuildSegment_touch.on rfl .refl) fun h1 => ?_
  refine .foldl (fun x5 y6 h7 => ?_) ?_
  · split
    · rename_i w8 e9
      exact h7
    · rename_i w10 w11 e12
      refine .ite ?_ ?_
      · extract_lets v13
        refine .step (x := v13) ?_ fun h14 => ?_
        · unfold v13
          refine .foldl (fun x21 y22 h23 => ?_) ?_
          · refine .ite ?_ ?_
            · exact h23
            · extract_lets v24
              refine .step (x := v24.1) (State.lookUp_touch.on rfl h23) fun h25 => ?_
              exact State.modGw_touch.on rfl h25
          · exact h7
        exact .ite (State.startReads_touch.on rfl h14) h14
      · exact h7
  · exact h1

end Sys2Proof.Machine
end

