-- ==== Sys2Proof/Laws/FootCadence.lean ====
section
/-! SUPPORT. What each operation of Machine/Cadence.lean can touch. -/

namespace Sys2Proof.Machine
open Sys2Proof

/-- Only the passing of time moves `nowUs`, and it moves it forward. -/
theorem State.passed_touch {s : State} {c : CadSt} (h : s.cad.nowUs ≤ c.nowUs) : Touch { cad := true } s { s with cad := c } :=
  { (Touch.refl : Touch { cad := true } s s) with
    cad := nofun
    now := h }

theorem State.later_touch {s : State} {us : ℕ} : Touch { regs := true, cad := true } s (State.later s us) := by
  unfold State.later
  exact State.setFld_touch.on rfl ((State.passed_touch (Nat.le_add_right _ _)).on rfl .refl)

theorem State.sendBusy_touch {s : State} {n : ℕ} {it : Item} {reason retry : ℕ} :
    Touch { regs := true, host := true, cmd := true, cad := true, insts := true, flash := true, buf := true, dram := true, knot := true, tel := true } s (State.sendBusy s n it reason retry) := by
  unfold State.sendBusy
  extract_lets v0 v1 v2 v3
  refine .step (x := v0) (State.count_touch.on rfl .refl) fun h4 => ?_
  refine .step (x := v1) (.ite (State.raise_touch.on rfl h4) h4) fun h5 => ?_
  refine .step (x := v2) (State.delItem_touch.on rfl (State.releaseItem_touch.on rfl h5)) fun h6 => ?_
  refine .step (x := v3) (State.sendSeq_touch.on rfl h6) fun h7 => ?_
  exact State.answerAborts_touch.on rfl h7

theorem State.carveWrite_touch {s : State} {n : ℕ} :
    Touch { cad := true } s (State.carveWrite s n) := by
  unfold State.carveWrite
  split
  · rename_i w0 w1 w2 w3 e4 e5
    refine .ite ?_ ?_
    · exact .refl
    · extract_lets v6 v7 v8 v9 v10 v11 v12 v13 v14 v15
      exact .upd_cad .refl rfl rfl
  · rename_i w16 w17 e18
    exact .refl

theorem State.advance_touch {s : State} {us : Nat} : Touch { regs := true, cmd := true, cad := true, srch := true } s (State.advance s us) := by
  unfold State.advance
  extract_lets v0 v1 v2 v3 v4 v5 v6 v7
  refine .step (x := v7) (State.setFld_touch.on rfl ((State.passed_touch (Nat.le_add_right _ _)).on rfl .refl)) fun h => ?_
  exact .ite h (State.nextWindow_touch.on rfl h)

end Sys2Proof.Machine
end

