-- ==== Sys2Proof/Laws/FootFates.lean ====
section
/-! SUPPORT. What each operation of Machine/Fates.lean can touch. -/

namespace Sys2Proof.Machine
open Sys2Proof

theorem State.dropFrames_touch {s : State} {n grp : ℕ} :
    Touch { regs := true, eng := true } s (State.dropFrames s n grp) := by
  unfold State.dropFrames
  exact .foldl (fun x0 y1 h2 => (State.setRun_touch.on rfl h2)) .refl

theorem State.abortParts_touch {s : State} {n : ℕ} :
    Touch { knot := true } s (State.abortParts s n) := by
  unfold State.abortParts
  exact .foldl (fun x0 y1 h2 => (State.knotSend_touch.on rfl h2)) .refl

theorem State.cancelAsn_touch {s : State} {n : ℕ} :
    Touch { knot := true } s (State.cancelAsn s n) := by
  unfold State.cancelAsn
  split
  · rename_i w0 e1
    exact .refl
  · rename_i w2 w3 e4
    extract_lets v5 v6
    exact State.knotSend_touch.on rfl (.upd_knot .refl rfl)

theorem State.tellHome_touch {s : State} {it : Item} :
    Touch { knot := true } s (State.tellHome s it) := by
  unfold State.tellHome
  exact .ite (State.knotSend_touch.on rfl .refl) .refl

theorem State.stopWork_touch {s : State} {n : ℕ} :
    Touch { regs := true, cmd := true, flash := true, buf := true, eng := true, dig := true, srch := true, cores := true, scan := true, dram := true, knot := true, tel := true } s (State.stopWork s n) := by
  unfold State.stopWork
  extract_lets v0 v1 v2 v3 v4 v5 v6 v7
  refine .step (x := v0) (State.freeHitches_touch.on rfl (State.endWriter_touch.on rfl (State.dropFrames_touch.on rfl (State.dropFrames_touch.on rfl (State.dropWork_touch.on rfl .refl))))) fun h8 => ?_
  refine .step (x := v1) (State.dropCtx_touch.on rfl h8) fun h9 => ?_
  refine .step (x := v2) (.ite (State.freeClusters_touch.on rfl (State.squashScan_touch.on rfl h9)) h9) fun h10 => ?_
  refine .step (x := v3) (State.cancelAsn_touch.on rfl (State.abortParts_touch.on rfl h10)) fun h11 => ?_
  refine .step (x := v6) (.upd_cmd_srch h11 rfl rfl) fun h12 => ?_
  refine .step (x := v7) (State.modItem_touch.on rfl h12) fun h13 => ?_
  exact State.searchAll_touch.on rfl h13

theorem State.drainMaps_touch {s : State} {n : ℕ} :
    Touch { regs := true, cmd := true, cad := true, insts := true, flash := true, buf := true, dig := true, cores := true, scan := true, dram := true, knot := true, tel := true } s (State.drainMaps s n) := by
  unfold State.drainMaps
  split
  · rename_i w0 e1
    exact .refl
  · rename_i w2 w3 e4
    extract_lets v5
    refine .step (x := v5) ?_ fun h6 => ?_
    · unfold v5
      refine .ite ?_ ?_
      · refine .foldl (fun x16 y17 h18 => ?_) ?_
        · split
          · rename_i w19 w20 e21
            exact .ite h18 (State.commitGrain_touch.on rfl h18)
          · rename_i w22 e23
            exact h18
        · exact .refl
      · exact .refl
    exact State.endWriter_touch.on rfl h6

theorem State.endPart_touch {s : State} {n status : ℕ} {result data : List Byte} :
    Touch { regs := true, cmd := true, cad := true, insts := true, flash := true, buf := true, dram := true, knot := true, tel := true } s (State.endPart s n status result data) := by
  unfold State.endPart
  extract_lets v0 v1 v2 v3
  refine .step (x := v1) (State.delItem_touch.on rfl (State.releaseItem_touch.on rfl .refl)) fun h4 => ?_
  refine .step (x := v3) (.upd_knot h4 rfl) fun h5 => ?_
  exact .foldl (fun x6 y7 h8 => (State.knotSend_touch.on rfl h8)) h5

theorem State.report_touch {s : State} {n status : ℕ} {result : List Byte} {front : optParam Bool false} :
    Touch { regs := true, host := true, cmd := true, cad := true, insts := true, flash := true, buf := true, dram := true, knot := true, tel := true } s (State.report s n status result front) := by
  unfold State.report
  split
  · rename_i w0 e1
    exact .refl
  · rename_i w2 w3 e4
    exact .ite (State.endPart_touch.on rfl .refl) (State.commitResp_touch.on rfl (State.tellHome_touch.on rfl .refl))

theorem State.leaveResets_touch {s : State} {n : ℕ} {it : Item} :
    Touch { insts := true } s (State.leaveResets s n it) := by
  unfold State.leaveResets
  exact .ite (State.modInst_touch.on rfl .refl) .refl

theorem State.meet_touch {s : State} {n status : ℕ} :
    Touch { regs := true, host := true, cmd := true, cad := true, insts := true, flash := true, buf := true, eng := true, dig := true, srch := true, cores := true, scan := true, dram := true, knot := true, tel := true } s (State.meet s n status) := by
  unfold State.meet
  split
  · rename_i w0 e1
    exact .refl
  · rename_i w2 w3 e4
    split
    · rename_i w5 e6
      exact .refl
    · rename_i w7 e8
      extract_lets v9 v10
      refine .step (x := v10) (.upd_cmd .refl rfl) fun h11 => ?_
      exact State.refuseItem_touch.on rfl (State.stopWork_touch.on rfl h11)
    · rename_i w12 e13 e14
      exact .ite .refl (State.report_touch.on rfl (State.leaveResets_touch.on rfl (State.stopWork_touch.on rfl .refl)))

theorem State.meetAll_touch {s : State} {status : ℕ} {p : ℕ → Item → Bool} :
    Touch { regs := true, host := true, cmd := true, cad := true, insts := true, flash := true, buf := true, eng := true, dig := true, srch := true, cores := true, scan := true, dram := true, knot := true, tel := true } s (State.meetAll s status p) := by
  unfold State.meetAll
  exact .foldl (fun x0 y1 h2 => (State.meet_touch.on rfl h2)) .refl

theorem State.markAborted_touch {s : State} {n : ℕ} :
    Touch { regs := true, cmd := true, flash := true, buf := true, eng := true, dig := true, srch := true, cores := true, scan := true, dram := true, knot := true, tel := true } s (State.markAborted s n) := by
  unfold State.markAborted
  split
  · rename_i w0 e1
    exact .refl
  · rename_i w2 w3 e4
    extract_lets v5
    refine .step (x := v5) (State.modItem_touch.on rfl .refl) fun h6 => ?_
    exact .ite h6 (State.stopWork_touch.on rfl h6)

theorem State.abortTag_touch {s : State} {c tag : ℕ} :
    Touch { regs := true, host := true, cmd := true, insts := true, flash := true, buf := true, eng := true, dig := true, srch := true, cores := true, scan := true, dram := true, knot := true, tel := true } s (State.abortTag s c tag) := by
  unfold State.abortTag
  split
  · rename_i w0 w1 e2
    split
    · rename_i w3 e4
      exact .refl
    · rename_i w5 w6 e7
      exact .ite (State.modItem_touch.on rfl .refl) (.ite (State.sendAbortResp_touch.on rfl .refl) (State.markAborted_touch.on rfl (State.modItem_touch.on rfl .refl)))
  · rename_i w8 e9
    exact State.sendAbortResp_touch.on rfl .refl

theorem State.lateAborts_touch {s : State} {n : ℕ} :
    Touch { regs := true, host := true, cmd := true, insts := true, flash := true, buf := true, eng := true, dig := true, srch := true, cores := true, scan := true, dram := true, knot := true, tel := true } s (State.lateAborts s n) := by
  unfold State.lateAborts
  split
  · rename_i w0 e1
    exact .refl
  · rename_i w2 w3 e4
    exact .ite .refl (.ite (State.answerAborts_touch.on rfl (State.modItem_touch.on rfl .refl)) (State.markAborted_touch.on rfl .refl))

theorem State.abortComplete_touch {s : State} {n : ℕ} :
    Touch { regs := true, host := true, cmd := true, cad := true, insts := true, flash := true, buf := true, dram := true, knot := true, tel := true } s (State.abortComplete s n) := by
  unfold State.abortComplete
  split
  · rename_i w0 e1
    exact .refl
  · rename_i w2 w3 e4
    exact .ite (.ite (State.endPart_touch.on rfl .refl) (State.commitAborted_touch.on rfl (State.tellHome_touch.on rfl .refl))) .refl

theorem State.watchdog_touch {s : State} {n unit : ℕ} :
    Touch { regs := true, host := true, cmd := true, cad := true, insts := true, flash := true, buf := true, eng := true, dig := true, srch := true, cores := true, scan := true, dram := true, knot := true, tel := true } s (State.watchdog s n unit) := by
  unfold State.watchdog
  split
  · rename_i w0 e1
    exact .refl
  · rename_i w2 w3 e4
    refine .ite ?_ ?_
    · extract_lets v5 v6
      refine .step (x := v6) (State.leaveResets_touch.on rfl (.ite (State.drainMaps_touch.on rfl .refl) (State.stopWork_touch.on rfl .refl))) fun h7 => ?_
      exact .ite (State.report_touch.on rfl h7) (State.countFault_touch.on rfl (State.report_touch.on rfl h7))
    · exact .refl

theorem State.passTime_touch {n : Nat} {s : State} {t : Nat} : Touch { regs := true, host := true, cmd := true, cad := true, insts := true, flash := true, buf := true, eng := true, dig := true, srch := true, cores := true, scan := true, dram := true, knot := true, tel := true, freeCtr := true } s (State.passTime n s t) := by
  induction n generalizing s with
  | zero => exact State.advance_touch.on rfl .refl
  | succ n ih =>
    rw [State.passTime]
    split
    · exact State.advance_touch.on rfl .refl
    · exact ih.on rfl (State.watchdog_touch.on rfl (State.free_touch.on rfl (State.advance_touch.on rfl .refl)))

theorem State.lengthMismatch_touch {s : State} {n : ℕ} :
    Touch { regs := true, host := true, cmd := true, cad := true, insts := true, flash := true, buf := true, eng := true, dig := true, srch := true, cores := true, scan := true, dram := true, knot := true, tel := true } s (State.lengthMismatch s n) := by
  unfold State.lengthMismatch
  exact State.report_touch.on rfl (State.stopWork_touch.on rfl .refl)

theorem State.logPdu_touch {s : State} {c : ℕ} {x : Conn} {p : TxPdu} :
    Touch { insts := true } s (State.logPdu s c x p) := by
  unfold State.logPdu
  extract_lets v0
  exact .ite (State.logOutcome_touch.on rfl .refl) (.ite (State.logOutcome_touch.on rfl .refl) .refl)

theorem State.orphan_touch {s : State} {n : ℕ} :
    Touch { regs := true, host := true, cmd := true, cad := true, insts := true, flash := true, buf := true, eng := true, dig := true, srch := true, cores := true, scan := true, dram := true, knot := true, tel := true } s (State.orphan s n) := by
  unfold State.orphan
  split
  · rename_i w0 e1
    exact .refl
  · rename_i w2 w3 e4
    extract_lets v5 v6 v7
    refine .step (x := v5) (State.modItem_touch.on rfl .refl) fun h8 => ?_
    refine .step (x := v7) (.upd_cmd h8 rfl) fun h9 => ?_
    split
    · rename_i w10 e11
      exact State.delItem_touch.on rfl h8
    · rename_i w12 e13
      exact State.delItem_touch.on rfl (State.logOutcome_touch.on rfl (State.releaseItem_touch.on rfl (State.stopWork_touch.on rfl h9)))
    · rename_i w14 e15
      exact .ite h8 (State.lengthMismatch_touch.on rfl h8)
    · rename_i w16 e17 e18 e19
      exact .ite h8 (State.markAborted_touch.on rfl h8)

theorem State.failConn_touch {s : State} {c reason : ℕ} :
    Touch { regs := true, host := true, cmd := true, cad := true, insts := true, flash := true, buf := true, eng := true, dig := true, srch := true, cores := true, scan := true, dram := true, knot := true, tel := true } s (State.failConn s c reason) := by
  unfold State.failConn
  split
  · rename_i w0 e1
    exact .refl
  · rename_i w2 w3 e4
    extract_lets v5 v6 v7 v8
    refine .step (x := v5) (.foldl (fun x10 y11 h12 => (State.logPdu_touch.on rfl h12)) .refl) fun h9 => ?_
    refine .step (x := v6) (.foldl (fun x14 y15 h16 => (State.orphan_touch.on rfl h16)) h9) fun h13 => ?_
    refine .step (x := v7) (State.pushFrame_touch.on rfl h13) fun h17 => ?_
    refine .step (x := v8) (.ite (State.raise_touch.on rfl h17) h17) fun h18 => ?_
    exact State.freeConn_touch.on rfl h18

theorem State.failPort_touch {s : State} {port : ℕ} :
    Touch { regs := true, host := true, cmd := true, cad := true, insts := true, flash := true, buf := true, eng := true, dig := true, srch := true, cores := true, scan := true, dram := true, knot := true, tel := true } s (State.failPort s port) := by
  unfold State.failPort
  exact .foldl (fun x0 y1 h2 => (State.failConn_touch.on rfl h2)) .refl

theorem State.sendClose_touch {s : State} {c reason : ℕ} :
    Touch { regs := true, host := true, cmd := true, insts := true, tel := true } s (State.sendClose s c reason) := by
  unfold State.sendClose
  split
  · rename_i w0 e1
    exact .refl
  · rename_i w2 w3 e4
    exact .ite .refl (State.modConn_touch.on rfl (State.sendSeq_touch.on rfl .refl))

theorem State.ctxLost_touch {s : State} {i : ℕ} :
    Touch { regs := true, host := true, cmd := true, cad := true, insts := true, flash := true, buf := true, eng := true, dig := true, srch := true, cores := true, scan := true, dram := true, knot := true, tel := true } s (State.ctxLost s i) := by
  unfold State.ctxLost
  extract_lets v0
  refine .step (x := v0) (State.modInst_touch.on rfl .refl) fun h1 => ?_
  exact .foldl (fun x2 y3 h4 => (State.report_touch.on rfl (State.stopWork_touch.on rfl h4))) h1

end Sys2Proof.Machine
end

