-- ==== Sys2Proof/Laws/FootInst.lean ====
section
/-! SUPPORT. What each operation of Machine/Inst.lean can touch. -/

namespace Sys2Proof.Machine
open Sys2Proof

theorem State.quotaTxn_touch {s : State} {i share bmin bmax : ℕ} :
    Touch { regs := true, shVal := true, shMask := true, cfg := true, dram := true, tel := true } s (State.quotaTxn s i share bmin bmax) := by
  unfold State.quotaTxn
  extract_lets v0 v1 v2 v3
  refine .step (x := v0) (State.txnBegin_touch.on rfl .refl) fun h4 => ?_
  refine .step (x := v1) (State.shadow_touch.on rfl h4) fun h5 => ?_
  refine .step (x := v2) (State.shadow_touch.on rfl h5) fun h6 => ?_
  refine .step (x := v3) (State.shadow_touch.on rfl h6) fun h7 => ?_
  exact State.txnCommit_touch.on rfl (State.setFld_touch.on rfl (State.setFld_touch.on rfl h7))

theorem State.dropGrains_touch {s : State} {i : ℕ} :
    Touch { regs := true, flash := true } s (State.dropGrains s i) := by
  unfold State.dropGrains
  extract_lets v0 v1 v2
  refine .step (x := v1) (.foldl (fun x4 y5 h6 => (State.mapSet_touch.on rfl (State.freeChain_touch.on rfl h6))) .refl) fun h3 => ?_
  exact State.eraseReady_touch.on rfl (.upd_flash h3 rfl)

theorem State.createInst_touch {s : State} {n : ℕ} {it : Item} :
    Touch { regs := true, cmd := true, insts := true, flash := true, srch := true, otp := true } s (State.createInst s n it) := by
  unfold State.createInst
  extract_lets v0 v1 v2 v3 v4 v5
  refine .ite ?_ ?_
  · exact State.finish_touch.on rfl .refl
  · refine .ite ?_ ?_
    · exact State.finish_touch.on rfl .refl
    · clear_value v3
      split
      · rename_i w6 w7 w8 w9 e10
        refine .ite ?_ ?_
        · exact State.finish_touch.on rfl .refl
        · extract_lets v11 v12 v13
          refine .step (x := v12) (State.setInst_touch.on rfl (State.dropGrains_touch.on rfl (.upd_otp .refl rfl rfl))) fun h14 => ?_
          refine .step (x := v13) (State.startSweep_touch.on rfl h14) fun h15 => ?_
          exact State.finish_touch.on rfl (State.modItem_touch.on rfl h15)
      · rename_i w16 w17 w18 e19
        exact State.finish_touch.on rfl .refl

theorem State.createStep_touch {s : State} {n : ℕ} {it : Item} :
    Touch { regs := true, shVal := true, shMask := true, cfg := true, cmd := true, dram := true, tel := true } s (State.createStep s n it) := by
  unfold State.createStep
  extract_lets v0 v1
  refine .step (x := v1) (State.quotaTxn_touch.on rfl .refl) fun h2 => ?_
  exact .ite (State.modItem_touch.on rfl h2) .refl

theorem State.setQuota_touch {s : State} {n : ℕ} {it : Item} :
    Touch { regs := true, shVal := true, shMask := true, cfg := true, cmd := true, insts := true, srch := true, dram := true, tel := true } s (State.setQuota s n it) := by
  unfold State.setQuota
  extract_lets v0 v1 v2 v3 v4 v5 v6 v7 v8 v9 v10 v11
  refine .step (x := v11) (State.quotaTxn_touch.on rfl (State.setInst_touch.on rfl .refl)) fun h12 => ?_
  exact .ite (State.finish_touch.on rfl .refl) (.ite .refl (State.finish_touch.on rfl (State.modItem_touch.on rfl (State.dropClassifier_touch.on rfl h12))))

theorem State.txnStep_touch {s : State} {n : ℕ} :
    Touch { regs := true, shVal := true, shMask := true, cfg := true, cmd := true, insts := true, srch := true, dram := true, tel := true } s (State.txnStep s n) := by
  unfold State.txnStep
  split
  · rename_i w0 e1
    exact .refl
  · rename_i w2 w3 e4
    exact .ite (State.setQuota_touch.on rfl .refl) (State.createStep_touch.on rfl .refl)

theorem State.wipeCores_touch {s : State} {i : ℕ} :
    Touch { regs := true, cores := true } s (State.wipeCores s i) := by
  unfold State.wipeCores
  exact .foldl (fun x0 y1 h2 => (State.count_touch.on rfl (State.setCore_touch.on rfl h2))) .refl

theorem State.unloadAll_touch {s : State} {i : ℕ} :
    Touch { scan := true } s (State.unloadAll s i) := by
  unfold State.unloadAll
  extract_lets v0 v1 v2
  refine .step (x := v2) (.upd_scan .refl rfl) fun h3 => ?_
  exact .foldl (fun x4 y5 h6 => (State.freeProg_touch.on rfl h6)) h3

theorem State.resetItems_touch {s : State} {i : ℕ} :
    Touch { regs := true, host := true, cmd := true, cad := true, insts := true, flash := true, buf := true, eng := true, dig := true, srch := true, cores := true, scan := true, dram := true, knot := true, tel := true } s (State.resetItems s i) := by
  unfold State.resetItems
  exact State.unloadAll_touch.on rfl (State.wipeCores_touch.on rfl (State.meetAll_touch.on rfl .refl))

theorem State.beginReset_touch {s : State} {n : ℕ} :
    Touch { regs := true, host := true, cmd := true, cad := true, insts := true, flash := true, buf := true, eng := true, dig := true, srch := true, cores := true, scan := true, dram := true, knot := true, tel := true } s (State.beginReset s n) := by
  unfold State.beginReset
  split
  · rename_i w0 e1
    exact .refl
  · rename_i w2 w3 e4
    extract_lets v5 v6 v7 v8
    refine .step (x := v7) (State.resetItems_touch.on rfl (State.modInst_touch.on rfl .refl)) fun h9 => ?_
    refine .step (x := v8) (State.startSweep_touch.on rfl (State.dropClassifier_touch.on rfl (State.dropGrains_touch.on rfl h9))) fun h10 => ?_
    split
    · rename_i w11 e12
      exact State.modInst_touch.on rfl (State.finish_touch.on rfl .refl)
    · rename_i w13 e14
      exact .ite (State.resetItems_touch.on rfl (State.modInst_touch.on rfl .refl)) (State.modInst_touch.on rfl h10)
    · rename_i w15 e16 e17
      exact .refl

theorem State.nextReset_touch {f : Nat} {s : State} {i : Nat} : Touch { regs := true, host := true, cmd := true, cad := true, insts := true, flash := true, buf := true, eng := true, dig := true, srch := true, cores := true, scan := true, dram := true, knot := true, tel := true } s (State.nextReset f s i) := by
  induction f generalizing s with
  | zero => exact .refl
  | succ f ih =>
    rw [State.nextReset]
    split
    · exact .refl
    · exact .ite (ih.on rfl (State.modInst_touch.on rfl .refl))
        (.ite (ih.on rfl (State.beginReset_touch.on rfl .refl)) (State.beginReset_touch.on rfl .refl))

theorem State.queueReset_touch {s : State} {n : ℕ} {it : Item} :
    Touch { regs := true, host := true, cmd := true, cad := true, insts := true, flash := true, buf := true, eng := true, dig := true, srch := true, cores := true, scan := true, dram := true, knot := true, tel := true } s (State.queueReset s n it) := by
  unfold State.queueReset
  extract_lets v0 v1
  refine .step (x := v1) (State.modInst_touch.on rfl .refl) fun h2 => ?_
  exact .ite (State.nextReset_touch.on rfl h2) h2

theorem State.created_touch {s : State} {i : ℕ} :
    Touch { regs := true, host := true, cmd := true, cad := true, insts := true, flash := true, buf := true, eng := true, dig := true, srch := true, cores := true, scan := true, dram := true, knot := true, tel := true } s (State.created s i) := by
  unfold State.created
  exact .ite (State.nextReset_touch.on rfl .refl) .refl

theorem State.releaseQuotas_touch {s : State} {i : ℕ} :
    Touch { regs := true, shVal := true, shMask := true, cfg := true, insts := true, dram := true, tel := true } s (State.releaseQuotas s i) := by
  unfold State.releaseQuotas
  refine .ite ?_ ?_
  · extract_lets v0
    refine .step (x := v0) (State.quotaTxn_touch.on rfl .refl) fun h1 => ?_
    exact State.modInst_touch.on rfl h1
  · exact .refl

theorem State.resetDone_touch {s : State} {i op : ℕ} :
    Touch { regs := true, shVal := true, shMask := true, cfg := true, host := true, cmd := true, cad := true, insts := true, flash := true, buf := true, eng := true, dig := true, srch := true, cores := true, scan := true, dram := true, knot := true, tel := true } s (State.resetDone s i op) := by
  unfold State.resetDone
  extract_lets v0 v1 v2
  refine .step (x := v2) (.ite .refl (State.modInst_touch.on rfl (.foldl (fun x4 y5 h6 => (State.sendClose_touch.on rfl h6)) .refl))) fun h3 => ?_
  split
  · rename_i w7 e8
    exact .refl
  · rename_i w9 w10 w11 e12
    refine .ite ?_ ?_
    · exact State.nextReset_touch.on rfl .refl
    · refine .ite ?_ ?_
      · exact .refl
      · refine .ite ?_ ?_
        · exact h3
        · refine .ite ?_ ?_
          · exact State.releaseQuotas_touch.on rfl h3
          · refine .ite ?_ ?_
            · exact h3
            · extract_lets v13 v14 v15
              refine .step (x := v14) (.ite (State.raise_touch.on rfl (State.modInst_touch.on rfl h3)) (State.raise_touch.on rfl (State.setInst_touch.on rfl (State.dropGrains_touch.on rfl h3)))) fun h16 => ?_
              exact State.nextReset_touch.on rfl (.ite (State.report_touch.on rfl (State.finish_touch.on rfl h16)) h16)

theorem State.migSnapshot_touch {s : State} {n : ℕ} :
    Touch { cmd := true, insts := true } s (State.migSnapshot s n) := by
  unfold State.migSnapshot
  split
  · rename_i w0 e1
    exact .refl
  · rename_i w2 w3 e4
    refine .ite ?_ ?_
    · extract_lets v5 v6 v7
      refine .step (x := v7) (State.modInst_touch.on rfl .refl) fun h8 => ?_
      exact State.modItem_touch.on rfl h8
    · exact .refl

theorem State.migLog_touch {s : State} {n : ℕ} {it : Item} :
    Touch { cmd := true, insts := true } s (State.migLog s n it) := by
  unfold State.migLog
  extract_lets v0 v1 v2 v3 v4 v5
  refine .step (x := v2) (State.modItem_touch.on rfl .refl) fun h6 => ?_
  refine .ite ?_ ?_
  · exact State.finish_touch.on rfl h6
  · split
    · rename_i w7 e8
      exact State.finish_touch.on rfl (State.setInst_touch.on rfl h6)
    · rename_i w9 e10
      exact .ite (State.finish_touch.on rfl (State.setInst_touch.on rfl h6)) (State.finish_touch.on rfl h6)
    · rename_i w11 e12 e13
      exact .ite (State.finish_touch.on rfl h6) (State.finish_touch.on rfl (State.modItem_touch.on rfl h6))

theorem State.getLog_touch {s : State} {n : ℕ} {it : Item} :
    Touch { cmd := true } s (State.getLog s n it) := by
  unfold State.getLog
  extract_lets v0 v1 v2 v3
  exact State.finish_touch.on rfl (State.modItem_touch.on rfl .refl)

theorem State.clearLog_touch {s : State} {it : Item} :
    Touch { insts := true } s (State.clearLog s it) := by
  unfold State.clearLog
  exact .ite .refl (State.modInst_touch.on rfl .refl)

end Sys2Proof.Machine
end

