-- ==== Sys2Proof/Laws/FootKnot.lean ====
section
/-! SUPPORT. What each operation of Machine/Knot.lean can touch. -/

namespace Sys2Proof.Machine
open Sys2Proof

theorem State.modLink_touch {s : State} {j : ℕ} {f : LinkSt → LinkSt} :
    Touch { knot := true } s (State.modLink s j f) := by
  unfold State.modLink
  exact .upd_knot .refl rfl

theorem State.setMembers_touch {s : State} :
    Touch { regs := true } s (State.setMembers s) := by
  unfold State.setMembers
  extract_lets v0
  exact State.setFld_touch.on rfl .refl

theorem State.setLinkState_touch {s : State} {j st : ℕ} :
    Touch { regs := true } s (State.setLinkState s j st) := by
  unfold State.setLinkState
  exact .ite .refl (State.setMembers_touch.on rfl (State.raise_touch.on rfl (State.setFld_touch.on rfl .refl)))

theorem State.startTraining_touch {s : State} {j : ℕ} :
    Touch { regs := true, knot := true } s (State.startTraining s j) := by
  unfold State.startTraining
  exact .ite (State.setLinkState_touch.on rfl (State.modLink_touch.on rfl .refl)) .refl

theorem State.signalDetect_touch {s : State} {j : ℕ} :
    Touch { regs := true, knot := true } s (State.signalDetect s j) := by
  unfold State.signalDetect
  exact State.startTraining_touch.on rfl (State.modLink_touch.on rfl .refl)

theorem State.laneLock_touch {s : State} {j : ℕ} {peerHalf : Bool} :
    Touch { regs := true, knot := true } s (State.laneLock s j peerHalf) := by
  unfold State.laneLock
  exact .ite .refl (.ite (State.modLink_touch.on rfl .refl) (State.setLinkState_touch.on rfl .refl))

theorem State.laneTimeout_touch {s : State} {j : ℕ} :
    Touch { regs := true, knot := true } s (State.laneTimeout s j) := by
  unfold State.laneTimeout
  exact .ite .refl (.ite (State.modLink_touch.on rfl .refl) (State.setLinkState_touch.on rfl .refl))

theorem State.mirrorResend_touch {s : State} {j : ℕ} :
    Touch { knot := true } s (State.mirrorResend s j) := by
  unfold State.mirrorResend
  exact .ite .refl (.foldl (fun x0 y1 h2 => (State.knotSend_touch.on rfl h2)) .refl)

theorem State.knotIdent_touch {s : State} {j ver id sig : ℕ} {home : Option ℕ} {buddy : Bool} :
    Touch { regs := true, dram := true, knot := true, tel := true } s (State.knotIdent s j ver id sig home buddy) := by
  unfold State.knotIdent
  refine .ite ?_ ?_
  · exact .refl
  · extract_lets v0 v1 v2 v3 v4 v5 v6 v7
    refine .step (x := v0) (State.setFld_touch.on rfl (State.setFld_touch.on rfl .refl)) fun h8 => ?_
    refine .step (x := v1) (State.setFld_touch.on rfl h8) fun h9 => ?_
    refine .step (x := v2) (State.modLink_touch.on rfl h9) fun h10 => ?_
    refine .step (x := v3) (State.setLinkState_touch.on rfl h10) fun h11 => ?_
    refine .step (x := v4) (State.setFld_touch.on rfl h11) fun h12 => ?_
    refine .step (x := v6) (.ite h11 (.upd_knot h12 rfl)) fun h13 => ?_
    refine .step (x := v7) (.ite (State.setFld_touch.on rfl h13) h13) fun h14 => ?_
    exact .ite (State.post_touch.on rfl (State.raise_touch.on rfl (State.setLinkState_touch.on rfl h8))) (State.mirrorResend_touch.on rfl h14)

theorem State.takeHome_touch {s : State} {home : ℕ} :
    Touch { regs := true, knot := true } s (State.takeHome s home) := by
  unfold State.takeHome
  refine .ite ?_ ?_
  · exact .refl
  · extract_lets v0
    refine .step (x := v0) (State.setFld_touch.on rfl .refl) fun h1 => ?_
    refine .foldl (fun x5 y6 h7 => ?_) ?_
    · split
      · rename_i w8 w9 e10
        exact .ite h7 (State.knotSend_touch.on rfl h7)
      · rename_i w11 e12
        exact h7
    · exact h1

theorem State.flit_touch {s : State} {j seq : ℕ} {crcOk : Bool} {idle : Option (ℕ × ℕ)} {latNs : ℕ} :
    Touch { regs := true, knot := true } s (State.flit s j seq crcOk idle latNs) := by
  unfold State.flit
  refine .ite ?_ ?_
  · exact .refl
  · refine .ite ?_ ?_
    · exact State.count_touch.on rfl (State.modLink_touch.on rfl .refl)
    · refine .ite ?_ ?_
      · exact .refl
      · extract_lets v0 v1
        refine .step (x := v0) (State.modLink_touch.on rfl .refl) fun h2 => ?_
        refine .step (x := v1) (State.setFld_touch.on rfl h2) fun h3 => ?_
        split
        · rename_i w4
          exact h3
        · rename_i w5 w6 w7
          exact State.takeHome_touch.on rfl (State.modLink_touch.on rfl h3)

theorem State.idleFlit_touch {s : State} {j : ℕ} :
    Touch { knot := true } s (State.idleFlit s j) := by
  unfold State.idleFlit
  refine .ite ?_ ?_
  · exact .refl
  · extract_lets v0 v1 v2
    refine .step (x := v1) (State.modLink_touch.on rfl .refl) fun h3 => ?_
    exact .upd_knot h3 rfl

theorem State.buddyLost_touch {s : State} :
    Touch { regs := true, host := true, cmd := true, cad := true, insts := true, flash := true, buf := true, eng := true, dig := true, srch := true, cores := true, scan := true, dram := true, knot := true, tel := true } s (State.buddyLost s) := by
  unfold State.buddyLost
  extract_lets v0 v1
  refine .step (x := v1) (.foldl (fun x3 y4 h5 => (State.modItem_touch.on rfl h5)) .refl) fun h2 => ?_
  exact .ite (State.async_touch.on rfl (State.post_touch.on rfl (State.raise_touch.on rfl (State.setFld_touch.on rfl h2)))) (.foldl (fun x6 y7 h8 => (.ite (State.modItem_touch.on rfl h8) (State.report_touch.on rfl (State.stopWork_touch.on rfl h8)))) .refl)

theorem State.partLost_touch {s : State} {j n : ℕ} :
    Touch { regs := true, host := true, cmd := true, cad := true, insts := true, flash := true, buf := true, eng := true, dig := true, srch := true, cores := true, scan := true, dram := true, knot := true, tel := true } s (State.partLost s j n) := by
  unfold State.partLost
  split
  · rename_i w0 e1
    exact .refl
  · rename_i w2 w3 e4
    extract_lets v5 v6
    refine .step (x := v6) (State.modItem_touch.on rfl .refl) fun h7 => ?_
    exact .ite h7 (State.report_touch.on rfl (State.stopWork_touch.on rfl h7))

theorem State.restartAsn_touch {s : State} :
    Touch { insts := true } s (State.restartAsn s) := by
  unfold State.restartAsn
  exact .foldl (fun x0 y1 h2 => (.ite (State.modInst_touch.on rfl h2) h2)) .refl

theorem State.homeLost_touch {s : State} :
    Touch { regs := true, host := true, cmd := true, cad := true, insts := true, flash := true, buf := true, dram := true, knot := true, tel := true } s (State.homeLost s) := by
  unfold State.homeLost
  refine .ite ?_ ?_
  · exact .refl
  · extract_lets v0 v1 v2 v3
    refine .step (x := v1) (State.restartAsn_touch.on rfl (State.setFld_touch.on rfl .refl)) fun h4 => ?_
    refine .step (x := v3) (.upd_knot h4 rfl) fun h5 => ?_
    refine .foldl (fun x9 y10 h11 => ?_) ?_
    · split
      · rename_i w12 w13 e14
        extract_lets v15
        exact .ite h11 (State.sendBusy_touch.on rfl h11)
      · rename_i w16 e17
        exact h11
    · exact h5

theorem State.peerLost_touch {s : State} {j : ℕ} :
    Touch { regs := true, host := true, cmd := true, cad := true, insts := true, flash := true, buf := true, eng := true, dig := true, srch := true, cores := true, scan := true, dram := true, knot := true, tel := true } s (State.peerLost s j) := by
  unfold State.peerLost
  refine .ite ?_ ?_
  · exact .refl
  · extract_lets v0 v1 v2 v3 v4 v5 v6 v7 v8 v9 v10
    refine .step (x := v0) (State.count_touch.on rfl (State.raise_touch.on rfl (State.setLinkState_touch.on rfl .refl))) fun h11 => ?_
    refine .step (x := v1) (State.modLink_touch.on rfl h11) fun h12 => ?_
    refine .step (x := v3) (.upd_knot h12 rfl) fun h13 => ?_
    refine .step (x := v4) (State.async_touch.on rfl (State.post_touch.on rfl h13)) fun h14 => ?_
    refine .step (x := v6) (.foldl (fun x16 y17 h18 => (State.partLost_touch.on rfl h18)) h14) fun h15 => ?_
    refine .step (x := v8) (.upd_knot h15 rfl) fun h19 => ?_
    refine .step (x := v9) ?_ fun h20 => ?_
    · unfold v9
      refine .foldl (fun x27 y28 h29 => ?_) ?_
      · split
        · rename_i w30 w31 e32
          exact .ite h29 (State.endPart_touch.on rfl (State.stopWork_touch.on rfl h29))
        · rename_i w33 e34
          exact h29
      · exact h19
    refine .step (x := v10) (.ite (State.homeLost_touch.on rfl h20) h20) fun h35 => ?_
    exact .ite (State.buddyLost_touch.on rfl h35) h35

theorem State.retrain_touch {s : State} {j : ℕ} :
    Touch { regs := true, host := true, cmd := true, cad := true, insts := true, flash := true, buf := true, eng := true, dig := true, srch := true, cores := true, scan := true, dram := true, knot := true, tel := true } s (State.retrain s j) := by
  unfold State.retrain
  exact .ite .refl (.ite (State.peerLost_touch.on rfl .refl) (State.setLinkState_touch.on rfl .refl))

theorem State.peerTimeout_touch {s : State} {j : ℕ} :
    Touch { regs := true, host := true, cmd := true, cad := true, insts := true, flash := true, buf := true, eng := true, dig := true, srch := true, cores := true, scan := true, dram := true, knot := true, tel := true } s (State.peerTimeout s j) := by
  unfold State.peerTimeout
  exact .ite (State.peerLost_touch.on rfl .refl) .refl

theorem State.syncMirror_touch {s : State} :
    Touch { regs := true } s (State.syncMirror s) := by
  unfold State.syncMirror
  exact State.setFld_touch.on rfl .refl

theorem State.mirrorTake_touch {s : State} {j caddr : ℕ} {r : MirRec} :
    Touch { regs := true, knot := true } s (State.mirrorTake s j caddr r) := by
  unfold State.mirrorTake
  refine .ite ?_ ?_
  · exact .refl
  · extract_lets v0 v1
    refine .step (x := v1) (State.syncMirror_touch.on rfl (.upd_knot .refl rfl)) fun h2 => ?_
    exact State.knotSend_touch.on rfl h2

theorem State.mirrorBack_touch {s : State} {r : MirRec} :
    Touch { regs := true, cmd := true, insts := true, flash := true } s (State.mirrorBack s r) := by
  unfold State.mirrorBack
  extract_lets v0 v1 v2
  refine .step (x := v2) (State.putGrain_touch.on rfl .refl) fun h3 => ?_
  exact .ite .refl (.foldl (fun x4 y5 h6 => (State.blockWritten_touch.on rfl h6)) h3)

theorem State.evict_touch {s : State} {j : ℕ} :
    Touch { regs := true, host := true, insts := true, knot := true } s (State.evict s j) := by
  unfold State.evict
  refine .ite ?_ ?_
  · exact .refl
  · extract_lets v0 v1 v2 v3
    refine .step (x := v1) (.upd_knot .refl rfl) fun h4 => ?_
    refine .step (x := v2) (.foldl (fun x6 y7 h8 => (State.deferredError_touch.on rfl h8)) h4) fun h5 => ?_
    exact .ite (State.syncMirror_touch.on rfl (.upd_knot h5 rfl)) h4

theorem State.nextAsn_touch {s : State} {inst : ℕ} {writing : Bool} {lba count : ℕ} :
    Touch { insts := true, knot := true } s (State.nextAsn s inst writing lba count).1 := by
  unfold State.nextAsn
  extract_lets v0 v1 v2 v3
  refine .step (x := v1) (State.modInst_touch.on rfl .refl) fun h4 => ?_
  exact .upd_knot h4 rfl

theorem State.asnRequest_touch {s : State} {j item op inst lba count : ℕ} :
    Touch { insts := true, knot := true } s (State.asnRequest s j item op inst lba count) := by
  unfold State.asnRequest
  refine .ite ?_ ?_
  · exact .refl
  · refine .ite ?_ ?_
    · exact State.knotSend_touch.on rfl .refl
    · extract_lets v0
      refine .step (x := v0.1) (State.nextAsn_touch.on rfl .refl) fun h1 => ?_
      exact State.knotSend_touch.on rfl h1

theorem State.asnCancel_touch {s : State} {inst asn : ℕ} :
    Touch { knot := true } s (State.asnCancel s inst asn) := by
  unfold State.asnCancel
  refine .ite ?_ ?_
  · exact .refl
  · extract_lets v0
    exact .upd_knot .refl rfl

end Sys2Proof.Machine
end

