-- ==== Sys2Proof/Laws/FootSrd.lean ====
section
/-! SUPPORT. What each operation of Machine/Srd.lean can touch. -/

namespace Sys2Proof.Machine
open Sys2Proof

theorem State.setSrd_touch {s : State} {x : SrdSt} :
    Touch { srd := true } s (State.setSrd s x) := by
  unfold State.setSrd
  exact .upd_srd .refl rfl

theorem State.mbSync_touch {s : State} :
    Touch { regs := true } s (State.mbSync s) := by
  unfold State.mbSync
  extract_lets v0 v1
  refine .step (x := v0) (State.setFld_touch.on rfl .refl) fun h2 => ?_
  exact State.setReg_touch.on rfl h2

theorem State.headNew_touch {s : State} :
    Touch { regs := true } s (State.headNew s) := by
  unfold State.headNew
  split
  · rename_i w0 w1 w2 e3
    exact .ite (State.raise_touch.on rfl .refl) .refl
  · rename_i w4 e5
    exact .refl

theorem State.outFill_touch {s : State} :
    Touch { regs := true, srd := true } s (State.outFill s) := by
  unfold State.outFill
  extract_lets v0 v1 v2 v3
  refine .step (x := v3) (State.setSrd_touch.on rfl .refl) fun h4 => ?_
  exact State.mbSync_touch.on rfl (.ite (State.headNew_touch.on rfl h4) h4)

theorem State.outPost_touch {s : State} {m : OutMsg} :
    Touch { regs := true, srd := true } s (State.outPost s m) := by
  unfold State.outPost
  exact State.outFill_touch.on rfl (State.setSrd_touch.on rfl .refl)

theorem State.outTake_touch {s : State} :
    Touch { regs := true, srd := true } s (State.outTake s) := by
  unfold State.outTake
  extract_lets v0 v1
  refine .step (x := v1) (State.headNew_touch.on rfl (State.setSrd_touch.on rfl .refl)) fun h2 => ?_
  exact State.outFill_touch.on rfl h2

theorem State.postStatus_touch {s : State} :
    Touch { regs := true, srd := true } s (State.postStatus s) := by
  unfold State.postStatus
  exact .ite (State.outPost_touch.on rfl .refl) .refl

theorem State.srdTo_touch {s : State} {x : SrdSt} :
    Touch { regs := true, srd := true } s (State.srdTo s x) := by
  unfold State.srdTo
  extract_lets v0 v1
  refine .step (x := v1) (State.setSrd_touch.on rfl .refl) fun h2 => ?_
  exact .ite (State.postStatus_touch.on rfl h2) h2

theorem State.latchStatus_touch {s : State} {d : List Byte} :
    Touch { regs := true, host := true, dram := true, tel := true } s (State.latchStatus s d) := by
  unfold State.latchStatus
  extract_lets v0 v1 v2 v3 v4 v5 v6 v7 v8 v9 v10
  refine .step (x := v3) (State.setFld_touch.on rfl (State.setFld_touch.on rfl .refl)) fun h11 => ?_
  refine .step (x := v4) (State.setFld_touch.on rfl h11) fun h12 => ?_
  refine .step (x := v5) (State.setReg_touch.on rfl h12) fun h13 => ?_
  refine .step (x := v6) (State.setReg_touch.on rfl h13) fun h14 => ?_
  refine .step (x := v7) (State.setReg_touch.on rfl h14) fun h15 => ?_
  refine .step (x := v8) (State.setPair_touch.on rfl (State.setPair_touch.on rfl h15)) fun h16 => ?_
  refine .step (x := v9) (.foldl (fun x18 y19 h20 => (State.setReg_touch.on rfl h20)) h16) fun h17 => ?_
  refine .step (x := v10) (.ite (State.raise_touch.on rfl h17) h17) fun h21 => ?_
  exact .ite h21 (State.async_touch.on rfl (State.post_touch.on rfl (State.raise_touch.on rfl h21)))

theorem State.inTake_touch {s : State} :
    Touch { regs := true, srd := true } s (State.inTake s) := by
  unfold State.inTake
  exact State.mbSync_touch.on rfl (State.setSrd_touch.on rfl .refl)

theorem State.srdSeal_touch {s : State} {dt : ℕ} :
    Touch { regs := true, srd := true } s (State.srdSeal s dt) := by
  unfold State.srdSeal
  extract_lets v0 v1 v2
  refine .step (x := v1) (State.setSrd_touch.on rfl .refl) fun h3 => ?_
  split
  · rename_i w4 e5
    exact h3
  · rename_i w6 w7 w8 w9 e10
    refine .ite ?_ ?_
    · exact h3
    · extract_lets v11 v12 v13 v14 v15 v16 v17 v18 v19
      refine .step (x := v17) (State.setSrd_touch.on rfl h3) fun h20 => ?_
      refine .step (x := v18) (State.inTake_touch.on rfl h20) fun h21 => ?_
      refine .step (x := v19) (.ite (State.outPost_touch.on rfl h21) h21) fun h22 => ?_
      exact .ite (.ite h3 (State.outPost_touch.on rfl (State.inTake_touch.on rfl h3))) (.ite (.ite h3 (State.outPost_touch.on rfl (State.inTake_touch.on rfl h3))) (.ite (.ite h3 (State.outPost_touch.on rfl (State.inTake_touch.on rfl h3))) (.ite (.ite h3 (State.outPost_touch.on rfl (State.inTake_touch.on rfl h3))) (.ite (.ite h3 (State.outPost_touch.on rfl (State.inTake_touch.on rfl h3))) (.ite h3 (State.outPost_touch.on rfl h22))))))

theorem State.srdVerify_touch {s : State} :
    Touch { regs := true, srd := true } s (State.srdVerify s) := by
  unfold State.srdVerify
  split
  · rename_i w0 e1
    exact .refl
  · rename_i w2 w3 w4 w5 e6
    refine .ite ?_ ?_
    · exact .refl
    · extract_lets v7 v8
      exact .ite (State.outPost_touch.on rfl (State.inTake_touch.on rfl .refl)) (State.outPost_touch.on rfl (State.inTake_touch.on rfl .refl))

theorem State.srdGet_touch {s : State} :
    Touch { regs := true, srd := true } s (State.srdGet s) := by
  unfold State.srdGet
  split
  · rename_i w0 e1
    exact .refl
  · rename_i w2 w3 w4 w5 e6
    refine .ite ?_ ?_
    · exact .refl
    · extract_lets v7
      refine .ite ?_ ?_
      · exact State.outPost_touch.on rfl (State.inTake_touch.on rfl .refl)
      · split
        · rename_i w8 e9
          exact State.outPost_touch.on rfl (State.inTake_touch.on rfl .refl)
        · rename_i w10 w11 e12
          exact State.outPost_touch.on rfl (State.inTake_touch.on rfl .refl)

theorem State.mailboxReset_touch {s : State} :
    Touch { regs := true, flash := true, srd := true } s (State.mailboxReset s) := by
  unfold State.mailboxReset
  extract_lets v0 v1 v2 v3 v4 v5
  refine .step (x := v3) (State.setSrd_touch.on rfl .refl) fun h6 => ?_
  refine .step (x := v5) (.upd_flash h6 rfl) fun h7 => ?_
  exact State.outFill_touch.on rfl (State.setFld_touch.on rfl (State.setFld_touch.on rfl h7))

theorem State.inPost_touch {s : State} {m : List Byte} :
    Touch { regs := true, srd := true } s (State.inPost s m) := by
  unfold State.inPost
  exact .ite .refl (State.mbSync_touch.on rfl (State.setSrd_touch.on rfl .refl))

theorem State.mbInPost_touch {s : State} {req : ℕ} :
    Touch { regs := true, dram := true, srd := true, tel := true } s (State.mbInPost s req) := by
  unfold State.mbInPost
  exact .ite (State.capture_touch.on rfl .refl) (.ite (State.capture_touch.on rfl .refl) (State.inPost_touch.on rfl .refl))

theorem State.sealEnd_touch {s : State} {n st : ℕ} {data : List Byte} :
    Touch { cmd := true } s (State.sealEnd s n st data) := by
  unfold State.sealEnd
  split
  · rename_i w0 e1
    exact .refl
  · rename_i w2 w3 e4
    extract_lets v5
    exact State.finish_touch.on rfl .refl

theorem State.sealPost_touch {s : State} {n : ℕ} :
    Touch { regs := true, cmd := true, srd := true } s (State.sealPost s n) := by
  unfold State.sealPost
  split
  · rename_i w0 e1
    exact .refl
  · rename_i w2 w3 e4
    refine .ite ?_ ?_
    · exact .refl
    · refine .ite ?_ ?_
      · exact State.sealEnd_touch.on rfl .refl
      · refine .ite ?_ ?_
        · exact .refl
        · extract_lets v5 v6 v7
          refine .step (x := v7) (State.setSrd_touch.on rfl .refl) fun h8 => ?_
          exact State.inPost_touch.on rfl (State.modItem_touch.on rfl h8)

theorem State.sealExpire_touch {s : State} :
    Touch { cmd := true, srd := true } s (State.sealExpire s) := by
  unfold State.sealExpire
  exact .foldl (fun x0 y1 h2 => (State.sealEnd_touch.on rfl (State.setSrd_touch.on rfl h2))) .refl

theorem State.mbOutPop_touch {s : State} :
    Touch { regs := true, cmd := true, srd := true } s (State.mbOutPop s) := by
  unfold State.mbOutPop
  split
  · rename_i w0 e1
    exact .refl
  · rename_i w2 w3 w4 e5
    refine .ite ?_ ?_
    · exact .refl
    · extract_lets v6 v7
      refine .step (x := v6) (State.outTake_touch.on rfl (State.sealExpire_touch.on rfl .refl)) fun h8 => ?_
      split
      · rename_i w9 e10
        exact h8
      · rename_i w11 w12 w13 e14
        exact State.sealEnd_touch.on rfl (State.setSrd_touch.on rfl h8)

theorem State.hwTake_touch {F : Foot} {r s : State} {t : Nat} {f : State → OutMsg → State}
    (hF : Foot.le { regs := true, srd := true } F = true) (h : Touch F r s) (hf : ∀ m, Touch F r (f s m)) :
    Touch F r (State.hwTake s t f) := by
  unfold State.hwTake
  split
  · exact h
  · exact .ite (State.outTake_touch.on hF (hf _)) h

theorem State.tamperSample_touch {s : State} {sealN t0 t1 : Bool} {dt : ℕ} :
    Touch { regs := true, srd := true } s (State.tamperSample s sealN t0 t1 dt) := by
  unfold State.tamperSample
  extract_lets v0 v1
  refine .ite ?_ ?_
  · exact .refl
  · split
    · rename_i w2 w3 w4 e5
      split
      · rename_i w6 w7 w8 e9
        extract_lets v10 v11 v12
        exact State.srdTo_touch.on rfl .refl

theorem State.ppsEdge_touch {s : State} {good ref : Bool} {err : ℤ} {dt : ℕ} :
    Touch { regs := true, srd := true } s (State.ppsEdge s good ref err dt) := by
  unfold State.ppsEdge
  extract_lets v0 v1 v2
  refine .ite ?_ ?_
  · exact .refl
  · split
    · rename_i w3 w4 w5 e6
      extract_lets v7 v8
      exact .ite (State.srdTo_touch.on rfl .refl) (State.srdTo_touch.on rfl .refl)
    · rename_i w9 e10
      exact .ite (.ite (State.srdTo_touch.on rfl .refl) (.ite (State.srdTo_touch.on rfl .refl) (State.srdTo_touch.on rfl .refl))) (State.srdTo_touch.on rfl .refl)

theorem State.lockExpiry_touch {s : State} {idx dt : ℕ} :
    Touch { regs := true, srd := true } s (State.lockExpiry s idx dt) := by
  unfold State.lockExpiry
  extract_lets v0 v1
  refine .step (x := v1) (State.setSrd_touch.on rfl .refl) fun h2 => ?_
  split
  · rename_i w3 e4
    exact h2
  · rename_i w5 w6 e7
    exact .ite h2 (State.outPost_touch.on rfl (State.setSrd_touch.on rfl h2))

theorem State.srdPowerOn_touch {s : State} :
    Touch { regs := true, srd := true } s (State.srdPowerOn s) := by
  unfold State.srdPowerOn
  extract_lets v0 v1
  exact State.postStatus_touch.on rfl (State.mbSync_touch.on rfl (State.setSrd_touch.on rfl .refl))

theorem State.srdLoss_touch {s : State} :
    Touch { regs := true, srd := true } s (State.srdLoss s) := by
  unfold State.srdLoss
  exact State.mbSync_touch.on rfl (State.setSrd_touch.on rfl .refl)

theorem State.authorised_touch {F : Foot} {r s : State} {ok : Bool} {f : State → State}
    (hF : Foot.le { srd := true } F = true) (h : Touch F r s) (hf : ∀ t, Touch F r t → Touch F r (f t)) :
    Touch F r (State.authorised s ok f) := by
  unfold State.authorised
  exact .ite h (.ite (hf _ (State.setSrd_touch.on hF h)) (State.setSrd_touch.on hF h))

theorem State.timeSet_touch {s : State} {utc : ℕ} {leap : ℤ} :
    Touch { srd := true } s (State.timeSet s utc leap) := by
  unfold State.timeSet
  exact .ite .refl (State.setSrd_touch.on rfl .refl)

theorem State.leapSet_touch {s : State} {utc : ℕ} {leap : ℤ} :
    Touch { srd := true } s (State.leapSet s utc leap) := by
  unfold State.leapSet
  exact .ite .refl (State.setSrd_touch.on rfl .refl)

theorem State.leapApply_touch {s : State} {dt : ℕ} :
    Touch { srd := true } s (State.leapApply s dt) := by
  unfold State.leapApply
  extract_lets v0 v1
  refine .step (x := v1) (State.setSrd_touch.on rfl .refl) fun h2 => ?_
  split
  · rename_i w3 e4
    exact h2
  · rename_i w5 w6 w7 e8
    exact .ite h2 (.ite (State.setSrd_touch.on rfl h2) (State.setSrd_touch.on rfl h2))

theorem State.verifyEnter_touch {s : State} {bad : ℕ} :
    Touch { regs := true, srd := true } s (State.verifyEnter s bad) := by
  unfold State.verifyEnter
  exact .ite .refl (.ite (State.setSrd_touch.on rfl .refl) (State.postStatus_touch.on rfl (State.setSrd_touch.on rfl .refl)))

theorem State.verifyExit_touch {s : State} :
    Touch { regs := true, srd := true } s (State.verifyExit s) := by
  unfold State.verifyExit
  refine .ite ?_ ?_
  · exact .refl
  · extract_lets v0 v1
    exact State.postStatus_touch.on rfl (State.setSrd_touch.on rfl .refl)

theorem State.srdProvision_touch {s : State} {id : ℕ} {auth : List Byte} :
    Touch { srd := true } s (State.srdProvision s id auth) := by
  unfold State.srdProvision
  refine .ite ?_ ?_
  · exact .refl
  · extract_lets v0 v1
    exact State.setSrd_touch.on rfl .refl

end Sys2Proof.Machine
end

