-- ==== Sys2Proof/Laws/FootThermal.lean ====
section
/-! SUPPORT. What each operation of Machine/Thermal.lean can touch. -/

namespace Sys2Proof.Machine
open Sys2Proof

theorem State.setStep_touch {s : State} {st : ℕ} :
    Touch { regs := true, host := true, dram := true, tel := true } s (State.setStep s st) := by
  unfold State.setStep
  extract_lets v0
  refine .step (x := v0) (State.raise_touch.on rfl (State.setFld_touch.on rfl (State.setFld_touch.on rfl .refl))) fun h1 => ?_
  exact State.async_touch.on rfl (State.post_touch.on rfl h1)

theorem State.setA_touch {s : State} {a : ℕ} :
    Touch { regs := true } s (State.setA s a) := by
  unfold State.setA
  exact State.setFld_touch.on rfl .refl

theorem State.descend_touch {s : State} :
    Touch { regs := true, host := true, dram := true, tel := true } s (State.descend s) := by
  unfold State.descend
  extract_lets v0 v1
  refine .step (x := v1) (State.count_touch.on rfl (State.setStep_touch.on rfl (State.setA_touch.on rfl .refl))) fun h2 => ?_
  exact .ite (State.raise_touch.on rfl h2) h2

theorem State.setUp_touch {s : State} {up : ℕ} :
    Touch { therm := true } s (State.setUp s up) := by
  unfold State.setUp
  exact .upd_therm .refl rfl

theorem State.stepSample_touch {s : State} {tmax : ℤ} :
    Touch { regs := true, host := true, dram := true, therm := true, tel := true } s (State.stepSample s tmax) := by
  unfold State.stepSample
  extract_lets v0 v1 v2 v3 v4 v5 v6 v7 v8 v9 v10 v11
  refine .step (x := v1) (.ite (State.setA_touch.on rfl .refl) .refl) fun h12 => ?_
  refine .step (x := v3) (.upd_therm h12 rfl) fun h13 => ?_
  refine .step (x := v8) (.ite (State.setFld_touch.on rfl h13) h13) fun h14 => ?_
  refine .step (x := v9) (State.setUp_touch.on rfl h14) fun h15 => ?_
  refine .step (x := v11) (.upd_therm h15 rfl) fun h16 => ?_
  exact .ite (.ite (State.descend_touch.on rfl h16) (.ite (State.post_touch.on rfl (State.raise_touch.on rfl (State.setFld_touch.on rfl h16))) h16)) (.ite (.ite (.upd_therm h14 rfl) (State.setUp_touch.on rfl h14)) (State.setUp_touch.on rfl h14))

theorem State.riseDone_touch {s : State} :
    Touch { regs := true, host := true, dram := true, therm := true, tel := true } s (State.riseDone s) := by
  unfold State.riseDone
  refine .ite ?_ ?_
  · exact .refl
  · extract_lets v0 v1
    refine .step (x := v1) (.upd_therm .refl rfl) fun h2 => ?_
    exact .ite h2 (State.count_touch.on rfl (State.setStep_touch.on rfl h2))

theorem State.showSensor_touch {s : State} {n : ℕ} :
    Touch { regs := true } s (State.showSensor s n) := by
  unfold State.showSensor
  extract_lets v0 v1
  refine .step (x := v1) (State.setReg_touch.on rfl .refl) fun h2 => ?_
  exact State.setReg_touch.on rfl h2

theorem State.sensorFail_touch {s : State} {tmax : ℤ} {n : ℕ} :
    Touch { regs := true, dram := true, therm := true, tel := true } s (State.sensorFail s tmax n) := by
  unfold State.sensorFail
  extract_lets v0 v1 v2 v3 v4 v5
  refine .step (x := v0) (State.raise_touch.on rfl (State.fault_touch.on rfl .refl)) fun h6 => ?_
  refine .step (x := v1) (State.setFld_touch.on rfl h6) fun h7 => ?_
  refine .step (x := v2) (.ite (State.setFld_touch.on rfl h7) h7) fun h8 => ?_
  refine .step (x := v5) (.upd_therm h8 rfl) fun h9 => ?_
  exact .ite (State.raise_touch.on rfl (State.fault_touch.on rfl (State.setFld_touch.on rfl h9))) h8

theorem State.thermSample_touch {s : State} {x : ThermIn} :
    Touch { regs := true, host := true, dram := true, therm := true, tel := true } s (State.thermSample s x).1 := by
  unfold State.thermSample
  extract_lets v0 v1 v2 v3 v4 v5 v6 v7 v8 v9 v10
  refine .step (x := v5) (.upd_therm .refl rfl) fun h11 => ?_
  refine .step (x := v6) (.foldl (fun x13 y14 h15 => (State.setReg_touch.on rfl h15)) h11) fun h12 => ?_
  refine .step (x := v7) (State.setReg_touch.on rfl h12) fun h16 => ?_
  refine .step (x := v10) (.foldl (fun x18 y19 h20 => (State.showSensor_touch.on rfl h20)) h16) fun h17 => ?_
  split
  · rename_i w21 w22 w23 e24
    extract_lets v25 v26 v27 v28 v29 v30
    refine .step (x := v25) (State.setReg_touch.on rfl h17) fun h31 => ?_
    refine .step (x := v27) (.foldl (fun x33 y34 h35 => (State.sensorFail_touch.on rfl h35)) h31) fun h32 => ?_
    refine .step (x := v29) (State.setFld_touch.on rfl h32) fun h36 => ?_
    refine .step (x := v30) (.ite (State.async_touch.on rfl (State.post_touch.on rfl (State.raise_touch.on rfl h36))) h36) fun h37 => ?_
    exact State.stepSample_touch.on rfl h37

end Sys2Proof.Machine
end

