-- ==== Sys2Proof/Laws/FootPower.lean ====
section
/-! SUPPORT. What each operation of Machine/Power.lean can touch. -/

namespace Sys2Proof.Machine
open Sys2Proof

theorem State.setPhase_touch {s : State} {p : ℕ} :
    Touch { regs := true } s (State.setPhase s p) := by
  unfold State.setPhase
  exact State.setFld_touch.on rfl .refl

theorem State.cause_touch {s : State} {b : ℕ} :
    Touch { regs := true } s (State.cause s b) := by
  unfold State.cause
  exact State.setFld_touch.on rfl .refl

theorem State.resetKeys_touch {s : State} {p : Nat → Bool} :
    Touch { regs := true, shVal := true, shMask := true, pairHi := true, cfg := true } s (State.resetKeys s p) := by
  unfold State.resetKeys
  refine Touch.refl.wipe_regs_shVal_shMask_pairHi_cfg rfl rfl rfl rfl rfl fun w => ?_
  simp only [Memory.wf, Bool.and_eq_true] at w ⊢
  exact ⟨w.1, SMap.wf_filter _ _ _ w.2⟩

theorem State.resetCore_touch {s : State} {n : ℕ} {run : Bool} :
    Touch { cores := true } s (State.resetCore s n run) := by
  unfold State.resetCore
  exact State.setCore_touch.on rfl .refl

theorem State.domainLost_touch {s : State} {d : Nat} :
    Touch { buf := true, eng := true, dig := true, srch := true, cores := true, scan := true } s (State.domainLost s d) := by
  unfold State.domainLost
  refine .ite ?_ ?_
  · exact (.foldl (fun x6 y7 h8 => (State.resetCore_touch.on rfl h8)) .refl)
  · refine .ite ?_ ?_
    · refine .foldl (fun x15 y16 h17 => ?_) ?_
      · extract_lets v18 v19
        refine .step (x := v19) (State.setCluster_touch.on rfl h17) fun h20 => ?_
        exact (.foldl (fun x21 y22 h23 => (State.setCore_touch.on rfl h23)) h20)
      · exact .refl
    · refine .ite ?_ ?_
      · exact (Touch.refl.upd_eng rfl)
      · refine .ite ?_ ?_
        · exact (Touch.refl.upd_dig rfl)
        · refine .ite ?_ ?_
          · extract_lets v24 v25
            exact (Touch.refl.upd_srch rfl)
          · exact .ite (Touch.refl.wipe_buf rfl fun w => by
              simp only [Memory.wf, Bool.and_eq_true] at w ⊢
              exact ⟨⟨w.1.1, rfl⟩, w.2⟩) .refl

theorem State.domainReset_touch {s : State} {d : ℕ} :
    Touch { regs := true, shVal := true, shMask := true, pairHi := true, cfg := true, buf := true, eng := true, dig := true, srch := true, cores := true, scan := true } s (State.domainReset s d) := by
  unfold State.domainReset
  exact State.domainLost_touch.on rfl (State.resetKeys_touch.on rfl .refl)

theorem State.setWait_touch {s : State} {d : ℕ} {b : Bool} :
    Touch { regs := true } s (State.setWait s d b) := by
  unfold State.setWait
  exact State.setFld_touch.on rfl .refl

theorem State.domTake_touch {s : State} {d : ℕ} :
    Touch { regs := true, pwr := true } s (State.domTake s d) := by
  unfold State.domTake
  extract_lets v0 v1 v2 v3
  refine .step (x := v2) (State.setWait_touch.on rfl .refl) fun h4 => ?_
  exact .ite .refl (.ite (.ite (State.setDomStat_touch.on rfl h4) (.ite (State.setDomStat_touch.on rfl (.upd_pwr h4 rfl)) h4)) (.ite (State.setWait_touch.on rfl .refl) .refl))

theorem State.domRequest_touch {s : State} :
    Touch { regs := true, pwr := true } s (State.domRequest s) := by
  unfold State.domRequest
  exact .foldl (fun x0 y1 h2 => (State.domTake_touch.on rfl h2)) .refl

theorem State.domainOff_touch {s : State} {d : ℕ} :
    Touch { regs := true, shVal := true, shMask := true, pairHi := true, cfg := true, buf := true, eng := true, dig := true, srch := true, cores := true, scan := true } s (State.domainOff s d) := by
  unfold State.domainOff
  refine .ite ?_ ?_
  · exact .refl
  · extract_lets v0 v1
    refine .step (x := v1) (State.raise_touch.on rfl (State.setWait_touch.on rfl .refl)) fun h2 => ?_
    exact .ite (State.setDomStat_touch.on rfl h2) (State.setDomStat_touch.on rfl (State.domainLost_touch.on rfl (State.resetKeys_touch.on rfl h2)))

theorem State.domainOn_touch {s : State} {d : ℕ} :
    Touch { regs := true, shVal := true, shMask := true, pairHi := true, cfg := true, buf := true, eng := true, dig := true, srch := true, cores := true, scan := true, pwr := true } s (State.domainOn s d) := by
  unfold State.domainOn
  refine .ite ?_ ?_
  · exact .refl
  · extract_lets v0 v1 v2 v3
    refine .step (x := v2) (.upd_pwr .refl rfl) fun h4 => ?_
    refine .step (x := v3) (.ite h4 (State.domainReset_touch.on rfl h4)) fun h5 => ?_
    exact State.domTake_touch.on rfl (State.raise_touch.on rfl (State.setDomStat_touch.on rfl h5))

theorem State.abandonOps_touch {s : State} :
    Touch { flash := true } s (State.abandonOps s) := by
  unfold State.abandonOps
  extract_lets v0 v1 v2 v3
  exact .upd_flash .refl rfl

theorem State.logicLost_touch {s : State} :
    Touch { host := true, cmd := true, cad := true, insts := true, flash := true, buf := true, eng := true, dig := true, srch := true, cores := true, ctlStores := true, scan := true, knot := true, tel := true } s (State.logicLost s) := by
  unfold State.logicLost
  extract_lets v0 v1 v2
  refine .step (x := v0) (State.abandonOps_touch.on rfl .refl) fun h3 => ?_
  exact h3.wipe_host_cmd_cad_insts_buf_eng_dig_srch_cores_ctlStores_scan_knot_tel rfl rfl rfl rfl rfl rfl rfl rfl rfl rfl rfl rfl rfl rfl fun w => by
    simp only [Memory.wf, Bool.and_eq_true] at w ⊢
    exact ⟨⟨w.1.1, rfl⟩, w.2⟩

theorem State.dramLost_touch {s : State} :
    Touch { flash := true, dram := true, knot := true, otp := true } s (State.dramLost s) := by
  unfold State.dramLost
  extract_lets v0 v1 v2
  exact Touch.refl.wipe_flash_dram_knot_otp rfl rfl rfl rfl rfl fun w => by
    simp only [Memory.wf, Bool.and_eq_true] at w ⊢
    exact ⟨⟨rfl, w.1.2⟩, w.2⟩

theorem State.switchOff_touch {s : State} {p : ℕ → Bool} :
    Touch { regs := true, buf := true, eng := true, dig := true, srch := true, cores := true, scan := true } s (State.switchOff s p) := by
  unfold State.switchOff
  exact .foldl (fun x0 y1 h2 => (.ite (State.domainLost_touch.on rfl (State.setDomStat_touch.on rfl h2)) h2)) .refl

theorem State.holdEvent_touch {s : State} {code page detail : ℕ} :
    Touch { tel := true } s (State.holdEvent s code page detail) := by
  unfold State.holdEvent
  extract_lets v0 v1
  exact .upd_tel .refl rfl

theorem State.pfBegin_touch {s : State} {cause : ℕ} :
    Touch { regs := true, cmd := true, pwr := true, tel := true } s (State.pfBegin s cause) := by
  unfold State.pfBegin
  refine .ite ?_ ?_
  · exact .refl
  · extract_lets v0 v1 v2 v3 v4
    refine .step (x := v0) (State.count_touch.on rfl (State.setPhase_touch.on rfl (State.setReg_touch.on rfl (State.setFld_touch.on rfl .refl)))) fun h5 => ?_
    refine .step (x := v1) (.ite (State.cause_touch.on rfl h5) h5) fun h6 => ?_
    refine .step (x := v2) (State.holdEvent_touch.on rfl h6) fun h7 => ?_
    exact .upd_cmd_pwr h7 rfl rfl

theorem State.freeze_touch {s : State} :
    Touch { regs := true, shVal := true, shMask := true, cfg := true, host := true, cmd := true, cad := true, insts := true, flash := true, buf := true, eng := true, dig := true, srch := true, cores := true, ctlStores := true, scan := true, knot := true, pwr := true, otp := true, tel := true } s (State.freeze s) := by
  unfold State.freeze
  refine .ite ?_ ?_
  · exact .refl
  · extract_lets v0 v1 v2 v3 v4 v5 v6 v7
    refine .step (x := v1) (State.setPhase_touch.on rfl .refl) fun h8 => ?_
    refine .step (x := v3) (.ite h8 (.upd_shVal_shMask_cfg h8 rfl rfl rfl)) fun h9 => ?_
    refine .step (x := v4) (State.logicLost_touch.on rfl h9) fun h10 => ?_
    exact .upd_cmd_pwr_otp h10 rfl rfl rfl rfl

theorem State.useReserve_touch {s : State} {i bytes : ℕ} :
    Touch { flash := true } s (State.useReserve s i bytes) := by
  unfold State.useReserve
  extract_lets v0 v1
  exact State.setDie_touch.on rfl .refl

theorem State.dumpStart_touch {s : State} :
    Touch { regs := true, flash := true, buf := true, eng := true, dig := true, srch := true, cores := true, scan := true, otp := true } s (State.dumpStart s) := by
  unfold State.dumpStart
  refine .ite ?_ ?_
  · exact .refl
  · extract_lets v0 v1 v2 v3
    refine .step (x := v0) (State.setPhase_touch.on rfl (State.switchOff_touch.on rfl .refl)) fun h4 => ?_
    split
    · rename_i w5 e6
      exact h4
    · rename_i w7 w8 e9
      extract_lets v10 v11
      exact .foldl (fun x12 y13 h14 => (State.useReserve_touch.on rfl h14)) (.upd_otp h4 rfl rfl)

theorem State.latchStraps_touch {s : State} :
    Touch { regs := true, otp := true } s (State.latchStraps s) := by
  unfold State.latchStraps
  extract_lets v0 v1
  refine .step (x := v1) (.upd_otp .refl rfl rfl) fun h2 => ?_
  exact State.setReg_touch.on rfl h2

theorem State.mainReset_touch {s : State} {sys : Bool} :
    Touch { regs := true, shVal := true, shMask := true, pairHi := true, cfg := true, host := true, cmd := true, cad := true, insts := true, flash := true, buf := true, eng := true, dig := true, srch := true, cores := true, ctlStores := true, scan := true, dram := true, srd := true, knot := true, therm := true, pwr := true, otp := true, tel := true } s (State.mainReset s sys) := by
  unfold State.mainReset
  extract_lets v0 v1 v2 v3 v4 v5 v6 v7 v8 v9 v10 v11 v12 v13 v14 v15
  refine .step (x := v2) (State.dramLost_touch.on rfl (State.logicLost_touch.on rfl (State.progLost_touch.on rfl .refl))) fun h16 => ?_
  refine .step (x := v3) (State.resetKeys_touch.on rfl h16) fun h17 => ?_
  refine .step (x := v4) (.upd_cfg h17 rfl) fun h18 => ?_
  refine .step (x := v5) (State.latchStraps_touch.on rfl (State.cause_touch.on rfl h18)) fun h19 => ?_
  refine .step (x := v6) (.ite (State.cause_touch.on rfl h19) h19) fun h20 => ?_
  refine .step (x := v7) (.ite (State.cause_touch.on rfl h20) h20) fun h21 => ?_
  refine .step (x := v8) (.ite (State.cause_touch.on rfl h21) h21) fun h22 => ?_
  refine .step (x := v9) (.foldl (fun x24 y25 h26 => (.ite (State.setDomStat_touch.on rfl h26) h26)) h22) fun h23 => ?_
  refine .step (x := v14) (.upd_therm_pwr_otp_tel h23 rfl rfl rfl rfl rfl) fun h27 => ?_
  exact State.mailboxReset_touch.on rfl (.upd_srd h27 rfl)

theorem State.resetIfDue_touch {s : State} :
    Touch { regs := true, shVal := true, shMask := true, pairHi := true, cfg := true, host := true, cmd := true, cad := true, insts := true, flash := true, buf := true, eng := true, dig := true, srch := true, cores := true, ctlStores := true, scan := true, dram := true, srd := true, knot := true, therm := true, pwr := true, otp := true, tel := true } s (State.resetIfDue s) := by
  unfold State.resetIfDue
  exact .ite (State.mainReset_touch.on rfl .refl) .refl

theorem State.dumpDone_touch {s : State} :
    Touch { regs := true, shVal := true, shMask := true, pairHi := true, cfg := true, host := true, cmd := true, cad := true, insts := true, flash := true, buf := true, eng := true, dig := true, srch := true, cores := true, ctlStores := true, scan := true, dram := true, srd := true, knot := true, therm := true, pwr := true, otp := true, tel := true } s (State.dumpDone s) := by
  unfold State.dumpDone
  refine .ite ?_ ?_
  · exact .refl
  · extract_lets v0 v1 v2
    refine .step (x := v0) (State.cause_touch.on rfl (State.switchOff_touch.on rfl (State.setPhase_touch.on rfl .refl))) fun h3 => ?_
    refine .step (x := v2) (.upd_otp h3 rfl rfl) fun h4 => ?_
    exact State.resetIfDue_touch.on rfl h4

theorem State.cutMain_touch {s : State} :
    Touch { regs := true, cfg := true, host := true, cmd := true, cad := true, insts := true, flash := true, buf := true, eng := true, dig := true, srch := true, cores := true, ctlStores := true, scan := true, dram := true, knot := true, otp := true, tel := true } s (State.cutMain s) := by
  unfold State.cutMain
  exact State.switchOff_touch.on rfl (State.dramLost_touch.on rfl (State.logicLost_touch.on rfl (State.progLost_touch.on rfl .refl)))

theorem State.pwrGoodFall_touch {s : State} :
    Touch { regs := true, cfg := true, host := true, cmd := true, cad := true, insts := true, flash := true, buf := true, eng := true, dig := true, srch := true, cores := true, ctlStores := true, scan := true, dram := true, knot := true, pwr := true, otp := true, tel := true } s (State.pwrGoodFall s) := by
  unfold State.pwrGoodFall
  extract_lets v0 v1 v2 v3
  refine .step (x := v1) (.upd_pwr .refl rfl) fun h4 => ?_
  refine .step (x := v2) (State.cutMain_touch.on rfl h4) fun h5 => ?_
  exact .ite (.upd_pwr h5 rfl) (State.cutMain_touch.on rfl h4)

theorem State.pwrGoodRise_touch {s : State} {id boot : ℕ} {test : Bool} :
    Touch { regs := true, shVal := true, shMask := true, pairHi := true, cfg := true, host := true, cmd := true, cad := true, insts := true, flash := true, buf := true, eng := true, dig := true, srch := true, cores := true, ctlStores := true, scan := true, dram := true, srd := true, knot := true, therm := true, pwr := true, otp := true, tel := true } s (State.pwrGoodRise s id boot test) := by
  unfold State.pwrGoodRise
  extract_lets v0 v1 v2 v3
  refine .step (x := v2) (.upd_pwr_otp .refl rfl rfl rfl) fun h4 => ?_
  exact .ite h4 (.ite (State.mainReset_touch.on rfl h4) (.upd_pwr h4 rfl))

theorem State.pfail_touch {s : State} :
    Touch { regs := true, cmd := true, pwr := true, tel := true } s (State.pfail s) := by
  unfold State.pfail
  extract_lets v0 v1
  refine .step (x := v1) (.upd_pwr .refl rfl) fun h2 => ?_
  exact .ite (State.pfBegin_touch.on rfl h2) h2

theorem State.pfailRestart_touch {s : State} :
    Touch { regs := true, shVal := true, shMask := true, pairHi := true, cfg := true, host := true, cmd := true, cad := true, insts := true, flash := true, buf := true, eng := true, dig := true, srch := true, cores := true, ctlStores := true, scan := true, dram := true, srd := true, knot := true, therm := true, pwr := true, otp := true, tel := true } s (State.pfailRestart s) := by
  unfold State.pfailRestart
  extract_lets v0 v1
  refine .step (x := v1) (.upd_pwr .refl rfl) fun h2 => ?_
  exact .ite (State.mainReset_touch.on rfl h2) h2

theorem State.sysReset_touch {s : State} {level : Bool} :
    Touch { regs := true, shVal := true, shMask := true, pairHi := true, cfg := true, host := true, cmd := true, cad := true, insts := true, flash := true, buf := true, eng := true, dig := true, srch := true, cores := true, ctlStores := true, scan := true, dram := true, srd := true, knot := true, therm := true, pwr := true, otp := true, tel := true } s (State.sysReset s level) := by
  unfold State.sysReset
  extract_lets v0 v1 v2 v3 v4
  refine .step (x := v2) (.upd_pwr .refl rfl) fun h5 => ?_
  refine .step (x := v4) (.ite (.upd_pwr h5 rfl) h5) fun h6 => ?_
  exact .ite h5 (.ite (State.resetIfDue_touch.on rfl h6) (.ite h5 (State.pfBegin_touch.on rfl (State.cause_touch.on rfl h5))))

theorem State.powerStage_touch {s : State} :
    Touch { regs := true, buf := true, cores := true, pwr := true } s (State.powerStage s) := by
  unfold State.powerStage
  extract_lets v0 v1 v2 v3
  refine .step (x := v3) (.wipe_buf_pwr .refl rfl rfl fun w => by
    simp only [Memory.wf, Bool.and_eq_true] at w ⊢
    exact ⟨⟨w.1.1, rfl⟩, w.2⟩) fun h4 => ?_
  split
  · rename_i w5 e6
    exact (.ite (.upd_pwr .refl rfl) .refl)
  · rename_i w7 e8
    exact (.upd_pwr (.foldl (fun x9 y10 h11 => (State.setDomStat_touch.on rfl h11)) .refl) rfl)
  · rename_i w12 e13
    exact (.upd_pwr (.foldl (fun x14 y15 h16 => (State.setDomStat_touch.on rfl h16)) .refl) rfl)
  · rename_i w17 e18
    exact (.upd_pwr (.foldl (fun x19 y20 h21 => (State.setDomStat_touch.on rfl h21)) .refl) rfl)
  · rename_i w22 e23
    exact (.upd_pwr (.foldl (fun x24 y25 h26 => (State.setDomStat_touch.on rfl h26)) .refl) rfl)
  · rename_i w27 e28
    exact (.upd_pwr (.foldl (fun x29 y30 h31 => (State.setDomStat_touch.on rfl h31)) .refl) rfl)
  · rename_i w32 e33
    exact (.upd_pwr (.foldl (fun x34 y35 h36 => (State.setDomStat_touch.on rfl h36)) .refl) rfl)
  · rename_i w37 e38
    exact (.upd_pwr (.foldl (fun x39 y40 h41 => (State.setDomStat_touch.on rfl h41)) .refl) rfl)
  · rename_i w42 e43
    exact (.upd_pwr (.foldl (fun x44 y45 h46 => (State.setDomStat_touch.on rfl h46)) .refl) rfl)
  · rename_i w47 e48
    exact (.upd_pwr (State.setFld_touch.on rfl .refl) rfl)
  · rename_i w49 e50
    exact (.ite .refl (.foldl (fun x51 y52 h53 => (State.resetCore_touch.on rfl h53)) h4))
  · rename_i w54 e55 e56 e57 e58 e59 e60 e61 e62 e63 e64 e65
    exact .refl

theorem State.txnReset_touch {s : State} :
    Touch { regs := true, shVal := true, shMask := true, cfg := true } s (State.txnReset s) := by
  unfold State.txnReset
  extract_lets v0 v1
  refine .step (x := v0) (State.dropShadows_touch.on rfl .refl) fun h2 => ?_
  exact .foldl (fun x3 y4 h5 => (State.pendApply_touch.on rfl h5)) (.upd_cfg h2 rfl)

theorem State.warmReset_touch {s : State} :
    Touch { regs := true, shVal := true, shMask := true, pairHi := true, cfg := true, host := true, cmd := true, cad := true, insts := true, flash := true, buf := true, eng := true, dig := true, srch := true, cores := true, ctlStores := true, scan := true, dram := true, srd := true, knot := true, pwr := true, otp := true, tel := true } s (State.warmReset s) := by
  unfold State.warmReset
  extract_lets v0 v1 v2 v3 v4 v5 v6 v7 v8 v9 v10 v11 v12 v13 v14 v15 v16 v17 v18 v19
  refine .step (x := v5) (.foldl (fun x21 y22 h23 => (State.setLinkState_touch.on rfl h23)) .refl) fun h20 => ?_
  refine .step (x := v6) (State.logicLost_touch.on rfl (State.progLost_touch.on rfl h20)) fun h24 => ?_
  refine .step (x := v7) (State.txnReset_touch.on rfl (State.resetKeys_touch.on rfl h24)) fun h25 => ?_
  refine .step (x := v8) (.foldl (fun x27 y28 h29 => (State.setRegAt_touch.on rfl h29)) h25) fun h26 => ?_
  refine .step (x := v9) (State.cause_touch.on rfl (State.setReg_touch.on rfl h26)) fun h30 => ?_
  refine .step (x := v10) (.foldl (fun x32 y33 h34 => (.ite (State.setDomStat_touch.on rfl h34) h34)) h30) fun h31 => ?_
  refine .step (x := v11) (State.setReg_touch.on rfl h31) fun h35 => ?_
  refine .step (x := v12) (State.loadPortAuth_touch.on rfl h35) fun h36 => ?_
  refine .step (x := v13) (.foldl (fun x38 y39 h40 => (State.loadMacs_touch.on rfl h40)) h36) fun h37 => ?_
  refine .step (x := v18) (.upd_scan_dram_pwr_otp h37 rfl rfl rfl rfl rfl rfl) fun h41 => ?_
  refine .step (x := v19) (.foldl (fun x43 y44 h45 => (State.resetCore_touch.on rfl h45)) h41) fun h42 => ?_
  exact State.mailboxReset_touch.on rfl h42

theorem State.deviceResetEffect_touch {s : State} :
    Touch { regs := true, shVal := true, shMask := true, pairHi := true, cfg := true, host := true, cmd := true, cad := true, insts := true, flash := true, buf := true, eng := true, dig := true, srch := true, cores := true, ctlStores := true, scan := true, dram := true, srd := true, knot := true, pwr := true, otp := true, tel := true } s (State.deviceResetEffect s) := by
  unfold State.deviceResetEffect
  exact .ite (State.warmReset_touch.on rfl .refl) .refl

theorem State.aonPor_touch {s : State} :
    Touch { regs := true, shVal := true, shMask := true, pairHi := true, resp := true, cfg := true, host := true, cmd := true, cad := true, insts := true, flash := true, buf := true, eng := true, dig := true, srch := true, cores := true, ctlStores := true, scan := true, dram := true, srd := true, knot := true, therm := true, pwr := true, otp := true, tel := true, jtag := true } s (State.aonPor s) := by
  unfold State.aonPor
  extract_lets v0 v1 v2 v3
  refine .step (x := v0) (State.dramLost_touch.on rfl (State.logicLost_touch.on rfl (State.progLost_touch.on rfl .refl))) fun h4 => ?_
  refine .step (x := v1) (h4.wipe_regs_shVal_shMask_pairHi_resp_cfg_therm_pwr_tel_jtag rfl rfl rfl rfl rfl rfl rfl rfl rfl rfl fun w => by
    simp only [Memory.wf, Bool.and_eq_true] at w ⊢
    exact ⟨w.1, rfl⟩) fun h5 => ?_
  refine .step (x := v2) (.foldl (fun x7 y8 h9 => (.ite (State.setDomStat_touch.on rfl h9) h9)) h5) fun h6 => ?_
  exact (State.mailboxReset_touch.on rfl (h6.upd_srd rfl))

theorem State.aonLoss_touch {s : State} :
    Touch { regs := true, cfg := true, host := true, cmd := true, cad := true, insts := true, flash := true, buf := true, eng := true, dig := true, srch := true, cores := true, ctlStores := true, scan := true, dram := true, srd := true, knot := true, therm := true, pwr := true, otp := true, tel := true, jtag := true } s (State.aonLoss s) := by
  unfold State.aonLoss
  extract_lets v0 v1 v2 v3
  refine .step (x := v0) (State.switchOff_touch.on rfl (State.dramLost_touch.on rfl (State.logicLost_touch.on rfl (State.progLost_touch.on rfl .refl)))) fun h4 => ?_
  exact .upd_srd_therm_pwr_jtag h4 rfl rfl rfl rfl

theorem State.coreReset_touch {s : State} {mask : ℕ} :
    Touch { regs := true, shVal := true, shMask := true, cfg := true, cores := true, dram := true, tel := true } s (State.coreReset s mask) := by
  unfold State.coreReset
  exact .foldl (fun x0 y1 h2 => (State.ownerReset_touch.on rfl (State.resetCore_touch.on rfl h2))) .refl

theorem State.coreHold_touch {s : State} {v : ℕ} :
    Touch { regs := true, shVal := true, shMask := true, cfg := true, cores := true, dram := true, tel := true } s (State.coreHold s v) := by
  unfold State.coreHold
  extract_lets v0 v1
  refine .step (x := v1) (State.setReg_touch.on rfl .refl) fun h2 => ?_
  exact .foldl (fun x3 y4 h5 => (.ite (State.ownerReset_touch.on rfl (State.resetCore_touch.on rfl h5)) (State.resetCore_touch.on rfl h5))) h2

theorem State.clockCheck_touch {s : State} {ppm : Option ℤ} :
    Touch { regs := true, cmd := true, pwr := true, tel := true } s (State.clockCheck s ppm) := by
  unfold State.clockCheck
  refine .ite ?_ ?_
  · exact .refl
  · extract_lets v0 v1 v2 v3
    refine .step (x := v0) (State.setFld_touch.on rfl .refl) fun h4 => ?_
    refine .step (x := v1) ?_ fun h5 => ?_
    · unfold v1
      split
      · rename_i w6 w7
        exact State.setFld_touch.on rfl h4
      · rename_i w8
        exact h4
    refine .step (x := v3) (State.setFld_touch.on rfl h5) fun h9 => ?_
    exact .ite (State.setFld_touch.on rfl h5) (.ite h9 (State.pfBegin_touch.on rfl (State.raise_touch.on rfl (State.count_touch.on rfl h9))))

theorem State.aonClkLoss_touch {s : State} :
    Touch { regs := true, pwr := true } s (State.aonClkLoss s) := by
  unfold State.aonClkLoss
  extract_lets v0
  exact State.setFld_touch.on rfl (.upd_pwr .refl rfl)

theorem State.aonClkReturn_touch {s : State} :
    Touch { regs := true, pwr := true } s (State.aonClkReturn s) := by
  unfold State.aonClkReturn
  extract_lets v0
  exact State.setFld_touch.on rfl (.upd_pwr .refl rfl)

theorem State.thermTrip_touch {s : State} :
    Touch { regs := true, shVal := true, shMask := true, cfg := true, host := true, cmd := true, cad := true, insts := true, flash := true, buf := true, eng := true, dig := true, srch := true, cores := true, ctlStores := true, scan := true, knot := true, therm := true, pwr := true, otp := true, tel := true } s (State.thermTrip s) := by
  unfold State.thermTrip
  refine .ite ?_ ?_
  · exact .refl
  · extract_lets v0 v1
    refine .step (x := v1) (.upd_therm .refl rfl) fun h2 => ?_
    exact .ite h2 (State.freeze_touch.on rfl (State.pfBegin_touch.on rfl h2))

theorem State.analogueTrip_touch {s : State} :
    Touch { regs := true, cfg := true, host := true, cmd := true, cad := true, insts := true, flash := true, buf := true, eng := true, dig := true, srch := true, cores := true, ctlStores := true, scan := true, dram := true, knot := true, therm := true, pwr := true, otp := true, tel := true } s (State.analogueTrip s) := by
  unfold State.analogueTrip
  extract_lets v0 v1 v2 v3 v4 v5
  refine .step (x := v1) (.upd_therm .refl rfl) fun h6 => ?_
  refine .step (x := v3) (State.cutMain_touch.on rfl h6) fun h7 => ?_
  exact .upd_cmd_pwr h7 rfl rfl

end Sys2Proof.Machine
end

