-- ==== Sys2Proof/Laws/FootBoot.lean ====
section
/-! SUPPORT. What each operation of Machine/Boot.lean can touch. -/

namespace Sys2Proof.Machine
open Sys2Proof

theorem State.writeDir_touch {s : State} {d : DirRec} :
    Touch { otp := true } s (State.writeDir s d) := by
  unfold State.writeDir
  exact .upd_otp .refl rfl rfl

theorem State.recover_touch {s : State} :
    Touch { regs := true } s (State.recover s) := by
  unfold State.recover
  exact State.setFld_touch.on rfl (State.setFld_touch.on rfl .refl)

theorem State.armWd_touch {s : State} {ms : ℕ} :
    Touch { regs := true, otp := true } s (State.armWd s ms) := by
  unfold State.armWd
  exact State.setReg_touch.on rfl (.upd_otp .refl rfl rfl)

theorem State.disarmWd_touch {s : State} :
    Touch { regs := true, otp := true } s (State.disarmWd s) := by
  unfold State.disarmWd
  exact State.setReg_touch.on rfl (.upd_otp .refl rfl rfl)

theorem State.runSlot_touch {s : State} {k ms : ℕ} :
    Touch { regs := true, otp := true } s (State.runSlot s k ms) := by
  unfold State.runSlot
  extract_lets v0
  refine .step (x := v0) (State.setFld_touch.on rfl (State.setFld_touch.on rfl .refl)) fun h1 => ?_
  exact State.armWd_touch.on rfl (State.setReg_touch.on rfl h1)

theorem State.failSlot_touch {s : State} {k : ℕ} :
    Touch { regs := true, otp := true } s (State.failSlot s k) := by
  unfold State.failSlot
  extract_lets v0 v1
  refine .step (x := v1) (State.writeDir_touch.on rfl .refl) fun h2 => ?_
  exact State.raise_touch.on rfl (State.setFld_touch.on rfl h2)

theorem State.bootImage_touch {s : State} :
    Touch { regs := true, otp := true } s (State.bootImage s) := by
  unfold State.bootImage
  extract_lets v0
  exact .ite .refl (.ite (State.recover_touch.on rfl .refl) (.ite (State.runSlot_touch.on rfl .refl) (.ite (State.runSlot_touch.on rfl (State.failSlot_touch.on rfl .refl)) (State.recover_touch.on rfl .refl))))

theorem State.afterFail_touch {s : State} {k ms : ℕ} :
    Touch { regs := true, otp := true } s (State.afterFail s k ms) := by
  unfold State.afterFail
  extract_lets v0 v1 v2
  refine .step (x := v0) (State.failSlot_touch.on rfl .refl) fun h3 => ?_
  refine .step (x := v2) (.upd_otp h3 rfl rfl) fun h4 => ?_
  exact .ite (State.recover_touch.on rfl h3) (.ite (State.runSlot_touch.on rfl h4) (State.recover_touch.on rfl h4))

theorem State.wdExpire_touch {s : State} :
    Touch { regs := true, shVal := true, shMask := true, cfg := true, cores := true, dram := true, otp := true, tel := true } s (State.wdExpire s) := by
  unfold State.wdExpire
  exact .ite .refl (State.afterFail_touch.on rfl (State.coreReset_touch.on rfl (State.disarmWd_touch.on rfl .refl)))

theorem State.placeJournal_touch {s : State} {j : List (ℕ × JournalEnt)} {moved : SMap ℕ} {restart cause : ℕ} :
    Touch { insts := true } s (State.placeJournal s j moved restart cause) := by
  unfold State.placeJournal
  exact .foldl (fun x0 y1 h2 => (State.modInst_touch.on rfl h2)) .refl

theorem State.loadCkpt_touch {s : State} :
    Touch { flash := true } s (State.loadCkpt s) := by
  unfold State.loadCkpt
  extract_lets v0 v1 v2 v3
  refine .step (x := v1) (.upd_flash .refl rfl) fun h4 => ?_
  refine .step (x := v2) (.foldl (fun x6 y7 h8 => (.foldl (fun x9 y10 h11 => (State.mapSet_touch.on rfl h11)) h8)) h4) fun h5 => ?_
  exact .upd_flash h5 rfl

theorem State.eraseDumped_touch {s : State} :
    Touch { flash := true } s (State.eraseDumped s) := by
  unfold State.eraseDumped
  exact .foldl (fun x0 y1 h2 => (.foldl (fun x3 y4 h5 => (State.pushOp_touch.on rfl h5)) h2)) .refl

theorem State.replayDump_touch {s : State} {d : Dump} :
    Touch { regs := true, insts := true, flash := true, knot := true } s (State.replayDump s d) := by
  unfold State.replayDump
  extract_lets v0 v1 v2 v3 v4 v5 v6 v7
  refine .step (x := v0) (State.placeJournal_touch.on rfl .refl) fun h8 => ?_
  refine .step (x := v1) (.foldl (fun x10 y11 h12 => (State.mapSet_touch.on rfl h12)) (State.loadCkpt_touch.on rfl h8)) fun h9 => ?_
  refine .step (x := v7) (.upd_flash_knot h9 rfl rfl) fun h13 => ?_
  exact State.syncMirror_touch.on rfl (State.setCacheUsed_touch.on rfl h13)

theorem State.lossAll_touch {s : State} :
    Touch { host := true, insts := true, flash := true, tel := true } s (State.lossAll s) := by
  unfold State.lossAll
  extract_lets v0
  refine .step (x := v0) (.foldl (fun x2 y3 h4 => (State.deferredError_touch.on rfl (State.modInst_touch.on rfl h4))) .refl) fun h1 => ?_
  exact State.holdEvent_touch.on rfl (State.loadCkpt_touch.on rfl h1)

theorem State.newLife_touch {s : State} :
    Touch { insts := true, flash := true } s (State.newLife s) := by
  unfold State.newLife
  extract_lets v0 v1 v2 v3
  refine .step (x := v3) (.upd_flash .refl rfl) fun h4 => ?_
  exact .upd_insts h4 rfl

theorem State.replay_touch {s : State} :
    Touch { regs := true, host := true, insts := true, flash := true, knot := true, pwr := true, otp := true, tel := true } s (State.replay s) := by
  unfold State.replay
  refine .ite ?_ ?_
  · exact .refl
  · extract_lets v0 v1 v2 v3 v4 v5 v6
    refine .step (x := v2) ?_ fun h7 => ?_
    · unfold v2
      refine .ite ?_ ?_
      · exact State.placeJournal_touch.on rfl .refl
      · refine .ite ?_ ?_
        · exact State.newLife_touch.on rfl .refl
        · clear_value v1
          split
          · rename_i w8 w9
            exact .ite (State.replayDump_touch.on rfl .refl) (.ite (State.lossAll_touch.on rfl .refl) (State.loadCkpt_touch.on rfl .refl))
          · rename_i w10
            exact .ite (State.lossAll_touch.on rfl .refl) (State.loadCkpt_touch.on rfl .refl)
    refine .step (x := v3) (State.eraseDumped_touch.on rfl h7) fun h11 => ?_
    exact .upd_pwr_otp h11 rfl rfl rfl

theorem State.fwDownload_touch {s : State} {n : ℕ} {it : Item} :
    Touch { cmd := true, otp := true } s (State.fwDownload s n it) := by
  unfold State.fwDownload
  extract_lets v0 v1 v2 v3
  refine .step (x := v1) (.ite (.upd_otp .refl rfl rfl) .refl) fun h4 => ?_
  exact State.finish_touch.on rfl (.upd_otp h4 rfl rfl)

theorem State.fwBegin_touch {s : State} {n : ℕ} {it : Item} :
    Touch { cmd := true, otp := true } s (State.fwBegin s n it) := by
  unfold State.fwBegin
  extract_lets v0 v1 v2 v3
  refine .step (x := v1) (State.modItem_touch.on rfl .refl) fun h4 => ?_
  exact .upd_cmd_otp h4 rfl rfl rfl

theorem State.graceEnd_touch {s : State} {covers : List ℕ} :
    Touch { regs := true, host := true, cmd := true, cad := true, insts := true, flash := true, buf := true, eng := true, dig := true, srch := true, cores := true, scan := true, dram := true, knot := true, tel := true } s (State.graceEnd s covers) := by
  unfold State.graceEnd
  refine .foldl (fun x3 y4 h5 => ?_) ?_
  · split
    · rename_i w6 w7 e8
      exact .ite (State.report_touch.on rfl (State.leaveResets_touch.on rfl (State.stopWork_touch.on rfl h5))) h5
    · rename_i w9 e10
      exact h5
  · exact .refl

theorem State.activate_touch {s : State} {n : Nat} {it : Item} :
    Touch { regs := true, shVal := true, shMask := true, cfg := true, cmd := true, cores := true, dram := true, otp := true, tel := true } s (State.activate s n it) := by
  unfold State.activate
  extract_lets v0 v1 v2 v3 v4 v5 v6 v7 v8 v9
  refine .step (x := v5) (.ite .refl (.upd_otp .refl rfl (by split <;> rfl))) fun h10 => ?_
  refine .step (x := v7) (State.writeDir_touch.on rfl h10) fun h11 => ?_
  refine .step (x := v8) (State.coreReset_touch.on rfl h11) fun h12 => ?_
  exact (.ite (State.finish_touch.on rfl .refl) (State.runSlot_touch.on rfl (.upd_otp h12 rfl rfl)))

theorem State.graceExpiry_touch {s : State} :
    Touch { regs := true, shVal := true, shMask := true, cfg := true, host := true, cmd := true, cad := true, insts := true, flash := true, buf := true, eng := true, dig := true, srch := true, cores := true, scan := true, dram := true, knot := true, otp := true, tel := true } s (State.graceExpiry s) := by
  unfold State.graceExpiry
  extract_lets v0
  split
  · rename_i w1 e2
    exact .refl
  · rename_i w3 w4 e5
    exact .ite .refl (State.activate_touch.on rfl (State.graceEnd_touch.on rfl .refl))

theorem State.readyNow_touch {s : State} :
    Touch { regs := true, cmd := true, dram := true, otp := true, tel := true } s (State.readyNow s) := by
  unfold State.readyNow
  extract_lets v0 v1 v2 v3 v4 v5 v6 v7 v8 v9 v10
  refine .step (x := v0) (State.disarmWd_touch.on rfl .refl) fun h11 => ?_
  refine .step (x := v2) (State.postHeld_touch.on rfl (.upd_tel h11 rfl)) fun h12 => ?_
  refine .step (x := v4) (.upd_otp h12 rfl rfl) fun h13 => ?_
  refine .step (x := v8) (.ite (State.setReg_touch.on rfl (.upd_otp h13 rfl rfl)) h13) fun h14 => ?_
  refine .step (x := v9) (.ite h13 (State.finish_touch.on rfl h14)) fun h15 => ?_
  exact .upd_otp h15 rfl rfl

theorem State.stageHook_touch {s : State} {old : ℕ} :
    Touch { regs := true, host := true, cmd := true, insts := true, flash := true, dram := true, knot := true, pwr := true, otp := true, tel := true } s (State.stageHook s old) := by
  unfold State.stageHook
  split
  · rename_i w0 e1
    exact .ite (State.bootImage_touch.on rfl .refl) .refl
  · rename_i w2 e3
    exact State.replay_touch.on rfl .refl
  · rename_i w4 e5
    exact State.recover_touch.on rfl .refl
  · rename_i w6 e7
    exact .ite .refl (State.readyNow_touch.on rfl .refl)
  · rename_i w8 e9 e10 e11 e12
    exact .refl

theorem State.scrapErase_touch {s : State} :
    Touch { regs := true, flash := true, otp := true } s (State.scrapErase s) := by
  unfold State.scrapErase
  refine .ite ?_ ?_
  · exact .refl
  · extract_lets v0 v1 v2 v3 v4 v5
    refine .step (x := v3) (.upd_flash .refl rfl) fun h6 => ?_
    refine .step (x := v5) (.upd_otp h6 rfl rfl) fun h7 => ?_
    exact State.setReg_touch.on rfl (State.setFld_touch.on rfl h7)

end Sys2Proof.Machine
end

