-- ==== Sys2Proof/Laws/FootTelem.lean ====
section
/-! SUPPORT. What each operation of Machine/Telem.lean can touch. -/

namespace Sys2Proof.Machine
open Sys2Proof

theorem State.snapNow_touch {s : State} :
    Touch { regs := true, tel := true } s (State.snapNow s) := by
  unfold State.snapNow
  extract_lets v0 v1 v2
  refine .step (x := v1) ?_ fun h3 => ?_
  · unfold v1
    refine .foldl (fun x10 y11 h12 => ?_) ?_
    · extract_lets v13
      exact State.setReg_touch.on rfl h12
    · exact .refl
  exact .upd_tel h3 rfl

theorem State.snap_touch {s : State} :
    Touch { regs := true, tel := true } s (State.snap s) := by
  unfold State.snap
  exact .ite (State.snapNow_touch.on rfl .refl) (.upd_tel .refl rfl)

theorem State.snapWaiting_touch {s : State} :
    Touch { regs := true, tel := true } s (State.snapWaiting s) := by
  unfold State.snapWaiting
  exact .ite (State.snapNow_touch.on rfl (.upd_tel .refl rfl)) .refl

theorem State.asyncSend_touch {s : State} {c code : ℕ} :
    Touch { regs := true, host := true, cmd := true, insts := true, tel := true } s (State.asyncSend s c code) := by
  unfold State.asyncSend
  split
  · rename_i w0 e1
    exact .refl
  · rename_i w2 w3 e4
    split
    · rename_i w5 e6
      exact .refl
    · rename_i w7 w8 e9
      extract_lets v10 v11 v12
      refine .step (x := v11) (State.modConn_touch.on rfl .refl) fun h13 => ?_
      exact .ite .refl (State.sendSeq_touch.on rfl (.upd_tel h13 rfl))

theorem State.bgWindow_touch {s : State} {got : List (ℕ × ℕ)} {late : ℕ} :
    Touch { regs := true, flash := true, dram := true, tel := true } s (State.bgWindow s got late) := by
  unfold State.bgWindow
  refine .ite ?_ ?_
  · exact .refl
  · extract_lets v0 v1 v2 v3 v4 v5
    refine .step (x := v4) (.upd_flash_tel .refl rfl rfl) fun h6 => ?_
    refine .step (x := v5) (.ite (State.count_touch.on rfl h6) h6) fun h7 => ?_
    exact .foldl (fun x8 y9 h10 => (State.post_touch.on rfl (State.count_touch.on rfl h10))) h7

theorem State.tapInstr_touch {s : State} {code : ℕ} :
    Touch { jtag := true } s (State.tapInstr s code) := by
  unfold State.tapInstr
  extract_lets v0 v1 v2
  exact .upd_jtag .refl rfl

end Sys2Proof.Machine
end

