-- ==== Sys2Proof/Laws/FootApply.lean ====
section
/-! SUPPORT. What each operation of Machine/Apply.lean can touch. -/

namespace Sys2Proof.Machine
open Sys2Proof

theorem State.applyKey_touch {s : State} {k : ℕ} :
    Touch { regs := true, shVal := true, shMask := true } s (State.applyKey s k) := by
  unfold State.applyKey
  extract_lets v0 v1
  refine .step (x := v1) (State.setRegAt_touch.on rfl .refl) fun h2 => ?_
  exact .upd_shVal_shMask h2 rfl rfl

theorem State.dropBits_touch {s : State} {k : ℕ} {m : W32} :
    Touch { shVal := true, shMask := true } s (State.dropBits s k m) := by
  unfold State.dropBits
  exact .upd_shVal_shMask .refl rfl rfl

theorem State.ignored_touch {s : State} {page off : ℕ} :
    Touch { regs := true, dram := true, tel := true } s (State.ignored s page off) := by
  unfold State.ignored
  exact State.capture_touch.on rfl .refl

theorem State.applyCounts_touch {s : State} :
    Touch { regs := true, shVal := true, shMask := true, buf := true, dram := true, tel := true } s (State.applyCounts s) := by
  unfold State.applyCounts
  refine .ite ?_ ?_
  · exact .refl
  · extract_lets v0 v1 v2
    refine .step (x := v2) (.foldl (fun x4 y5 h6 => (State.dropBits_touch.on rfl h6)) .refl) fun h3 => ?_
    exact .ite (State.ignored_touch.on rfl h3) (.ite (State.layOut_touch.on rfl h3) (State.ignored_touch.on rfl h3))

theorem State.checkLimits_touch {s : State} :
    Touch { regs := true, shVal := true, shMask := true, dram := true, tel := true } s (State.checkLimits s) := by
  unfold State.checkLimits
  extract_lets v0 v1
  exact .ite (State.ignored_touch.on rfl (.foldl (fun x2 y3 h4 => (State.dropBits_touch.on rfl h4)) (State.dropBits_touch.on rfl .refl))) .refl

theorem State.checkRate_touch {s : State} {page : ℕ} :
    Touch { regs := true, shVal := true, shMask := true, dram := true, tel := true } s (State.checkRate s page) := by
  unfold State.checkRate
  exact .ite (State.ignored_touch.on rfl (State.dropBits_touch.on rfl .refl)) .refl

theorem State.checkGroup_touch {s : State} {page : ℕ} :
    Touch { regs := true, shVal := true, shMask := true, dram := true, tel := true } s (State.checkGroup s page) := by
  unfold State.checkGroup
  extract_lets v0 v1 v2 v3
  refine .step (x := v1) (.ite (State.ignored_touch.on rfl (State.dropBits_touch.on rfl .refl)) .refl) fun h4 => ?_
  exact .ite (State.ignored_touch.on rfl (State.dropBits_touch.on rfl h4)) h4

theorem State.checkUpdRes_touch {s : State} {page : ℕ} :
    Touch { regs := true, shVal := true, shMask := true, dram := true, tel := true } s (State.checkUpdRes s page) := by
  unfold State.checkUpdRes
  exact .ite (State.ignored_touch.on rfl (State.dropBits_touch.on rfl .refl)) .refl

theorem State.checkLeases_touch {s : State} :
    Touch { regs := true, shVal := true, shMask := true, dram := true, tel := true } s (State.checkLeases s) := by
  unfold State.checkLeases
  extract_lets v0 v1
  exact .ite (.foldl (fun x2 y3 h4 => (State.ignored_touch.on rfl (State.dropBits_touch.on rfl h4))) .refl) .refl

theorem State.checkPlace_touch {s : State} {i : ℕ} :
    Touch { regs := true, shVal := true, shMask := true, dram := true, tel := true } s (State.checkPlace s i) := by
  unfold State.checkPlace
  extract_lets v0 v1 v2 v3 v4
  refine .step (x := v1) (State.applyKey_touch.on rfl .refl) fun h5 => ?_
  exact .ite .refl (.ite (State.ignored_touch.on rfl (State.dropBits_touch.on rfl .refl)) h5)

theorem State.checkMins_touch {s : State} :
    Touch { regs := true, shVal := true, shMask := true, dram := true, tel := true } s (State.checkMins s) := by
  unfold State.checkMins
  extract_lets v0 v1
  refine .step (x := v1) (.foldl (fun x3 y4 h5 => (State.applyKey_touch.on rfl h5)) .refl) fun h2 => ?_
  clear_value v0
  split
  · rename_i w6
    exact .refl
  · rename_i w7 w8 w9
    exact .ite (State.ignored_touch.on rfl (.foldl (fun x10 y11 h12 => (State.dropBits_touch.on rfl h12)) .refl)) h2

theorem State.flushPort_touch {s : State} {port : ℕ} :
    Touch { host := true, cmd := true, tel := true } s (State.flushPort s port) := by
  unfold State.flushPort
  exact .foldl (fun x0 y1 h2 => (.foldl (fun x3 y4 h5 => (State.sendFrame_touch.on rfl h5)) h2)) .refl

theorem State.leaveMode_touch {s : State} {page : ℕ} :
    Touch { regs := true, host := true, cmd := true, cad := true, insts := true, flash := true, buf := true, eng := true, dig := true, srch := true, cores := true, scan := true, dram := true, knot := true, tel := true } s (State.leaveMode s page) := by
  unfold State.leaveMode
  exact .ite .refl (State.flushPort_touch.on rfl (State.failPort_touch.on rfl .refl))

theorem State.preApply_touch {s : State} {b : PageBlk} {page : ℕ} :
    Touch { regs := true, shVal := true, shMask := true, host := true, cmd := true, cad := true, insts := true, flash := true, buf := true, eng := true, dig := true, srch := true, cores := true, scan := true, dram := true, knot := true, tel := true } s (State.preApply s b page) := by
  unfold State.preApply
  split
  · rename_i w0
    exact State.applyCounts_touch.on rfl .refl
  · rename_i w1
    exact State.checkLimits_touch.on rfl .refl
  · rename_i w2
    exact State.checkRate_touch.on rfl .refl
  · rename_i w3
    exact State.checkGroup_touch.on rfl .refl
  · rename_i w4
    exact State.checkUpdRes_touch.on rfl .refl
  · rename_i w5
    exact State.leaveMode_touch.on rfl .refl
  · rename_i w6
    extract_lets v7
    refine .step (x := v7) (State.checkLeases_touch.on rfl .refl) fun h8 => ?_
    exact .ite (.foldl (fun x9 y10 h11 => (State.checkPlace_touch.on rfl h11)) h8) h8
  · rename_i w12 e13 e14 e15 e16 e17 e18 e19
    exact .refl

theorem State.linksDown_touch {s : State} {port : ℕ} :
    Touch { regs := true } s (State.linksDown s port) := by
  unfold State.linksDown
  extract_lets v0
  exact .ite .refl (State.raise_touch.on rfl (State.setFld_touch.on rfl .refl))

theorem State.newClasses_touch {old s : State} :
    Touch { regs := true, host := true, cmd := true, cad := true, insts := true, flash := true, buf := true, eng := true, dig := true, srch := true, cores := true, scan := true, dram := true, knot := true, tel := true } s (State.newClasses old s) := by
  unfold State.newClasses
  extract_lets v0
  refine .step (x := v0) (.foldl (fun x2 y3 h4 => (.ite h4 (.ite (State.linksDown_touch.on rfl (State.flushPort_touch.on rfl (State.failPort_touch.on rfl h4))) (State.failPort_touch.on rfl h4)))) .refl) fun h1 => ?_
  exact .foldl (fun x5 y6 h7 => (.ite h7 (State.setLinkState_touch.on rfl (State.peerLost_touch.on rfl h7)))) h1

theorem State.postApply_touch {old s : State} {b : PageBlk} {page : ℕ} :
    Touch { regs := true, host := true, cmd := true, cad := true, insts := true, flash := true, buf := true, eng := true, dig := true, srch := true, cores := true, scan := true, dram := true, knot := true, tel := true } s (State.postApply old s b page) := by
  unfold State.postApply
  split
  · rename_i w0
    exact .ite .refl (State.linksDown_touch.on rfl .refl)
  · rename_i w1
    exact .ite (.upd_cad .refl rfl rfl) (.upd_cad .refl rfl rfl)
  · rename_i w2
    exact State.newClasses_touch.on rfl .refl
  · rename_i w3
    extract_lets v4
    refine .step (x := v4) (.ite .refl (State.setUserCap_touch.on rfl .refl)) fun h5 => ?_
    exact .ite (State.setDumpMax_touch.on rfl h5) (State.showFree_touch.on rfl h5)
  · rename_i w6
    exact State.setDumpMax_touch.on rfl .refl
  · rename_i w7
    extract_lets v8
    refine .step (x := v8) (.ite (State.setDumpMax_touch.on rfl .refl) .refl) fun h9 => ?_
    exact .ite h9 (State.startTraining_touch.on rfl h9)
  · rename_i w10
    exact State.searchAll_touch.on rfl (State.fwSlot_touch.on rfl .refl)
  · rename_i w11
    exact State.fwSlot_touch.on rfl .refl
  · rename_i w12
    exact State.ksRun_touch.on rfl .refl
  · rename_i w13
    extract_lets v14 v15
    refine .step (x := v15) (.ite .refl (.upd_tel .refl rfl)) fun h16 => ?_
    exact State.snapWaiting_touch.on rfl (State.postWaiting_touch.on rfl h16)
  · rename_i w17 e18 e19 e20 e21 e22 e23 e24 e25 e26 e27
    exact .refl

theorem State.swapShadows_touch {s : State} :
    Touch { shVal := true, shMask := true, cfg := true } s (State.swapShadows s) := by
  unfold State.swapShadows
  extract_lets v0
  exact .upd_shVal_shMask_cfg .refl rfl rfl rfl

theorem State.blockApply_touch {s : State} {page : ℕ} :
    Touch { regs := true, shVal := true, shMask := true, cfg := true, host := true, cmd := true, cad := true, insts := true, flash := true, buf := true, eng := true, dig := true, srch := true, cores := true, scan := true, dram := true, knot := true, tel := true } s (State.blockApply s page) := by
  unfold State.blockApply
  split
  · rename_i w0 w1 w2 w3 w4 e5 e6
    refine .ite ?_ ?_
    · exact .refl
    · extract_lets v7 v8 v9 v10 v11 v12 v13 v14
      refine .step (x := v7) (State.preApply_touch.on rfl (State.swapShadows_touch.on rfl .refl)) fun h15 => ?_
      refine .step (x := v8) (.ite (State.checkMins_touch.on rfl (.foldl (fun x17 y18 h19 => (State.applyKey_touch.on rfl h19)) h15)) (.foldl (fun x20 y21 h22 => (State.applyKey_touch.on rfl h22)) h15)) fun h16 => ?_
      refine .step (x := v9) (State.swapShadows_touch.on rfl h16) fun h23 => ?_
      refine .step (x := v11) (State.setReg_touch.on rfl h23) fun h24 => ?_
      refine .step (x := v13) (.upd_cfg h24 rfl) fun h25 => ?_
      refine .step (x := v14) (State.postApply_touch.on rfl h25) fun h26 => ?_
      exact .ite (State.commitEnd_touch.on rfl h26) h26
  · rename_i w27 w28 e29
    exact .refl

end Sys2Proof.Machine
end

