-- ==== Sys2Proof/Laws/FootRegBus.lean ====
section
/-! SUPPORT. What each operation of Machine/RegBus.lean can touch. -/

namespace Sys2Proof.Machine
open Sys2Proof

theorem State.busRefuse_touch {s : State} {req page off code : ℕ} :
    Touch { regs := true, dram := true, tel := true } s (State.busRefuse s req page off code).1 := by
  unfold State.busRefuse
  exact State.capture_touch.on rfl .refl

theorem State.busCheck_touch {s : State} {req page off width : Nat} {p : State × BusResp}
    (e : State.busCheck s req page off width = .error p) : Touch { regs := true, dram := true, tel := true } s p.1 := by
  unfold State.busCheck at e
  split at e
  · cases e; exact .refl
  · split at e
    · cases e; exact State.count_touch.on rfl .refl
    · split at e
      · cases e; exact State.busRefuse_touch.on rfl .refl
      · cases e

theorem State.busRead_touch {s : State} {req page off width : Nat} :
    Touch { regs := true, pairHi := true, dram := true, tel := true } s (State.busRead s req page off width).1 := by
  unfold State.busRead
  split
  · next e => exact (State.busCheck_touch e).on rfl .refl
  · dsimp only
    split
    · exact Touch.refl.upd_pairHi rfl
    · split
      · exact Touch.refl.upd_pairHi rfl
      · exact .refl

theorem State.writeField_touch {s : State} {page off : ℕ} {v : W32} {tx : Bool} {r : RegRow} :
    Touch { regs := true, shVal := true, shMask := true } s (State.writeField s page off v tx r) := by
  unfold State.writeField
  split
  · rename_i w0 e1
    exact State.setFld_touch.on rfl .refl
  · rename_i w2 e3
    exact .ite (.ite (State.setReg_touch.on rfl .refl) .refl) (State.setReg_touch.on rfl .refl)
  · rename_i w4 e5
    exact .ite (State.setFld_touch.on rfl (State.shadow_touch.on rfl .refl)) .refl
  · rename_i w6 e7 e8 e9
    exact .refl

theorem State.writeEffect_touch {old s : State} {b : PageBlk} {req page off : ℕ} {v : W32} :
    Touch { regs := true, shVal := true, shMask := true, cfg := true, host := true, cmd := true, cad := true, insts := true, flash := true, buf := true, eng := true, dig := true, srch := true, cores := true, scan := true, dram := true, srd := true, knot := true, pwr := true, otp := true, tel := true } s (State.writeEffect old s b req page off v) := by
  unfold State.writeEffect
  refine .ite ?_ ?_
  · exact .ite (.ite (State.clearLows_touch.on rfl (State.clearCounters_touch.on rfl .refl)) (State.clearCounters_touch.on rfl .refl)) .refl
  · refine .ite ?_ ?_
    · exact State.setReg_touch.on rfl .refl
    · split
      · rename_i w0
        refine .ite ?_ ?_
        · split
          · rename_i w1 e2
            exact State.txnBegin_touch.on rfl .refl
          · rename_i w3 e4
            exact State.txnCommit_touch.on rfl .refl
          · rename_i w5 e6
            exact State.txnRollback_touch.on rfl .refl
          · rename_i w7 e8 e9 e10
            exact .refl
        · exact .refl
      · rename_i w11
        exact .ite (.ite .refl (State.ksCmd_touch.on rfl .refl)) (.ite (.upd_dig .refl rfl) .refl)
      · rename_i w12
        exact .ite (State.fwCmd_touch.on rfl .refl) .refl
      · rename_i w13
        exact .ite (.ite (State.mbInPost_touch.on rfl .refl) .refl) (.ite (.ite (State.mbOutPop_touch.on rfl .refl) .refl) (.ite (.upd_srd .refl rfl) .refl))
      · rename_i w14
        exact .ite (.ite (State.retrain_touch.on rfl .refl) .refl) (.ite (.ite (State.evict_touch.on rfl .refl) .refl) .refl)
      · rename_i w15
        exact .ite (State.coreReset_touch.on rfl .refl) (.ite (State.coreHold_touch.on rfl (State.setReg_touch.on rfl .refl)) .refl)
      · rename_i w16
        exact .ite (State.domRequest_touch.on rfl .refl) .refl
      · rename_i w17
        exact .ite (State.stageHook_touch.on rfl .refl) .refl
      · rename_i w18
        exact .ite (State.snap_touch.on rfl .refl) .refl
      · rename_i w19 e20 e21 e22 e23 e24 e25 e26 e27 e28
        exact .refl

theorem State.busWrite_touch {s : State} {req page off width : Nat} {v : W32} :
    Touch { regs := true, shVal := true, shMask := true, cfg := true, host := true, cmd := true, cad := true, insts := true, flash := true, buf := true, eng := true, dig := true, srch := true, cores := true, scan := true, dram := true, srd := true, knot := true, pwr := true, otp := true, tel := true } s (State.busWrite s req page off width v).1 := by
  unfold State.busWrite
  split
  · rename_i w0 w1 e2
    exact (State.busCheck_touch e2).on rfl .refl
  · rename_i w3 w4 w5 e6
    split
    · rename_i w7 w8 e9
      exact (State.busRefuse_touch.on rfl .refl)
    · rename_i w10 e11
      extract_lets v12 v13 v14 v15
      split
      · rename_i e16
        exact (State.busRefuse_touch.on rfl (State.conflict_touch.on rfl .refl))
      · rename_i e17
        split
        · rename_i e18
          exact (State.busRefuse_touch.on rfl .refl)
        · rename_i e19
          exact (State.writeEffect_touch.on rfl (.foldl (fun x20 y21 h22 => (State.writeField_touch.on rfl h22)) .refl))

theorem State.answer_touch {s : State} {req : ℕ} {r : BusResp} :
    Touch { resp := true } s (State.answer s req r) := by
  unfold State.answer
  exact .upd_resp .refl rfl

theorem State.regLoad_touch {s : State} {req a width : ℕ} :
    Touch { regs := true, pairHi := true, resp := true, dram := true, tel := true } s (State.regLoad s req a width).1 := by
  unfold State.regLoad
  extract_lets v0
  refine .step (x := v0.1) (State.busRead_touch.on rfl .refl) fun h1 => ?_
  exact State.answer_touch.on rfl h1

theorem State.regStore_touch {s : State} {req a width : ℕ} {v : W32} :
    Touch { regs := true, shVal := true, shMask := true, resp := true, cfg := true, host := true, cmd := true, cad := true, insts := true, flash := true, buf := true, eng := true, dig := true, srch := true, cores := true, scan := true, dram := true, srd := true, knot := true, pwr := true, otp := true, tel := true } s (State.regStore s req a width v).1 := by
  unfold State.regStore
  extract_lets v0
  refine .step (x := v0.1) (State.busWrite_touch.on rfl .refl) fun h1 => ?_
  exact State.answer_touch.on rfl h1

theorem State.regPut_touch {s : State} {req page off : ℕ} {v : W32} :
    Touch { regs := true, shVal := true, shMask := true, resp := true, cfg := true, host := true, cmd := true, cad := true, insts := true, flash := true, buf := true, eng := true, dig := true, srch := true, cores := true, scan := true, dram := true, srd := true, knot := true, pwr := true, otp := true, tel := true } s (State.regPut s req page off v) := by
  unfold State.regPut
  exact .ite (State.regStore_touch.on rfl .refl) .refl

theorem State.regEntries_touch {params : List Byte} {writing : Bool} {n i : Nat} {s : State} :
    Touch { regs := true, shVal := true, shMask := true, pairHi := true, resp := true, cfg := true, host := true, cmd := true, cad := true, insts := true, flash := true, buf := true, eng := true, dig := true, srch := true, cores := true, scan := true, dram := true, srd := true, knot := true, pwr := true, otp := true, tel := true } s (State.regEntries params writing n i s).1 := by
  induction n generalizing i s with
  | zero => exact .refl
  | succ n ih =>
    unfold State.regEntries
    extract_lets a v r t
    have h : Touch { regs := true, shVal := true, shMask := true, pairHi := true, resp := true, cfg := true, host := true, cmd := true, cad := true, insts := true, flash := true, buf := true, eng := true, dig := true, srch := true, cores := true, scan := true, dram := true, srd := true, knot := true, pwr := true, otp := true, tel := true } s r.1 := by
      unfold r
      split
      · exact .refl
      · split
        · exact State.regStore_touch.on rfl .refl
        · exact State.regLoad_touch.on rfl .refl
    split
    · exact ih.on rfl h
    · exact h

theorem State.regOps_touch {s : State} {n : ℕ} {it : Item} :
    Touch { regs := true, shVal := true, shMask := true, pairHi := true, resp := true, cfg := true, host := true, cmd := true, cad := true, insts := true, flash := true, buf := true, eng := true, dig := true, srch := true, cores := true, scan := true, dram := true, srd := true, knot := true, pwr := true, otp := true, tel := true } s (State.regOps s n it) := by
  unfold State.regOps
  extract_lets v0
  refine .step (x := v0.1) (State.regEntries_touch.on rfl .refl) fun h1 => ?_
  exact State.finish_touch.on rfl h1

theorem State.regacc_touch {s : State} {write : Bool} {off : ℕ} {data : W32} :
    Touch { regs := true, shVal := true, shMask := true, pairHi := true, resp := true, cfg := true, host := true, cmd := true, cad := true, insts := true, flash := true, buf := true, eng := true, dig := true, srch := true, cores := true, scan := true, dram := true, srd := true, knot := true, pwr := true, otp := true, tel := true, jtag := true } s (State.regacc s write off data) := by
  unfold State.regacc
  refine .ite ?_ ?_
  · exact .refl
  · extract_lets v0 v1 v2 v3
    refine .step (x := v1.1) ?_ fun h4 => ?_
    · unfold v1
      split
      · rename_i e5
        exact State.answer_touch.on rfl .refl
      · rename_i e6
        split
        · rename_i e7
          exact State.regStore_touch.on rfl .refl
        · rename_i e8
          exact State.regLoad_touch.on rfl .refl
    refine .step (x := v2) h4 fun h9 => ?_
    exact .upd_jtag h9 rfl

theorem State.parityHit_touch {s : State} {page off : ℕ} :
    Touch { regs := true, dram := true, tel := true } s (State.parityHit s page off) := by
  unfold State.parityHit
  exact .ite (State.capture_touch.on rfl .refl) .refl

end Sys2Proof.Machine
end

