-- ==== Sys2Proof/Laws/FootStart.lean ====
section
/-! SUPPORT. What each operation of Machine/Start.lean can touch. -/

namespace Sys2Proof.Machine
open Sys2Proof

theorem State.sendPart_touch {s : State} {n : ℕ} {it : Item} {j lba count : ℕ} :
    Touch { regs := true, cmd := true, knot := true } s (State.sendPart s n it j lba count) := by
  unfold State.sendPart
  extract_lets v0 v1 v2 v3
  refine .step (x := v3) (.upd_knot .refl rfl) fun h4 => ?_
  exact State.knotSend_touch.on rfl (State.count_touch.on rfl (State.modItem_touch.on rfl h4))

theorem State.sendParts_touch {s : State} {n : ℕ} {it : Item} :
    Touch { regs := true, cmd := true, knot := true } s (State.sendParts s n it) := by
  unfold State.sendParts
  exact .ite .refl (.ite (.foldl (fun x0 y1 h2 => (State.sendPart_touch.on rfl h2)) .refl) (.ite (.foldl (fun x3 y4 h5 => (State.sendPart_touch.on rfl h5)) .refl) .refl))

theorem State.setFeature_touch {s : State} {it : Item} :
    Touch { host := true } s (State.setFeature s it) := by
  unfold State.setFeature
  split
  · rename_i w0 e1
    exact .refl
  · rename_i w2 w3 e4
    extract_lets v5 v6 v7
    refine .step (x := v7) (State.setConn_touch.on rfl .refl) fun h8 => ?_
    exact .ite (.ite (State.modConn_touch.on rfl h8) h8) (State.setConn_touch.on rfl .refl)

theorem State.resetBegin_touch {s : State} {n : ℕ} :
    Touch { regs := true, host := true, cmd := true, cad := true, insts := true, flash := true, buf := true, eng := true, dig := true, srch := true, cores := true, scan := true, dram := true, knot := true, tel := true } s (State.resetBegin s n) := by
  unfold State.resetBegin
  exact State.meetAll_touch.on rfl (.upd_cmd .refl rfl)

theorem State.resetStart_touch {s : State} {n : ℕ} {it : Item} :
    Touch { regs := true, host := true, cmd := true, cad := true, insts := true, flash := true, buf := true, eng := true, dig := true, srch := true, cores := true, scan := true, dram := true, knot := true, tel := true } s (State.resetStart s n it) := by
  unfold State.resetStart
  exact .ite (State.finish_touch.on rfl .refl) (State.queueReset_touch.on rfl (State.modItem_touch.on rfl .refl))

theorem State.workOf_touch {s : State} {n : ℕ} {it : Item} :
    Touch { regs := true, shVal := true, shMask := true, pairHi := true, resp := true, cfg := true, host := true, cmd := true, cad := true, insts := true, flash := true, buf := true, eng := true, dig := true, srch := true, cores := true, scan := true, dram := true, srd := true, knot := true, pwr := true, otp := true, tel := true } s (State.workOf s n it) := by
  unfold State.workOf
  split
  · rename_i w0 e1
    exact State.startReads_touch.on rfl (State.sendParts_touch.on rfl .refl)
  · rename_i w2 e3
    exact State.startReads_touch.on rfl (State.sendParts_touch.on rfl .refl)
  · rename_i w4 e5
    exact State.startReads_touch.on rfl (State.sendParts_touch.on rfl .refl)
  · rename_i w6 e7
    exact State.writeDone_touch.on rfl (State.startWrites_touch.on rfl (State.sendParts_touch.on rfl .refl))
  · rename_i w8 e9
    exact State.writeDone_touch.on rfl (State.startWrites_touch.on rfl (State.sendParts_touch.on rfl .refl))
  · rename_i w10 e11
    exact State.writeDone_touch.on rfl (State.startWrites_touch.on rfl (State.sendParts_touch.on rfl .refl))
  · rename_i w12 e13
    exact State.sendParts_touch.on rfl .refl
  · rename_i w14 e15
    exact State.startReads_touch.on rfl (State.sendParts_touch.on rfl (.ite (State.startScan_touch.on rfl .refl) .refl))
  · rename_i w16 e17
    exact State.loadProgram_touch.on rfl .refl
  · rename_i w18 e19
    exact State.searchGo_touch.on rfl .refl
  · rename_i w20 e21
    exact .upd_srch .refl rfl
  · rename_i w22 e23
    exact State.finish_touch.on rfl (State.modItem_touch.on rfl .refl)
  · rename_i w24 e25
    exact State.getLog_touch.on rfl .refl
  · rename_i w26 e27
    exact State.finish_touch.on rfl (State.setFeature_touch.on rfl .refl)
  · rename_i w28 e29
    exact State.finish_touch.on rfl .refl
  · rename_i w30 e31
    exact State.createInst_touch.on rfl .refl
  · rename_i w32 e33
    exact State.resetStart_touch.on rfl .refl
  · rename_i w34 e35
    exact State.resetStart_touch.on rfl .refl
  · rename_i w36 e37
    exact State.migLog_touch.on rfl .refl
  · rename_i w38 e39
    exact State.setQuota_touch.on rfl .refl
  · rename_i w40 e41
    exact State.fwDownload_touch.on rfl .refl
  · rename_i w42 e43
    exact State.fwBegin_touch.on rfl .refl
  · rename_i w44 e45
    exact State.regOps_touch.on rfl .refl
  · rename_i w46 e47
    exact State.regOps_touch.on rfl .refl
  · rename_i w48 e49
    exact State.resetBegin_touch.on rfl .refl
  · rename_i w50 e51 e52 e53 e54 e55 e56 e57 e58 e59 e60 e61 e62 e63 e64 e65 e66 e67 e68 e69 e70 e71 e72 e73 e74 e75
    exact State.finish_touch.on rfl .refl

theorem State.begin'_touch {s : State} {n : ℕ} :
    Touch { regs := true, shVal := true, shMask := true, pairHi := true, resp := true, cfg := true, host := true, cmd := true, cad := true, insts := true, flash := true, buf := true, eng := true, dig := true, srch := true, cores := true, scan := true, dram := true, srd := true, knot := true, pwr := true, otp := true, tel := true } s (State.begin' s n) := by
  unfold State.begin'
  split
  · rename_i w0 e1
    exact .refl
  · rename_i w2 w3 e4
    refine .ite ?_ ?_
    · exact State.modItem_touch.on rfl .refl
    · extract_lets v5 v6
      refine .step (x := v6) (State.modItem_touch.on rfl .refl) fun h7 => ?_
      exact .ite (State.finish_touch.on rfl (State.endWriter_touch.on rfl h7)) (.ite (State.finish_touch.on rfl (State.endWriter_touch.on rfl h7)) (State.workOf_touch.on rfl h7))

theorem State.setCovers_touch {s : State} {n : ℕ} {it : Item} :
    Touch { cmd := true } s (State.setCovers s n it) := by
  unfold State.setCovers
  extract_lets v0 v1 v2 v3
  exact State.modItem_touch.on rfl .refl

theorem State.takeAsn_touch {s : State} {n asn : ℕ} :
    Touch { cmd := true, flash := true, knot := true } s (State.takeAsn s n asn) := by
  unfold State.takeAsn
  split
  · rename_i w0 e1
    exact .refl
  · rename_i w2 w3 e4
    extract_lets v5 v6 v7
    refine .step (x := v5) (State.modItem_touch.on rfl .refl) fun h8 => ?_
    refine .step (x := v7) (.ite (.upd_knot h8 rfl) h8) fun h9 => ?_
    exact .ite (State.takeReads_touch.on rfl h9) (.ite (State.setCovers_touch.on rfl h9) h9)

theorem State.ownAsn_touch {s : State} {it : Item} :
    Touch { insts := true, knot := true } s (State.ownAsn s it).1 := by
  unfold State.ownAsn
  split
  · rename_i e0
    exact (State.nextAsn_touch.on rfl .refl)
  · rename_i e1
    extract_lets v2
    dsimp only
    exact State.modInst_touch.on rfl .refl

theorem State.sendAsnReq_touch {s : State} {n : ℕ} {it : Item} :
    Touch { knot := true } s (State.sendAsnReq s n it) := by
  unfold State.sendAsnReq
  extract_lets v0 v1
  exact State.knotSend_touch.on rfl (.upd_knot .refl rfl)

theorem State.reserve_touch {s : State} {n : ℕ} {it : Item} :
    Touch { flash := true } s (State.reserve s n it) := by
  unfold State.reserve
  exact .ite .refl (.upd_flash .refl rfl)

theorem State.accept_touch {s : State} {n asn : ℕ} :
    Touch { regs := true, shVal := true, shMask := true, pairHi := true, resp := true, cfg := true, host := true, cmd := true, cad := true, insts := true, flash := true, buf := true, eng := true, dig := true, srch := true, cores := true, scan := true, dram := true, srd := true, knot := true, pwr := true, otp := true, tel := true } s (State.accept s n asn) := by
  unfold State.accept
  split
  · rename_i w0 e1
    exact .refl
  · rename_i w2 w3 e4
    extract_lets v5 v6 v7
    refine .step (x := v5) (State.modItem_touch.on rfl .refl) fun h8 => ?_
    refine .step (x := v6) (State.sendSeq_touch.on rfl (State.reserve_touch.on rfl h8)) fun h9 => ?_
    refine .step (x := v7) (State.takeAsn_touch.on rfl (State.countPair_touch.on rfl h9)) fun h10 => ?_
    exact State.lateAborts_touch.on rfl (.ite h10 (State.begin'_touch.on rfl h10))

theorem State.queueBest_touch {s : State} {n asn : ℕ} :
    Touch { regs := true, host := true, cmd := true, insts := true, flash := true, buf := true, eng := true, dig := true, srch := true, cores := true, scan := true, dram := true, knot := true, tel := true } s (State.queueBest s n asn) := by
  unfold State.queueBest
  split
  · rename_i w0 e1
    exact .refl
  · rename_i w2 w3 e4
    extract_lets v5 v6 v7
    refine .step (x := v5) (State.modItem_touch.on rfl .refl) fun h8 => ?_
    refine .step (x := v7) (.upd_cmd h8 rfl) fun h9 => ?_
    exact State.lateAborts_touch.on rfl (State.takeAsn_touch.on rfl h9)

theorem State.offerBest_touch {s : State} {n : ℕ} :
    Touch { regs := true, host := true, cmd := true, cad := true, insts := true, flash := true, buf := true, eng := true, dig := true, srch := true, cores := true, scan := true, dram := true, knot := true, tel := true } s (State.offerBest s n) := by
  unfold State.offerBest
  split
  · rename_i w0 e1
    exact .refl
  · rename_i w2 w3 e4
    extract_lets v5 v6
    refine .step (x := v6.1) (State.ownAsn_touch.on rfl .refl) fun h7 => ?_
    exact .ite .refl (.ite (State.refuseItem_touch.on rfl .refl) (.ite (State.refuseItem_touch.on rfl .refl) (.ite .refl (.ite (State.sendAsnReq_touch.on rfl .refl) (State.queueBest_touch.on rfl h7)))))

theorem State.bestRetry_touch {s : State} :
    Touch { regs := true, host := true, cmd := true, cad := true, insts := true, flash := true, buf := true, eng := true, dig := true, srch := true, cores := true, scan := true, dram := true, knot := true, tel := true } s (State.bestRetry s) := by
  unfold State.bestRetry
  refine .foldl (fun x3 y4 h5 => ?_) ?_
  · split
    · rename_i w6 w7 e8
      exact .ite (State.offerBest_touch.on rfl h5) h5
    · rename_i w9 e10
      exact h5
  · exact .refl

theorem State.bestStart_touch {s : State} {n : ℕ} :
    Touch { regs := true, shVal := true, shMask := true, pairHi := true, resp := true, cfg := true, host := true, cmd := true, cad := true, insts := true, flash := true, buf := true, eng := true, dig := true, srch := true, cores := true, scan := true, dram := true, srd := true, knot := true, pwr := true, otp := true, tel := true } s (State.bestStart s n) := by
  unfold State.bestStart
  split
  · rename_i w0 e1
    exact .refl
  · rename_i w2 w3 e4
    refine .ite ?_ ?_
    · exact State.bestRetry_touch.on rfl .refl
    · refine .ite ?_ ?_
      · extract_lets v5 v6
        refine .step (x := v6) (.upd_cmd .refl rfl) fun h7 => ?_
        exact State.begin'_touch.on rfl (State.reserve_touch.on rfl h7)
      · exact .refl

end Sys2Proof.Machine
end

