-- ==== Sys2Proof/Laws/FootAdmit.lean ====
section
/-! SUPPORT. What each operation of Machine/Admit.lean can touch. -/

namespace Sys2Proof.Machine
open Sys2Proof

theorem State.applyVerdict_touch {s : State} {n : ℕ} {it : Item} {a : Verdict} :
    Touch { regs := true, shVal := true, shMask := true, pairHi := true, resp := true, cfg := true, host := true, cmd := true, cad := true, insts := true, flash := true, buf := true, eng := true, dig := true, srch := true, cores := true, scan := true, dram := true, srd := true, knot := true, pwr := true, otp := true, tel := true, freeCtr := true } s (State.applyVerdict s n it a) := by
  unfold State.applyVerdict
  split
  · rename_i w0
    exact .refl
  · rename_i w1 w2
    exact State.refuseItem_touch.on rfl .refl
  · rename_i w3 w4 w5
    exact State.sendBusy_touch.on rfl .refl
  · rename_i w6 w7
    extract_lets v8
    refine .step (x := v8.2) (State.free_touch.on rfl .refl) fun h9 => ?_
    exact State.sendBusy_touch.on rfl h9
  · rename_i w10 w11 w12 w13 w14
    extract_lets v15 v16 v17 v18
    refine .step (x := v16) (.upd_cad .refl rfl rfl) fun h19 => ?_
    refine .step (x := v17) (State.modItem_touch.on rfl h19) fun h20 => ?_
    refine .step (x := v18.1) (State.ownAsn_touch.on rfl h20) fun h21 => ?_
    exact .ite (State.sendAsnReq_touch.on rfl h20) (State.accept_touch.on rfl h21)

theorem State.admitWork_touch {s : State} {plans : List (List Demand)} {late : Bool} {ns : ℕ} :
    Touch { regs := true, shVal := true, shMask := true, pairHi := true, resp := true, cfg := true, host := true, cmd := true, cad := true, insts := true, flash := true, buf := true, eng := true, dig := true, srch := true, cores := true, scan := true, dram := true, srd := true, knot := true, pwr := true, otp := true, tel := true, freeCtr := true } s (State.admitWork s plans late ns) := by
  unfold State.admitWork
  split
  · rename_i w0 e1
    exact .refl
  · rename_i w2 w3 w4 e5
    refine .ite ?_ ?_
    · exact .refl
    · split
      · rename_i w6 e7
        exact .upd_cmd .refl rfl
      · rename_i w8 w9 e10
        split
        · rename_i w11 e12
          exact .refl
        · rename_i w13 e14
          extract_lets v15 v16
          refine .step (x := v16) (.upd_cmd .refl rfl) fun h17 => ?_
          exact State.applyVerdict_touch.on rfl (State.setFld_touch.on rfl h17)

theorem State.afterResp_touch {s : State} {n : ℕ} {it : Item} :
    Touch { regs := true, host := true, cmd := true, cad := true, insts := true, flash := true, buf := true, eng := true, dig := true, srch := true, cores := true, scan := true, dram := true, knot := true, tel := true } s (State.afterResp s n it) := by
  unfold State.afterResp
  extract_lets v0 v1 v2 v3
  refine .step (x := v0) (.ite (State.created_touch.on rfl .refl) .refl) fun h4 => ?_
  refine .step (x := v1) (.ite (State.unloadProgram_touch.on rfl h4) h4) fun h5 => ?_
  refine .step (x := v2) (State.clearLog_touch.on rfl h5) fun h6 => ?_
  exact .ite (.upd_cmd h6 rfl) h6

theorem State.complete_touch {s : State} {n : ℕ} :
    Touch { regs := true, shVal := true, shMask := true, cfg := true, host := true, cmd := true, cad := true, insts := true, flash := true, buf := true, eng := true, dig := true, srch := true, cores := true, scan := true, dram := true, srd := true, knot := true, tel := true } s (State.complete s n) := by
  unfold State.complete
  extract_lets v0
  refine .step (x := v0) (State.sealExpire_touch.on rfl .refl) fun h1 => ?_
  split
  · rename_i w2 e3
    exact h1
  · rename_i w4 w5 e6
    extract_lets v7 v8
    refine .step (x := v7) (.ite (State.finish_touch.on rfl h1) h1) fun h9 => ?_
    refine .step (x := v8) (State.txnStep_touch.on rfl h9) fun h10 => ?_
    split
    · rename_i w11 e12
      exact h10
    · rename_i w13 w14 e15
      refine .ite ?_ ?_
      · extract_lets v16
        refine .step (x := v16) (.ite (State.migSnapshot_touch.on rfl h10) h10) fun h17 => ?_
        exact State.bestRetry_touch.on rfl (State.afterResp_touch.on rfl (State.report_touch.on rfl h17))
      · exact h10

theorem State.flushDone_touch {s : State} {n : ℕ} :
    Touch { regs := true, host := true, cmd := true, cad := true, insts := true, flash := true, buf := true, dram := true, knot := true, tel := true } s (State.flushDone s n) := by
  unfold State.flushDone
  split
  · rename_i w0 e1
    exact .refl
  · rename_i w2 w3 e4
    extract_lets v5 v6
    exact .ite (State.report_touch.on rfl (State.finish_touch.on rfl .refl)) .refl

end Sys2Proof.Machine
end

