-- ==== Sys2Proof/Laws/FootParts.lean ====
section
/-! SUPPORT. What each operation of Machine/Parts.lean can touch. -/

namespace Sys2Proof.Machine
open Sys2Proof

theorem State.dropReq_touch {s : State} {n : ℕ} :
    Touch { knot := true } s (State.dropReq s n) := by
  unfold State.dropReq
  exact .upd_knot .refl rfl

theorem State.asnGrant_touch {s : State} {n asn reason : ℕ} :
    Touch { regs := true, shVal := true, shMask := true, pairHi := true, resp := true, cfg := true, host := true, cmd := true, cad := true, insts := true, flash := true, buf := true, eng := true, dig := true, srch := true, cores := true, scan := true, dram := true, srd := true, knot := true, pwr := true, otp := true, tel := true, freeCtr := true } s (State.asnGrant s n asn reason) := by
  unfold State.asnGrant
  split
  · rename_i w0 e1
    exact .refl
  · rename_i w2 w3 e4
    extract_lets v5
    refine .step (x := v5) (State.dropReq_touch.on rfl .refl) fun h6 => ?_
    refine .ite ?_ ?_
    · exact .ite (State.knotSend_touch.on rfl h6) h6
    · split
      · rename_i w7 e8
        exact h6
      · rename_i w9 w10 e11
        exact .ite (.ite (State.accept_touch.on rfl h6) (State.queueBest_touch.on rfl h6)) (.ite (State.applyVerdict_touch.on rfl h6) (State.sendAsnReq_touch.on rfl h6))

theorem State.asnTimeout_touch {s : State} {n : ℕ} :
    Touch { regs := true, host := true, cmd := true, cad := true, insts := true, flash := true, buf := true, dram := true, knot := true, tel := true } s (State.asnTimeout s n) := by
  unfold State.asnTimeout
  split
  · rename_i w0 w1 w2 w3 e4 e5
    exact .ite (State.sendBusy_touch.on rfl (State.cancelAsn_touch.on rfl .refl)) .refl
  · rename_i w6 w7 e8
    exact .refl

theorem State.partScan_touch {s : State} {n : ℕ} {p : PartIn} :
    Touch { scan := true } s (State.partScan s n p) := by
  unfold State.partScan
  refine .ite ?_ ?_
  · exact .refl
  · extract_lets v0 v1 v2 v3
    exact .upd_scan .refl rfl

theorem State.partIn_touch {s : State} {p : PartIn} :
    Touch { regs := true, shVal := true, shMask := true, pairHi := true, resp := true, cfg := true, host := true, cmd := true, cad := true, insts := true, flash := true, buf := true, eng := true, dig := true, srch := true, cores := true, scan := true, dram := true, srd := true, knot := true, pwr := true, otp := true, tel := true } s (State.partIn s p) := by
  unfold State.partIn
  refine .ite ?_ ?_
  · exact .refl
  · refine .ite ?_ ?_
    · exact .foldl (fun x6 y7 h8 => (State.markAborted_touch.on rfl h8)) .refl
    · extract_lets v9 v10 v11 v12 v13 v14
      refine .step (x := v9) (State.count_touch.on rfl .refl) fun h15 => ?_
      refine .step (x := v14) (.upd_cmd_knot h15 rfl rfl) fun h16 => ?_
      exact .ite (State.knotSend_touch.on rfl (State.capture_touch.on rfl h15)) (.ite (State.knotSend_touch.on rfl h15) (State.begin'_touch.on rfl (State.takeAsn_touch.on rfl (State.partScan_touch.on rfl (State.setItem_touch.on rfl h16)))))

theorem State.fillFar_touch {s : State} {n lba count : Nat} {data : List Byte} :
    Touch { cmd := true, flash := true } s (State.fillFar s n lba count data) := by
  unfold State.fillFar
  refine .foldlP (fun x a h => ?_) .refl
  exact (State.modGw_touch (s := x.1) (w := .item n) (grain := a.1)).on rfl h

theorem State.failFar_touch {s : State} {n : ℕ} {r : PartEnd} :
    Touch { cmd := true, flash := true } s (State.failFar s n r) := by
  unfold State.failFar
  extract_lets v0 v1
  refine .step (x := v1) (State.fillFar_touch.on rfl .refl) fun h2 => ?_
  exact State.modGw_touch.on rfl h2

theorem State.scanFar_touch {s : State} {n : ℕ} {it : Item} {r : PartEnd} :
    Touch { regs := true, cmd := true, cores := true, scan := true } s (State.scanFar s n it r) := by
  unfold State.scanFar
  extract_lets v0 v1 v2 v3 v4 v5 v6 v7 v8 v9 v10 v11
  refine .step (x := v6) (.ite .refl (State.modItem_touch.on rfl .refl)) fun h12 => ?_
  refine .step (x := v8) (State.modScan_touch.on rfl h12) fun h13 => ?_
  refine .step (x := v9) (State.modItem_touch.on rfl h13) fun h14 => ?_
  refine .step (x := v11) (.ite h14 (State.modScan_touch.on rfl h14)) fun h15 => ?_
  exact .ite (State.scanAdvance_touch.on rfl h14) (State.scanStop_touch.on rfl h15)

theorem State.partOut_touch {s : State} {r : PartEnd} :
    Touch { regs := true, cmd := true, cad := true, flash := true, buf := true, dig := true, cores := true, scan := true, dram := true, knot := true, tel := true } s (State.partOut s r) := by
  unfold State.partOut
  refine .ite ?_ ?_
  · exact .refl
  · extract_lets v0 v1 v2
    refine .step (x := v1) (.upd_knot .refl rfl) fun h3 => ?_
    refine .step (x := v2) (State.modItem_touch.on rfl h3) fun h4 => ?_
    split
    · rename_i w5 e6
      exact h3
    · rename_i w7 w8 e9
      exact .ite h4 (.ite (State.scanFar_touch.on rfl h4) (.ite (State.deliver_touch.on rfl (.ite (State.fillFar_touch.on rfl h4) (State.failFar_touch.on rfl h4))) (.ite (.ite (State.writeDone_touch.on rfl h4) (.ite (State.writeDone_touch.on rfl (State.modItem_touch.on rfl h4)) (State.finish_touch.on rfl (State.endWriter_touch.on rfl (State.dropWork_touch.on rfl h4))))) (.ite h4 (State.finish_touch.on rfl h4)))))

end Sys2Proof.Machine
end

