-- ==== Sys2Proof/Laws/FootChecks.lean ====
section
/-! SUPPORT. What each operation of Machine/Checks.lean can touch. -/

namespace Sys2Proof.Machine
open Sys2Proof

theorem State.useSlot_touch {s : State} {k : ℕ} :
    Touch { regs := true } s (State.useSlot s k) := by
  unfold State.useSlot
  exact .ite (State.setFld_touch.on rfl .refl) .refl

theorem State.setMac_touch {s : State} {c mac : ℕ} :
    Touch { host := true } s (State.setMac s c mac) := by
  unfold State.setMac
  exact State.modConn_touch.on rfl .refl

theorem State.receiveCmd_touch {s : State} {c op : ℕ} {m : CmdIn} :
    Touch { regs := true, host := true, cmd := true, cad := true, insts := true, flash := true, buf := true, eng := true, dig := true, srch := true, cores := true, scan := true, dram := true, knot := true, tel := true } s (State.receiveCmd s c op m) := by
  unfold State.receiveCmd
  split
  · rename_i w0 e1
    exact .refl
  · rename_i w2 w3 e4
    refine .ite ?_ ?_
    · exact State.drop_touch.on rfl .refl
    · extract_lets v5 v6 v7 v8 v9 v10 v11
      refine .step (x := v5) (State.setMac_touch.on rfl .refl) fun h12 => ?_
      refine .step (x := v8) (State.useSlot_touch.on rfl (State.setItem_touch.on rfl h12)) fun h13 => ?_
      refine .step (x := v10) (.upd_cmd h13 rfl) fun h14 => ?_
      split
      · rename_i w15 w16 e17
        exact State.refuse_touch.on rfl h12
      · rename_i w18 e19
        exact .ite (State.offerBest_touch.on rfl h14) (.upd_cmd h14 rfl)

end Sys2Proof.Machine
end

