-- ==== Sys2Proof/Laws/FootDramCmd.lean ====
section
/-! SUPPORT. What each operation of Machine/DramCmd.lean can touch. -/

namespace Sys2Proof.Machine
open Sys2Proof

theorem State.cacheLost_touch {s : State} {c : ℕ} :
    Touch { host := true, insts := true, flash := true } s (State.cacheLost s c) := by
  unfold State.cacheLost
  split
  · rename_i w0 e1
    exact .refl
  · rename_i w2 w3 e4
    refine .ite ?_ ?_
    · exact .refl
    · extract_lets v5 v6
      exact State.deferLost_touch.on rfl (State.setCacheRec_touch.on rfl .refl)

theorem State.segmentLost_touch {s : State} {seg reader : ℕ} :
    Touch { regs := true, cmd := true, flash := true, dig := true, cores := true, scan := true, dram := true, tel := true } s (State.segmentLost s seg reader) := by
  unfold State.segmentLost
  extract_lets v0 v1
  refine .step (x := v1) (State.post_touch.on rfl (.upd_flash .refl rfl)) fun h2 => ?_
  refine .ite ?_ ?_
  · exact h2
  · split
    · rename_i w3 e4
      exact h2
    · rename_i w5 w6 e7
      extract_lets v8
      exact State.deliver_touch.on rfl (.foldl (fun x9 y10 h11 => (State.failGrain_touch.on rfl h11)) h2)

theorem State.poisonMet_touch {s : State} {a : DramObj} :
    Touch { regs := true, host := true, cmd := true, cad := true, insts := true, flash := true, buf := true, eng := true, dig := true, srch := true, cores := true, scan := true, dram := true, knot := true, tel := true } s (State.poisonMet s a) := by
  unfold State.poisonMet
  split
  · rename_i w0
    exact .refl
  · rename_i w1 w2 w3
    exact State.segmentLost_touch.on rfl .refl
  · rename_i w4 w5
    exact State.cacheLost_touch.on rfl .refl
  · rename_i w6 w7
    exact State.failConn_touch.on rfl .refl
  · rename_i w8 w9
    exact State.ctxLost_touch.on rfl .refl
  · rename_i w10 w11
    exact State.scanStop_touch.on rfl .refl

theorem State.dramHits_touch {s : State} :
    Touch { regs := true, host := true, cmd := true, cad := true, insts := true, flash := true, buf := true, eng := true, dig := true, srch := true, cores := true, scan := true, dram := true, knot := true, tel := true } s (State.dramHits s) := by
  unfold State.dramHits
  exact .foldl (fun x0 y1 h2 => (State.poisonMet_touch.on rfl h2)) (.upd_dram .refl rfl rfl)

theorem State.closeRows_touch {s : State} {c : ℕ} :
    Touch { dram := true } s (State.closeRows s c) := by
  unfold State.closeRows
  exact State.setChan_touch.on rfl .refl

theorem State.refreshAt_touch {s : State} {c debt : ℕ} :
    Touch { regs := true, dram := true } s (State.refreshAt s c debt) := by
  unfold State.refreshAt
  refine .foldl (fun x3 y4 h5 => ?_) ?_
  · extract_lets v6 v7
    refine .step (x := v7) (State.refreshTo_touch.on rfl h5) fun h8 => ?_
    exact .ite h5 (.ite (State.count_touch.on rfl h8) h8)
  · exact .refl

theorem State.recoveryEnd_touch {s : State} {c : ℕ} {met : Bool} {recs : List ℕ} :
    Touch { regs := true, host := true, cmd := true, cad := true, insts := true, flash := true, buf := true, eng := true, dig := true, srch := true, cores := true, scan := true, dram := true, knot := true, otp := true, tel := true } s (State.recoveryEnd s c met recs) := by
  unfold State.recoveryEnd
  refine .ite ?_ ?_
  · exact .refl
  · extract_lets v0 v1 v2 v3 v4 v5
    refine .step (x := v0) (State.refreshAt_touch.on rfl (State.closeRows_touch.on rfl .refl)) fun h6 => ?_
    refine .step (x := v1) (State.raise_touch.on rfl (State.count_touch.on rfl (State.count_touch.on rfl h6))) fun h7 => ?_
    refine .step (x := v3) (State.setChan_touch.on rfl h7) fun h8 => ?_
    refine .step (x := v4) (State.refreshAt_touch.on rfl h6) fun h9 => ?_
    exact .ite (.ite h8 (.foldl (fun x10 y11 h12 => (State.cacheLost_touch.on rfl h12)) (State.chanDead_touch.on rfl h8))) (State.dramHits_touch.on rfl (State.serveAll_touch.on rfl (State.setChan_touch.on rfl h9)))

theorem State.scrubbed_touch {s : State} {burst : ℕ} :
    Touch { dram := true } s (State.scrubbed s burst) := by
  unfold State.scrubbed
  extract_lets v0
  exact .ite .refl (.ite (.upd_dram .refl rfl rfl) (.upd_dram .refl rfl rfl))

theorem State.dramScrub_touch {s : State} {a ecc : ℕ} {obj : DramObj} :
    Touch { regs := true, host := true, insts := true, flash := true, dram := true, otp := true, tel := true } s (State.dramScrub s a ecc obj) := by
  unfold State.dramScrub
  extract_lets v0 v1 v2
  refine .step (x := v1) (State.openRow_touch.on rfl (State.scrubbed_touch.on rfl (State.giveBg_touch.on rfl .refl))) fun h3 => ?_
  refine .step (x := v2.1) (State.eccRead_touch.on rfl h3) fun h4 => ?_
  refine .ite ?_ ?_
  · exact .refl
  · split
    · rename_i w5 w6
      exact .ite (State.cacheLost_touch.on rfl h4) h4
    · rename_i w7 e8
      exact h4

theorem State.driftTrack_touch {s : State} {c r : ℕ} {dly : List ℕ} :
    Touch { regs := true } s (State.driftTrack s c r dly) := by
  unfold State.driftTrack
  exact .ite .refl (.foldl (fun x0 y1 h2 => (.ite (State.setFld_touch.on rfl h2) h2)) .refl)

end Sys2Proof.Machine
end

