-- ==== Sys2Proof/Laws/FootNollekRun.lean ====
section
/-! SUPPORT. What each operation of Machine/NollekRun.lean can touch. -/

namespace Sys2Proof.Machine
open Sys2Proof

theorem State.coreFault_touch {s : State} {c : ℕ} {x : Core} {f : NFault} :
    Touch { regs := true, cmd := true, cores := true, scan := true, freeCtr := true } s (State.coreFault s c x f) := by
  unfold State.coreFault
  refine .ite ?_ ?_
  · extract_lets v0 v1 v2
    refine .step (x := v0.2) (State.free_touch.on rfl .refl) fun h3 => ?_
    refine .step (x := v1) (.ite .refl h3) fun h4 => ?_
    exact State.setCore_touch.on rfl h4
  · exact State.jobFault_touch.on rfl (State.setCore_touch.on rfl .refl)

/-- The core's own footprint, and that of what follows once the core is written. -/
theorem State.completeInstr_touch {F : Foot} {s0 : State} {c : Nat} {x0 : Core} {s : State} {x : Core} {f : Flow}
    {cost stall : Nat} {after : State → State} {r : State}
    (hF : Foot.le { regs := true, cmd := true, cores := true, scan := true, freeCtr := true } F = true)
    (h0 : Touch F r s0) (h : Touch F r s) (ha : ∀ t, Touch F r t → Touch F r (after t)) :
    Touch F r (State.completeInstr s0 c x0 s x f cost stall after) := by
  unfold State.completeInstr
  split
  · exact State.coreFault_touch.on hF h0
  · refine ha _ (State.setCore_touch.on ?_ h)
    exact Foot.le_trans rfl hF

/-- What an instruction's body leaves, with what follows it, lies in a footprint. -/
def NRes.Touch (F : Foot) (r : State) : NRes → Prop
  | .done t _ _ _ _ a => Machine.Touch F r t ∧ ∀ u, Machine.Touch F r u → Machine.Touch F r (a u)
  | .wait t => Machine.Touch F r t
  | .fault t _ _ => Machine.Touch F r t

theorem State.runInstr_touch {F : Foot} {s : State} {c : Nat} {g : Guard} {p : Prof} {body : State → Core → NRes}
    (hF : Foot.le { regs := true, cmd := true, cores := true, scan := true, freeCtr := true } F = true)
    (hb : ∀ x, (body s x).Touch F s) : Touch F s (State.runInstr s c g p body) := by
  unfold State.runInstr
  split
  · exact .refl
  · split
    · exact State.coreFault_touch.on hF .refl
    · refine .ite (State.coreFault_touch.on hF .refl) (.ite ?_ ?_)
      · exact State.completeInstr_touch hF .refl .refl fun _ h => h
      · next x _ =>
        have hx := hb x
        split
        · next e => rw [e] at hx; exact State.completeInstr_touch hF .refl hx.1 hx.2
        · next e => rw [e] at hx; exact hx
        · next e => rw [e] at hx; exact State.coreFault_touch.on hF hx

theorem State.alu3_touch {s : State} {c : Nat} {g : Guard} {d a b : GReg} {f : W32 → W32 → Alu} :
    Touch { regs := true, cmd := true, cores := true, scan := true, freeCtr := true } s (State.alu3 s c g d a b f) := by
  unfold State.alu3
  exact State.runInstr_touch rfl fun _ => ⟨.refl, fun _ h => h⟩

theorem State.alu2_touch {s : State} {c : Nat} {g : Guard} {d a : GReg} {f : W32 → Alu} :
    Touch { regs := true, cmd := true, cores := true, scan := true, freeCtr := true } s (State.alu2 s c g d a f) := by
  unfold State.alu2
  exact State.runInstr_touch rfl fun _ => ⟨.refl, fun _ h => h⟩

theorem State.aluDivide_touch {s : State} {c : Nat} {g : Guard} {d a b : GReg} {f : W32 → W32 → Alu} :
    Touch { regs := true, cmd := true, cores := true, scan := true, freeCtr := true } s (State.aluDivide s c g d a b f) := by
  unfold State.aluDivide
  refine State.runInstr_touch rfl fun x => ?_
  repeat' (first | split | (dsimp only; split))
  all_goals first
    | exact ⟨.refl, fun _ h => h⟩
    | exact (Touch.refl : Machine.Touch _ _ _)

theorem State.toPred_touch {s : State} {c : Nat} {g : Guard} {d : PReg} {f : Core → Bool} :
    Touch { regs := true, cmd := true, cores := true, scan := true, freeCtr := true } s (State.toPred s c g d f) := by
  unfold State.toPred
  exact State.runInstr_touch rfl fun _ => ⟨.refl, fun _ h => h⟩

theorem State.toReg_touch {s : State} {c : Nat} {g : Guard} {p : Prof} {d : GReg} {f : Core → W32} :
    Touch { regs := true, cmd := true, cores := true, scan := true, freeCtr := true } s (State.toReg s c g p d f) := by
  unfold State.toReg
  exact State.runInstr_touch rfl fun _ => ⟨.refl, fun _ h => h⟩

theorem State.loopStart_touch {s : State} {c : Nat} {g : Guard} {n : Fin 4} {off : BitVec 12} {count : Core → W32} :
    Touch { regs := true, cmd := true, cores := true, scan := true, freeCtr := true } s (State.loopStart s c g n off count) := by
  unfold State.loopStart
  refine State.runInstr_touch rfl fun x => ?_
  repeat' (first | split | (dsimp only; split))
  all_goals first
    | exact ⟨.refl, fun _ h => h⟩
    | exact (Touch.refl : Machine.Touch _ _ _)

theorem State.repeat'_touch {s : State} {c : Nat} {g : Guard} {count : Core → BitVec 16} :
    Touch { regs := true, cmd := true, cores := true, scan := true, freeCtr := true } s (State.repeat' s c g count) := by
  unfold State.repeat'
  refine State.runInstr_touch rfl fun x => ?_
  repeat' (first | split | (dsimp only; split))
  all_goals first
    | exact ⟨.refl, fun _ h => h⟩
    | exact (Touch.refl : Machine.Touch _ _ _)

theorem State.pass_touch {s : State} {c cycles : ℕ} :
    Touch { cores := true } s (State.pass s c cycles) := by
  unfold State.pass
  exact State.setCore_touch.on rfl .refl

theorem State.wfiWake_touch {s : State} {c cycles : Nat} :
    Touch { regs := true, cmd := true, cores := true, scan := true, freeCtr := true } s (State.wfiWake s c cycles) := by
  unfold State.wfiWake
  refine .ite .refl ?_
  extract_lets v x
  refine .step (x := v) (State.pass_touch.on rfl .refl) fun h => ?_
  exact .ite (State.completeInstr_touch rfl h h fun _ h => h) h

theorem State.interrupt_touch {s : State} {c code : ℕ} :
    Touch { cores := true, freeCtr := true } s (State.interrupt s c code) := by
  unfold State.interrupt
  extract_lets v0
  refine .step (x := v0.2) (State.free_touch.on rfl .refl) fun h1 => ?_
  exact State.setCore_touch.on rfl h1

theorem State.externalInt_touch {s : State} {c : ℕ} :
    Touch { cores := true, freeCtr := true } s (State.externalInt s c) := by
  unfold State.externalInt
  exact .ite (State.interrupt_touch.on rfl .refl) .refl

theorem State.timerInt_touch {s : State} {c cycles : ℕ} :
    Touch { cores := true, freeCtr := true } s (State.timerInt s c cycles) := by
  unfold State.timerInt
  refine .ite ?_ ?_
  · extract_lets v0
    refine .step (x := v0) (State.pass_touch.on rfl .refl) fun h1 => ?_
    exact .ite (State.interrupt_touch.on rfl h1) h1
  · exact .refl

theorem State.publish_touch {s : State} {c : ℕ} :
    Touch { buf := true, cores := true, ctlStores := true, dram := true } s (State.publish s c) := by
  unfold State.publish
  extract_lets v0 v1
  refine .step (x := v1) (.foldl (fun x3 y4 h5 => (State.physSet_touch.on rfl h5)) .refl) fun h2 => ?_
  exact .upd_ctlStores h2 rfl

theorem State.illegalWord_touch {s : State} {c : ℕ} {w : W32} :
    Touch { regs := true, cmd := true, cores := true, scan := true, freeCtr := true } s (State.illegalWord s c w) := by
  unfold State.illegalWord
  refine .ite ?_ ?_
  · exact .refl
  · refine .ite ?_ ?_
    · exact .refl
    · split
      · rename_i w0 w1 e2
        exact State.coreFault_touch.on rfl .refl
      · rename_i w3 w4 w5 e6
        exact State.coreFault_touch.on rfl .refl

theorem State.ucodeParity_touch {s : State} {c addr : ℕ} :
    Touch { regs := true, dram := true, tel := true } s (State.ucodeParity s c addr) := by
  unfold State.ucodeParity
  exact State.count_touch.on rfl (State.raise_touch.on rfl (State.fault_touch.on rfl .refl))

end Sys2Proof.Machine
end

