-- ==== Sys2Proof/Laws/FootNollekMem.lean ====
section
/-! SUPPORT. What each operation of Machine/NollekMem.lean can touch. -/

namespace Sys2Proof.Machine
open Sys2Proof

theorem State.ctlPut_touch {s : State} {c pa : ℕ} {d : List Byte} :
    Touch { ctlStores := true } s (State.ctlPut s c pa d) := by
  unfold State.ctlPut
  exact .upd_ctlStores .refl rfl

theorem State.loadOne_touch {t : State} {c : Nat} {x : Core} {a : W32} {n : Nat} {u : State} {y : Core} {l : List Byte}
    (e : State.loadOne t c x a n = .ok (u, y, l)) : Touch { regs := true, pairHi := true, resp := true, dram := true, tel := true } t u := by
  unfold State.loadOne at e
  split at e
  · split at e
    · cases e
    · split at e
      · dsimp only at e
        split at e
        · cases e; exact State.regLoad_touch.on rfl .refl
        · cases e
      · split at e
        · cases e; exact .refl
        · cases e
  · split at e
    · cases e; exact .refl
    · cases e

/-- What a refused load still does: the register access it made. -/
theorem State.loadOne_refused {t : State} {c : Nat} {x : Core} {a : W32} {n : Nat} {e : AccErr}
    (h : State.loadOne t c x a n = .error e) (u : State) : Touch { regs := true, pairHi := true, resp := true, dram := true, tel := true } u (e.1 u) := by
  unfold State.loadOne at h
  split at h
  · split at h
    · cases h; exact .refl
    · split at h
      · dsimp only at h
        split at h
        · cases h
        · cases h; exact State.regLoad_touch.on rfl .refl
      · split at h
        · cases h
        · cases h; exact .refl
  · split at h
    · cases h
    · cases h; exact .refl

theorem State.storeOne_touch {t : State} {c : Nat} {x : Core} {a : W32} {d : List Byte} {u : State} {y : Core}
    {g : State → State} (e : State.storeOne t c x a d = .ok (u, y, g)) :
    Touch { regs := true, shVal := true, shMask := true, resp := true, cfg := true, host := true, cmd := true, cad := true, insts := true, flash := true, buf := true, eng := true, dig := true, srch := true, cores := true, ctlStores := true, scan := true, dram := true, srd := true, knot := true, pwr := true, otp := true, tel := true } t u ∧ ∀ v, Touch { regs := true, shVal := true, shMask := true, resp := true, cfg := true, host := true, cmd := true, cad := true, insts := true, flash := true, buf := true, eng := true, dig := true, srch := true, cores := true, ctlStores := true, scan := true, dram := true, srd := true, knot := true, pwr := true, otp := true, tel := true } v (g v) := by
  unfold State.storeOne at e
  split at e
  · split at e
    · cases e
    · dsimp only at e
      split at e
      · split at e
        · cases e; exact ⟨.refl, fun v => State.regStore_touch.on rfl .refl⟩
        · cases e
      · split at e
        · cases e; exact ⟨State.ctlPut_touch.on rfl .refl, fun v => .refl⟩
        · cases e
      · split at e
        · cases e; exact ⟨State.ctlPut_touch.on rfl .refl, fun v => .refl⟩
        · cases e
      · split at e
        · cases e; exact ⟨.foldl (fun x a h => State.physSet_touch.on rfl h) .refl, fun v => .refl⟩
        · cases e
      · split at e
        · cases e; exact ⟨.foldl (fun x a h => State.physSet_touch.on rfl h) .refl, fun v => .refl⟩
        · cases e
      · cases e
      · cases e
  · split at e
    · cases e; exact ⟨.refl, fun v => .refl⟩
    · cases e

theorem State.storeOne_refused {t : State} {c : Nat} {x : Core} {a : W32} {d : List Byte} {e : AccErr}
    (h : State.storeOne t c x a d = .error e) (u : State) : Touch { regs := true, shVal := true, shMask := true, resp := true, cfg := true, host := true, cmd := true, cad := true, insts := true, flash := true, buf := true, eng := true, dig := true, srch := true, cores := true, ctlStores := true, scan := true, dram := true, srd := true, knot := true, pwr := true, otp := true, tel := true } u (e.1 u) := by
  unfold State.storeOne at h
  split at h
  · split at h
    · cases h; exact .refl
    · dsimp only at h
      split at h
      · split at h
        · cases h
        · cases h; exact State.regStore_touch.on rfl .refl
      all_goals first
        | (split at h <;> cases h; exact .refl)
        | (cases h; exact .refl)
  · split at h
    · cases h
    · cases h; exact .refl

theorem State.loadWords_touch {k : Nat} {t : State} {c : Nat} {x : Core} {a : W32} {u : State} {y : Core} {l : List W32}
    (e : State.loadWords t c x a k = .ok (u, y, l)) : Touch { regs := true, pairHi := true, resp := true, dram := true, tel := true } t u := by
  induction k generalizing t x a u y l with
  | zero => cases e; exact .refl
  | succ k ih =>
    rw [State.loadWords] at e
    split at e
    · cases e
    · next h =>
      split at e
      · cases e
      · next h' => cases e; exact (ih h').on rfl (State.loadOne_touch h)

theorem State.loadWords_refused {k : Nat} {t : State} {c : Nat} {x : Core} {a : W32} {e : AccErr}
    (h : State.loadWords t c x a k = .error e) (u : State) : Touch { regs := true, pairHi := true, resp := true, dram := true, tel := true } u (e.1 u) := by
  induction k generalizing t x a with
  | zero => cases h
  | succ k ih =>
    rw [State.loadWords] at h
    split at h
    · next h' => cases h; exact State.loadOne_refused h' u
    · split at h
      · next h' => cases h; exact ih h'
      · cases h

theorem State.storeWords_touch {l : List W32} {t : State} {c : Nat} {x : Core} {a : W32} {u : State} {y : Core}
    {g : State → State} (e : State.storeWords t c x a l = .ok (u, y, g)) :
    Touch { regs := true, shVal := true, shMask := true, resp := true, cfg := true, host := true, cmd := true, cad := true, insts := true, flash := true, buf := true, eng := true, dig := true, srch := true, cores := true, ctlStores := true, scan := true, dram := true, srd := true, knot := true, pwr := true, otp := true, tel := true } t u ∧ ∀ v, Touch { regs := true, shVal := true, shMask := true, resp := true, cfg := true, host := true, cmd := true, cad := true, insts := true, flash := true, buf := true, eng := true, dig := true, srch := true, cores := true, ctlStores := true, scan := true, dram := true, srd := true, knot := true, pwr := true, otp := true, tel := true } v (g v) := by
  induction l generalizing t x a u y g with
  | nil => cases e; exact ⟨.refl, fun v => .refl⟩
  | cons w l ih =>
    rw [State.storeWords] at e
    split at e
    · cases e
    · next h =>
      split at e
      · cases e
      · next h' =>
        cases e
        have h1 := State.storeOne_touch h
        have h2 := ih h'
        exact ⟨h2.1.on rfl h1.1, fun v => (h2.2 _).on rfl (h1.2 v)⟩

theorem State.storeWords_refused {l : List W32} {t : State} {c : Nat} {x : Core} {a : W32} {e : AccErr}
    (h : State.storeWords t c x a l = .error e) (u : State) : Touch { regs := true, shVal := true, shMask := true, resp := true, cfg := true, host := true, cmd := true, cad := true, insts := true, flash := true, buf := true, eng := true, dig := true, srch := true, cores := true, ctlStores := true, scan := true, dram := true, srd := true, knot := true, pwr := true, otp := true, tel := true } u (e.1 u) := by
  induction l generalizing t x a with
  | nil => cases h
  | cons w l ih =>
    rw [State.storeWords] at h
    split at h
    · next h' => cases h; exact State.storeOne_refused h' u
    · split at h
      · next h' => cases h; exact ih h'
      · cases h

/-- A load leaves what its access leaves. -/
theorem loadBody_touch {c n : Nat} {conv : Nat → W32} {d : GReg} {a : W32} {inc : Core → Core} {t : State} {x : Core} :
    (loadBody c n conv d a inc t x).Touch { regs := true, pairHi := true, resp := true, cmd := true, cores := true, scan := true, dram := true, tel := true, freeCtr := true } t := by
  unfold loadBody
  split
  · exact (Touch.refl : Machine.Touch _ _ _)
  · split
    · next h => exact (State.loadOne_refused h t).on rfl .refl
    · next h => exact ⟨(State.loadOne_touch h).on rfl .refl, fun _ h => h⟩

theorem State.loadImm_touch {s : State} {c : Nat} {g : Guard} {d a : GReg} {imm : BitVec 12} {n : Nat} {conv : Nat → W32} :
    Touch { regs := true, pairHi := true, resp := true, cmd := true, cores := true, scan := true, dram := true, tel := true, freeCtr := true } s (State.loadImm s c g d a imm n conv) := by
  unfold State.loadImm
  exact State.runInstr_touch rfl fun x => loadBody_touch

/-- A store leaves what its access leaves. -/
theorem storeBody_touch {c n : Nat} {v a : W32} {inc : Core → Core} {t : State} {x : Core} :
    (storeBody c n v a inc t x).Touch { regs := true, shVal := true, shMask := true, resp := true, cfg := true, host := true, cmd := true, cad := true, insts := true, flash := true, buf := true, eng := true, dig := true, srch := true, cores := true, ctlStores := true, scan := true, dram := true, srd := true, knot := true, pwr := true, otp := true, tel := true, freeCtr := true } t := by
  unfold storeBody
  split
  · exact (Touch.refl : Machine.Touch _ _ _)
  · split
    · next h => exact (State.storeOne_refused h t).on rfl .refl
    · next h =>
      have k := State.storeOne_touch h
      exact ⟨k.1.on rfl .refl, fun u hu => (k.2 u).on rfl hu⟩

theorem State.storeImm_touch {s : State} {c : Nat} {g : Guard} {d a : GReg} {imm : BitVec 12} {n : Nat} :
    Touch { regs := true, shVal := true, shMask := true, resp := true, cfg := true, host := true, cmd := true, cad := true, insts := true, flash := true, buf := true, eng := true, dig := true, srch := true, cores := true, ctlStores := true, scan := true, dram := true, srd := true, knot := true, pwr := true, otp := true, tel := true, freeCtr := true } s (State.storeImm s c g d a imm n) := by
  unfold State.storeImm
  exact State.runInstr_touch rfl fun x => storeBody_touch

theorem pushWords_touch {c : Nat} {l : List W32} {t : State} {x : Core} {u : State} {y : Core} {g : State → State}
    (e : pushWords c l t x = .ok (u, y, g)) : Touch { regs := true, shVal := true, shMask := true, resp := true, cfg := true, host := true, cmd := true, cad := true, insts := true, flash := true, buf := true, eng := true, dig := true, srch := true, cores := true, ctlStores := true, scan := true, dram := true, srd := true, knot := true, pwr := true, otp := true, tel := true } t u ∧ ∀ v, Touch { regs := true, shVal := true, shMask := true, resp := true, cfg := true, host := true, cmd := true, cad := true, insts := true, flash := true, buf := true, eng := true, dig := true, srch := true, cores := true, ctlStores := true, scan := true, dram := true, srd := true, knot := true, pwr := true, otp := true, tel := true } v (g v) := by
  unfold pushWords at e
  dsimp only at e
  split at e
  · cases e
  · split at e
    · cases e
    · split at e
      · cases e
      · next h => cases e; exact State.storeWords_touch h

theorem pushWords_refused {c : Nat} {l : List W32} {t : State} {x : Core} {e : AccErr}
    (h : pushWords c l t x = .error e) (u : State) : Touch { regs := true, shVal := true, shMask := true, resp := true, cfg := true, host := true, cmd := true, cad := true, insts := true, flash := true, buf := true, eng := true, dig := true, srch := true, cores := true, ctlStores := true, scan := true, dram := true, srd := true, knot := true, pwr := true, otp := true, tel := true } u (e.1 u) := by
  unfold pushWords at h
  dsimp only at h
  split at h
  · cases h; exact .refl
  · split at h
    · cases h; exact .refl
    · split at h
      · next h' => cases h; exact State.storeWords_refused h' u
      · cases h

theorem popWords_touch {c k : Nat} {t : State} {x : Core} {u : State} {y : Core} {l : List W32}
    (e : popWords c k t x = .ok (u, y, l)) : Touch { regs := true, pairHi := true, resp := true, dram := true, tel := true } t u := by
  unfold popWords at e
  dsimp only at e
  split at e
  · cases e
  · split at e
    · cases e
    · split at e
      · cases e
      · next h => cases e; exact State.loadWords_touch h

theorem popWords_refused {c k : Nat} {t : State} {x : Core} {e : AccErr}
    (h : popWords c k t x = .error e) (u : State) : Touch { regs := true, pairHi := true, resp := true, dram := true, tel := true } u (e.1 u) := by
  unfold popWords at h
  dsimp only at h
  split at h
  · cases h; exact .refl
  · split at h
    · cases h; exact .refl
    · split at h
      · next h' => cases h; exact State.loadWords_refused h' u
      · cases h

end Sys2Proof.Machine
end

