-- ==== Sys2Proof/Laws/FootReceive.lean ====
section
/-! SUPPORT. What each operation of Machine/Receive.lean can touch. -/

namespace Sys2Proof.Machine
open Sys2Proof

theorem State.handOn_touch {s : State} {port inst : ℕ} {d : Datagram} :
    Touch { regs := true, host := true } s (State.handOn s port inst d) := by
  unfold State.handOn
  extract_lets v0 v1
  exact .ite (State.drop_touch.on rfl .refl) (.ite (State.drop_touch.on rfl .refl) (.upd_host .refl rfl))

theorem State.checkFrame_touch {s : State} {f : FrameIn} :
    Touch { regs := true, host := true } s (State.checkFrame s f) := by
  unfold State.checkFrame
  extract_lets v0 v1 v2 v3 v4 v5
  refine .ite ?_ ?_
  · exact .refl
  · refine .ite ?_ ?_
    · exact .refl
    · refine .ite ?_ ?_
      · exact State.drop_touch.on rfl .refl
      · refine .ite ?_ ?_
        · exact State.raise_touch.on rfl (State.count_touch.on rfl .refl)
        · refine .ite ?_ ?_
          · exact State.drop_touch.on rfl .refl
          · refine .ite ?_ ?_
            · exact State.drop_touch.on rfl .refl
            · clear_value v3
              split
              · rename_i w6
                exact .ite (State.drop_touch.on rfl .refl) (.upd_host .refl rfl)
              · rename_i w7 w8
                refine .ite ?_ ?_
                · exact State.drop_touch.on rfl .refl
                · refine .ite ?_ ?_
                  · exact State.drop_touch.on rfl .refl
                  · refine .ite ?_ ?_
                    · exact State.drop_touch.on rfl .refl
                    · extract_lets v9
                      exact .ite (State.handOn_touch.on rfl .refl) (.upd_host .refl rfl)

theorem State.frame_touch {s : State} {f : FrameIn} {taken : ℕ} :
    Touch { regs := true, host := true } s (State.frame s f taken) := by
  unfold State.frame
  extract_lets v0 v1 v2 v3 v4
  refine .step (x := v3) (.upd_host .refl rfl) fun h5 => ?_
  exact .ite (.ite (State.checkFrame_touch.on rfl h5) (.upd_host h5 rfl)) (.ite (State.checkFrame_touch.on rfl h5) h5)

theorem State.mgmtWake_touch {s : State} : Touch { regs := true, host := true } s (State.mgmtWake s) := by
  unfold State.mgmtWake
  exact .ite (.foldl (fun x a h => State.checkFrame_touch.on rfl h) (.upd_host .refl rfl)) .refl

theorem State.classify_touch {s : State} {badPrio badAssoc : Bool} :
    Touch { regs := true, host := true, srch := true, freeCtr := true } s (State.classify s badPrio badAssoc) := by
  unfold State.classify
  split
  · rename_i w0 e1
    exact .refl
  · rename_i w2 w3 e4
    split
    · rename_i w5 e6
      exact .refl
    · rename_i w7 w8 w9 e10
      refine .ite ?_ ?_
      · exact .refl
      · extract_lets v11 v12 v13 v14 v15
        refine .step (x := v12) (.upd_host .refl rfl) fun h16 => ?_
        refine .step (x := v13.1) (State.search_touch.on rfl (State.spendSlot_touch.on rfl h16)) fun h17 => ?_
        refine .step (x := v14.1) ?_ fun h18 => ?_
        · unfold v14
          split
          · rename_i e19
            exact State.readOut_touch.on rfl h17
          · rename_i e20
            exact h16
        refine .step (x := v15) h18 fun h21 => ?_
        exact .ite (State.drop_touch.on rfl h21) (.ite (State.drop_touch.on rfl h21) (State.handOn_touch.on rfl h21))

theorem State.acked_touch {s : State} {c : ℕ} {p : TxPdu} :
    Touch { host := true, cmd := true } s (State.acked s c p) := by
  unfold State.acked
  extract_lets v0
  refine .step (x := v0) (.ite (State.reportAcked_touch.on rfl .refl) .refl) fun h1 => ?_
  exact .ite (State.modConn_touch.on rfl h1) h1

theorem State.freeIfClosed_touch {s : State} {c : ℕ} :
    Touch { host := true, cmd := true, tel := true } s (State.freeIfClosed s c) := by
  unfold State.freeIfClosed
  split
  · rename_i w0 e1
    exact .refl
  · rename_i w2 w3 e4
    exact .ite (State.freeConn_touch.on rfl (.ite (State.sendAck_touch.on rfl .refl) .refl)) .refl

theorem State.takeAck_touch {s : State} {c : ℕ} {p : PduIn} :
    Touch { regs := true, host := true, cmd := true, insts := true, tel := true } s (State.takeAck s c p) := by
  unfold State.takeAck
  split
  · rename_i w0 e1
    exact .refl
  · rename_i w2 w3 e4
    refine .ite ?_ ?_
    · exact .refl
    · extract_lets v5 v6 v7 v8 v9
      refine .step (x := v8) (State.setConn_touch.on rfl .refl) fun h10 => ?_
      refine .step (x := v9) (.foldl (fun x12 y13 h14 => (State.acked_touch.on rfl h14)) h10) fun h11 => ?_
      exact State.freeIfClosed_touch.on rfl (State.drainWaiting_touch.on rfl h11)

theorem State.undeliver_touch {s : State} {p : PduIn} :
    Touch { host := true } s (State.undeliver s p) := by
  unfold State.undeliver
  exact .upd_host .refl rfl

theorem State.pduIn_touch {s : State} {p : PduIn} :
    Touch { regs := true, host := true, cmd := true, tel := true } s (State.pduIn s p).1 := by
  unfold State.pduIn
  extract_lets v0
  refine .step (x := v0) (State.undeliver_touch.on rfl .refl) fun h1 => ?_
  split
  · rename_i e2
    exact State.drop_touch.on rfl h1
  · rename_i e3
    split
    · rename_i w4 e5
      exact State.replyNoConn_touch.on rfl (State.drop_touch.on rfl h1)
    · rename_i w6 w7 e8
      split
      · rename_i e9
        exact State.drop_touch.on rfl h1
      · rename_i e10
        split
        · rename_i e11
          exact State.replyNoConn_touch.on rfl (State.drop_touch.on rfl h1)
        · rename_i e12
          exact h1

theorem State.heard_touch {s : State} {c : ℕ} {p : PduIn} {opens valid : Bool} :
    Touch { host := true } s (State.heard s c p opens valid) := by
  unfold State.heard
  exact State.modConn_touch.on rfl .refl

theorem State.ackNow_touch {s : State} {c : ℕ} {psn : W32} {req : Bool} {was : W64} :
    Touch { host := true, cmd := true, tel := true } s (State.ackNow s c psn req was) := by
  unfold State.ackNow
  split
  · rename_i w0 e1
    exact .refl
  · rename_i w2 w3 e4
    extract_lets v5 v6 v7
    refine .step (x := v6) (.ite (State.sendAck_touch.on rfl .refl) .refl) fun h8 => ?_
    exact .ite (State.sendUnseq_touch.on rfl (State.modConn_touch.on rfl h8)) h8

theorem State.takeClose_touch {s : State} {c : ℕ} :
    Touch { host := true, cmd := true, tel := true } s (State.takeClose s c) := by
  unfold State.takeClose
  exact State.freeIfClosed_touch.on rfl (State.modConn_touch.on rfl .refl)

theorem State.takeHeld_touch {s : State} {c : ℕ} {a : HeldPdu} :
    Touch { regs := true, host := true, cmd := true, cad := true, insts := true, flash := true, buf := true, eng := true, dig := true, srch := true, cores := true, scan := true, dram := true, knot := true, tel := true } s (State.takeHeld s c a) := by
  unfold State.takeHeld
  split
  · rename_i w0 w1 w2
    exact State.receiveCmd_touch.on rfl .refl
  · rename_i w3 w4 w5
    exact State.abortTag_touch.on rfl (State.setMac_touch.on rfl .refl)
  · rename_i w6 w7
    exact State.takeClose_touch.on rfl (State.setMac_touch.on rfl .refl)

theorem State.handOver_touch {f : Nat} {s : State} {c : Nat} : Touch { regs := true, host := true, cmd := true, cad := true, insts := true, flash := true, buf := true, eng := true, dig := true, srch := true, cores := true, scan := true, dram := true, knot := true, tel := true } s (State.handOver f s c) := by
  induction f generalizing s with
  | zero => exact .refl
  | succ f ih =>
    rw [State.handOver]
    split
    · exact .refl
    · split
      · exact .refl
      · exact .ite .refl (ih.on rfl (State.takeHeld_touch.on rfl (State.setConn_touch.on rfl .refl)))

theorem State.sequenced_touch {F : Foot} {s : State} {p : PduIn} {h : Option HeldPdu} {act : State → State}
    (hF : Foot.le { regs := true, host := true, cmd := true, cad := true, insts := true, flash := true, buf := true, eng := true, dig := true, srch := true, cores := true, scan := true, dram := true, knot := true, tel := true } F = true) (ha : ∀ t, Touch F s t → Touch F s (act t)) : Touch F s (State.sequenced s p h act) := by
  unfold State.sequenced
  split
  · next e => exact (Touch.fst e (State.pduIn_touch.on rfl (.refl (f := { regs := true, host := true, cmd := true, cad := true, insts := true, flash := true, buf := true, eng := true, dig := true, srch := true, cores := true, scan := true, dram := true, knot := true, tel := true })))).on hF .refl
  · next t x e =>
    have h1 : Touch F s t := (Touch.fst e (State.pduIn_touch.on rfl (.refl (f := { regs := true, host := true, cmd := true, cad := true, insts := true, flash := true, buf := true, eng := true, dig := true, srch := true, cores := true, scan := true, dram := true, knot := true, tel := true })))).on hF .refl
    have h2 : ∀ {u v : State}, Touch { regs := true, host := true, cmd := true, cad := true, insts := true, flash := true, buf := true, eng := true, dig := true, srch := true, cores := true, scan := true, dram := true, knot := true, tel := true } u v → Touch F s u → Touch F s v := fun a b => a.on hF b
    dsimp only
    refine .ite (h2 (State.sendAck_touch.on rfl (State.drop_touch.on rfl (State.heard_touch.on rfl .refl))) h1)
      (.ite (h2 (State.sendAck_touch.on rfl (State.drop_touch.on rfl (State.heard_touch.on rfl .refl))) h1)
        (h2 (State.handOver_touch.on rfl .refl) (ha _ (h2 ?_ h1))))
    exact State.ackNow_touch.on rfl (State.takeAck_touch.on rfl (State.heard_touch.on rfl (State.setConn_touch.on rfl .refl)))

theorem State.dataDone_touch {s : State} {n : ℕ} :
    Touch { regs := true, shVal := true, shMask := true, pairHi := true, resp := true, cfg := true, host := true, cmd := true, cad := true, insts := true, flash := true, buf := true, eng := true, dig := true, srch := true, cores := true, scan := true, dram := true, srd := true, knot := true, pwr := true, otp := true, tel := true } s (State.dataDone s n) := by
  unfold State.dataDone
  split
  · rename_i w0 e1
    exact .refl
  · rename_i w2 w3 e4
    extract_lets v5 v6 v7
    refine .step (x := v6) (State.modItem_touch.on rfl .refl) fun h8 => ?_
    refine .step (x := v7) (State.carveWrite_touch.on rfl (.ite (State.staged_touch.on rfl h8) h8)) fun h9 => ?_
    exact .ite (State.begin'_touch.on rfl h9) h9

theorem State.dataIn_touch {s : State} {n : ℕ} {it : Item} {o : ℕ} {data : List Byte} :
    Touch { regs := true, shVal := true, shMask := true, pairHi := true, resp := true, cfg := true, host := true, cmd := true, cad := true, insts := true, flash := true, buf := true, eng := true, dig := true, srch := true, cores := true, scan := true, dram := true, srd := true, knot := true, pwr := true, otp := true, tel := true } s (State.dataIn s n it o data) := by
  unfold State.dataIn
  refine .ite ?_ ?_
  · exact State.lengthMismatch_touch.on rfl .refl
  · extract_lets v0 v1 v2 v3
    refine .step (x := v2) (State.modItem_touch.on rfl .refl) fun h4 => ?_
    refine .step (x := v3) (State.landData_touch.on rfl h4) fun h5 => ?_
    exact .ite (State.dataDone_touch.on rfl h5) h5

theorem State.dataOut_touch {s : State} {p : PduIn} :
    Touch { regs := true, shVal := true, shMask := true, pairHi := true, resp := true, cfg := true, host := true, cmd := true, cad := true, insts := true, flash := true, buf := true, eng := true, dig := true, srch := true, cores := true, scan := true, dram := true, srd := true, knot := true, pwr := true, otp := true, tel := true } s (State.dataOut s p) := by
  unfold State.dataOut
  refine State.sequenced_touch rfl fun t h => ?_
  split
  · exact State.drop_touch.on rfl h
  · exact State.dataIn_touch.on rfl h

theorem State.release_touch {s : State} {c tag bytes : ℕ} :
    Touch { cmd := true } s (State.release s c tag bytes) := by
  unfold State.release
  split
  · rename_i w0 e1
    exact .refl
  · rename_i w2 w3 e4
    exact State.modItem_touch.on rfl .refl

theorem State.ackPdu_touch {s : State} {p : PduIn} :
    Touch { regs := true, host := true, cmd := true, insts := true, tel := true } s (State.ackPdu s p) := by
  unfold State.ackPdu
  split
  · rename_i w0 w1 e2
    refine .step (x := w1) (.fst e2 (State.pduIn_touch.on rfl .refl)) fun h3 => ?_
    exact h3
  · rename_i w4 w5 w6 e7
    refine .step (x := w5) (.fst e7 (State.pduIn_touch.on rfl .refl)) fun h8 => ?_
    extract_lets v9 v10
    refine .step (x := v9) (State.takeAck_touch.on rfl (State.heard_touch.on rfl h8)) fun h11 => ?_
    refine .step (x := v10) (.foldl (fun x13 y14 h15 => (State.release_touch.on rfl h15)) h11) fun h12 => ?_
    exact .ite (State.sendAck_touch.on rfl h12) h12

theorem State.nakPdu_touch {s : State} {p : PduIn} :
    Touch { regs := true, host := true, cmd := true, insts := true, tel := true } s (State.nakPdu s p) := by
  unfold State.nakPdu
  split
  · rename_i w0 w1 e2
    refine .step (x := w1) (.fst e2 (State.pduIn_touch.on rfl .refl)) fun h3 => ?_
    exact h3
  · rename_i w4 w5 w6 e7
    refine .step (x := w5) (.fst e7 (State.pduIn_touch.on rfl .refl)) fun h8 => ?_
    extract_lets v9 v10 v11
    refine .step (x := v10) (State.takeAck_touch.on rfl (State.heard_touch.on rfl h8)) fun h12 => ?_
    refine .step (x := v11) ?_ fun h13 => ?_
    · unfold v11
      split
      · rename_i w14 w15 e16
        exact State.resend_touch.on rfl h12
      · rename_i w17 e18
        exact h12
    exact .ite (State.sendAck_touch.on rfl h13) h13

theorem State.keepPdu_touch {s : State} {p : PduIn} :
    Touch { regs := true, host := true, cmd := true, insts := true, tel := true } s (State.keepPdu s p) := by
  unfold State.keepPdu
  split
  · rename_i w0 w1 e2
    refine .step (x := w1) (.fst e2 (State.pduIn_touch.on rfl .refl)) fun h3 => ?_
    exact h3
  · rename_i w4 w5 w6 e7
    refine .step (x := w5) (.fst e7 (State.pduIn_touch.on rfl .refl)) fun h8 => ?_
    extract_lets v9
    refine .step (x := v9) (State.takeAck_touch.on rfl (State.heard_touch.on rfl h8)) fun h10 => ?_
    exact .ite (State.sendAck_touch.on rfl h10) h10

theorem State.newConn_touch {s : State} {p : PduIn} {c version : ℕ} :
    Touch { host := true, cmd := true, tel := true, freeCtr := true } s (State.newConn s p c version) := by
  unfold State.newConn
  extract_lets v0 v1 v2 v3 v4 v5 v6 v7 v8 v9 v10
  refine .step (x := v0.2) (State.free_touch.on rfl .refl) fun h11 => ?_
  refine .step (x := v1) h11 fun h12 => ?_
  exact State.sendUnseq_touch.on rfl (State.setConn_touch.on rfl h12)

theorem State.takeHello_touch {s : State} {p : PduIn} :
    Touch { regs := true, host := true, cmd := true, tel := true, freeCtr := true } s (State.takeHello s p) := by
  unfold State.takeHello
  split
  · rename_i w0 e1
    exact State.replyClose_touch.on rfl (State.drop_touch.on rfl .refl)
  · rename_i w2 w3 e4
    split
    · rename_i w5 w6 w7 e8 e9
      exact State.newConn_touch.on rfl .refl
    · rename_i w10 w11 e12
      exact State.replyClose_touch.on rfl (State.drop_touch.on rfl .refl)

theorem State.hello_touch {s : State} {p : PduIn} :
    Touch { regs := true, host := true, cmd := true, cad := true, insts := true, flash := true, buf := true, eng := true, dig := true, srch := true, cores := true, scan := true, dram := true, knot := true, tel := true, freeCtr := true } s (State.hello s p) := by
  unfold State.hello
  extract_lets v0 v1
  refine .step (x := v0) (State.undeliver_touch.on rfl .refl) fun h2 => ?_
  refine .ite ?_ ?_
  · exact State.drop_touch.on rfl h2
  · refine .ite ?_ ?_
    · exact State.drop_touch.on rfl h2
    · split
      · rename_i w3 e4
        exact State.takeHello_touch.on rfl h2
      · rename_i w5 w6 w7 e8
        exact .ite (State.sendUnseq_touch.on rfl (State.heard_touch.on rfl h2)) (State.takeHello_touch.on rfl (State.failConn_touch.on rfl h2))

end Sys2Proof.Machine
end

