-- ==== Sys2Proof/Laws/FootSend.lean ====
section
/-! SUPPORT. What each operation of Machine/Send.lean can touch. -/

namespace Sys2Proof.Machine
open Sys2Proof

theorem State.grant_touch {s : State} {n : ℕ} :
    Touch { regs := true, host := true, cmd := true, insts := true, tel := true } s (State.grant s n) := by
  unfold State.grant
  split
  · rename_i w0 e1
    exact .refl
  · rename_i w2 w3 e4
    refine .ite ?_ ?_
    · exact .refl
    · extract_lets v5 v6 v7
      refine .step (x := v7) (State.modItem_touch.on rfl .refl) fun h8 => ?_
      exact State.sendSeq_touch.on rfl h8

theorem State.dataSend_touch {s : State} {n len : ℕ} :
    Touch { regs := true, host := true, cmd := true, insts := true, tel := true } s (State.dataSend s n len) := by
  unfold State.dataSend
  extract_lets v0 v1 v2
  refine .step (x := v0) .refl fun h3 => ?_
  refine .step (x := v1) (State.migSnapshot_touch.on rfl .refl) fun h4 => ?_
  refine .step (x := v2) (State.modItem_touch.on rfl h4) fun h5 => ?_
  split
  · rename_i w6 e7
    exact h4
  · rename_i w8 w9 e10
    split
    · rename_i w11 e12
      exact h3
    · rename_i w13 w14 e15
      extract_lets v16 v17
      exact .ite h3 (State.sendSeq_touch.on rfl h5)

theorem State.transmit_touch {s : State} {port sub : ℕ} :
    Touch { host := true, cmd := true, tel := true } s (State.transmit s port sub) := by
  unfold State.transmit
  exact .ite (State.sendFrame_touch.on rfl .refl) .refl

theorem State.retxTimeout_touch {s : State} {c : ℕ} :
    Touch { regs := true, host := true, cmd := true, cad := true, insts := true, flash := true, buf := true, eng := true, dig := true, srch := true, cores := true, scan := true, dram := true, knot := true, tel := true } s (State.retxTimeout s c) := by
  unfold State.retxTimeout
  split
  · rename_i w0 e1
    exact .refl
  · rename_i w2 w3 e4
    split
    · rename_i w5 e6
      exact .refl
    · rename_i w7 w8 w9 e10
      exact .ite .refl (.ite (State.failConn_touch.on rfl .refl) (State.modConn_touch.on rfl (State.resend_touch.on rfl .refl)))

theorem State.keepSend_touch {s : State} {c : ℕ} :
    Touch { host := true, cmd := true, tel := true } s (State.keepSend s c) := by
  unfold State.keepSend
  split
  · rename_i w0 e1
    exact .refl
  · rename_i w2 w3 e4
    exact .ite .refl (State.sendUnseq_touch.on rfl .refl)

theorem State.keepTimeout_touch {s : State} {c : ℕ} :
    Touch { regs := true, host := true, cmd := true, cad := true, insts := true, flash := true, buf := true, eng := true, dig := true, srch := true, cores := true, scan := true, dram := true, knot := true, tel := true } s (State.keepTimeout s c) := by
  unfold State.keepTimeout
  split
  · rename_i w0 e1
    exact .refl
  · rename_i w2 w3 e4
    exact .ite .refl (State.failConn_touch.on rfl .refl)

theorem State.delayedAck_touch {s : State} {c : ℕ} :
    Touch { host := true, cmd := true, tel := true } s (State.delayedAck s c) := by
  unfold State.delayedAck
  split
  · rename_i w0 e1
    exact .refl
  · rename_i w2 w3 e4
    exact .ite (State.sendAck_touch.on rfl .refl) .refl

theorem State.helloTimeout_touch {s : State} {c : ℕ} :
    Touch { host := true } s (State.helloTimeout s c) := by
  unfold State.helloTimeout
  split
  · rename_i w0 e1
    exact .refl
  · rename_i w2 w3 e4
    exact .ite (State.freeConn_touch.on rfl .refl) .refl

theorem State.dataTimeout_touch {s : State} {n : ℕ} :
    Touch { regs := true, host := true, cmd := true, cad := true, insts := true, flash := true, buf := true, eng := true, dig := true, srch := true, cores := true, scan := true, dram := true, knot := true, tel := true } s (State.dataTimeout s n) := by
  unfold State.dataTimeout
  split
  · rename_i w0 e1
    exact .refl
  · rename_i w2 w3 e4
    exact .ite (State.lengthMismatch_touch.on rfl .refl) .refl

theorem State.closeNormal_touch {s : State} {c : ℕ} :
    Touch { regs := true, host := true, cmd := true, insts := true, tel := true } s (State.closeNormal s c) := by
  unfold State.closeNormal
  split
  · rename_i w0 e1
    exact .refl
  · rename_i w2 w3 e4
    exact .ite (State.sendClose_touch.on rfl .refl) .refl

theorem State.linkChange_touch {s : State} {port sub : ℕ} {up : Bool} :
    Touch { regs := true } s (State.linkChange s port sub up) := by
  unfold State.linkChange
  refine .ite ?_ ?_
  · exact .refl
  · extract_lets v0 v1
    exact .ite .refl (State.raise_touch.on rfl (State.setFld_touch.on rfl .refl))

theorem State.cmdPdu_touch {s : State} {op : Nat} {c : CmdIn} :
    Touch { regs := true, host := true, cmd := true, cad := true, insts := true, flash := true, buf := true, eng := true, dig := true, srch := true, cores := true, scan := true, dram := true, knot := true, tel := true } s (State.cmdPdu s op c) := by
  unfold State.cmdPdu
  exact State.sequenced_touch rfl fun _ h => h

theorem State.unknownCmd_touch {s : State} {op : ℕ} {c : CmdIn} :
    Touch { regs := true, host := true, cmd := true, cad := true, insts := true, flash := true, buf := true, eng := true, dig := true, srch := true, cores := true, scan := true, dram := true, knot := true, tel := true } s (State.unknownCmd s op c) := by
  unfold State.unknownCmd
  split
  · rename_i w0 e1
    exact State.cmdPdu_touch.on rfl .refl
  · rename_i w2 w3 e4
    exact .ite .refl (State.cmdPdu_touch.on rfl .refl)

end Sys2Proof.Machine
end

