-- ==== Sys2Proof/Laws/FootXAdmit.lean ====
section
/-! SUPPORT. What each command of Machine/Admit.lean can touch. -/

namespace Sys2Proof.Machine
open Sys2Proof

theorem execAdmissionDecision_touch {plans : List (List Demand)} {late : Bool} {ns : ℕ} {s : State} :
    Leaves { regs := true, shVal := true, shMask := true, pairHi := true, resp := true, cfg := true, host := true, cmd := true, cad := true, insts := true, flash := true, buf := true, eng := true, dig := true, srch := true, cores := true, scan := true, dram := true, srd := true, knot := true, pwr := true, otp := true, tel := true, freeCtr := true } s (execAdmissionDecision plans late ns s) := by
  unfold execAdmissionDecision
  change Touch _ s _
  exact State.admitWork_touch.on rfl .refl

theorem execCommandComplete_touch {item : ℕ} {s : State} :
    Leaves { regs := true, shVal := true, shMask := true, cfg := true, host := true, cmd := true, cad := true, insts := true, flash := true, buf := true, eng := true, dig := true, srch := true, cores := true, scan := true, dram := true, srd := true, knot := true, tel := true } s (execCommandComplete item s) := by
  unfold execCommandComplete
  change Touch _ s _
  exact State.complete_touch.on rfl .refl

theorem execFlushComplete_touch {item : ℕ} {s : State} :
    Leaves { regs := true, host := true, cmd := true, cad := true, insts := true, flash := true, buf := true, dram := true, knot := true, tel := true } s (execFlushComplete item s) := by
  unfold execFlushComplete
  change Touch _ s _
  exact State.flushDone_touch.on rfl .refl

end Sys2Proof.Machine
end

