-- ==== Sys2Proof/Laws/FootXApply.lean ====
section
/-! SUPPORT. What each command of Machine/Apply.lean can touch. -/

namespace Sys2Proof.Machine
open Sys2Proof

theorem execBegin_touch {req : ℕ} {s : State} :
    Leaves { regs := true } s (execBegin req s) := by
  unfold execBegin
  change Touch _ s _
  exact .ite (State.txnBegin_touch.on rfl .refl) .refl

theorem execCommit_touch {req : ℕ} {s : State} :
    Leaves { regs := true, shVal := true, shMask := true, cfg := true, dram := true, tel := true } s (execCommit req s) := by
  unfold execCommit
  change Touch _ s _
  exact .ite (State.txnCommit_touch.on rfl .refl) .refl

theorem execRollback_touch {req : ℕ} {s : State} :
    Leaves { regs := true, shVal := true, shMask := true } s (execRollback req s) := by
  unfold execRollback
  change Touch _ s _
  exact .ite (State.txnRollback_touch.on rfl .refl) .refl

theorem execHoldDeadline_touch {s : State} :
    Leaves { regs := true, cfg := true, dram := true, tel := true } s (execHoldDeadline s) := by
  unfold execHoldDeadline
  change Touch _ s _
  exact State.holdDeadline_touch.on rfl .refl

theorem execTxnTimeout_touch {s : State} :
    Leaves { regs := true, shVal := true, shMask := true, cfg := true, dram := true, tel := true } s (execTxnTimeout s) := by
  unfold execTxnTimeout
  change Touch _ s _
  exact State.txnTimeout_touch.on rfl .refl

theorem execFuseSlotProgrammed_touch {ok : Bool} {s : State} :
    Leaves { regs := true, shVal := true, shMask := true, cfg := true, dram := true, otp := true, tel := true } s (execFuseSlotProgrammed ok s) := by
  unfold execFuseSlotProgrammed
  change Touch _ s _
  exact State.slotProgrammed_touch.on rfl .refl

end Sys2Proof.Machine
end

