-- ==== Sys2Proof/Laws/FootXBoot.lean ====
section
/-! SUPPORT. What each command of Machine/Boot.lean can touch. -/

namespace Sys2Proof.Machine
open Sys2Proof

theorem execStartWatchdogExpiry_touch {s : State} :
    Leaves { regs := true, shVal := true, shMask := true, cfg := true, cores := true, dram := true, otp := true, tel := true } s (execStartWatchdogExpiry s) := by
  unfold execStartWatchdogExpiry
  change Touch _ s _
  exact State.wdExpire_touch.on rfl .refl

theorem execScrapErase_touch {s : State} :
    Leaves { regs := true, flash := true, otp := true } s (execScrapErase s) := by
  unfold execScrapErase
  change Touch _ s _
  exact State.scrapErase_touch.on rfl .refl

theorem execActivationGraceExpiry_touch {s : State} :
    Leaves { regs := true, shVal := true, shMask := true, cfg := true, host := true, cmd := true, cad := true, insts := true, flash := true, buf := true, eng := true, dig := true, srch := true, cores := true, scan := true, dram := true, knot := true, otp := true, tel := true } s (execActivationGraceExpiry s) := by
  unfold execActivationGraceExpiry
  change Touch _ s _
  exact State.graceExpiry_touch.on rfl .refl

end Sys2Proof.Machine
end

