-- ==== Sys2Proof/Laws/FootXBuf.lean ====
section
/-! SUPPORT. What each command of Machine/Buf.lean can touch. -/

namespace Sys2Proof.Machine
open Sys2Proof

theorem execAlloc_touch {q : BufReq} {p : ℕ} {booked fb chain : Bool} {s : State} : Leaves { regs := true, buf := true, dram := true, tel := true } s (execAlloc q p booked fb chain s) := by
  change Touch _ s _
  exact (State.inCycle_touch fun x => State.alloc_touch).on rfl (State.cycleOn_touch.on rfl .refl)

theorem execCell_touch {q : BufReq} {t : ℕ} {s : State} : Leaves { regs := true, buf := true, dram := true, tel := true } s (execCell q t s) := by
  change Touch _ s _
  exact (State.inCycle_touch fun x => State.cell_touch).on rfl (State.cycleOn_touch.on rfl .refl)

theorem execHitch_touch {q : BufReq} {h b : ℕ} {s : State} :
    Leaves { regs := true, buf := true, dram := true, tel := true } s (execHitch q h b s) := by
  unfold execHitch
  change Touch _ s _
  exact State.hitch_touch.on rfl (State.cycleOn_touch.on rfl .refl)

theorem execFree_touch {q : BufReq} {h : ℕ} {s : State} :
    Leaves { regs := true, buf := true, dram := true, tel := true } s (execFree q h s) := by
  unfold execFree
  change Touch _ s _
  exact State.freeBuf_touch.on rfl (State.cycleOn_touch.on rfl .refl)

theorem execFreeListRebuild_touch {p : ℕ} {s : State} :
    Leaves { regs := true, buf := true } s (execFreeListRebuild p s) := by
  unfold execFreeListRebuild
  change Touch _ s _
  exact State.rebuilt_touch.on rfl .refl

end Sys2Proof.Machine
end

