-- ==== Sys2Proof/Laws/FootXDigest.lean ====
section
/-! SUPPORT. What each command of Machine/Digest.lean can touch. -/

namespace Sys2Proof.Machine
open Sys2Proof

theorem execFwqDescriptorStart_touch {grp : ℕ} {s : State} :
    Leaves { regs := true, buf := true, eng := true, dig := true, cores := true, dram := true, tel := true } s (execFwqDescriptorStart grp s) := by
  unfold execFwqDescriptorStart
  change Touch _ s _
  exact .ite (State.digDescStart_touch.on rfl .refl) (.ite (State.descStart_touch.on rfl .refl) .refl)

theorem execLoad_touch {slot req : ℕ} {s : State} :
    Leaves { regs := true, dig := true, dram := true, tel := true } s (execLoad slot req s) := by
  unfold execLoad
  change Touch _ s _
  exact State.ksWrite_touch.on rfl .refl

theorem execErase_touch {slot req : ℕ} {s : State} :
    Leaves { regs := true, dig := true, dram := true, tel := true } s (execErase slot req s) := by
  unfold execErase
  change Touch _ s _
  exact State.ksWrite_touch.on rfl .refl

theorem execLock_touch {slot req : ℕ} {s : State} :
    Leaves { regs := true, dig := true, dram := true, tel := true } s (execLock slot req s) := by
  unfold execLock
  change Touch _ s _
  exact State.ksWrite_touch.on rfl .refl

theorem execDigestBlockEnd_touch {e : ℕ} {upA upB : Bool} {s : State} :
    Leaves { regs := true, cmd := true, buf := true, eng := true, dig := true, cores := true, dram := true, tel := true } s (execDigestBlockEnd e upA upB s) := by
  unfold execDigestBlockEnd
  change Touch _ s _
  exact State.digestBlockEnd_touch.on rfl .refl

end Sys2Proof.Machine
end

