-- ==== Sys2Proof/Laws/FootXDram.lean ====
section
/-! SUPPORT. What each command of Machine/Dram.lean can touch. -/

namespace Sys2Proof.Machine
open Sys2Proof

theorem execRefreshTick_touch {ch rank : ℕ} {s : State} :
    Leaves { regs := true, dram := true } s (execRefreshTick ch rank s) := by
  unfold execRefreshTick
  change Touch _ s _
  exact State.refreshTick_touch.on rfl .refl

theorem execSelfRefreshEntry_touch {ch rank : ℕ} {s : State} :
    Leaves { dram := true } s (execSelfRefreshEntry ch rank s) := by
  unfold execSelfRefreshEntry
  change Touch _ s _
  exact State.srEnter_touch.on rfl .refl

theorem execSrDrainComplete_touch {ch rank : ℕ} {s : State} :
    Leaves { regs := true, dram := true } s (execSrDrainComplete ch rank s) := by
  unfold execSrDrainComplete
  change Touch _ s _
  exact State.srDrained_touch.on rfl .refl

theorem execAlert_touch {ch : ℕ} {s : State} :
    Leaves { regs := true, dram := true } s (execAlert ch s) := by
  unfold execAlert
  change Touch _ s _
  exact State.dramAlert_touch.on rfl .refl

theorem execDramTraining_touch {dimms : List DimmIn} {s : State} :
    Leaves { regs := true, dram := true, tel := true } s (execDramTraining dimms s) := by
  unfold execDramTraining
  change Touch _ s _
  exact State.dramTrained_touch.on rfl .refl

end Sys2Proof.Machine
end

