-- ==== Sys2Proof/Laws/FootXDramCmd.lean ====
section
/-! SUPPORT. What each command of Machine/DramCmd.lean can touch. -/

namespace Sys2Proof.Machine
open Sys2Proof

theorem execDriftTracking_touch {ch rank : ℕ} {dly : List ℕ} {s : State} :
    Leaves { regs := true } s (execDriftTracking ch rank dly s) := by
  unfold execDriftTracking
  change Touch _ s _
  exact State.driftTrack_touch.on rfl .refl

theorem execDramRead_touch {port a ecc : ℕ} {obj : DramObj} {slots : ℕ} {s : State} :
    Leaves { regs := true, host := true, cmd := true, cad := true, insts := true, flash := true, buf := true, eng := true, dig := true, srch := true, cores := true, scan := true, dram := true, knot := true, otp := true, tel := true } s (execDramRead port a ecc obj slots s) := by
  unfold execDramRead
  change Touch _ s _
  exact State.dramHits_touch.on rfl (State.dramReadReq_touch.on rfl .refl)

theorem execDramWrite_touch {port a : ℕ} {data : List Byte} {ecc slots : ℕ} {s : State} :
    Leaves { regs := true, host := true, cmd := true, cad := true, insts := true, flash := true, buf := true, eng := true, dig := true, srch := true, cores := true, scan := true, dram := true, knot := true, otp := true, tel := true } s (execDramWrite port a data ecc slots s) := by
  unfold execDramWrite
  change Touch _ s _
  exact State.dramHits_touch.on rfl (State.dramWriteReq_touch.on rfl .refl)

theorem execSelfRefreshExit_touch {ch rank : ℕ} {s : State} :
    Leaves { regs := true, host := true, cmd := true, cad := true, insts := true, flash := true, buf := true, eng := true, dig := true, srch := true, cores := true, scan := true, dram := true, knot := true, otp := true, tel := true } s (execSelfRefreshExit ch rank s) := by
  unfold execSelfRefreshExit
  change Touch _ s _
  exact State.dramHits_touch.on rfl (State.srExit_touch.on rfl .refl)

theorem execAlertRecoveryEnd_touch {ch : ℕ} {met : Bool} {recs : List ℕ} {s : State} :
    Leaves { regs := true, host := true, cmd := true, cad := true, insts := true, flash := true, buf := true, eng := true, dig := true, srch := true, cores := true, scan := true, dram := true, knot := true, otp := true, tel := true } s (execAlertRecoveryEnd ch met recs s) := by
  unfold execAlertRecoveryEnd
  change Touch _ s _
  exact State.recoveryEnd_touch.on rfl .refl

theorem execDramScrub_touch {a ecc : ℕ} {obj : DramObj} {s : State} :
    Leaves { regs := true, host := true, insts := true, flash := true, dram := true, otp := true, tel := true } s (execDramScrub a ecc obj s) := by
  unfold execDramScrub
  change Touch _ s _
  exact State.dramScrub_touch.on rfl .refl

end Sys2Proof.Machine
end

