-- ==== Sys2Proof/Laws/FootXEngine.lean ====
section
/-! SUPPORT. What each command of Machine/Engine.lean can touch. -/

namespace Sys2Proof.Machine
open Sys2Proof

theorem execEngineDispatch_touch {grp : ℕ} {s : State} :
    Leaves { regs := true, eng := true } s (execEngineDispatch grp s) := by
  unfold execEngineDispatch
  change Touch _ s _
  exact .ite (State.engineDispatch_touch.on rfl .refl) .refl

theorem execFwqDescriptorDone_touch {grp i : ℕ} {s : State} :
    Leaves { regs := true, buf := true, eng := true, cores := true, dram := true } s (execFwqDescriptorDone grp i s) := by
  unfold execFwqDescriptorDone
  change Touch _ s _
  exact State.descBack_touch.on rfl .refl

end Sys2Proof.Machine
end

