-- ==== Sys2Proof/Laws/FootXFates.lean ====
section
/-! SUPPORT. What each command of Machine/Fates.lean can touch. -/

namespace Sys2Proof.Machine
open Sys2Proof

theorem execAbortComplete_touch {item : ℕ} {s : State} :
    Leaves { regs := true, host := true, cmd := true, cad := true, insts := true, flash := true, buf := true, dram := true, knot := true, tel := true } s (execAbortComplete item s) := by
  unfold execAbortComplete
  change Touch _ s _
  exact State.abortComplete_touch.on rfl .refl

theorem execCalendarSlotAdvance_touch {us : ℕ} {s : State} :
    Leaves { regs := true, host := true, cmd := true, cad := true, insts := true, flash := true, buf := true, eng := true, dig := true, srch := true, cores := true, scan := true, dram := true, knot := true, tel := true, freeCtr := true } s (execCalendarSlotAdvance us s) := by
  unfold execCalendarSlotAdvance
  change Touch _ s _
  exact State.passTime_touch.on rfl .refl

theorem execDeadlineWatchdog_touch {item unit : ℕ} {s : State} :
    Leaves { regs := true, host := true, cmd := true, cad := true, insts := true, flash := true, buf := true, eng := true, dig := true, srch := true, cores := true, scan := true, dram := true, knot := true, tel := true } s (execDeadlineWatchdog item unit s) := by
  unfold execDeadlineWatchdog
  change Touch _ s _
  exact State.watchdog_touch.on rfl .refl

end Sys2Proof.Machine
end

