-- ==== Sys2Proof/Laws/FootXFlash.lean ====
section
/-! SUPPORT. What each command of Machine/Flash.lean can touch. -/

namespace Sys2Proof.Machine
open Sys2Proof

theorem execDieDispatch_touch {die : ℕ} {s : State} :
    Leaves { regs := true, flash := true } s (execDieDispatch die s) := by
  unfold execDieDispatch
  change Touch _ s _
  exact State.dieDispatch_touch.on rfl .refl

theorem execSenseComplete_touch {die : ℕ} {s : State} :
    Leaves { cmd := true, flash := true } s (execSenseComplete die s) := by
  unfold execSenseComplete
  change Touch _ s _
  exact State.senseDone_touch.on rfl .refl

theorem execSuspendComplete_touch {die : ℕ} {s : State} :
    Leaves { flash := true } s (execSuspendComplete die s) := by
  unfold execSuspendComplete
  change Touch _ s _
  exact State.suspendDone_touch.on rfl .refl

theorem execProgramComplete_touch {die : ℕ} {s : State} :
    Leaves { regs := true, flash := true } s (execProgramComplete die s) := by
  unfold execProgramComplete
  change Touch _ s _
  exact State.programDone_touch.on rfl .refl

theorem execProgramFailure_touch {die : ℕ} {place : Place} {s : State} :
    Leaves { regs := true, host := true, cmd := true, insts := true, flash := true, dram := true, tel := true } s (execProgramFailure die place s) := by
  unfold execProgramFailure
  change Touch _ s _
  exact State.programFailed_touch.on rfl .refl

theorem execEraseComplete_touch {die : ℕ} {s : State} :
    Leaves { regs := true, host := true, flash := true, dram := true, tel := true } s (execEraseComplete die s) := by
  unfold execEraseComplete
  change Touch _ s _
  exact State.eraseDone_touch.on rfl .refl

theorem execEraseFailure_touch {die : ℕ} {s : State} :
    Leaves { regs := true, host := true, flash := true, dram := true, tel := true } s (execEraseFailure die s) := by
  unfold execEraseFailure
  change Touch _ s _
  exact State.eraseFailed_touch.on rfl .refl

theorem execChannelTrainingDone_touch {ch : ℕ} {fail : Bool} {eye : ℕ} {dies : List DieIn} {s : State} :
    Leaves { regs := true, host := true, flash := true, dram := true, tel := true } s (execChannelTrainingDone ch fail eye dies s) := by
  unfold execChannelTrainingDone
  change Touch _ s _
  exact State.channelTrained_touch.on rfl .refl

theorem execMapCheckpoint_touch {seg : ℕ} {s : State} :
    Leaves { flash := true } s (execMapCheckpoint seg s) := by
  unfold execMapCheckpoint
  change Touch _ s _
  exact State.runCheckpoint_touch.on rfl .refl

theorem execCacheDrain_touch {place : Place} {s : State} :
    Leaves { regs := true, host := true, cmd := true, insts := true, flash := true, dram := true, tel := true } s (execCacheDrain place s) := by
  unfold execCacheDrain
  change Touch _ s _
  exact State.drain_touch.on rfl .refl

theorem execGarbageCollection_touch {g : ℕ} {place : Place} {s : State} :
    Leaves { regs := true, host := true, flash := true, dram := true, tel := true } s (execGarbageCollection g place s) := by
  unfold execGarbageCollection
  change Touch _ s _
  exact State.collect_touch.on rfl .refl

theorem execWearLevelling_touch {g : ℕ} {place : Place} {s : State} :
    Leaves { regs := true, host := true, flash := true, dram := true, tel := true } s (execWearLevelling g place s) := by
  unfold execWearLevelling
  change Touch _ s _
  exact State.levelWear_touch.on rfl .refl

theorem execScrub_touch {die block : ℕ} {s : State} :
    Leaves { regs := true, host := true, cmd := true, insts := true, flash := true, dram := true, tel := true } s (execScrub die block s) := by
  unfold execScrub
  change Touch _ s _
  exact State.scrubBlk_touch.on rfl .refl

theorem execCalibration_touch {die block thresh : ℕ} {s : State} :
    Leaves { flash := true } s (execCalibration die block thresh s) := by
  unfold execCalibration
  change Touch _ s _
  exact State.calibrate_touch.on rfl .refl

theorem execRefresh_touch {keys : List ℕ} {place : Place} {s : State} :
    Leaves { regs := true, host := true, cmd := true, insts := true, flash := true, dram := true, tel := true } s (execRefresh keys place s) := by
  unfold execRefresh
  change Touch _ s _
  exact State.refresh_touch.on rfl .refl

theorem execDieRebuild_touch {keys : List ℕ} {s : State} :
    Leaves { regs := true, host := true, cmd := true, insts := true, flash := true, dram := true, tel := true } s (execDieRebuild keys s) := by
  unfold execDieRebuild
  change Touch _ s _
  exact State.rebuildDie_touch.on rfl .refl

theorem execBackgroundReread_touch {key : ℕ} {s : State} :
    Leaves { regs := true, host := true, cmd := true, insts := true, flash := true, dram := true, tel := true } s (execBackgroundReread key s) := by
  unfold execBackgroundReread
  change Touch _ s _
  exact State.reread_touch.on rfl .refl

end Sys2Proof.Machine
end

