-- ==== Sys2Proof/Laws/FootXInst.lean ====
section
/-! SUPPORT. What each command of Machine/Inst.lean can touch. -/

namespace Sys2Proof.Machine
open Sys2Proof

theorem execInstanceResetComplete_touch {inst : ℕ} {s : State} :
    Leaves { regs := true, shVal := true, shMask := true, cfg := true, host := true, cmd := true, cad := true, insts := true, flash := true, buf := true, eng := true, dig := true, srch := true, cores := true, scan := true, dram := true, knot := true, tel := true } s (execInstanceResetComplete inst s) := by
  unfold execInstanceResetComplete
  change Touch _ s _
  exact State.resetDone_touch.on rfl .refl

theorem execInstanceDeleteComplete_touch {inst : ℕ} {s : State} :
    Leaves { regs := true, shVal := true, shMask := true, cfg := true, host := true, cmd := true, cad := true, insts := true, flash := true, buf := true, eng := true, dig := true, srch := true, cores := true, scan := true, dram := true, knot := true, tel := true } s (execInstanceDeleteComplete inst s) := by
  unfold execInstanceDeleteComplete
  change Touch _ s _
  exact State.resetDone_touch.on rfl .refl

end Sys2Proof.Machine
end

