-- ==== Sys2Proof/Laws/FootXKnot.lean ====
section
/-! SUPPORT. What each command of Machine/Knot.lean can touch. -/

namespace Sys2Proof.Machine
open Sys2Proof

theorem execKnotSignalDetect_touch {link : ℕ} {s : State} :
    Leaves { regs := true, knot := true } s (execKnotSignalDetect link s) := by
  unfold execKnotSignalDetect
  change Touch _ s _
  exact State.signalDetect_touch.on rfl .refl

theorem execLaneLock_touch {link : ℕ} {peerHalf : Bool} {s : State} :
    Leaves { regs := true, knot := true } s (execLaneLock link peerHalf s) := by
  unfold execLaneLock
  change Touch _ s _
  exact State.laneLock_touch.on rfl .refl

theorem execLaneLockTimeout_touch {link : ℕ} {s : State} :
    Leaves { regs := true, knot := true } s (execLaneLockTimeout link s) := by
  unfold execLaneLockTimeout
  change Touch _ s _
  exact State.laneTimeout_touch.on rfl .refl

theorem execKnotIdent_touch {link ver id sig : ℕ} {home : Option ℕ} {buddy : Bool} {s : State} :
    Leaves { regs := true, dram := true, knot := true, tel := true } s (execKnotIdent link ver id sig home buddy s) := by
  unfold execKnotIdent
  change Touch _ s _
  exact State.knotIdent_touch.on rfl .refl

theorem execFlitReceive_touch {link seq : ℕ} {crcOk : Bool} {idle : Option (ℕ × ℕ)} {latNs : ℕ} {s : State} :
    Leaves { regs := true, knot := true } s (execFlitReceive link seq crcOk idle latNs s) := by
  unfold execFlitReceive
  change Touch _ s _
  exact State.flit_touch.on rfl .refl

theorem execIdleFlit_touch {link : ℕ} {s : State} :
    Leaves { knot := true } s (execIdleFlit link s) := by
  unfold execIdleFlit
  change Touch _ s _
  exact State.idleFlit_touch.on rfl .refl

theorem execRetrain_touch {link : ℕ} {s : State} :
    Leaves { regs := true, host := true, cmd := true, cad := true, insts := true, flash := true, buf := true, eng := true, dig := true, srch := true, cores := true, scan := true, dram := true, knot := true, tel := true } s (execRetrain link s) := by
  unfold execRetrain
  change Touch _ s _
  exact State.retrain_touch.on rfl .refl

theorem execEvict_touch {device : ℕ} {s : State} :
    Leaves { regs := true, host := true, insts := true, knot := true } s (execEvict device s) := by
  unfold execEvict
  change Touch _ s _
  exact State.evict_touch.on rfl .refl

theorem execAsnRequest_touch {peer item op inst lba count : ℕ} {s : State} :
    Leaves { insts := true, knot := true } s (execAsnRequest peer item op inst lba count s) := by
  unfold execAsnRequest
  change Touch _ s _
  exact State.asnRequest_touch.on rfl .refl

theorem execAsnCancel_touch {inst asn : ℕ} {s : State} :
    Leaves { knot := true } s (execAsnCancel inst asn s) := by
  unfold execAsnCancel
  change Touch _ s _
  exact State.asnCancel_touch.on rfl .refl

theorem execWriteCompleteReport_touch {inst asn : ℕ} {s : State} :
    Leaves { knot := true } s (execWriteCompleteReport inst asn s) := by
  unfold execWriteCompleteReport
  change Touch _ s _
  exact .upd_knot .refl rfl

theorem execMirrorRecord_touch {peer caddr : ℕ} {r : MirrorIn} {back : Bool} {s : State} :
    Leaves { regs := true, cmd := true, insts := true, flash := true, knot := true } s (execMirrorRecord peer caddr r back s) := by
  unfold execMirrorRecord
  change Touch _ s _
  exact .ite (State.mirrorBack_touch.on rfl .refl) (State.mirrorTake_touch.on rfl .refl)

theorem execMirrorHeld_touch {item credit : ℕ} {s : State} :
    Leaves { cmd := true, knot := true } s (execMirrorHeld item credit s) := by
  unfold execMirrorHeld
  change Touch _ s _
  exact .upd_knot (State.modItem_touch.on rfl .refl) rfl

theorem execMirrorRelease_touch {caddr : ℕ} {owner : Bool} {s : State} :
    Leaves { regs := true, knot := true } s (execMirrorRelease caddr owner s) := by
  unfold execMirrorRelease
  change Touch _ s _
  exact .ite (.ite (State.knotSend_touch.on rfl .refl) .refl) (State.syncMirror_touch.on rfl (.upd_knot .refl rfl))

theorem execPeerTimeout_touch {link : ℕ} {s : State} :
    Leaves { regs := true, host := true, cmd := true, cad := true, insts := true, flash := true, buf := true, eng := true, dig := true, srch := true, cores := true, scan := true, dram := true, knot := true, tel := true } s (execPeerTimeout link s) := by
  unfold execPeerTimeout
  change Touch _ s _
  exact State.peerTimeout_touch.on rfl .refl

theorem execUpLinkFailure_touch {link : ℕ} {s : State} :
    Leaves { regs := true, host := true, cmd := true, cad := true, insts := true, flash := true, buf := true, eng := true, dig := true, srch := true, cores := true, scan := true, dram := true, knot := true, tel := true } s (execUpLinkFailure link s) := by
  unfold execUpLinkFailure
  change Touch _ s _
  exact State.peerLost_touch.on rfl .refl

end Sys2Proof.Machine
end

