-- ==== Sys2Proof/Laws/FootXNollekMem.lean ====
section
/-! SUPPORT. What each command of Machine/NollekMem.lean can touch. -/

namespace Sys2Proof.Machine
open Sys2Proof

theorem execLb_touch {core : ℕ} {g : Guard} {d a : GReg} {imm : BitVec 12} {s : State} :
    Leaves { regs := true, pairHi := true, resp := true, cmd := true, cores := true, scan := true, dram := true, tel := true, freeCtr := true } s (execLb core g d a imm s) := by
  unfold execLb
  change Touch _ s _
  exact State.loadImm_touch.on rfl .refl

theorem execLbu_touch {core : ℕ} {g : Guard} {d a : GReg} {imm : BitVec 12} {s : State} :
    Leaves { regs := true, pairHi := true, resp := true, cmd := true, cores := true, scan := true, dram := true, tel := true, freeCtr := true } s (execLbu core g d a imm s) := by
  unfold execLbu
  change Touch _ s _
  exact State.loadImm_touch.on rfl .refl

theorem execLh_touch {core : ℕ} {g : Guard} {d a : GReg} {imm : BitVec 12} {s : State} :
    Leaves { regs := true, pairHi := true, resp := true, cmd := true, cores := true, scan := true, dram := true, tel := true, freeCtr := true } s (execLh core g d a imm s) := by
  unfold execLh
  change Touch _ s _
  exact State.loadImm_touch.on rfl .refl

theorem execLhu_touch {core : ℕ} {g : Guard} {d a : GReg} {imm : BitVec 12} {s : State} :
    Leaves { regs := true, pairHi := true, resp := true, cmd := true, cores := true, scan := true, dram := true, tel := true, freeCtr := true } s (execLhu core g d a imm s) := by
  unfold execLhu
  change Touch _ s _
  exact State.loadImm_touch.on rfl .refl

theorem execLw_touch {core : ℕ} {g : Guard} {d a : GReg} {imm : BitVec 12} {s : State} :
    Leaves { regs := true, pairHi := true, resp := true, cmd := true, cores := true, scan := true, dram := true, tel := true, freeCtr := true } s (execLw core g d a imm s) := by
  unfold execLw
  change Touch _ s _
  exact State.loadImm_touch.on rfl .refl

theorem execLdx_touch {core : Nat} {g : Guard} {d a b : GReg} {width : Fin 5} {mode : Fin 4} {s : State} :
    Leaves { regs := true, pairHi := true, resp := true, cmd := true, cores := true, scan := true, dram := true, tel := true, freeCtr := true } s (execLdx core g d a b width mode s) := by
  unfold execLdx
  change Touch _ s _
  refine State.runInstr_touch rfl fun x => ?_
  unfold ldxBody
  split
  · exact (Touch.refl : Machine.Touch _ _ _)
  · exact loadBody_touch

theorem execSb_touch {core : ℕ} {g : Guard} {d a : GReg} {imm : BitVec 12} {s : State} :
    Leaves { regs := true, shVal := true, shMask := true, resp := true, cfg := true, host := true, cmd := true, cad := true, insts := true, flash := true, buf := true, eng := true, dig := true, srch := true, cores := true, ctlStores := true, scan := true, dram := true, srd := true, knot := true, pwr := true, otp := true, tel := true, freeCtr := true } s (execSb core g d a imm s) := by
  unfold execSb
  change Touch _ s _
  exact State.storeImm_touch.on rfl .refl

theorem execSh_touch {core : ℕ} {g : Guard} {d a : GReg} {imm : BitVec 12} {s : State} :
    Leaves { regs := true, shVal := true, shMask := true, resp := true, cfg := true, host := true, cmd := true, cad := true, insts := true, flash := true, buf := true, eng := true, dig := true, srch := true, cores := true, ctlStores := true, scan := true, dram := true, srd := true, knot := true, pwr := true, otp := true, tel := true, freeCtr := true } s (execSh core g d a imm s) := by
  unfold execSh
  change Touch _ s _
  exact State.storeImm_touch.on rfl .refl

theorem execSw_touch {core : ℕ} {g : Guard} {d a : GReg} {imm : BitVec 12} {s : State} :
    Leaves { regs := true, shVal := true, shMask := true, resp := true, cfg := true, host := true, cmd := true, cad := true, insts := true, flash := true, buf := true, eng := true, dig := true, srch := true, cores := true, ctlStores := true, scan := true, dram := true, srd := true, knot := true, pwr := true, otp := true, tel := true, freeCtr := true } s (execSw core g d a imm s) := by
  unfold execSw
  change Touch _ s _
  exact State.storeImm_touch.on rfl .refl

theorem execStx_touch {core : Nat} {g : Guard} {d a b : GReg} {width : Fin 3} {mode : Fin 4} {s : State} :
    Leaves { regs := true, shVal := true, shMask := true, resp := true, cfg := true, host := true, cmd := true, cad := true, insts := true, flash := true, buf := true, eng := true, dig := true, srch := true, cores := true, ctlStores := true, scan := true, dram := true, srd := true, knot := true, pwr := true, otp := true, tel := true, freeCtr := true } s (execStx core g d a b width mode s) := by
  unfold execStx
  change Touch _ s _
  exact State.runInstr_touch rfl fun x => storeBody_touch

/-- A push leaves what its stores leave. -/
theorem pushBody_touch {c : Nat} {l : List W32} {flow : Flow} {cost : Nat} {upd : Core → Core} {t : State} {x : Core} :
    (pushBody c l flow cost upd t x).Touch { regs := true, shVal := true, shMask := true, resp := true, cfg := true, host := true, cmd := true, cad := true, insts := true, flash := true, buf := true, eng := true, dig := true, srch := true, cores := true, ctlStores := true, scan := true, dram := true, srd := true, knot := true, pwr := true, otp := true, tel := true, freeCtr := true } t := by
  unfold pushBody
  split
  · next h => exact (pushWords_refused h t).on rfl .refl
  · next h =>
    have k := pushWords_touch h
    exact ⟨k.1.on rfl .refl, fun u hu => (k.2 u).on rfl hu⟩

theorem execCall_touch {core : Nat} {g : Guard} {off : BitVec 22} {s : State} :
    Leaves { regs := true, shVal := true, shMask := true, resp := true, cfg := true, host := true, cmd := true, cad := true, insts := true, flash := true, buf := true, eng := true, dig := true, srch := true, cores := true, ctlStores := true, scan := true, dram := true, srd := true, knot := true, pwr := true, otp := true, tel := true, freeCtr := true } s (execCall core g off s) := by
  unfold execCall
  change Touch _ s _
  refine State.runInstr_touch rfl fun x => ?_
  unfold callBody
  split
  · exact (Touch.refl : Machine.Touch _ _ _)
  · exact pushBody_touch

theorem execCallr_touch {core : Nat} {g : Guard} {a : GReg} {s : State} :
    Leaves { regs := true, shVal := true, shMask := true, resp := true, cfg := true, host := true, cmd := true, cad := true, insts := true, flash := true, buf := true, eng := true, dig := true, srch := true, cores := true, ctlStores := true, scan := true, dram := true, srd := true, knot := true, pwr := true, otp := true, tel := true, freeCtr := true } s (execCallr core g a s) := by
  unfold execCallr
  change Touch _ s _
  refine State.runInstr_touch rfl fun x => ?_
  unfold callBody
  split
  · exact (Touch.refl : Machine.Touch _ _ _)
  · exact pushBody_touch

theorem execRet_touch {core : Nat} {g : Guard} {s : State} :
    Leaves { regs := true, pairHi := true, resp := true, cmd := true, cores := true, scan := true, dram := true, tel := true, freeCtr := true } s (execRet core g s) := by
  unfold execRet
  change Touch _ s _
  refine State.runInstr_touch rfl fun x => ?_
  unfold retBody
  split
  · next h => exact (popWords_refused h s).on rfl .refl
  · next h => exact ⟨(popWords_touch h).on rfl .refl, fun _ h => h⟩

theorem execPush_touch {core : Nat} {g : Guard} {d : GReg} {s : State} :
    Leaves { regs := true, shVal := true, shMask := true, resp := true, cfg := true, host := true, cmd := true, cad := true, insts := true, flash := true, buf := true, eng := true, dig := true, srch := true, cores := true, ctlStores := true, scan := true, dram := true, srd := true, knot := true, pwr := true, otp := true, tel := true, freeCtr := true } s (execPush core g d s) := by
  unfold execPush
  change Touch _ s _
  exact State.runInstr_touch rfl fun x => pushBody_touch

theorem execPop_touch {core : Nat} {g : Guard} {d : GReg} {s : State} :
    Leaves { regs := true, pairHi := true, resp := true, cmd := true, cores := true, scan := true, dram := true, tel := true, freeCtr := true } s (execPop core g d s) := by
  unfold execPop
  change Touch _ s _
  refine State.runInstr_touch rfl fun x => ?_
  unfold popBody
  split
  · next h => exact (popWords_refused h s).on rfl .refl
  · next h => exact ⟨(popWords_touch h).on rfl .refl, fun _ h => h⟩

theorem execLsave_touch {core : Nat} {g : Guard} {s : State} :
    Leaves { regs := true, shVal := true, shMask := true, resp := true, cfg := true, host := true, cmd := true, cad := true, insts := true, flash := true, buf := true, eng := true, dig := true, srch := true, cores := true, ctlStores := true, scan := true, dram := true, srd := true, knot := true, pwr := true, otp := true, tel := true, freeCtr := true } s (execLsave core g s) := by
  unfold execLsave
  change Touch _ s _
  exact State.runInstr_touch rfl fun x => pushBody_touch

theorem execLrest_touch {core : Nat} {g : Guard} {s : State} :
    Leaves { regs := true, pairHi := true, resp := true, cmd := true, cores := true, scan := true, dram := true, tel := true, freeCtr := true } s (execLrest core g s) := by
  unfold execLrest
  change Touch _ s _
  refine State.runInstr_touch rfl fun x => ?_
  unfold lrestBody
  split
  · next h => exact (popWords_refused h s).on rfl .refl
  · next h => exact ⟨(popWords_touch h).on rfl .refl, fun _ h => h⟩

theorem execCas_touch {core : Nat} {g : Guard} {d a b : GReg} {s : State} :
    Leaves { regs := true, cmd := true, buf := true, cores := true, ctlStores := true, scan := true, dram := true, freeCtr := true } s (execCas core g d a b s) := by
  unfold execCas
  change Touch _ s _
  refine State.runInstr_touch rfl fun x => ?_
  unfold casBody
  dsimp only
  split
  · exact (Touch.refl : Machine.Touch _ _ _)
  · split
    · exact (Touch.refl : Machine.Touch _ _ _)
    · split
      · exact (Touch.refl : Machine.Touch _ _ _)
      · exact ⟨.ite (State.ctlPut_touch.on rfl .refl) .refl, fun _ h => State.publish_touch.on rfl h⟩

end Sys2Proof.Machine
end

