-- ==== Sys2Proof/Laws/FootXNollekRun.lean ====
section
/-! SUPPORT. What each command of Machine/NollekRun.lean can touch. -/

namespace Sys2Proof.Machine
open Sys2Proof

theorem execAdd_touch {core : ℕ} {g : Guard} {d a b : GReg} {s : State} :
    Leaves { regs := true, cmd := true, cores := true, scan := true, freeCtr := true } s (execAdd core g d a b s) := by
  unfold execAdd
  change Touch _ s _
  exact State.alu3_touch.on rfl .refl

theorem execSub_touch {core : ℕ} {g : Guard} {d a b : GReg} {s : State} :
    Leaves { regs := true, cmd := true, cores := true, scan := true, freeCtr := true } s (execSub core g d a b s) := by
  unfold execSub
  change Touch _ s _
  exact State.alu3_touch.on rfl .refl

theorem execAdds_touch {core : ℕ} {g : Guard} {d a b : GReg} {s : State} :
    Leaves { regs := true, cmd := true, cores := true, scan := true, freeCtr := true } s (execAdds core g d a b s) := by
  unfold execAdds
  change Touch _ s _
  exact State.alu3_touch.on rfl .refl

theorem execSubs_touch {core : ℕ} {g : Guard} {d a b : GReg} {s : State} :
    Leaves { regs := true, cmd := true, cores := true, scan := true, freeCtr := true } s (execSubs core g d a b s) := by
  unfold execSubs
  change Touch _ s _
  exact State.alu3_touch.on rfl .refl

theorem execAnd_touch {core : ℕ} {g : Guard} {d a b : GReg} {s : State} :
    Leaves { regs := true, cmd := true, cores := true, scan := true, freeCtr := true } s (execAnd core g d a b s) := by
  unfold execAnd
  change Touch _ s _
  exact State.alu3_touch.on rfl .refl

theorem execOr_touch {core : ℕ} {g : Guard} {d a b : GReg} {s : State} :
    Leaves { regs := true, cmd := true, cores := true, scan := true, freeCtr := true } s (execOr core g d a b s) := by
  unfold execOr
  change Touch _ s _
  exact State.alu3_touch.on rfl .refl

theorem execXor_touch {core : ℕ} {g : Guard} {d a b : GReg} {s : State} :
    Leaves { regs := true, cmd := true, cores := true, scan := true, freeCtr := true } s (execXor core g d a b s) := by
  unfold execXor
  change Touch _ s _
  exact State.alu3_touch.on rfl .refl

theorem execAndn_touch {core : ℕ} {g : Guard} {d a b : GReg} {s : State} :
    Leaves { regs := true, cmd := true, cores := true, scan := true, freeCtr := true } s (execAndn core g d a b s) := by
  unfold execAndn
  change Touch _ s _
  exact State.alu3_touch.on rfl .refl

theorem execShl_touch {core : ℕ} {g : Guard} {d a b : GReg} {s : State} :
    Leaves { regs := true, cmd := true, cores := true, scan := true, freeCtr := true } s (execShl core g d a b s) := by
  unfold execShl
  change Touch _ s _
  exact State.alu3_touch.on rfl .refl

theorem execShr_touch {core : ℕ} {g : Guard} {d a b : GReg} {s : State} :
    Leaves { regs := true, cmd := true, cores := true, scan := true, freeCtr := true } s (execShr core g d a b s) := by
  unfold execShr
  change Touch _ s _
  exact State.alu3_touch.on rfl .refl

theorem execSar_touch {core : ℕ} {g : Guard} {d a b : GReg} {s : State} :
    Leaves { regs := true, cmd := true, cores := true, scan := true, freeCtr := true } s (execSar core g d a b s) := by
  unfold execSar
  change Touch _ s _
  exact State.alu3_touch.on rfl .refl

theorem execRot_touch {core : ℕ} {g : Guard} {d a b : GReg} {s : State} :
    Leaves { regs := true, cmd := true, cores := true, scan := true, freeCtr := true } s (execRot core g d a b s) := by
  unfold execRot
  change Touch _ s _
  exact State.alu3_touch.on rfl .refl

theorem execMin_touch {core : ℕ} {g : Guard} {d a b : GReg} {s : State} :
    Leaves { regs := true, cmd := true, cores := true, scan := true, freeCtr := true } s (execMin core g d a b s) := by
  unfold execMin
  change Touch _ s _
  exact State.alu3_touch.on rfl .refl

theorem execMax_touch {core : ℕ} {g : Guard} {d a b : GReg} {s : State} :
    Leaves { regs := true, cmd := true, cores := true, scan := true, freeCtr := true } s (execMax core g d a b s) := by
  unfold execMax
  change Touch _ s _
  exact State.alu3_touch.on rfl .refl

theorem execMinu_touch {core : ℕ} {g : Guard} {d a b : GReg} {s : State} :
    Leaves { regs := true, cmd := true, cores := true, scan := true, freeCtr := true } s (execMinu core g d a b s) := by
  unfold execMinu
  change Touch _ s _
  exact State.alu3_touch.on rfl .refl

theorem execMaxu_touch {core : ℕ} {g : Guard} {d a b : GReg} {s : State} :
    Leaves { regs := true, cmd := true, cores := true, scan := true, freeCtr := true } s (execMaxu core g d a b s) := by
  unfold execMaxu
  change Touch _ s _
  exact State.alu3_touch.on rfl .refl

theorem execMul_touch {core : ℕ} {g : Guard} {d a b : GReg} {s : State} :
    Leaves { regs := true, cmd := true, cores := true, scan := true, freeCtr := true } s (execMul core g d a b s) := by
  unfold execMul
  change Touch _ s _
  exact State.alu3_touch.on rfl .refl

theorem execMulh_touch {core : ℕ} {g : Guard} {d a b : GReg} {s : State} :
    Leaves { regs := true, cmd := true, cores := true, scan := true, freeCtr := true } s (execMulh core g d a b s) := by
  unfold execMulh
  change Touch _ s _
  exact State.alu3_touch.on rfl .refl

theorem execMulhu_touch {core : ℕ} {g : Guard} {d a b : GReg} {s : State} :
    Leaves { regs := true, cmd := true, cores := true, scan := true, freeCtr := true } s (execMulhu core g d a b s) := by
  unfold execMulhu
  change Touch _ s _
  exact State.alu3_touch.on rfl .refl

theorem execMac_touch {core : Nat} {g : Guard} {d a b : GReg} {s : State} :
    Leaves { regs := true, cmd := true, cores := true, scan := true, freeCtr := true } s (execMac core g d a b s) := by
  unfold execMac
  change Touch _ s _
  exact State.runInstr_touch rfl fun _ => ⟨.refl, fun _ h => h⟩

theorem execDiv_touch {core : ℕ} {g : Guard} {d a b : GReg} {s : State} :
    Leaves { regs := true, cmd := true, cores := true, scan := true, freeCtr := true } s (execDiv core g d a b s) := by
  unfold execDiv
  change Touch _ s _
  exact State.aluDivide_touch.on rfl .refl

theorem execDivu_touch {core : ℕ} {g : Guard} {d a b : GReg} {s : State} :
    Leaves { regs := true, cmd := true, cores := true, scan := true, freeCtr := true } s (execDivu core g d a b s) := by
  unfold execDivu
  change Touch _ s _
  exact State.aluDivide_touch.on rfl .refl

theorem execRem_touch {core : ℕ} {g : Guard} {d a b : GReg} {s : State} :
    Leaves { regs := true, cmd := true, cores := true, scan := true, freeCtr := true } s (execRem core g d a b s) := by
  unfold execRem
  change Touch _ s _
  exact State.aluDivide_touch.on rfl .refl

theorem execRemu_touch {core : ℕ} {g : Guard} {d a b : GReg} {s : State} :
    Leaves { regs := true, cmd := true, cores := true, scan := true, freeCtr := true } s (execRemu core g d a b s) := by
  unfold execRemu
  change Touch _ s _
  exact State.aluDivide_touch.on rfl .refl

theorem execNeg_touch {core : ℕ} {g : Guard} {d a : GReg} {s : State} :
    Leaves { regs := true, cmd := true, cores := true, scan := true, freeCtr := true } s (execNeg core g d a s) := by
  unfold execNeg
  change Touch _ s _
  exact State.alu2_touch.on rfl .refl

theorem execNegs_touch {core : ℕ} {g : Guard} {d a : GReg} {s : State} :
    Leaves { regs := true, cmd := true, cores := true, scan := true, freeCtr := true } s (execNegs core g d a s) := by
  unfold execNegs
  change Touch _ s _
  exact State.alu2_touch.on rfl .refl

theorem execAbs_touch {core : ℕ} {g : Guard} {d a : GReg} {s : State} :
    Leaves { regs := true, cmd := true, cores := true, scan := true, freeCtr := true } s (execAbs core g d a s) := by
  unfold execAbs
  change Touch _ s _
  exact State.alu2_touch.on rfl .refl

theorem execClz_touch {core : ℕ} {g : Guard} {d a : GReg} {s : State} :
    Leaves { regs := true, cmd := true, cores := true, scan := true, freeCtr := true } s (execClz core g d a s) := by
  unfold execClz
  change Touch _ s _
  exact State.alu2_touch.on rfl .refl

theorem execPopc_touch {core : ℕ} {g : Guard} {d a : GReg} {s : State} :
    Leaves { regs := true, cmd := true, cores := true, scan := true, freeCtr := true } s (execPopc core g d a s) := by
  unfold execPopc
  change Touch _ s _
  exact State.alu2_touch.on rfl .refl

theorem execBswap_touch {core : ℕ} {g : Guard} {d a : GReg} {s : State} :
    Leaves { regs := true, cmd := true, cores := true, scan := true, freeCtr := true } s (execBswap core g d a s) := by
  unfold execBswap
  change Touch _ s _
  exact State.alu2_touch.on rfl .refl

theorem execSextb_touch {core : ℕ} {g : Guard} {d a : GReg} {s : State} :
    Leaves { regs := true, cmd := true, cores := true, scan := true, freeCtr := true } s (execSextb core g d a s) := by
  unfold execSextb
  change Touch _ s _
  exact State.alu2_touch.on rfl .refl

theorem execSexth_touch {core : ℕ} {g : Guard} {d a : GReg} {s : State} :
    Leaves { regs := true, cmd := true, cores := true, scan := true, freeCtr := true } s (execSexth core g d a s) := by
  unfold execSexth
  change Touch _ s _
  exact State.alu2_touch.on rfl .refl

theorem execZexth_touch {core : ℕ} {g : Guard} {d a : GReg} {s : State} :
    Leaves { regs := true, cmd := true, cores := true, scan := true, freeCtr := true } s (execZexth core g d a s) := by
  unfold execZexth
  change Touch _ s _
  exact State.alu2_touch.on rfl .refl

theorem execAddi_touch {core : ℕ} {g : Guard} {d a : GReg} {imm : BitVec 12} {s : State} :
    Leaves { regs := true, cmd := true, cores := true, scan := true, freeCtr := true } s (execAddi core g d a imm s) := by
  unfold execAddi
  change Touch _ s _
  exact State.alu2_touch.on rfl .refl

theorem execAndi_touch {core : ℕ} {g : Guard} {d a : GReg} {imm : BitVec 12} {s : State} :
    Leaves { regs := true, cmd := true, cores := true, scan := true, freeCtr := true } s (execAndi core g d a imm s) := by
  unfold execAndi
  change Touch _ s _
  exact State.alu2_touch.on rfl .refl

theorem execOri_touch {core : ℕ} {g : Guard} {d a : GReg} {imm : BitVec 12} {s : State} :
    Leaves { regs := true, cmd := true, cores := true, scan := true, freeCtr := true } s (execOri core g d a imm s) := by
  unfold execOri
  change Touch _ s _
  exact State.alu2_touch.on rfl .refl

theorem execXori_touch {core : ℕ} {g : Guard} {d a : GReg} {imm : BitVec 12} {s : State} :
    Leaves { regs := true, cmd := true, cores := true, scan := true, freeCtr := true } s (execXori core g d a imm s) := by
  unfold execXori
  change Touch _ s _
  exact State.alu2_touch.on rfl .refl

theorem execShli_touch {core : ℕ} {g : Guard} {d a : GReg} {n : Fin 32} {s : State} :
    Leaves { regs := true, cmd := true, cores := true, scan := true, freeCtr := true } s (execShli core g d a n s) := by
  unfold execShli
  change Touch _ s _
  exact State.alu2_touch.on rfl .refl

theorem execShri_touch {core : ℕ} {g : Guard} {d a : GReg} {n : Fin 32} {s : State} :
    Leaves { regs := true, cmd := true, cores := true, scan := true, freeCtr := true } s (execShri core g d a n s) := by
  unfold execShri
  change Touch _ s _
  exact State.alu2_touch.on rfl .refl

theorem execSari_touch {core : ℕ} {g : Guard} {d a : GReg} {n : Fin 32} {s : State} :
    Leaves { regs := true, cmd := true, cores := true, scan := true, freeCtr := true } s (execSari core g d a n s) := by
  unfold execSari
  change Touch _ s _
  exact State.alu2_touch.on rfl .refl

theorem execRoti_touch {core : ℕ} {g : Guard} {d a : GReg} {n : Fin 32} {s : State} :
    Leaves { regs := true, cmd := true, cores := true, scan := true, freeCtr := true } s (execRoti core g d a n s) := by
  unfold execRoti
  change Touch _ s _
  exact State.alu2_touch.on rfl .refl

theorem execCmp_touch {core : ℕ} {g : Guard} {d : PReg} {c : Fin 8} {a b : GReg} {s : State} :
    Leaves { regs := true, cmd := true, cores := true, scan := true, freeCtr := true } s (execCmp core g d c a b s) := by
  unfold execCmp
  change Touch _ s _
  exact State.toPred_touch.on rfl .refl

theorem execCmpi_touch {core : ℕ} {g : Guard} {d : PReg} {c : Fin 4} {a : GReg} {imm : BitVec 12} {s : State} :
    Leaves { regs := true, cmd := true, cores := true, scan := true, freeCtr := true } s (execCmpi core g d c a imm s) := by
  unfold execCmpi
  change Touch _ s _
  exact State.toPred_touch.on rfl .refl

theorem execPand_touch {core : ℕ} {g : Guard} {d a b : PReg} {s : State} :
    Leaves { regs := true, cmd := true, cores := true, scan := true, freeCtr := true } s (execPand core g d a b s) := by
  unfold execPand
  change Touch _ s _
  exact State.toPred_touch.on rfl .refl

theorem execPor_touch {core : ℕ} {g : Guard} {d a b : PReg} {s : State} :
    Leaves { regs := true, cmd := true, cores := true, scan := true, freeCtr := true } s (execPor core g d a b s) := by
  unfold execPor
  change Touch _ s _
  exact State.toPred_touch.on rfl .refl

theorem execPxor_touch {core : ℕ} {g : Guard} {d a b : PReg} {s : State} :
    Leaves { regs := true, cmd := true, cores := true, scan := true, freeCtr := true } s (execPxor core g d a b s) := by
  unfold execPxor
  change Touch _ s _
  exact State.toPred_touch.on rfl .refl

theorem execPandn_touch {core : ℕ} {g : Guard} {d a b : PReg} {s : State} :
    Leaves { regs := true, cmd := true, cores := true, scan := true, freeCtr := true } s (execPandn core g d a b s) := by
  unfold execPandn
  change Touch _ s _
  exact State.toPred_touch.on rfl .refl

theorem execPnot_touch {core : ℕ} {g : Guard} {d a : PReg} {s : State} :
    Leaves { regs := true, cmd := true, cores := true, scan := true, freeCtr := true } s (execPnot core g d a s) := by
  unfold execPnot
  change Touch _ s _
  exact State.toPred_touch.on rfl .refl

theorem execPsetg_touch {core : ℕ} {g : Guard} {d : PReg} {a : GReg} {s : State} :
    Leaves { regs := true, cmd := true, cores := true, scan := true, freeCtr := true } s (execPsetg core g d a s) := by
  unfold execPsetg
  change Touch _ s _
  exact State.toPred_touch.on rfl .refl

theorem execPget_touch {core : ℕ} {g : Guard} {d : GReg} {s : State} :
    Leaves { regs := true, cmd := true, cores := true, scan := true, freeCtr := true } s (execPget core g d s) := by
  unfold execPget
  change Touch _ s _
  exact State.toReg_touch.on rfl .refl

theorem execPput_touch {core : Nat} {g : Guard} {a : GReg} {s : State} :
    Leaves { regs := true, cmd := true, cores := true, scan := true, freeCtr := true } s (execPput core g a s) := by
  unfold execPput
  change Touch _ s _
  exact State.runInstr_touch rfl fun _ => ⟨.refl, fun _ h => h⟩

theorem execMovl_touch {core : ℕ} {g : Guard} {d : GReg} {imm : BitVec 16} {s : State} :
    Leaves { regs := true, cmd := true, cores := true, scan := true, freeCtr := true } s (execMovl core g d imm s) := by
  unfold execMovl
  change Touch _ s _
  exact State.toReg_touch.on rfl .refl

theorem execMovh_touch {core : ℕ} {g : Guard} {d : GReg} {imm : BitVec 16} {s : State} :
    Leaves { regs := true, cmd := true, cores := true, scan := true, freeCtr := true } s (execMovh core g d imm s) := by
  unfold execMovh
  change Touch _ s _
  exact State.toReg_touch.on rfl .refl

theorem execBr_touch {core : Nat} {g : Guard} {off : BitVec 22} {s : State} :
    Leaves { regs := true, cmd := true, cores := true, scan := true, freeCtr := true } s (execBr core g off s) := by
  unfold execBr
  change Touch _ s _
  exact State.runInstr_touch rfl fun _ => ⟨.refl, fun _ h => h⟩

theorem execJr_touch {core : Nat} {g : Guard} {a : GReg} {s : State} :
    Leaves { regs := true, cmd := true, cores := true, scan := true, freeCtr := true } s (execJr core g a s) := by
  unfold execJr
  change Touch _ s _
  exact State.runInstr_touch rfl fun _ => ⟨.refl, fun _ h => h⟩

theorem execLoop_touch {core : ℕ} {g : Guard} {n : Fin 4} {a : GReg} {off : BitVec 12} {s : State} :
    Leaves { regs := true, cmd := true, cores := true, scan := true, freeCtr := true } s (execLoop core g n a off s) := by
  unfold execLoop
  change Touch _ s _
  exact State.loopStart_touch.on rfl .refl

theorem execLoopi_touch {core : ℕ} {g : Guard} {n : Fin 4} {k : BitVec 8} {off : BitVec 12} {s : State} :
    Leaves { regs := true, cmd := true, cores := true, scan := true, freeCtr := true } s (execLoopi core g n k off s) := by
  unfold execLoopi
  change Touch _ s _
  exact State.loopStart_touch.on rfl .refl

theorem execRepi_touch {core : ℕ} {g : Guard} {n : BitVec 16} {s : State} :
    Leaves { regs := true, cmd := true, cores := true, scan := true, freeCtr := true } s (execRepi core g n s) := by
  unfold execRepi
  change Touch _ s _
  exact State.repeat'_touch.on rfl .refl

theorem execRep_touch {core : ℕ} {g : Guard} {a : GReg} {s : State} :
    Leaves { regs := true, cmd := true, cores := true, scan := true, freeCtr := true } s (execRep core g a s) := by
  unfold execRep
  change Touch _ s _
  exact State.repeat'_touch.on rfl .refl

theorem execLclr_touch {core : Nat} {g : Guard} {mask : BitVec 4} {s : State} :
    Leaves { regs := true, cmd := true, cores := true, scan := true, freeCtr := true } s (execLclr core g mask s) := by
  unfold execLclr
  change Touch _ s _
  refine State.runInstr_touch rfl fun x => ?_
  repeat' (first | split | (dsimp only; split))
  all_goals first
    | exact ⟨.refl, fun _ h => h⟩
    | exact (Touch.refl : Machine.Touch _ _ _)
    | (change Touch _ _ _; exact State.setCore_touch.on rfl .refl)

theorem execNop_touch {core : Nat} {g : Guard} {s : State} :
    Leaves { regs := true, cmd := true, cores := true, scan := true, freeCtr := true } s (execNop core g s) := by
  unfold execNop
  change Touch _ s _
  exact State.runInstr_touch rfl fun _ => ⟨.refl, fun _ h => h⟩

theorem execHalt_touch {core : Nat} {g : Guard} {s : State} :
    Leaves { regs := true, cmd := true, cores := true, scan := true, freeCtr := true } s (execHalt core g s) := by
  unfold execHalt
  change Touch _ s _
  exact State.runInstr_touch rfl fun _ => ⟨.refl, fun _ h => State.jobEnd_touch.on rfl h⟩

theorem execTrap_touch {core : Nat} {g : Guard} {s : State} :
    Leaves { regs := true, cmd := true, cores := true, scan := true, freeCtr := true } s (execTrap core g s) := by
  unfold execTrap
  change Touch _ s _
  exact State.runInstr_touch rfl fun _ => (Touch.refl : Machine.Touch _ _ _)

theorem execEret_touch {core : Nat} {g : Guard} {s : State} :
    Leaves { regs := true, cmd := true, cores := true, scan := true, freeCtr := true } s (execEret core g s) := by
  unfold execEret
  change Touch _ s _
  refine State.runInstr_touch rfl fun x => ?_
  repeat' (first | split | (dsimp only; split))
  all_goals first
    | exact ⟨.refl, fun _ h => h⟩
    | exact (Touch.refl : Machine.Touch _ _ _)
    | (change Touch _ _ _; exact State.setCore_touch.on rfl .refl)

theorem execWfi_touch {core : Nat} {g : Guard} {s : State} :
    Leaves { regs := true, cmd := true, cores := true, scan := true, freeCtr := true } s (execWfi core g s) := by
  unfold execWfi
  change Touch _ s _
  refine State.runInstr_touch rfl fun x => ?_
  repeat' (first | split | (dsimp only; split))
  all_goals first
    | exact ⟨.refl, fun _ h => h⟩
    | exact (Touch.refl : Machine.Touch _ _ _)
    | (change Touch _ _ _; exact State.setCore_touch.on rfl .refl)

theorem execWfiWake_touch {core cycles : ℕ} {s : State} :
    Leaves { regs := true, cmd := true, cores := true, scan := true, freeCtr := true } s (execWfiWake core cycles s) := by
  unfold execWfiWake
  change Touch _ s _
  exact State.wfiWake_touch.on rfl .refl

theorem execInterruptTaken_touch {core : ℕ} {s : State} :
    Leaves { cores := true, freeCtr := true } s (execInterruptTaken core s) := by
  unfold execInterruptTaken
  change Touch _ s _
  exact State.externalInt_touch.on rfl .refl

theorem execTimerInterrupt_touch {core cycles : ℕ} {s : State} :
    Leaves { cores := true, freeCtr := true } s (execTimerInterrupt core cycles s) := by
  unfold execTimerInterrupt
  change Touch _ s _
  exact State.timerInt_touch.on rfl .refl

theorem execTlbinv_touch {core : Nat} {g : Guard} {a : GReg} {s : State} :
    Leaves { regs := true, cmd := true, cores := true, scan := true, freeCtr := true } s (execTlbinv core g a s) := by
  unfold execTlbinv
  change Touch _ s _
  refine State.runInstr_touch rfl fun x => ?_
  repeat' (first | split | (dsimp only; split))
  all_goals first
    | exact ⟨.refl, fun _ h => h⟩
    | exact (Touch.refl : Machine.Touch _ _ _)
    | (change Touch _ _ _; exact State.setCore_touch.on rfl .refl)

theorem execFence_touch {core : Nat} {g : Guard} {s : State} :
    Leaves { regs := true, cmd := true, buf := true, cores := true, ctlStores := true, scan := true, dram := true, freeCtr := true } s (execFence core g s) := by
  unfold execFence
  change Touch _ s _
  exact State.runInstr_touch rfl fun _ => ⟨.refl, fun _ h => State.publish_touch.on rfl h⟩

theorem execCsrr_touch {core : Nat} {g : Guard} {d : GReg} {n : BitVec 12} {s : State} :
    Leaves { regs := true, cmd := true, cores := true, scan := true, freeCtr := true } s (execCsrr core g d n s) := by
  unfold execCsrr
  change Touch _ s _
  refine State.runInstr_touch rfl fun x => ?_
  repeat' (first | split | (dsimp only; split))
  all_goals first
    | exact ⟨.refl, fun _ h => h⟩
    | exact (Touch.refl : Machine.Touch _ _ _)
    | (change Touch _ _ _; exact State.setCore_touch.on rfl .refl)

theorem execCsrw_touch {core : Nat} {g : Guard} {a : GReg} {n : BitVec 12} {s : State} :
    Leaves { regs := true, cmd := true, cores := true, scan := true, freeCtr := true } s (execCsrw core g a n s) := by
  unfold execCsrw
  change Touch _ s _
  refine State.runInstr_touch rfl fun x => ?_
  repeat' (first | split | (dsimp only; split))
  all_goals first
    | exact ⟨.refl, fun _ h => h⟩
    | exact (Touch.refl : Machine.Touch _ _ _)
    | (change Touch _ _ _; exact State.setCore_touch.on rfl .refl)

theorem execIllegalInstruction_touch {core : ℕ} {w : BitVec 32} {s : State} :
    Leaves { regs := true, cmd := true, cores := true, scan := true, freeCtr := true } s (execIllegalInstruction core w s) := by
  unfold execIllegalInstruction
  change Touch _ s _
  exact State.illegalWord_touch.on rfl .refl

theorem execRnext_touch {core : Nat} {g : Guard} {d : GReg} {s : State} :
    Leaves { regs := true, cmd := true, cores := true, scan := true, freeCtr := true } s (execRnext core g d s) := by
  unfold execRnext
  change Touch _ s _
  refine State.runInstr_touch rfl fun x => ?_
  unfold State.rnext
  split
  · exact (Touch.refl : Machine.Touch _ _ _)
  · split
    · exact ⟨.refl, fun _ h => h⟩
    · split
      · split
        · exact (Touch.refl : Machine.Touch _ _ _)
        · exact ⟨State.count_touch.on rfl (State.modScan_touch.on rfl .refl), fun _ h => h⟩
      · exact (Touch.refl : Machine.Touch _ _ _)

theorem execRput_touch {core : Nat} {g : Guard} {a b : GReg} {s : State} :
    Leaves { regs := true, cmd := true, cores := true, scan := true, freeCtr := true } s (execRput core g a b s) := by
  unfold execRput
  change Touch _ s _
  refine State.runInstr_touch rfl fun x => ?_
  unfold State.rput
  split
  · exact (Touch.refl : Machine.Touch _ _ _)
  · dsimp only
    split
    · exact (Touch.refl : Machine.Touch _ _ _)
    · split
      · exact (Touch.refl : Machine.Touch _ _ _)
      · split
        · exact (Touch.refl : Machine.Touch _ _ _)
        · split
          · change Touch _ _ _
            exact State.count_touch.on rfl .refl
          · exact ⟨State.setCluster_touch.on rfl .refl, fun _ h => h⟩

theorem execFldx_touch {core : ℕ} {g : Guard} {d : GReg} {b : Fin 32} {s : State} :
    Leaves { regs := true, cmd := true, cores := true, scan := true, freeCtr := true } s (execFldx core g d b s) := by
  unfold execFldx
  change Touch _ s _
  exact State.toReg_touch.on rfl .refl

theorem execTapr_touch {core : ℕ} {g : Guard} {d : GReg} {s : State} :
    Leaves { regs := true, cmd := true, cores := true, scan := true, freeCtr := true } s (execTapr core g d s) := by
  unfold execTapr
  change Touch _ s _
  exact State.toReg_touch.on rfl .refl

theorem execCustom_touch {core : Nat} {g : Guard} {slot : Fin 32} {d a b : GReg} {s : State} :
    Leaves { regs := true, cmd := true, cores := true, scan := true, dram := true, tel := true, freeCtr := true } s (execCustom core g slot d a b s) := by
  unfold execCustom
  change Touch _ s _
  refine State.runInstr_touch rfl fun x => ?_
  unfold customRun
  dsimp only
  split
  · exact (Touch.refl : Machine.Touch _ _ _)
  · split
    · change Touch _ _ _
      exact .ite (State.ucodeParity_touch.on rfl .refl) .refl
    · exact ⟨.refl, fun _ h => h⟩

theorem execBudgetExhausted_touch {core stall : ℕ} {s : State} :
    Leaves { regs := true, cmd := true, cores := true, scan := true } s (execBudgetExhausted core stall s) := by
  unfold execBudgetExhausted
  change Touch _ s _
  exact State.budgetExhausted_touch.on rfl .refl

theorem execRunStart_touch {item cluster : ℕ} {s : State} :
    Leaves { regs := true, cores := true, scan := true } s (execRunStart item cluster s) := by
  unfold execRunStart
  change Touch _ s _
  exact State.runStart_touch.on rfl .refl

theorem execJobStart_touch {item : ℕ} {s : State} :
    Leaves { regs := true, cores := true, scan := true } s (execJobStart item s) := by
  unfold execJobStart
  change Touch _ s _
  exact State.jobStart_touch.on rfl .refl

theorem execClosingJobStart_touch {core : ℕ} {s : State} :
    Leaves { regs := true, cores := true, scan := true } s (execClosingJobStart core s) := by
  unfold execClosingJobStart
  change Touch _ s _
  exact State.closingJobStart_touch.on rfl .refl

theorem execRingStall_touch {item : ℕ} {s : State} :
    Leaves { regs := true, cmd := true, cores := true, scan := true } s (execRingStall item s) := by
  unfold execRingStall
  change Touch _ s _
  exact State.ringStall_touch.on rfl .refl

theorem execCollectorGrant_touch {s : State} :
    Leaves { regs := true, cmd := true, cores := true, scan := true } s (execCollectorGrant s) := by
  unfold execCollectorGrant
  change Touch _ s _
  exact State.collectorGrant_touch.on rfl .refl

end Sys2Proof.Machine
end

