-- ==== Sys2Proof/Laws/FootXParts.lean ====
section
/-! SUPPORT. What each command of Machine/Parts.lean can touch. -/

namespace Sys2Proof.Machine
open Sys2Proof

theorem execAsnGrant_touch {item asn reason : ℕ} {s : State} :
    Leaves { regs := true, shVal := true, shMask := true, pairHi := true, resp := true, cfg := true, host := true, cmd := true, cad := true, insts := true, flash := true, buf := true, eng := true, dig := true, srch := true, cores := true, scan := true, dram := true, srd := true, knot := true, pwr := true, otp := true, tel := true, freeCtr := true } s (execAsnGrant item asn reason s) := by
  unfold execAsnGrant
  change Touch _ s _
  exact State.asnGrant_touch.on rfl .refl

theorem execAsnGrantTimeout_touch {item : ℕ} {s : State} :
    Leaves { regs := true, host := true, cmd := true, cad := true, insts := true, flash := true, buf := true, dram := true, knot := true, tel := true } s (execAsnGrantTimeout item s) := by
  unfold execAsnGrantTimeout
  change Touch _ s _
  exact State.asnTimeout_touch.on rfl .refl

theorem execPartReceive_touch {p : PartIn} {s : State} :
    Leaves { regs := true, shVal := true, shMask := true, pairHi := true, resp := true, cfg := true, host := true, cmd := true, cad := true, insts := true, flash := true, buf := true, eng := true, dig := true, srch := true, cores := true, scan := true, dram := true, srd := true, knot := true, pwr := true, otp := true, tel := true } s (execPartReceive p s) := by
  unfold execPartReceive
  change Touch _ s _
  exact State.partIn_touch.on rfl .refl

theorem execPartResult_touch {r : PartEnd} {s : State} :
    Leaves { regs := true, cmd := true, cad := true, flash := true, buf := true, dig := true, cores := true, scan := true, dram := true, knot := true, tel := true } s (execPartResult r s) := by
  unfold execPartResult
  change Touch _ s _
  exact State.partOut_touch.on rfl .refl

end Sys2Proof.Machine
end

