-- ==== Sys2Proof/Laws/FootXPower.lean ====
section
/-! SUPPORT. What each command of Machine/Power.lean can touch. -/

namespace Sys2Proof.Machine
open Sys2Proof

theorem execThermalSample_touch {x : ThermIn} {s : State} :
    Leaves { regs := true, shVal := true, shMask := true, cfg := true, host := true, cmd := true, cad := true, insts := true, flash := true, buf := true, eng := true, dig := true, srch := true, cores := true, ctlStores := true, scan := true, dram := true, knot := true, therm := true, pwr := true, otp := true, tel := true } s (execThermalSample x s) := by
  unfold execThermalSample
  change Touch _ s _
  exact .ite (State.thermTrip_touch.on rfl (State.thermSample_touch.on rfl .refl)) (State.thermSample_touch.on rfl .refl)

theorem execAnalogueTrip_touch {s : State} :
    Leaves { regs := true, cfg := true, host := true, cmd := true, cad := true, insts := true, flash := true, buf := true, eng := true, dig := true, srch := true, cores := true, ctlStores := true, scan := true, dram := true, knot := true, therm := true, pwr := true, otp := true, tel := true } s (execAnalogueTrip s) := by
  unfold execAnalogueTrip
  change Touch _ s _
  exact State.analogueTrip_touch.on rfl .refl

theorem execPwrGoodRise_touch {id boot : ℕ} {test : Bool} {s : State} :
    Leaves { regs := true, shVal := true, shMask := true, pairHi := true, cfg := true, host := true, cmd := true, cad := true, insts := true, flash := true, buf := true, eng := true, dig := true, srch := true, cores := true, ctlStores := true, scan := true, dram := true, srd := true, knot := true, therm := true, pwr := true, otp := true, tel := true } s (execPwrGoodRise id boot test s) := by
  unfold execPwrGoodRise
  change Touch _ s _
  exact State.pwrGoodRise_touch.on rfl .refl

theorem execPowerUpStage_touch {s : State} :
    Leaves { regs := true, buf := true, cores := true, pwr := true } s (execPowerUpStage s) := by
  unfold execPowerUpStage
  change Touch _ s _
  exact State.powerStage_touch.on rfl .refl

theorem execPwrGoodFall_touch {s : State} :
    Leaves { regs := true, cfg := true, host := true, cmd := true, cad := true, insts := true, flash := true, buf := true, eng := true, dig := true, srch := true, cores := true, ctlStores := true, scan := true, dram := true, knot := true, pwr := true, otp := true, tel := true } s (execPwrGoodFall s) := by
  unfold execPwrGoodFall
  change Touch _ s _
  exact State.pwrGoodFall_touch.on rfl .refl

theorem execPfail_touch {s : State} :
    Leaves { regs := true, cmd := true, pwr := true, tel := true } s (execPfail s) := by
  unfold execPfail
  change Touch _ s _
  exact State.pfail_touch.on rfl .refl

theorem execFreeze_touch {s : State} :
    Leaves { regs := true, shVal := true, shMask := true, cfg := true, host := true, cmd := true, cad := true, insts := true, flash := true, buf := true, eng := true, dig := true, srch := true, cores := true, ctlStores := true, scan := true, knot := true, pwr := true, otp := true, tel := true } s (execFreeze s) := by
  unfold execFreeze
  change Touch _ s _
  exact State.freeze_touch.on rfl .refl

theorem execDumpStart_touch {s : State} :
    Leaves { regs := true, flash := true, buf := true, eng := true, dig := true, srch := true, cores := true, scan := true, otp := true } s (execDumpStart s) := by
  unfold execDumpStart
  change Touch _ s _
  exact State.dumpStart_touch.on rfl .refl

theorem execDumpDone_touch {s : State} :
    Leaves { regs := true, shVal := true, shMask := true, pairHi := true, cfg := true, host := true, cmd := true, cad := true, insts := true, flash := true, buf := true, eng := true, dig := true, srch := true, cores := true, ctlStores := true, scan := true, dram := true, srd := true, knot := true, therm := true, pwr := true, otp := true, tel := true } s (execDumpDone s) := by
  unfold execDumpDone
  change Touch _ s _
  exact State.dumpDone_touch.on rfl .refl

theorem execPfailRestart_touch {s : State} :
    Leaves { regs := true, shVal := true, shMask := true, pairHi := true, cfg := true, host := true, cmd := true, cad := true, insts := true, flash := true, buf := true, eng := true, dig := true, srch := true, cores := true, ctlStores := true, scan := true, dram := true, srd := true, knot := true, therm := true, pwr := true, otp := true, tel := true } s (execPfailRestart s) := by
  unfold execPfailRestart
  change Touch _ s _
  exact State.pfailRestart_touch.on rfl .refl

theorem execSysResetN_touch {level : Bool} {s : State} :
    Leaves { regs := true, shVal := true, shMask := true, pairHi := true, cfg := true, host := true, cmd := true, cad := true, insts := true, flash := true, buf := true, eng := true, dig := true, srch := true, cores := true, ctlStores := true, scan := true, dram := true, srd := true, knot := true, therm := true, pwr := true, otp := true, tel := true } s (execSysResetN level s) := by
  unfold execSysResetN
  change Touch _ s _
  exact State.sysReset_touch.on rfl .refl

theorem execDomainOff_touch {d : ℕ} {s : State} :
    Leaves { regs := true, shVal := true, shMask := true, pairHi := true, cfg := true, buf := true, eng := true, dig := true, srch := true, cores := true, scan := true } s (execDomainOff d s) := by
  unfold execDomainOff
  change Touch _ s _
  exact State.domainOff_touch.on rfl .refl

theorem execDomainOn_touch {d : ℕ} {s : State} :
    Leaves { regs := true, shVal := true, shMask := true, pairHi := true, cfg := true, buf := true, eng := true, dig := true, srch := true, cores := true, scan := true, pwr := true } s (execDomainOn d s) := by
  unfold execDomainOn
  change Touch _ s _
  exact State.domainOn_touch.on rfl .refl

theorem execClockCheck_touch {ppm : Option ℤ} {s : State} :
    Leaves { regs := true, cmd := true, pwr := true, tel := true } s (execClockCheck ppm s) := by
  unfold execClockCheck
  change Touch _ s _
  exact State.clockCheck_touch.on rfl .refl

theorem execAonClkLoss_touch {s : State} :
    Leaves { regs := true, pwr := true } s (execAonClkLoss s) := by
  unfold execAonClkLoss
  change Touch _ s _
  exact State.aonClkLoss_touch.on rfl .refl

theorem execAonClkReturn_touch {s : State} :
    Leaves { regs := true, pwr := true } s (execAonClkReturn s) := by
  unfold execAonClkReturn
  change Touch _ s _
  exact State.aonClkReturn_touch.on rfl .refl

theorem execAonPor_touch {s : State} :
    Leaves { regs := true, shVal := true, shMask := true, pairHi := true, resp := true, cfg := true, host := true, cmd := true, cad := true, insts := true, flash := true, buf := true, eng := true, dig := true, srch := true, cores := true, ctlStores := true, scan := true, dram := true, srd := true, knot := true, therm := true, pwr := true, otp := true, tel := true, jtag := true } s (execAonPor s) := by
  unfold execAonPor
  change Touch _ s _
  exact State.aonPor_touch.on rfl .refl

theorem execVddAonLoss_touch {s : State} :
    Leaves { regs := true, cfg := true, host := true, cmd := true, cad := true, insts := true, flash := true, buf := true, eng := true, dig := true, srch := true, cores := true, ctlStores := true, scan := true, dram := true, srd := true, knot := true, therm := true, pwr := true, otp := true, tel := true, jtag := true } s (execVddAonLoss s) := by
  unfold execVddAonLoss
  change Touch _ s _
  exact State.aonLoss_touch.on rfl .refl

theorem execDeviceResetEffect_touch {s : State} :
    Leaves { regs := true, shVal := true, shMask := true, pairHi := true, cfg := true, host := true, cmd := true, cad := true, insts := true, flash := true, buf := true, eng := true, dig := true, srch := true, cores := true, ctlStores := true, scan := true, dram := true, srd := true, knot := true, pwr := true, otp := true, tel := true } s (execDeviceResetEffect s) := by
  unfold execDeviceResetEffect
  change Touch _ s _
  exact State.deviceResetEffect_touch.on rfl .refl

theorem execFuseLoad_touch {s : State} :
    Leaves { regs := true, dig := true, srd := true, otp := true } s (execFuseLoad s) := by
  unfold execFuseLoad
  change Touch _ s _
  exact .upd_srd (.ite (State.latchStraps_touch.on rfl (State.loadFuses_touch.on rfl .refl)) (.upd_dig (State.latchStraps_touch.on rfl (State.loadFuses_touch.on rfl .refl)) rfl)) rfl

end Sys2Proof.Machine
end

