-- ==== Sys2Proof/Laws/FootXReceive.lean ====
section
/-! SUPPORT. What each command of Machine/Receive.lean can touch. -/

namespace Sys2Proof.Machine
open Sys2Proof

theorem execFrameReceive_touch {f : FrameIn} {taken : ℕ} {s : State} :
    Leaves { regs := true, host := true } s (execFrameReceive f taken s) := by
  unfold execFrameReceive
  change Touch _ s _
  exact State.frame_touch.on rfl .refl

theorem execClassification_touch {badPrio badAssoc : Bool} {s : State} :
    Leaves { regs := true, host := true, srch := true, freeCtr := true } s (execClassification badPrio badAssoc s) := by
  unfold execClassification
  change Touch _ s _
  exact State.classify_touch.on rfl .refl

theorem execHello_touch {p : PduIn} {s : State} :
    Leaves { regs := true, host := true, cmd := true, cad := true, insts := true, flash := true, buf := true, eng := true, dig := true, srch := true, cores := true, scan := true, dram := true, knot := true, tel := true, freeCtr := true } s (execHello p s) := by
  unfold execHello
  change Touch _ s _
  exact State.hello_touch.on rfl .refl

theorem execClose_touch {p : PduIn} {s : State} :
    Leaves { regs := true, host := true, cmd := true, cad := true, insts := true, flash := true, buf := true, eng := true, dig := true, srch := true, cores := true, scan := true, dram := true, knot := true, tel := true } s (execClose p s) := by
  unfold execClose
  change Touch _ s _
  exact State.sequenced_touch rfl fun _ h => h

theorem execKeepalive_touch {p : PduIn} {s : State} :
    Leaves { regs := true, host := true, cmd := true, insts := true, tel := true } s (execKeepalive p s) := by
  unfold execKeepalive
  change Touch _ s _
  exact State.keepPdu_touch.on rfl .refl

theorem execAck_touch {p : PduIn} {s : State} :
    Leaves { regs := true, host := true, cmd := true, insts := true, tel := true } s (execAck p s) := by
  unfold execAck
  change Touch _ s _
  exact State.ackPdu_touch.on rfl .refl

theorem execNak_touch {p : PduIn} {s : State} :
    Leaves { regs := true, host := true, cmd := true, insts := true, tel := true } s (execNak p s) := by
  unfold execNak
  change Touch _ s _
  exact State.nakPdu_touch.on rfl .refl

theorem execDataOut_touch {p : PduIn} {s : State} :
    Leaves { regs := true, shVal := true, shMask := true, pairHi := true, resp := true, cfg := true, host := true, cmd := true, cad := true, insts := true, flash := true, buf := true, eng := true, dig := true, srch := true, cores := true, scan := true, dram := true, srd := true, knot := true, pwr := true, otp := true, tel := true } s (execDataOut p s) := by
  unfold execDataOut
  change Touch _ s _
  exact State.dataOut_touch.on rfl .refl

theorem execAbort_touch {p : PduIn} {s : State} :
    Leaves { regs := true, host := true, cmd := true, cad := true, insts := true, flash := true, buf := true, eng := true, dig := true, srch := true, cores := true, scan := true, dram := true, knot := true, tel := true } s (execAbort p s) := by
  unfold execAbort
  change Touch _ s _
  exact State.sequenced_touch rfl fun _ h => h

end Sys2Proof.Machine
end

