-- ==== Sys2Proof/Laws/FootXRegBus.lean ====
section
/-! SUPPORT. What each command of Machine/RegBus.lean can touch. -/

namespace Sys2Proof.Machine
open Sys2Proof

theorem execRegisterWrite_touch {req off width : ℕ} {v : BitVec 32} {parity : Bool} {s : State} :
    Leaves { regs := true, shVal := true, shMask := true, resp := true, cfg := true, host := true, cmd := true, cad := true, insts := true, flash := true, buf := true, eng := true, dig := true, srch := true, cores := true, scan := true, dram := true, srd := true, knot := true, pwr := true, otp := true, tel := true } s (execRegisterWrite req off width v parity s) := by
  unfold execRegisterWrite
  change Touch _ s _
  refine .ite ?_ ?_
  · extract_lets v0
    refine .step (x := v0) (State.regStore_touch.on rfl .refl) fun h1 => ?_
    exact .ite (State.parityHit_touch.on rfl h1) h1
  · exact .refl

theorem execErrClr_touch {page req : ℕ} {s : State} :
    Leaves { regs := true, shVal := true, shMask := true, resp := true, cfg := true, host := true, cmd := true, cad := true, insts := true, flash := true, buf := true, eng := true, dig := true, srch := true, cores := true, scan := true, dram := true, srd := true, knot := true, pwr := true, otp := true, tel := true } s (execErrClr page req s) := by
  unfold execErrClr
  change Touch _ s _
  exact State.regPut_touch.on rfl .refl

theorem execIrqForce_touch {page req : ℕ} {bits : BitVec 32} {s : State} :
    Leaves { regs := true, shVal := true, shMask := true, resp := true, cfg := true, host := true, cmd := true, cad := true, insts := true, flash := true, buf := true, eng := true, dig := true, srch := true, cores := true, scan := true, dram := true, srd := true, knot := true, pwr := true, otp := true, tel := true } s (execIrqForce page req bits s) := by
  unfold execIrqForce
  change Touch _ s _
  exact State.regPut_touch.on rfl .refl

theorem execDomReq_touch {req word : ℕ} {v : BitVec 32} {s : State} :
    Leaves { regs := true, shVal := true, shMask := true, resp := true, cfg := true, host := true, cmd := true, cad := true, insts := true, flash := true, buf := true, eng := true, dig := true, srch := true, cores := true, scan := true, dram := true, srd := true, knot := true, pwr := true, otp := true, tel := true } s (execDomReq req word v s) := by
  unfold execDomReq
  change Touch _ s _
  exact State.regPut_touch.on rfl .refl

theorem execCoreReset_touch {req : ℕ} {mask : BitVec 32} {s : State} :
    Leaves { regs := true, shVal := true, shMask := true, resp := true, cfg := true, host := true, cmd := true, cad := true, insts := true, flash := true, buf := true, eng := true, dig := true, srch := true, cores := true, scan := true, dram := true, srd := true, knot := true, pwr := true, otp := true, tel := true } s (execCoreReset req mask s) := by
  unfold execCoreReset
  change Touch _ s _
  exact State.regPut_touch.on rfl .refl

theorem execCoreHold_touch {req : ℕ} {mask : BitVec 32} {s : State} :
    Leaves { regs := true, shVal := true, shMask := true, resp := true, cfg := true, host := true, cmd := true, cad := true, insts := true, flash := true, buf := true, eng := true, dig := true, srch := true, cores := true, scan := true, dram := true, srd := true, knot := true, pwr := true, otp := true, tel := true } s (execCoreHold req mask s) := by
  unfold execCoreHold
  change Touch _ s _
  exact State.regPut_touch.on rfl .refl

theorem execBootStage_touch {req stage : ℕ} {s : State} :
    Leaves { regs := true, shVal := true, shMask := true, resp := true, cfg := true, host := true, cmd := true, cad := true, insts := true, flash := true, buf := true, eng := true, dig := true, srch := true, cores := true, scan := true, dram := true, srd := true, knot := true, pwr := true, otp := true, tel := true } s (execBootStage req stage s) := by
  unfold execBootStage
  change Touch _ s _
  exact State.regPut_touch.on rfl .refl

theorem execFwqTail_touch {grp req v : ℕ} {s : State} :
    Leaves { regs := true, shVal := true, shMask := true, resp := true, cfg := true, host := true, cmd := true, cad := true, insts := true, flash := true, buf := true, eng := true, dig := true, srch := true, cores := true, scan := true, dram := true, srd := true, knot := true, pwr := true, otp := true, tel := true } s (execFwqTail grp req v s) := by
  unfold execFwqTail
  change Touch _ s _
  exact .ite (State.regPut_touch.on rfl .refl) .refl

theorem execRegacc_touch {write : Bool} {off : ℕ} {data : BitVec 32} {s : State} :
    Leaves { regs := true, shVal := true, shMask := true, pairHi := true, resp := true, cfg := true, host := true, cmd := true, cad := true, insts := true, flash := true, buf := true, eng := true, dig := true, srch := true, cores := true, scan := true, dram := true, srd := true, knot := true, pwr := true, otp := true, tel := true, jtag := true } s (execRegacc write off data s) := by
  unfold execRegacc
  change Touch _ s _
  exact State.regacc_touch.on rfl .refl

end Sys2Proof.Machine
end

