-- ==== Sys2Proof/Laws/FootXSearch.lean ====
section
/-! SUPPORT. What each command of Machine/Search.lean can touch. -/

namespace Sys2Proof.Machine
open Sys2Proof

theorem execSearchResult_touch {b : ℕ} {badPrio badAssoc : Bool} {s : State} :
    Leaves { regs := true, cmd := true, srch := true, freeCtr := true } s (execSearchResult b badPrio badAssoc s) := by
  unfold execSearchResult
  change Touch _ s _
  exact State.searchReady_touch.on rfl .refl

theorem execUpdateRecordSlot_touch {item : ℕ} {delivered : Bool} {s : State} :
    Leaves { regs := true, cmd := true, srch := true, dram := true, tel := true } s (execUpdateRecordSlot item delivered s) := by
  unfold execUpdateRecordSlot
  change Touch _ s _
  exact State.updSlot_touch.on rfl .refl

theorem execRegionSweep_touch {b : ℕ} {s : State} :
    Leaves { regs := true, srch := true } s (execRegionSweep b s) := by
  unfold execRegionSweep
  change Touch _ s _
  exact State.sweepSlot_touch.on rfl .refl

theorem execEntryParityCheck_touch {b i err : ℕ} {s : State} :
    Leaves { regs := true, srch := true, dram := true, tel := true } s (execEntryParityCheck b i err s) := by
  unfold execEntryParityCheck
  change Touch _ s _
  exact State.checkEntry_touch.on rfl .refl

theorem execFwSearch_touch {bank : ℕ} {global : Bool} {s : State} :
    Leaves { regs := true, srch := true, dram := true, tel := true } s (execFwSearch bank global s) := by
  unfold execFwSearch
  change Touch _ s _
  exact State.fwWrite_touch.on rfl .refl

theorem execFwWrite_touch {bank index : ℕ} {s : State} :
    Leaves { regs := true, srch := true, dram := true, tel := true } s (execFwWrite bank index s) := by
  unfold execFwWrite
  change Touch _ s _
  exact State.fwWrite_touch.on rfl .refl

theorem execFwInvalidate_touch {bank index : ℕ} {s : State} :
    Leaves { regs := true, srch := true, dram := true, tel := true } s (execFwInvalidate bank index s) := by
  unfold execFwInvalidate
  change Touch _ s _
  exact State.fwWrite_touch.on rfl .refl

end Sys2Proof.Machine
end

