-- ==== Sys2Proof/Laws/FootXSend.lean ====
section
/-! SUPPORT. What each command of Machine/Send.lean can touch. -/

namespace Sys2Proof.Machine
open Sys2Proof

theorem execBlockApply_touch {page : ℕ} {s : State} :
    Leaves { regs := true, shVal := true, shMask := true, cfg := true, host := true, cmd := true, cad := true, insts := true, flash := true, buf := true, eng := true, dig := true, srch := true, cores := true, scan := true, dram := true, knot := true, tel := true } s (execBlockApply page s) := by
  unfold execBlockApply
  change Touch _ s _
  exact State.mgmtWake_touch.on rfl (State.blockApply_touch.on rfl .refl)

theorem execSendXferRdy_touch {item : ℕ} {s : State} :
    Leaves { regs := true, host := true, cmd := true, insts := true, tel := true } s (execSendXferRdy item s) := by
  unfold execSendXferRdy
  change Touch _ s _
  exact State.grant_touch.on rfl .refl

theorem execDataInSend_touch {item len : ℕ} {s : State} :
    Leaves { regs := true, host := true, cmd := true, insts := true, tel := true } s (execDataInSend item len s) := by
  unfold execDataInSend
  change Touch _ s _
  exact State.dataSend_touch.on rfl .refl

theorem execFrameTransmit_touch {port sub : ℕ} {s : State} :
    Leaves { host := true, cmd := true, tel := true } s (execFrameTransmit port sub s) := by
  unfold execFrameTransmit
  change Touch _ s _
  exact State.transmit_touch.on rfl .refl

theorem execRetransmitTimeout_touch {conn : ℕ} {s : State} :
    Leaves { regs := true, host := true, cmd := true, cad := true, insts := true, flash := true, buf := true, eng := true, dig := true, srch := true, cores := true, scan := true, dram := true, knot := true, tel := true } s (execRetransmitTimeout conn s) := by
  unfold execRetransmitTimeout
  change Touch _ s _
  exact State.retxTimeout_touch.on rfl .refl

theorem execKeepaliveSend_touch {conn : ℕ} {s : State} :
    Leaves { host := true, cmd := true, tel := true } s (execKeepaliveSend conn s) := by
  unfold execKeepaliveSend
  change Touch _ s _
  exact State.keepSend_touch.on rfl .refl

theorem execKeepaliveTimeout_touch {conn : ℕ} {s : State} :
    Leaves { regs := true, host := true, cmd := true, cad := true, insts := true, flash := true, buf := true, eng := true, dig := true, srch := true, cores := true, scan := true, dram := true, knot := true, tel := true } s (execKeepaliveTimeout conn s) := by
  unfold execKeepaliveTimeout
  change Touch _ s _
  exact State.keepTimeout_touch.on rfl .refl

theorem execDelayedAck_touch {conn : ℕ} {s : State} :
    Leaves { host := true, cmd := true, tel := true } s (execDelayedAck conn s) := by
  unfold execDelayedAck
  change Touch _ s _
  exact State.delayedAck_touch.on rfl .refl

theorem execHelloRcvdTimeout_touch {conn : ℕ} {s : State} :
    Leaves { host := true } s (execHelloRcvdTimeout conn s) := by
  unfold execHelloRcvdTimeout
  change Touch _ s _
  exact State.helloTimeout_touch.on rfl .refl

theorem execDataTimeout_touch {item : ℕ} {s : State} :
    Leaves { regs := true, host := true, cmd := true, cad := true, insts := true, flash := true, buf := true, eng := true, dig := true, srch := true, cores := true, scan := true, dram := true, knot := true, tel := true } s (execDataTimeout item s) := by
  unfold execDataTimeout
  change Touch _ s _
  exact State.dataTimeout_touch.on rfl .refl

theorem execSendCloseNormal_touch {conn : ℕ} {s : State} :
    Leaves { regs := true, host := true, cmd := true, insts := true, tel := true } s (execSendCloseNormal conn s) := by
  unfold execSendCloseNormal
  change Touch _ s _
  exact State.closeNormal_touch.on rfl .refl

theorem execLinkChange_touch {port sub : ℕ} {up : Bool} {s : State} :
    Leaves { regs := true } s (execLinkChange port sub up s) := by
  unfold execLinkChange
  change Touch _ s _
  exact State.linkChange_touch.on rfl .refl

theorem execUnknownOpcode_touch {op : ℕ} {c : CmdIn} {s : State} :
    Leaves { regs := true, host := true, cmd := true, cad := true, insts := true, flash := true, buf := true, eng := true, dig := true, srch := true, cores := true, scan := true, dram := true, knot := true, tel := true } s (execUnknownOpcode op c s) := by
  unfold execUnknownOpcode
  change Touch _ s _
  exact State.unknownCmd_touch.on rfl .refl

theorem execRead_touch {c : CmdIn} {s : State} :
    Leaves { regs := true, host := true, cmd := true, cad := true, insts := true, flash := true, buf := true, eng := true, dig := true, srch := true, cores := true, scan := true, dram := true, knot := true, tel := true } s (execRead c s) := by
  unfold execRead
  change Touch _ s _
  exact State.cmdPdu_touch.on rfl .refl

theorem execWrite_touch {c : CmdIn} {s : State} :
    Leaves { regs := true, host := true, cmd := true, cad := true, insts := true, flash := true, buf := true, eng := true, dig := true, srch := true, cores := true, scan := true, dram := true, knot := true, tel := true } s (execWrite c s) := by
  unfold execWrite
  change Touch _ s _
  exact State.cmdPdu_touch.on rfl .refl

theorem execWriteZeroes_touch {c : CmdIn} {s : State} :
    Leaves { regs := true, host := true, cmd := true, cad := true, insts := true, flash := true, buf := true, eng := true, dig := true, srch := true, cores := true, scan := true, dram := true, knot := true, tel := true } s (execWriteZeroes c s) := by
  unfold execWriteZeroes
  change Touch _ s _
  exact State.cmdPdu_touch.on rfl .refl

theorem execDeallocate_touch {c : CmdIn} {s : State} :
    Leaves { regs := true, host := true, cmd := true, cad := true, insts := true, flash := true, buf := true, eng := true, dig := true, srch := true, cores := true, scan := true, dram := true, knot := true, tel := true } s (execDeallocate c s) := by
  unfold execDeallocate
  change Touch _ s _
  exact State.cmdPdu_touch.on rfl .refl

theorem execFlush_touch {c : CmdIn} {s : State} :
    Leaves { regs := true, host := true, cmd := true, cad := true, insts := true, flash := true, buf := true, eng := true, dig := true, srch := true, cores := true, scan := true, dram := true, knot := true, tel := true } s (execFlush c s) := by
  unfold execFlush
  change Touch _ s _
  exact State.cmdPdu_touch.on rfl .refl

theorem execScan_touch {c : CmdIn} {s : State} :
    Leaves { regs := true, host := true, cmd := true, cad := true, insts := true, flash := true, buf := true, eng := true, dig := true, srch := true, cores := true, scan := true, dram := true, knot := true, tel := true } s (execScan c s) := by
  unfold execScan
  change Touch _ s _
  exact State.cmdPdu_touch.on rfl .refl

theorem execLoadProgram_touch {c : CmdIn} {s : State} :
    Leaves { regs := true, host := true, cmd := true, cad := true, insts := true, flash := true, buf := true, eng := true, dig := true, srch := true, cores := true, scan := true, dram := true, knot := true, tel := true } s (execLoadProgram c s) := by
  unfold execLoadProgram
  change Touch _ s _
  exact State.cmdPdu_touch.on rfl .refl

theorem execUnloadProgram_touch {c : CmdIn} {s : State} :
    Leaves { regs := true, host := true, cmd := true, cad := true, insts := true, flash := true, buf := true, eng := true, dig := true, srch := true, cores := true, scan := true, dram := true, knot := true, tel := true } s (execUnloadProgram c s) := by
  unfold execUnloadProgram
  change Touch _ s _
  exact State.cmdPdu_touch.on rfl .refl

theorem execSearch_touch {c : CmdIn} {s : State} :
    Leaves { regs := true, host := true, cmd := true, cad := true, insts := true, flash := true, buf := true, eng := true, dig := true, srch := true, cores := true, scan := true, dram := true, knot := true, tel := true } s (execSearch c s) := by
  unfold execSearch
  change Touch _ s _
  exact State.cmdPdu_touch.on rfl .refl

theorem execTableUpdate_touch {c : CmdIn} {s : State} :
    Leaves { regs := true, host := true, cmd := true, cad := true, insts := true, flash := true, buf := true, eng := true, dig := true, srch := true, cores := true, scan := true, dram := true, knot := true, tel := true } s (execTableUpdate c s) := by
  unfold execTableUpdate
  change Touch _ s _
  exact State.cmdPdu_touch.on rfl .refl

theorem execDigest_touch {c : CmdIn} {s : State} :
    Leaves { regs := true, host := true, cmd := true, cad := true, insts := true, flash := true, buf := true, eng := true, dig := true, srch := true, cores := true, scan := true, dram := true, knot := true, tel := true } s (execDigest c s) := by
  unfold execDigest
  change Touch _ s _
  exact State.cmdPdu_touch.on rfl .refl

theorem execCompareDigest_touch {c : CmdIn} {s : State} :
    Leaves { regs := true, host := true, cmd := true, cad := true, insts := true, flash := true, buf := true, eng := true, dig := true, srch := true, cores := true, scan := true, dram := true, knot := true, tel := true } s (execCompareDigest c s) := by
  unfold execCompareDigest
  change Touch _ s _
  exact State.cmdPdu_touch.on rfl .refl

theorem execSealRecord_touch {c : CmdIn} {s : State} :
    Leaves { regs := true, host := true, cmd := true, cad := true, insts := true, flash := true, buf := true, eng := true, dig := true, srch := true, cores := true, scan := true, dram := true, knot := true, tel := true } s (execSealRecord c s) := by
  unfold execSealRecord
  change Touch _ s _
  exact State.cmdPdu_touch.on rfl .refl

theorem execVerifySeal_touch {c : CmdIn} {s : State} :
    Leaves { regs := true, host := true, cmd := true, cad := true, insts := true, flash := true, buf := true, eng := true, dig := true, srch := true, cores := true, scan := true, dram := true, knot := true, tel := true } s (execVerifySeal c s) := by
  unfold execVerifySeal
  change Touch _ s _
  exact State.cmdPdu_touch.on rfl .refl

theorem execGetSealCheckpoint_touch {c : CmdIn} {s : State} :
    Leaves { regs := true, host := true, cmd := true, cad := true, insts := true, flash := true, buf := true, eng := true, dig := true, srch := true, cores := true, scan := true, dram := true, knot := true, tel := true } s (execGetSealCheckpoint c s) := by
  unfold execGetSealCheckpoint
  change Touch _ s _
  exact State.cmdPdu_touch.on rfl .refl

theorem execIdentify_touch {c : CmdIn} {s : State} :
    Leaves { regs := true, host := true, cmd := true, cad := true, insts := true, flash := true, buf := true, eng := true, dig := true, srch := true, cores := true, scan := true, dram := true, knot := true, tel := true } s (execIdentify c s) := by
  unfold execIdentify
  change Touch _ s _
  exact State.cmdPdu_touch.on rfl .refl

theorem execGetLog_touch {c : CmdIn} {s : State} :
    Leaves { regs := true, host := true, cmd := true, cad := true, insts := true, flash := true, buf := true, eng := true, dig := true, srch := true, cores := true, scan := true, dram := true, knot := true, tel := true } s (execGetLog c s) := by
  unfold execGetLog
  change Touch _ s _
  exact State.cmdPdu_touch.on rfl .refl

theorem execSetFeature_touch {c : CmdIn} {s : State} :
    Leaves { regs := true, host := true, cmd := true, cad := true, insts := true, flash := true, buf := true, eng := true, dig := true, srch := true, cores := true, scan := true, dram := true, knot := true, tel := true } s (execSetFeature c s) := by
  unfold execSetFeature
  change Touch _ s _
  exact State.cmdPdu_touch.on rfl .refl

theorem execGetFeature_touch {c : CmdIn} {s : State} :
    Leaves { regs := true, host := true, cmd := true, cad := true, insts := true, flash := true, buf := true, eng := true, dig := true, srch := true, cores := true, scan := true, dram := true, knot := true, tel := true } s (execGetFeature c s) := by
  unfold execGetFeature
  change Touch _ s _
  exact State.cmdPdu_touch.on rfl .refl

theorem execCreateInstance_touch {c : CmdIn} {s : State} :
    Leaves { regs := true, host := true, cmd := true, cad := true, insts := true, flash := true, buf := true, eng := true, dig := true, srch := true, cores := true, scan := true, dram := true, knot := true, tel := true } s (execCreateInstance c s) := by
  unfold execCreateInstance
  change Touch _ s _
  exact State.cmdPdu_touch.on rfl .refl

theorem execDeleteInstance_touch {c : CmdIn} {s : State} :
    Leaves { regs := true, host := true, cmd := true, cad := true, insts := true, flash := true, buf := true, eng := true, dig := true, srch := true, cores := true, scan := true, dram := true, knot := true, tel := true } s (execDeleteInstance c s) := by
  unfold execDeleteInstance
  change Touch _ s _
  exact State.cmdPdu_touch.on rfl .refl

theorem execResetInstance_touch {c : CmdIn} {s : State} :
    Leaves { regs := true, host := true, cmd := true, cad := true, insts := true, flash := true, buf := true, eng := true, dig := true, srch := true, cores := true, scan := true, dram := true, knot := true, tel := true } s (execResetInstance c s) := by
  unfold execResetInstance
  change Touch _ s _
  exact State.cmdPdu_touch.on rfl .refl

theorem execSetQuota_touch {c : CmdIn} {s : State} :
    Leaves { regs := true, host := true, cmd := true, cad := true, insts := true, flash := true, buf := true, eng := true, dig := true, srch := true, cores := true, scan := true, dram := true, knot := true, tel := true } s (execSetQuota c s) := by
  unfold execSetQuota
  change Touch _ s _
  exact State.cmdPdu_touch.on rfl .refl

theorem execMigrationLogStop_touch {c : CmdIn} {s : State} :
    Leaves { regs := true, host := true, cmd := true, cad := true, insts := true, flash := true, buf := true, eng := true, dig := true, srch := true, cores := true, scan := true, dram := true, knot := true, tel := true } s (execMigrationLogStop c s) := by
  unfold execMigrationLogStop
  change Touch _ s _
  exact State.cmdPdu_touch.on rfl .refl

theorem execMigrationLogStart_touch {c : CmdIn} {s : State} :
    Leaves { regs := true, host := true, cmd := true, cad := true, insts := true, flash := true, buf := true, eng := true, dig := true, srch := true, cores := true, scan := true, dram := true, knot := true, tel := true } s (execMigrationLogStart c s) := by
  unfold execMigrationLogStart
  change Touch _ s _
  exact State.cmdPdu_touch.on rfl .refl

theorem execMigrationLogRead_touch {c : CmdIn} {s : State} :
    Leaves { regs := true, host := true, cmd := true, cad := true, insts := true, flash := true, buf := true, eng := true, dig := true, srch := true, cores := true, scan := true, dram := true, knot := true, tel := true } s (execMigrationLogRead c s) := by
  unfold execMigrationLogRead
  change Touch _ s _
  exact State.cmdPdu_touch.on rfl .refl

theorem execMigrationLogReadClear_touch {c : CmdIn} {s : State} :
    Leaves { regs := true, host := true, cmd := true, cad := true, insts := true, flash := true, buf := true, eng := true, dig := true, srch := true, cores := true, scan := true, dram := true, knot := true, tel := true } s (execMigrationLogReadClear c s) := by
  unfold execMigrationLogReadClear
  change Touch _ s _
  exact State.cmdPdu_touch.on rfl .refl

theorem execFwDownload_touch {c : CmdIn} {s : State} :
    Leaves { regs := true, host := true, cmd := true, cad := true, insts := true, flash := true, buf := true, eng := true, dig := true, srch := true, cores := true, scan := true, dram := true, knot := true, tel := true } s (execFwDownload c s) := by
  unfold execFwDownload
  change Touch _ s _
  exact State.cmdPdu_touch.on rfl .refl

theorem execFwActivate_touch {c : CmdIn} {s : State} :
    Leaves { regs := true, host := true, cmd := true, cad := true, insts := true, flash := true, buf := true, eng := true, dig := true, srch := true, cores := true, scan := true, dram := true, knot := true, tel := true } s (execFwActivate c s) := by
  unfold execFwActivate
  change Touch _ s _
  exact State.cmdPdu_touch.on rfl .refl

theorem execRegRead_touch {c : CmdIn} {s : State} :
    Leaves { regs := true, host := true, cmd := true, cad := true, insts := true, flash := true, buf := true, eng := true, dig := true, srch := true, cores := true, scan := true, dram := true, knot := true, tel := true } s (execRegRead c s) := by
  unfold execRegRead
  change Touch _ s _
  exact State.cmdPdu_touch.on rfl .refl

theorem execRegWrite_touch {c : CmdIn} {s : State} :
    Leaves { regs := true, host := true, cmd := true, cad := true, insts := true, flash := true, buf := true, eng := true, dig := true, srch := true, cores := true, scan := true, dram := true, knot := true, tel := true } s (execRegWrite c s) := by
  unfold execRegWrite
  change Touch _ s _
  exact State.cmdPdu_touch.on rfl .refl

theorem execDeviceReset_touch {c : CmdIn} {s : State} :
    Leaves { regs := true, host := true, cmd := true, cad := true, insts := true, flash := true, buf := true, eng := true, dig := true, srch := true, cores := true, scan := true, dram := true, knot := true, tel := true } s (execDeviceReset c s) := by
  unfold execDeviceReset
  change Touch _ s _
  exact State.cmdPdu_touch.on rfl .refl

end Sys2Proof.Machine
end

