-- ==== Sys2Proof/Laws/FootXSrd.lean ====
section
/-! SUPPORT. What each command of Machine/Srd.lean can touch. -/

namespace Sys2Proof.Machine
open Sys2Proof

theorem execSrdPowerOn_touch {s : State} :
    Leaves { regs := true, srd := true } s (execSrdPowerOn s) := by
  unfold execSrdPowerOn
  change Touch _ s _
  exact State.srdPowerOn_touch.on rfl .refl

theorem execVddSrdLoss_touch {s : State} :
    Leaves { regs := true, srd := true } s (execVddSrdLoss s) := by
  unfold execVddSrdLoss
  change Touch _ s _
  exact State.srdLoss_touch.on rfl .refl

theorem execTamperSample_touch {sealN t0 t1 : Bool} {dt : ℕ} {s : State} :
    Leaves { regs := true, srd := true } s (execTamperSample sealN t0 t1 dt s) := by
  unfold execTamperSample
  change Touch _ s _
  exact State.tamperSample_touch.on rfl .refl

theorem execPpsEdge_touch {good ref : Bool} {err : ℤ} {dt : ℕ} {s : State} :
    Leaves { regs := true, srd := true } s (execPpsEdge good ref err dt s) := by
  unfold execPpsEdge
  change Touch _ s _
  exact State.ppsEdge_touch.on rfl .refl

theorem execReferenceLoss_touch {dt : ℕ} {s : State} :
    Leaves { regs := true, srd := true } s (execReferenceLoss dt s) := by
  unfold execReferenceLoss
  change Touch _ s _
  exact State.srdTo_touch.on rfl .refl

theorem execPpsTimeout_touch {dt : ℕ} {s : State} :
    Leaves { regs := true, srd := true } s (execPpsTimeout dt s) := by
  unfold execPpsTimeout
  change Touch _ s _
  exact State.srdTo_touch.on rfl .refl

theorem execMbInPost_touch {req item : ℕ} {s : State} :
    Leaves { regs := true, cmd := true, dram := true, srd := true, tel := true } s (execMbInPost req item s) := by
  unfold execMbInPost
  change Touch _ s _
  exact .ite (State.mbInPost_touch.on rfl .refl) (State.sealPost_touch.on rfl .refl)

theorem execMbOutPop_touch {s : State} :
    Leaves { regs := true, cmd := true, srd := true } s (execMbOutPop s) := by
  unfold execMbOutPop
  change Touch _ s _
  exact State.mbOutPop_touch.on rfl .refl

theorem execSrdSeal_touch {dt : ℕ} {s : State} :
    Leaves { regs := true, srd := true } s (execSrdSeal dt s) := by
  unfold execSrdSeal
  change Touch _ s _
  exact State.srdSeal_touch.on rfl .refl

theorem execSrdVerify_touch {s : State} :
    Leaves { regs := true, srd := true } s (execSrdVerify s) := by
  unfold execSrdVerify
  change Touch _ s _
  exact State.srdVerify_touch.on rfl .refl

theorem execSrdGet_touch {s : State} :
    Leaves { regs := true, srd := true } s (execSrdGet s) := by
  unfold execSrdGet
  change Touch _ s _
  exact State.srdGet_touch.on rfl .refl

theorem execHourCheckpoint_touch {dt : ℕ} {s : State} :
    Leaves { srd := true } s (execHourCheckpoint dt s) := by
  unfold execHourCheckpoint
  change Touch _ s _
  exact State.setSrd_touch.on rfl .refl

theorem execLockExpiry_touch {idx dt : ℕ} {s : State} :
    Leaves { regs := true, srd := true } s (execLockExpiry idx dt s) := by
  unfold execLockExpiry
  change Touch _ s _
  exact State.lockExpiry_touch.on rfl .refl

theorem execMailboxReset_touch {s : State} :
    Leaves { regs := true, flash := true, srd := true } s (execMailboxReset s) := by
  unfold execMailboxReset
  change Touch _ s _
  exact State.mailboxReset_touch.on rfl .refl

theorem execLockSet_touch {s : State} :
    Leaves { regs := true, flash := true, srd := true } s (execLockSet s) := by
  unfold execLockSet
  change Touch _ s _
  exact State.hwTake_touch rfl .refl fun _ => .upd_flash .refl rfl

theorem execLockClear_touch {s : State} :
    Leaves { regs := true, flash := true, srd := true } s (execLockClear s) := by
  unfold execLockClear
  change Touch _ s _
  exact State.hwTake_touch rfl .refl fun _ => .upd_flash .refl rfl

theorem execReplayEnd_touch {s : State} :
    Leaves { regs := true, srd := true } s (execReplayEnd s) := by
  unfold execReplayEnd
  change Touch _ s _
  exact State.hwTake_touch rfl .refl fun _ => State.setFld_touch.on rfl .refl

theorem execStatusPost_touch {dt : ℕ} {s : State} :
    Leaves { regs := true, srd := true } s (execStatusPost dt s) := by
  unfold execStatusPost
  change Touch _ s _
  exact State.postStatus_touch.on rfl (State.setSrd_touch.on rfl .refl)

theorem execStatusMessage_touch {s : State} :
    Leaves { regs := true, host := true, dram := true, srd := true, tel := true } s (execStatusMessage s) := by
  unfold execStatusMessage
  change Touch _ s _
  exact State.hwTake_touch rfl .refl fun _ => State.latchStatus_touch.on rfl .refl

theorem execStatus_touch {dt : ℕ} {s : State} :
    Leaves { srd := true } s (execStatus dt s) := by
  unfold execStatus
  change Touch _ s _
  exact State.setSrd_touch.on rfl .refl

theorem execIdent_touch {s : State} :
    Leaves { srd := true } s (execIdent s) := by
  unfold execIdent
  change Touch _ s _
  exact State.setSrd_touch.on rfl .refl

theorem execNonce_touch {s : State} :
    Leaves { srd := true } s (execNonce s) := by
  unfold execNonce
  change Touch _ s _
  exact State.setSrd_touch.on rfl .refl

theorem execNonceLapse_touch {s : State} :
    Leaves { srd := true } s (execNonceLapse s) := by
  unfold execNonceLapse
  change Touch _ s _
  exact State.setSrd_touch.on rfl .refl

theorem execTimeSet_touch {utc : Nat} {leap : Int} {ok : Bool} {s : State} :
    Leaves { srd := true } s (execTimeSet utc leap ok s) := by
  unfold execTimeSet
  change Touch _ s _
  exact State.authorised_touch rfl .refl fun _ h => State.timeSet_touch.on rfl h

theorem execLeapSet_touch {utc : Nat} {leap : Int} {ok : Bool} {s : State} :
    Leaves { srd := true } s (execLeapSet utc leap ok s) := by
  unfold execLeapSet
  change Touch _ s _
  exact State.authorised_touch rfl .refl fun _ h => State.leapSet_touch.on rfl h

theorem execLeapApply_touch {dt : ℕ} {s : State} :
    Leaves { srd := true } s (execLeapApply dt s) := by
  unfold execLeapApply
  change Touch _ s _
  exact State.leapApply_touch.on rfl .refl

theorem execVerifyEnter_touch {bad : Nat} {ok : Bool} {s : State} :
    Leaves { regs := true, srd := true } s (execVerifyEnter bad ok s) := by
  unfold execVerifyEnter
  change Touch _ s _
  exact State.authorised_touch rfl .refl fun _ h => State.verifyEnter_touch.on rfl h

theorem execVerifyExit_touch {dt : Nat} {ok : Bool} {s : State} :
    Leaves { regs := true, srd := true } s (execVerifyExit dt ok s) := by
  unfold execVerifyExit
  change Touch _ s _
  exact State.authorised_touch rfl (State.setSrd_touch.on rfl .refl) fun _ h => State.verifyExit_touch.on rfl h

theorem execFwLoad_touch {image : List Byte} {version : Nat} {imgOk ok : Bool} {s : State} :
    Leaves { srd := true } s (execFwLoad image version imgOk ok s) := by
  unfold execFwLoad
  change Touch _ s _
  exact State.authorised_touch rfl .refl fun _ h => .ite (State.setSrd_touch.on rfl h) h

theorem execKeygen_touch {ok : Bool} {s : State} :
    Leaves { srd := true } s (execKeygen ok s) := by
  unfold execKeygen
  change Touch _ s _
  exact State.authorised_touch rfl .refl fun _ h => .ite (State.setSrd_touch.on rfl h) h

theorem execProvision_touch {id : Nat} {auth : List Byte} {ok : Bool} {s : State} :
    Leaves { srd := true } s (execProvision id auth ok s) := by
  unfold execProvision
  change Touch _ s _
  exact State.authorised_touch rfl .refl fun _ h => State.srdProvision_touch.on rfl h

end Sys2Proof.Machine
end

