-- ==== Sys2Proof/Laws/FootXStart.lean ====
section
/-! SUPPORT. What each command of Machine/Start.lean can touch. -/

namespace Sys2Proof.Machine
open Sys2Proof

theorem execBestEffortStart_touch {item : ℕ} {s : State} :
    Leaves { regs := true, shVal := true, shMask := true, pairHi := true, resp := true, cfg := true, host := true, cmd := true, cad := true, insts := true, flash := true, buf := true, eng := true, dig := true, srch := true, cores := true, scan := true, dram := true, srd := true, knot := true, pwr := true, otp := true, tel := true } s (execBestEffortStart item s) := by
  unfold execBestEffortStart
  change Touch _ s _
  exact State.bestStart_touch.on rfl .refl

end Sys2Proof.Machine
end

