-- ==== Sys2Proof/Laws/FootXTelem.lean ====
section
/-! SUPPORT. What each command of Machine/Telem.lean can touch. -/

namespace Sys2Proof.Machine
open Sys2Proof

theorem execSnap_touch {s : State} :
    Leaves { regs := true, tel := true } s (execSnap s) := by
  unfold execSnap
  change Touch _ s _
  exact State.snap_touch.on rfl .refl

theorem execAsyncEventSend_touch {conn code : ℕ} {s : State} :
    Leaves { regs := true, host := true, cmd := true, insts := true, tel := true } s (execAsyncEventSend conn code s) := by
  unfold execAsyncEventSend
  change Touch _ s _
  exact State.asyncSend_touch.on rfl .refl

theorem execBackgroundWindow_touch {got : List (ℕ × ℕ)} {late : ℕ} {s : State} :
    Leaves { regs := true, flash := true, dram := true, tel := true } s (execBackgroundWindow got late s) := by
  unfold execBackgroundWindow
  change Touch _ s _
  exact State.bgWindow_touch.on rfl .refl

theorem execTapReset_touch {s : State} :
    Leaves { jtag := true } s (execTapReset s) := by
  unfold execTapReset
  change Touch _ s _
  exact .upd_jtag .refl rfl

theorem execTapInstruction_touch {code : ℕ} {s : State} :
    Leaves { jtag := true } s (execTapInstruction code s) := by
  unfold execTapInstruction
  change Touch _ s _
  exact State.tapInstr_touch.on rfl .refl

end Sys2Proof.Machine
end

