-- ==== Sys2Proof/Laws/FootXThermal.lean ====
section
/-! SUPPORT. What each command of Machine/Thermal.lean can touch. -/

namespace Sys2Proof.Machine
open Sys2Proof

theorem execRiseComplete_touch {s : State} :
    Leaves { regs := true, host := true, dram := true, therm := true, tel := true } s (execRiseComplete s) := by
  unfold execRiseComplete
  change Touch _ s _
  exact State.riseDone_touch.on rfl .refl

end Sys2Proof.Machine
end

