-- ==== Sys2Proof/Laws/FootXWork.lean ====
section
/-! SUPPORT. What each command of Machine/Work.lean can touch. -/

namespace Sys2Proof.Machine
open Sys2Proof

theorem execCodewordDecode_touch {d : DecodeIn} {s : State} :
    Leaves { regs := true, host := true, cmd := true, insts := true, flash := true, dig := true, cores := true, scan := true, dram := true, tel := true } s (execCodewordDecode d s) := by
  unfold execCodewordDecode
  change Touch _ s _
  exact .ite (State.decodeEnd_touch.on rfl .refl) (State.deliver_touch.on rfl (State.decodeEnd_touch.on rfl .refl))

theorem execFrameCompressed_touch {e : ℕ} {cand : List Byte} {poison : Bool} {s : State} :
    Leaves { regs := true, cmd := true, flash := true, buf := true, eng := true, dig := true, cores := true, scan := true, dram := true, tel := true } s (execFrameCompressed e cand poison s) := by
  unfold execFrameCompressed
  change Touch _ s _
  exact State.writeFail_touch.on rfl (State.frameMade_touch.on rfl .refl)

theorem execFrameDecoded_touch {e : ℕ} {arrived : Option (List Byte)} {poison : Bool} {s : State} :
    Leaves { regs := true, host := true, cmd := true, insts := true, flash := true, buf := true, eng := true, dig := true, cores := true, scan := true, dram := true, tel := true } s (execFrameDecoded e arrived poison s) := by
  unfold execFrameDecoded
  change Touch _ s _
  exact State.deliver_touch.on rfl (State.frameDecoded_touch.on rfl .refl)

theorem execDieTimeout_touch {die : ℕ} {s : State} :
    Leaves { regs := true, host := true, cmd := true, insts := true, flash := true, dig := true, cores := true, scan := true, dram := true, tel := true } s (execDieTimeout die s) := by
  unfold execDieTimeout
  change Touch _ s _
  exact State.deliverAll_touch.on rfl (State.dieTimeout_touch.on rfl .refl)

theorem execMapUpdate_touch {item key : ℕ} {old new : BitVec 64} {s : State} :
    Leaves { regs := true, cmd := true, cad := true, insts := true, flash := true, buf := true, dig := true, cores := true, scan := true, dram := true, knot := true, tel := true } s (execMapUpdate item key old new s) := by
  unfold execMapUpdate
  change Touch _ s _
  exact State.mapUpdate_touch.on rfl .refl

theorem execSupersededRecordExpiry_touch {s : State} :
    Leaves { regs := true, flash := true } s (execSupersededRecordExpiry s) := by
  unfold execSupersededRecordExpiry
  change Touch _ s _
  exact State.eraseReady_touch.on rfl (State.expireKept_touch.on rfl .refl)

theorem execMapSegmentRebuild_touch {seg : ℕ} {s : State} :
    Leaves { regs := true, cmd := true, flash := true, buf := true, dig := true, cores := true, scan := true, dram := true, tel := true } s (execMapSegmentRebuild seg s) := by
  unfold execMapSegmentRebuild
  change Touch _ s _
  exact State.segmentRebuild_touch.on rfl .refl

end Sys2Proof.Machine
end

