-- ==== Sys2Proof/Laws/Regs.lean ====
section
/-! SUPPORT. Bit fields and registers: what reading after writing gives. -/

namespace Sys2Proof.Machine

/-! ### Bit fields -/

/-- A number split at a field. -/
theorem nsetBits_eq (q y r x hi lo : Nat) (hr : r < 2 ^ lo) (hy : y < 2 ^ (hi + 1 - lo)) :
    nsetBits (2 ^ lo * (2 ^ (hi + 1 - lo) * q + y) + r) hi lo x =
      2 ^ lo * (2 ^ (hi + 1 - lo) * q + x % 2 ^ (hi + 1 - lo)) + r := by
  have e : nbits (2 ^ lo * (2 ^ (hi + 1 - lo) * q + y) + r) hi lo = y := by
    simp [nbits, Nat.mul_add_div (Nat.two_pow_pos lo), Nat.div_eq_of_lt hr, Nat.mul_add_mod, Nat.mod_eq_of_lt hy]
  simp only [nsetBits, e]
  simp only [Nat.mul_add, Nat.mul_comm y (2 ^ lo), Nat.mul_comm (x % 2 ^ (hi + 1 - lo)) (2 ^ lo)]
  omega

theorem split_at (v hi lo : Nat) : ∃ q y r, v = 2 ^ lo * (2 ^ (hi + 1 - lo) * q + y) + r ∧ r < 2 ^ lo ∧
    y < 2 ^ (hi + 1 - lo) :=
  ⟨v / 2 ^ lo / 2 ^ (hi + 1 - lo), v / 2 ^ lo % 2 ^ (hi + 1 - lo), v % 2 ^ lo, by
    rw [Nat.div_add_mod, Nat.div_add_mod], Nat.mod_lt _ (Nat.two_pow_pos lo), Nat.mod_lt _ (Nat.two_pow_pos _)⟩

theorem nbits_nsetBits (v hi lo x : Nat) : nbits (nsetBits v hi lo x) hi lo = x % 2 ^ (hi + 1 - lo) := by
  obtain ⟨q, y, r, rfl, hr, hy⟩ := split_at v hi lo
  rw [nsetBits_eq q y r x hi lo hr hy]
  simp [nbits, Nat.mul_add_div (Nat.two_pow_pos lo), Nat.div_eq_of_lt hr, Nat.mul_add_mod]

theorem nbits_nsetBits_above (v hi lo x hi' lo' : Nat) (h : hi < lo') (hl : lo ≤ hi) :
    nbits (nsetBits v hi lo x) hi' lo' = nbits v hi' lo' := by
  obtain ⟨q, y, r, rfl, hr, hy⟩ := split_at v hi lo
  rw [nsetBits_eq q y r x hi lo hr hy]
  have key : ∀ z, z < 2 ^ (hi + 1 - lo) → (2 ^ lo * (2 ^ (hi + 1 - lo) * q + z) + r) / 2 ^ lo' = q / 2 ^ (lo' - (hi + 1)) := by
    intro z hz
    have e : 2 ^ lo' = 2 ^ lo * (2 ^ (hi + 1 - lo) * 2 ^ (lo' - (hi + 1))) := by
      rw [← Nat.pow_add, ← Nat.pow_add]; congr 1; omega
    rw [e, ← Nat.div_div_eq_div_mul, Nat.mul_add_div (Nat.two_pow_pos lo), Nat.div_eq_of_lt hr, Nat.add_zero,
      ← Nat.div_div_eq_div_mul, Nat.mul_add_div (Nat.two_pow_pos _), Nat.div_eq_of_lt hz, Nat.add_zero]
  simp only [nbits, key y hy, key _ (Nat.mod_lt x (Nat.two_pow_pos _))]

theorem nbits_nsetBits_below (v hi lo x hi' lo' : Nat) (h : hi' < lo) (hl : lo' ≤ hi') :
    nbits (nsetBits v hi lo x) hi' lo' = nbits v hi' lo' := by
  obtain ⟨q, y, r, rfl, hr, hy⟩ := split_at v hi lo
  rw [nsetBits_eq q y r x hi lo hr hy]
  have e : 2 ^ lo = 2 ^ lo' * (2 ^ (hi' + 1 - lo') * 2 ^ (lo - (hi' + 1))) := by
    rw [← Nat.pow_add, ← Nat.pow_add]; congr 1; omega
  have key : ∀ z, nbits (2 ^ lo * z + r) hi' lo' = nbits r hi' lo' := by
    intro z
    simp only [nbits]
    rw [e, Nat.mul_assoc, Nat.mul_add_div (Nat.two_pow_pos lo'), Nat.mul_assoc, Nat.mul_add_mod]
  rw [key, key]

theorem nbits_mod (v hi lo : Nat) (h : hi < 32) (hl : lo ≤ hi) : nbits (v % 2 ^ 32) hi lo = nbits v hi lo := by
  have e : 2 ^ 32 = 2 ^ lo * (2 ^ (hi + 1 - lo) * 2 ^ (32 - (hi + 1))) := by
    rw [← Nat.pow_add, ← Nat.pow_add]; congr 1; omega
  simp only [nbits]
  rw [e, Nat.mod_mul_right_div_self, Nat.mod_mul_right_mod]

/-- The field of a number written as a word. -/
theorem fget_ofNat (v hi lo : Nat) (h : hi < 32) (hl : lo ≤ hi) : fget (BitVec.ofNat 32 v) hi lo = nbits v hi lo := by
  simp only [fget, BitVec.toNat_ofNat, nbits_mod v hi lo h hl]

/-- A field reads as what was written to it. -/
theorem fget_fset (w : W32) (hi lo x : Nat) (h : hi < 32) (hl : lo ≤ hi) :
    fget (fset w hi lo x) hi lo = x % 2 ^ (hi + 1 - lo) := by
  rw [fset, fget_ofNat _ _ _ h hl, nbits_nsetBits]

/-- Writing a field leaves a field above it. -/
theorem fget_fset_above (w : W32) (hi lo x hi' lo' : Nat) (h : hi < lo') (hl : lo ≤ hi) (h' : hi' < 32) (hl' : lo' ≤ hi') :
    fget (fset w hi lo x) hi' lo' = fget w hi' lo' := by
  rw [fset, fget_ofNat _ _ _ h' hl', nbits_nsetBits_above _ _ _ _ _ _ h hl, fget]

/-- Writing a field leaves a field below it. -/
theorem fget_fset_below (w : W32) (hi lo x hi' lo' : Nat) (h : hi' < lo) (hl' : lo' ≤ hi') (h32 : hi' < 32) :
    fget (fset w hi lo x) hi' lo' = fget w hi' lo' := by
  rw [fset, fget_ofNat _ _ _ h32 hl', nbits_nsetBits_below _ _ _ _ _ _ h hl', fget]

/-! ### Registers -/

theorem regAt_setRegAt (s : State) (k j : Nat) (v : W32) :
    (s.setRegAt k v).regAt j = if j = k then v else s.regAt j :=
  SMap.getD_setD_at regReset s.regs k j v

/-- A register word reads as what was written to it; every other word is as it was. -/
theorem reg_setReg (s : State) (p o p' o' : Nat) (v : W32) :
    (s.setReg p o v).reg p' o' = if rkey p' o' = rkey p o then v else s.reg p' o' :=
  regAt_setRegAt s (rkey p o) (rkey p' o') v

@[simp] theorem reg_setReg_same (s : State) (p o : Nat) (v : W32) : (s.setReg p o v).reg p o = v := by
  simp [reg_setReg]

theorem reg_setReg_other (s : State) (p o p' o' : Nat) (v : W32) (h : rkey p' o' ≠ rkey p o) :
    (s.setReg p o v).reg p' o' = s.reg p' o' := by
  simp [reg_setReg, h]

/-- A field reads as what was written to it. -/
theorem fld_setFld (s : State) (p o hi lo x : Nat) (h : hi < 32) (hl : lo ≤ hi) :
    (s.setFld p o hi lo x).fld p o hi lo = x % 2 ^ (hi + 1 - lo) := by
  simp [State.fld, State.setFld, fget_fset _ _ _ _ h hl]

/-- A field of another word is as it was. -/
theorem fld_setFld_other (s : State) (p o hi lo x p' o' hi' lo' : Nat) (h : rkey p' o' ≠ rkey p o) :
    (s.setFld p o hi lo x).fld p' o' hi' lo' = s.fld p' o' hi' lo' := by
  simp [State.fld, State.setFld, reg_setReg_other _ _ _ _ _ _ h]

theorem fld_setReg_other (s : State) (p o : Nat) (v : W32) (p' o' hi' lo' : Nat) (h : rkey p' o' ≠ rkey p o) :
    (s.setReg p o v).fld p' o' hi' lo' = s.fld p' o' hi' lo' := by
  simp [State.fld, reg_setReg_other _ _ _ _ _ _ h]

theorem fld_setReg (s : State) (p o : Nat) (v : W32) (hi lo : Nat) : (s.setReg p o v).fld p o hi lo = fget v hi lo := by
  simp [State.fld]

/-- Raising an event sets its bit. -/
theorem raise_bit (s : State) (p n : Nat) (h : n < 32) : ((s.raise p n).reg p 0x010).getLsbD n = true := by
  simp only [State.raise, reg_setReg_same, BitVec.getLsbD_or, BitVec.getLsbD_ofNat, Nat.testBit_two_pow_self]
  simp [h]

end Sys2Proof.Machine
end

