-- ==== Sys2Proof/Laws/State.lean ====
section
/-! SUPPORT. What each basic update leaves: one lemma for each field of State it does not write, and reading back what it wrote. -/

namespace Sys2Proof.Machine

/-! `setRegAt` -/

@[simp] theorem State.setRegAt_shVal (s : State) (key : Nat) (v : W32) :
    (s.setRegAt key v).shVal = s.shVal := by simp only [State.setRegAt]
@[simp] theorem State.setRegAt_shMask (s : State) (key : Nat) (v : W32) :
    (s.setRegAt key v).shMask = s.shMask := by simp only [State.setRegAt]
@[simp] theorem State.setRegAt_pairHi (s : State) (key : Nat) (v : W32) :
    (s.setRegAt key v).pairHi = s.pairHi := by simp only [State.setRegAt]
@[simp] theorem State.setRegAt_resp (s : State) (key : Nat) (v : W32) :
    (s.setRegAt key v).resp = s.resp := by simp only [State.setRegAt]
@[simp] theorem State.setRegAt_cfg (s : State) (key : Nat) (v : W32) :
    (s.setRegAt key v).cfg = s.cfg := by simp only [State.setRegAt]
@[simp] theorem State.setRegAt_host (s : State) (key : Nat) (v : W32) :
    (s.setRegAt key v).host = s.host := by simp only [State.setRegAt]
@[simp] theorem State.setRegAt_cmd (s : State) (key : Nat) (v : W32) :
    (s.setRegAt key v).cmd = s.cmd := by simp only [State.setRegAt]
@[simp] theorem State.setRegAt_cad (s : State) (key : Nat) (v : W32) :
    (s.setRegAt key v).cad = s.cad := by simp only [State.setRegAt]
@[simp] theorem State.setRegAt_insts (s : State) (key : Nat) (v : W32) :
    (s.setRegAt key v).insts = s.insts := by simp only [State.setRegAt]
@[simp] theorem State.setRegAt_flash (s : State) (key : Nat) (v : W32) :
    (s.setRegAt key v).flash = s.flash := by simp only [State.setRegAt]
@[simp] theorem State.setRegAt_buf (s : State) (key : Nat) (v : W32) :
    (s.setRegAt key v).buf = s.buf := by simp only [State.setRegAt]
@[simp] theorem State.setRegAt_eng (s : State) (key : Nat) (v : W32) :
    (s.setRegAt key v).eng = s.eng := by simp only [State.setRegAt]
@[simp] theorem State.setRegAt_dig (s : State) (key : Nat) (v : W32) :
    (s.setRegAt key v).dig = s.dig := by simp only [State.setRegAt]
@[simp] theorem State.setRegAt_srch (s : State) (key : Nat) (v : W32) :
    (s.setRegAt key v).srch = s.srch := by simp only [State.setRegAt]
@[simp] theorem State.setRegAt_cores (s : State) (key : Nat) (v : W32) :
    (s.setRegAt key v).cores = s.cores := by simp only [State.setRegAt]
@[simp] theorem State.setRegAt_ctlStores (s : State) (key : Nat) (v : W32) :
    (s.setRegAt key v).ctlStores = s.ctlStores := by simp only [State.setRegAt]
@[simp] theorem State.setRegAt_scan (s : State) (key : Nat) (v : W32) :
    (s.setRegAt key v).scan = s.scan := by simp only [State.setRegAt]
@[simp] theorem State.setRegAt_dram (s : State) (key : Nat) (v : W32) :
    (s.setRegAt key v).dram = s.dram := by simp only [State.setRegAt]
@[simp] theorem State.setRegAt_srd (s : State) (key : Nat) (v : W32) :
    (s.setRegAt key v).srd = s.srd := by simp only [State.setRegAt]
@[simp] theorem State.setRegAt_knot (s : State) (key : Nat) (v : W32) :
    (s.setRegAt key v).knot = s.knot := by simp only [State.setRegAt]
@[simp] theorem State.setRegAt_therm (s : State) (key : Nat) (v : W32) :
    (s.setRegAt key v).therm = s.therm := by simp only [State.setRegAt]
@[simp] theorem State.setRegAt_pwr (s : State) (key : Nat) (v : W32) :
    (s.setRegAt key v).pwr = s.pwr := by simp only [State.setRegAt]
@[simp] theorem State.setRegAt_otp (s : State) (key : Nat) (v : W32) :
    (s.setRegAt key v).otp = s.otp := by simp only [State.setRegAt]
@[simp] theorem State.setRegAt_tel (s : State) (key : Nat) (v : W32) :
    (s.setRegAt key v).tel = s.tel := by simp only [State.setRegAt]
@[simp] theorem State.setRegAt_jtag (s : State) (key : Nat) (v : W32) :
    (s.setRegAt key v).jtag = s.jtag := by simp only [State.setRegAt]
@[simp] theorem State.setRegAt_freeCtr (s : State) (key : Nat) (v : W32) :
    (s.setRegAt key v).freeCtr = s.freeCtr := by simp only [State.setRegAt]
@[simp] theorem State.setRegAt_pending (s : State) (key : Nat) (v : W32) :
    (s.setRegAt key v).pending = s.pending := by simp only [State.setRegAt]

/-! `setReg` -/

@[simp] theorem State.setReg_shVal (s : State) (page off : Nat) (v : W32) :
    (s.setReg page off v).shVal = s.shVal := by simp only [State.setReg, State.setRegAt_shVal]
@[simp] theorem State.setReg_shMask (s : State) (page off : Nat) (v : W32) :
    (s.setReg page off v).shMask = s.shMask := by simp only [State.setReg, State.setRegAt_shMask]
@[simp] theorem State.setReg_pairHi (s : State) (page off : Nat) (v : W32) :
    (s.setReg page off v).pairHi = s.pairHi := by simp only [State.setReg, State.setRegAt_pairHi]
@[simp] theorem State.setReg_resp (s : State) (page off : Nat) (v : W32) :
    (s.setReg page off v).resp = s.resp := by simp only [State.setReg, State.setRegAt_resp]
@[simp] theorem State.setReg_cfg (s : State) (page off : Nat) (v : W32) :
    (s.setReg page off v).cfg = s.cfg := by simp only [State.setReg, State.setRegAt_cfg]
@[simp] theorem State.setReg_host (s : State) (page off : Nat) (v : W32) :
    (s.setReg page off v).host = s.host := by simp only [State.setReg, State.setRegAt_host]
@[simp] theorem State.setReg_cmd (s : State) (page off : Nat) (v : W32) :
    (s.setReg page off v).cmd = s.cmd := by simp only [State.setReg, State.setRegAt_cmd]
@[simp] theorem State.setReg_cad (s : State) (page off : Nat) (v : W32) :
    (s.setReg page off v).cad = s.cad := by simp only [State.setReg, State.setRegAt_cad]
@[simp] theorem State.setReg_insts (s : State) (page off : Nat) (v : W32) :
    (s.setReg page off v).insts = s.insts := by simp only [State.setReg, State.setRegAt_insts]
@[simp] theorem State.setReg_flash (s : State) (page off : Nat) (v : W32) :
    (s.setReg page off v).flash = s.flash := by simp only [State.setReg, State.setRegAt_flash]
@[simp] theorem State.setReg_buf (s : State) (page off : Nat) (v : W32) :
    (s.setReg page off v).buf = s.buf := by simp only [State.setReg, State.setRegAt_buf]
@[simp] theorem State.setReg_eng (s : State) (page off : Nat) (v : W32) :
    (s.setReg page off v).eng = s.eng := by simp only [State.setReg, State.setRegAt_eng]
@[simp] theorem State.setReg_dig (s : State) (page off : Nat) (v : W32) :
    (s.setReg page off v).dig = s.dig := by simp only [State.setReg, State.setRegAt_dig]
@[simp] theorem State.setReg_srch (s : State) (page off : Nat) (v : W32) :
    (s.setReg page off v).srch = s.srch := by simp only [State.setReg, State.setRegAt_srch]
@[simp] theorem State.setReg_cores (s : State) (page off : Nat) (v : W32) :
    (s.setReg page off v).cores = s.cores := by simp only [State.setReg, State.setRegAt_cores]
@[simp] theorem State.setReg_ctlStores (s : State) (page off : Nat) (v : W32) :
    (s.setReg page off v).ctlStores = s.ctlStores := by simp only [State.setReg, State.setRegAt_ctlStores]
@[simp] theorem State.setReg_scan (s : State) (page off : Nat) (v : W32) :
    (s.setReg page off v).scan = s.scan := by simp only [State.setReg, State.setRegAt_scan]
@[simp] theorem State.setReg_dram (s : State) (page off : Nat) (v : W32) :
    (s.setReg page off v).dram = s.dram := by simp only [State.setReg, State.setRegAt_dram]
@[simp] theorem State.setReg_srd (s : State) (page off : Nat) (v : W32) :
    (s.setReg page off v).srd = s.srd := by simp only [State.setReg, State.setRegAt_srd]
@[simp] theorem State.setReg_knot (s : State) (page off : Nat) (v : W32) :
    (s.setReg page off v).knot = s.knot := by simp only [State.setReg, State.setRegAt_knot]
@[simp] theorem State.setReg_therm (s : State) (page off : Nat) (v : W32) :
    (s.setReg page off v).therm = s.therm := by simp only [State.setReg, State.setRegAt_therm]
@[simp] theorem State.setReg_pwr (s : State) (page off : Nat) (v : W32) :
    (s.setReg page off v).pwr = s.pwr := by simp only [State.setReg, State.setRegAt_pwr]
@[simp] theorem State.setReg_otp (s : State) (page off : Nat) (v : W32) :
    (s.setReg page off v).otp = s.otp := by simp only [State.setReg, State.setRegAt_otp]
@[simp] theorem State.setReg_tel (s : State) (page off : Nat) (v : W32) :
    (s.setReg page off v).tel = s.tel := by simp only [State.setReg, State.setRegAt_tel]
@[simp] theorem State.setReg_jtag (s : State) (page off : Nat) (v : W32) :
    (s.setReg page off v).jtag = s.jtag := by simp only [State.setReg, State.setRegAt_jtag]
@[simp] theorem State.setReg_freeCtr (s : State) (page off : Nat) (v : W32) :
    (s.setReg page off v).freeCtr = s.freeCtr := by simp only [State.setReg, State.setRegAt_freeCtr]
@[simp] theorem State.setReg_pending (s : State) (page off : Nat) (v : W32) :
    (s.setReg page off v).pending = s.pending := by simp only [State.setReg, State.setRegAt_pending]

/-! `setFld` -/

@[simp] theorem State.setFld_shVal (s : State) (page off hi lo x : Nat) :
    (s.setFld page off hi lo x).shVal = s.shVal := by simp only [State.setFld, State.setReg_shVal]
@[simp] theorem State.setFld_shMask (s : State) (page off hi lo x : Nat) :
    (s.setFld page off hi lo x).shMask = s.shMask := by simp only [State.setFld, State.setReg_shMask]
@[simp] theorem State.setFld_pairHi (s : State) (page off hi lo x : Nat) :
    (s.setFld page off hi lo x).pairHi = s.pairHi := by simp only [State.setFld, State.setReg_pairHi]
@[simp] theorem State.setFld_resp (s : State) (page off hi lo x : Nat) :
    (s.setFld page off hi lo x).resp = s.resp := by simp only [State.setFld, State.setReg_resp]
@[simp] theorem State.setFld_cfg (s : State) (page off hi lo x : Nat) :
    (s.setFld page off hi lo x).cfg = s.cfg := by simp only [State.setFld, State.setReg_cfg]
@[simp] theorem State.setFld_host (s : State) (page off hi lo x : Nat) :
    (s.setFld page off hi lo x).host = s.host := by simp only [State.setFld, State.setReg_host]
@[simp] theorem State.setFld_cmd (s : State) (page off hi lo x : Nat) :
    (s.setFld page off hi lo x).cmd = s.cmd := by simp only [State.setFld, State.setReg_cmd]
@[simp] theorem State.setFld_cad (s : State) (page off hi lo x : Nat) :
    (s.setFld page off hi lo x).cad = s.cad := by simp only [State.setFld, State.setReg_cad]
@[simp] theorem State.setFld_insts (s : State) (page off hi lo x : Nat) :
    (s.setFld page off hi lo x).insts = s.insts := by simp only [State.setFld, State.setReg_insts]
@[simp] theorem State.setFld_flash (s : State) (page off hi lo x : Nat) :
    (s.setFld page off hi lo x).flash = s.flash := by simp only [State.setFld, State.setReg_flash]
@[simp] theorem State.setFld_buf (s : State) (page off hi lo x : Nat) :
    (s.setFld page off hi lo x).buf = s.buf := by simp only [State.setFld, State.setReg_buf]
@[simp] theorem State.setFld_eng (s : State) (page off hi lo x : Nat) :
    (s.setFld page off hi lo x).eng = s.eng := by simp only [State.setFld, State.setReg_eng]
@[simp] theorem State.setFld_dig (s : State) (page off hi lo x : Nat) :
    (s.setFld page off hi lo x).dig = s.dig := by simp only [State.setFld, State.setReg_dig]
@[simp] theorem State.setFld_srch (s : State) (page off hi lo x : Nat) :
    (s.setFld page off hi lo x).srch = s.srch := by simp only [State.setFld, State.setReg_srch]
@[simp] theorem State.setFld_cores (s : State) (page off hi lo x : Nat) :
    (s.setFld page off hi lo x).cores = s.cores := by simp only [State.setFld, State.setReg_cores]
@[simp] theorem State.setFld_ctlStores (s : State) (page off hi lo x : Nat) :
    (s.setFld page off hi lo x).ctlStores = s.ctlStores := by simp only [State.setFld, State.setReg_ctlStores]
@[simp] theorem State.setFld_scan (s : State) (page off hi lo x : Nat) :
    (s.setFld page off hi lo x).scan = s.scan := by simp only [State.setFld, State.setReg_scan]
@[simp] theorem State.setFld_dram (s : State) (page off hi lo x : Nat) :
    (s.setFld page off hi lo x).dram = s.dram := by simp only [State.setFld, State.setReg_dram]
@[simp] theorem State.setFld_srd (s : State) (page off hi lo x : Nat) :
    (s.setFld page off hi lo x).srd = s.srd := by simp only [State.setFld, State.setReg_srd]
@[simp] theorem State.setFld_knot (s : State) (page off hi lo x : Nat) :
    (s.setFld page off hi lo x).knot = s.knot := by simp only [State.setFld, State.setReg_knot]
@[simp] theorem State.setFld_therm (s : State) (page off hi lo x : Nat) :
    (s.setFld page off hi lo x).therm = s.therm := by simp only [State.setFld, State.setReg_therm]
@[simp] theorem State.setFld_pwr (s : State) (page off hi lo x : Nat) :
    (s.setFld page off hi lo x).pwr = s.pwr := by simp only [State.setFld, State.setReg_pwr]
@[simp] theorem State.setFld_otp (s : State) (page off hi lo x : Nat) :
    (s.setFld page off hi lo x).otp = s.otp := by simp only [State.setFld, State.setReg_otp]
@[simp] theorem State.setFld_tel (s : State) (page off hi lo x : Nat) :
    (s.setFld page off hi lo x).tel = s.tel := by simp only [State.setFld, State.setReg_tel]
@[simp] theorem State.setFld_jtag (s : State) (page off hi lo x : Nat) :
    (s.setFld page off hi lo x).jtag = s.jtag := by simp only [State.setFld, State.setReg_jtag]
@[simp] theorem State.setFld_freeCtr (s : State) (page off hi lo x : Nat) :
    (s.setFld page off hi lo x).freeCtr = s.freeCtr := by simp only [State.setFld, State.setReg_freeCtr]
@[simp] theorem State.setFld_pending (s : State) (page off hi lo x : Nat) :
    (s.setFld page off hi lo x).pending = s.pending := by simp only [State.setFld, State.setReg_pending]

/-! `countN` -/

@[simp] theorem State.countN_shVal (s : State) (page off n : Nat) :
    (s.countN page off n).shVal = s.shVal := by simp only [State.countN, State.setReg_shVal]
@[simp] theorem State.countN_shMask (s : State) (page off n : Nat) :
    (s.countN page off n).shMask = s.shMask := by simp only [State.countN, State.setReg_shMask]
@[simp] theorem State.countN_pairHi (s : State) (page off n : Nat) :
    (s.countN page off n).pairHi = s.pairHi := by simp only [State.countN, State.setReg_pairHi]
@[simp] theorem State.countN_resp (s : State) (page off n : Nat) :
    (s.countN page off n).resp = s.resp := by simp only [State.countN, State.setReg_resp]
@[simp] theorem State.countN_cfg (s : State) (page off n : Nat) :
    (s.countN page off n).cfg = s.cfg := by simp only [State.countN, State.setReg_cfg]
@[simp] theorem State.countN_host (s : State) (page off n : Nat) :
    (s.countN page off n).host = s.host := by simp only [State.countN, State.setReg_host]
@[simp] theorem State.countN_cmd (s : State) (page off n : Nat) :
    (s.countN page off n).cmd = s.cmd := by simp only [State.countN, State.setReg_cmd]
@[simp] theorem State.countN_cad (s : State) (page off n : Nat) :
    (s.countN page off n).cad = s.cad := by simp only [State.countN, State.setReg_cad]
@[simp] theorem State.countN_insts (s : State) (page off n : Nat) :
    (s.countN page off n).insts = s.insts := by simp only [State.countN, State.setReg_insts]
@[simp] theorem State.countN_flash (s : State) (page off n : Nat) :
    (s.countN page off n).flash = s.flash := by simp only [State.countN, State.setReg_flash]
@[simp] theorem State.countN_buf (s : State) (page off n : Nat) :
    (s.countN page off n).buf = s.buf := by simp only [State.countN, State.setReg_buf]
@[simp] theorem State.countN_eng (s : State) (page off n : Nat) :
    (s.countN page off n).eng = s.eng := by simp only [State.countN, State.setReg_eng]
@[simp] theorem State.countN_dig (s : State) (page off n : Nat) :
    (s.countN page off n).dig = s.dig := by simp only [State.countN, State.setReg_dig]
@[simp] theorem State.countN_srch (s : State) (page off n : Nat) :
    (s.countN page off n).srch = s.srch := by simp only [State.countN, State.setReg_srch]
@[simp] theorem State.countN_cores (s : State) (page off n : Nat) :
    (s.countN page off n).cores = s.cores := by simp only [State.countN, State.setReg_cores]
@[simp] theorem State.countN_ctlStores (s : State) (page off n : Nat) :
    (s.countN page off n).ctlStores = s.ctlStores := by simp only [State.countN, State.setReg_ctlStores]
@[simp] theorem State.countN_scan (s : State) (page off n : Nat) :
    (s.countN page off n).scan = s.scan := by simp only [State.countN, State.setReg_scan]
@[simp] theorem State.countN_dram (s : State) (page off n : Nat) :
    (s.countN page off n).dram = s.dram := by simp only [State.countN, State.setReg_dram]
@[simp] theorem State.countN_srd (s : State) (page off n : Nat) :
    (s.countN page off n).srd = s.srd := by simp only [State.countN, State.setReg_srd]
@[simp] theorem State.countN_knot (s : State) (page off n : Nat) :
    (s.countN page off n).knot = s.knot := by simp only [State.countN, State.setReg_knot]
@[simp] theorem State.countN_therm (s : State) (page off n : Nat) :
    (s.countN page off n).therm = s.therm := by simp only [State.countN, State.setReg_therm]
@[simp] theorem State.countN_pwr (s : State) (page off n : Nat) :
    (s.countN page off n).pwr = s.pwr := by simp only [State.countN, State.setReg_pwr]
@[simp] theorem State.countN_otp (s : State) (page off n : Nat) :
    (s.countN page off n).otp = s.otp := by simp only [State.countN, State.setReg_otp]
@[simp] theorem State.countN_tel (s : State) (page off n : Nat) :
    (s.countN page off n).tel = s.tel := by simp only [State.countN, State.setReg_tel]
@[simp] theorem State.countN_jtag (s : State) (page off n : Nat) :
    (s.countN page off n).jtag = s.jtag := by simp only [State.countN, State.setReg_jtag]
@[simp] theorem State.countN_freeCtr (s : State) (page off n : Nat) :
    (s.countN page off n).freeCtr = s.freeCtr := by simp only [State.countN, State.setReg_freeCtr]
@[simp] theorem State.countN_pending (s : State) (page off n : Nat) :
    (s.countN page off n).pending = s.pending := by simp only [State.countN, State.setReg_pending]

/-! `count` -/

@[simp] theorem State.count_shVal (s : State) (page off : Nat) :
    (s.count page off).shVal = s.shVal := by simp only [State.count, State.countN_shVal]
@[simp] theorem State.count_shMask (s : State) (page off : Nat) :
    (s.count page off).shMask = s.shMask := by simp only [State.count, State.countN_shMask]
@[simp] theorem State.count_pairHi (s : State) (page off : Nat) :
    (s.count page off).pairHi = s.pairHi := by simp only [State.count, State.countN_pairHi]
@[simp] theorem State.count_resp (s : State) (page off : Nat) :
    (s.count page off).resp = s.resp := by simp only [State.count, State.countN_resp]
@[simp] theorem State.count_cfg (s : State) (page off : Nat) :
    (s.count page off).cfg = s.cfg := by simp only [State.count, State.countN_cfg]
@[simp] theorem State.count_host (s : State) (page off : Nat) :
    (s.count page off).host = s.host := by simp only [State.count, State.countN_host]
@[simp] theorem State.count_cmd (s : State) (page off : Nat) :
    (s.count page off).cmd = s.cmd := by simp only [State.count, State.countN_cmd]
@[simp] theorem State.count_cad (s : State) (page off : Nat) :
    (s.count page off).cad = s.cad := by simp only [State.count, State.countN_cad]
@[simp] theorem State.count_insts (s : State) (page off : Nat) :
    (s.count page off).insts = s.insts := by simp only [State.count, State.countN_insts]
@[simp] theorem State.count_flash (s : State) (page off : Nat) :
    (s.count page off).flash = s.flash := by simp only [State.count, State.countN_flash]
@[simp] theorem State.count_buf (s : State) (page off : Nat) :
    (s.count page off).buf = s.buf := by simp only [State.count, State.countN_buf]
@[simp] theorem State.count_eng (s : State) (page off : Nat) :
    (s.count page off).eng = s.eng := by simp only [State.count, State.countN_eng]
@[simp] theorem State.count_dig (s : State) (page off : Nat) :
    (s.count page off).dig = s.dig := by simp only [State.count, State.countN_dig]
@[simp] theorem State.count_srch (s : State) (page off : Nat) :
    (s.count page off).srch = s.srch := by simp only [State.count, State.countN_srch]
@[simp] theorem State.count_cores (s : State) (page off : Nat) :
    (s.count page off).cores = s.cores := by simp only [State.count, State.countN_cores]
@[simp] theorem State.count_ctlStores (s : State) (page off : Nat) :
    (s.count page off).ctlStores = s.ctlStores := by simp only [State.count, State.countN_ctlStores]
@[simp] theorem State.count_scan (s : State) (page off : Nat) :
    (s.count page off).scan = s.scan := by simp only [State.count, State.countN_scan]
@[simp] theorem State.count_dram (s : State) (page off : Nat) :
    (s.count page off).dram = s.dram := by simp only [State.count, State.countN_dram]
@[simp] theorem State.count_srd (s : State) (page off : Nat) :
    (s.count page off).srd = s.srd := by simp only [State.count, State.countN_srd]
@[simp] theorem State.count_knot (s : State) (page off : Nat) :
    (s.count page off).knot = s.knot := by simp only [State.count, State.countN_knot]
@[simp] theorem State.count_therm (s : State) (page off : Nat) :
    (s.count page off).therm = s.therm := by simp only [State.count, State.countN_therm]
@[simp] theorem State.count_pwr (s : State) (page off : Nat) :
    (s.count page off).pwr = s.pwr := by simp only [State.count, State.countN_pwr]
@[simp] theorem State.count_otp (s : State) (page off : Nat) :
    (s.count page off).otp = s.otp := by simp only [State.count, State.countN_otp]
@[simp] theorem State.count_tel (s : State) (page off : Nat) :
    (s.count page off).tel = s.tel := by simp only [State.count, State.countN_tel]
@[simp] theorem State.count_jtag (s : State) (page off : Nat) :
    (s.count page off).jtag = s.jtag := by simp only [State.count, State.countN_jtag]
@[simp] theorem State.count_freeCtr (s : State) (page off : Nat) :
    (s.count page off).freeCtr = s.freeCtr := by simp only [State.count, State.countN_freeCtr]
@[simp] theorem State.count_pending (s : State) (page off : Nat) :
    (s.count page off).pending = s.pending := by simp only [State.count, State.countN_pending]

/-! `setPair` -/

@[simp] theorem State.setPair_shVal (s : State) (page lo v : Nat) :
    (s.setPair page lo v).shVal = s.shVal := by simp only [State.setPair, State.setReg_shVal]
@[simp] theorem State.setPair_shMask (s : State) (page lo v : Nat) :
    (s.setPair page lo v).shMask = s.shMask := by simp only [State.setPair, State.setReg_shMask]
@[simp] theorem State.setPair_pairHi (s : State) (page lo v : Nat) :
    (s.setPair page lo v).pairHi = s.pairHi := by simp only [State.setPair, State.setReg_pairHi]
@[simp] theorem State.setPair_resp (s : State) (page lo v : Nat) :
    (s.setPair page lo v).resp = s.resp := by simp only [State.setPair, State.setReg_resp]
@[simp] theorem State.setPair_cfg (s : State) (page lo v : Nat) :
    (s.setPair page lo v).cfg = s.cfg := by simp only [State.setPair, State.setReg_cfg]
@[simp] theorem State.setPair_host (s : State) (page lo v : Nat) :
    (s.setPair page lo v).host = s.host := by simp only [State.setPair, State.setReg_host]
@[simp] theorem State.setPair_cmd (s : State) (page lo v : Nat) :
    (s.setPair page lo v).cmd = s.cmd := by simp only [State.setPair, State.setReg_cmd]
@[simp] theorem State.setPair_cad (s : State) (page lo v : Nat) :
    (s.setPair page lo v).cad = s.cad := by simp only [State.setPair, State.setReg_cad]
@[simp] theorem State.setPair_insts (s : State) (page lo v : Nat) :
    (s.setPair page lo v).insts = s.insts := by simp only [State.setPair, State.setReg_insts]
@[simp] theorem State.setPair_flash (s : State) (page lo v : Nat) :
    (s.setPair page lo v).flash = s.flash := by simp only [State.setPair, State.setReg_flash]
@[simp] theorem State.setPair_buf (s : State) (page lo v : Nat) :
    (s.setPair page lo v).buf = s.buf := by simp only [State.setPair, State.setReg_buf]
@[simp] theorem State.setPair_eng (s : State) (page lo v : Nat) :
    (s.setPair page lo v).eng = s.eng := by simp only [State.setPair, State.setReg_eng]
@[simp] theorem State.setPair_dig (s : State) (page lo v : Nat) :
    (s.setPair page lo v).dig = s.dig := by simp only [State.setPair, State.setReg_dig]
@[simp] theorem State.setPair_srch (s : State) (page lo v : Nat) :
    (s.setPair page lo v).srch = s.srch := by simp only [State.setPair, State.setReg_srch]
@[simp] theorem State.setPair_cores (s : State) (page lo v : Nat) :
    (s.setPair page lo v).cores = s.cores := by simp only [State.setPair, State.setReg_cores]
@[simp] theorem State.setPair_ctlStores (s : State) (page lo v : Nat) :
    (s.setPair page lo v).ctlStores = s.ctlStores := by simp only [State.setPair, State.setReg_ctlStores]
@[simp] theorem State.setPair_scan (s : State) (page lo v : Nat) :
    (s.setPair page lo v).scan = s.scan := by simp only [State.setPair, State.setReg_scan]
@[simp] theorem State.setPair_dram (s : State) (page lo v : Nat) :
    (s.setPair page lo v).dram = s.dram := by simp only [State.setPair, State.setReg_dram]
@[simp] theorem State.setPair_srd (s : State) (page lo v : Nat) :
    (s.setPair page lo v).srd = s.srd := by simp only [State.setPair, State.setReg_srd]
@[simp] theorem State.setPair_knot (s : State) (page lo v : Nat) :
    (s.setPair page lo v).knot = s.knot := by simp only [State.setPair, State.setReg_knot]
@[simp] theorem State.setPair_therm (s : State) (page lo v : Nat) :
    (s.setPair page lo v).therm = s.therm := by simp only [State.setPair, State.setReg_therm]
@[simp] theorem State.setPair_pwr (s : State) (page lo v : Nat) :
    (s.setPair page lo v).pwr = s.pwr := by simp only [State.setPair, State.setReg_pwr]
@[simp] theorem State.setPair_otp (s : State) (page lo v : Nat) :
    (s.setPair page lo v).otp = s.otp := by simp only [State.setPair, State.setReg_otp]
@[simp] theorem State.setPair_tel (s : State) (page lo v : Nat) :
    (s.setPair page lo v).tel = s.tel := by simp only [State.setPair, State.setReg_tel]
@[simp] theorem State.setPair_jtag (s : State) (page lo v : Nat) :
    (s.setPair page lo v).jtag = s.jtag := by simp only [State.setPair, State.setReg_jtag]
@[simp] theorem State.setPair_freeCtr (s : State) (page lo v : Nat) :
    (s.setPair page lo v).freeCtr = s.freeCtr := by simp only [State.setPair, State.setReg_freeCtr]
@[simp] theorem State.setPair_pending (s : State) (page lo v : Nat) :
    (s.setPair page lo v).pending = s.pending := by simp only [State.setPair, State.setReg_pending]

/-! `countPair` -/

@[simp] theorem State.countPair_shVal (s : State) (page lo n : Nat) :
    (s.countPair page lo n).shVal = s.shVal := by simp only [State.countPair, State.setPair_shVal]
@[simp] theorem State.countPair_shMask (s : State) (page lo n : Nat) :
    (s.countPair page lo n).shMask = s.shMask := by simp only [State.countPair, State.setPair_shMask]
@[simp] theorem State.countPair_pairHi (s : State) (page lo n : Nat) :
    (s.countPair page lo n).pairHi = s.pairHi := by simp only [State.countPair, State.setPair_pairHi]
@[simp] theorem State.countPair_resp (s : State) (page lo n : Nat) :
    (s.countPair page lo n).resp = s.resp := by simp only [State.countPair, State.setPair_resp]
@[simp] theorem State.countPair_cfg (s : State) (page lo n : Nat) :
    (s.countPair page lo n).cfg = s.cfg := by simp only [State.countPair, State.setPair_cfg]
@[simp] theorem State.countPair_host (s : State) (page lo n : Nat) :
    (s.countPair page lo n).host = s.host := by simp only [State.countPair, State.setPair_host]
@[simp] theorem State.countPair_cmd (s : State) (page lo n : Nat) :
    (s.countPair page lo n).cmd = s.cmd := by simp only [State.countPair, State.setPair_cmd]
@[simp] theorem State.countPair_cad (s : State) (page lo n : Nat) :
    (s.countPair page lo n).cad = s.cad := by simp only [State.countPair, State.setPair_cad]
@[simp] theorem State.countPair_insts (s : State) (page lo n : Nat) :
    (s.countPair page lo n).insts = s.insts := by simp only [State.countPair, State.setPair_insts]
@[simp] theorem State.countPair_flash (s : State) (page lo n : Nat) :
    (s.countPair page lo n).flash = s.flash := by simp only [State.countPair, State.setPair_flash]
@[simp] theorem State.countPair_buf (s : State) (page lo n : Nat) :
    (s.countPair page lo n).buf = s.buf := by simp only [State.countPair, State.setPair_buf]
@[simp] theorem State.countPair_eng (s : State) (page lo n : Nat) :
    (s.countPair page lo n).eng = s.eng := by simp only [State.countPair, State.setPair_eng]
@[simp] theorem State.countPair_dig (s : State) (page lo n : Nat) :
    (s.countPair page lo n).dig = s.dig := by simp only [State.countPair, State.setPair_dig]
@[simp] theorem State.countPair_srch (s : State) (page lo n : Nat) :
    (s.countPair page lo n).srch = s.srch := by simp only [State.countPair, State.setPair_srch]
@[simp] theorem State.countPair_cores (s : State) (page lo n : Nat) :
    (s.countPair page lo n).cores = s.cores := by simp only [State.countPair, State.setPair_cores]
@[simp] theorem State.countPair_ctlStores (s : State) (page lo n : Nat) :
    (s.countPair page lo n).ctlStores = s.ctlStores := by simp only [State.countPair, State.setPair_ctlStores]
@[simp] theorem State.countPair_scan (s : State) (page lo n : Nat) :
    (s.countPair page lo n).scan = s.scan := by simp only [State.countPair, State.setPair_scan]
@[simp] theorem State.countPair_dram (s : State) (page lo n : Nat) :
    (s.countPair page lo n).dram = s.dram := by simp only [State.countPair, State.setPair_dram]
@[simp] theorem State.countPair_srd (s : State) (page lo n : Nat) :
    (s.countPair page lo n).srd = s.srd := by simp only [State.countPair, State.setPair_srd]
@[simp] theorem State.countPair_knot (s : State) (page lo n : Nat) :
    (s.countPair page lo n).knot = s.knot := by simp only [State.countPair, State.setPair_knot]
@[simp] theorem State.countPair_therm (s : State) (page lo n : Nat) :
    (s.countPair page lo n).therm = s.therm := by simp only [State.countPair, State.setPair_therm]
@[simp] theorem State.countPair_pwr (s : State) (page lo n : Nat) :
    (s.countPair page lo n).pwr = s.pwr := by simp only [State.countPair, State.setPair_pwr]
@[simp] theorem State.countPair_otp (s : State) (page lo n : Nat) :
    (s.countPair page lo n).otp = s.otp := by simp only [State.countPair, State.setPair_otp]
@[simp] theorem State.countPair_tel (s : State) (page lo n : Nat) :
    (s.countPair page lo n).tel = s.tel := by simp only [State.countPair, State.setPair_tel]
@[simp] theorem State.countPair_jtag (s : State) (page lo n : Nat) :
    (s.countPair page lo n).jtag = s.jtag := by simp only [State.countPair, State.setPair_jtag]
@[simp] theorem State.countPair_freeCtr (s : State) (page lo n : Nat) :
    (s.countPair page lo n).freeCtr = s.freeCtr := by simp only [State.countPair, State.setPair_freeCtr]
@[simp] theorem State.countPair_pending (s : State) (page lo n : Nat) :
    (s.countPair page lo n).pending = s.pending := by simp only [State.countPair, State.setPair_pending]

/-! `raise` -/

@[simp] theorem State.raise_shVal (s : State) (page n : Nat) :
    (s.raise page n).shVal = s.shVal := by simp only [State.raise, State.setReg_shVal]
@[simp] theorem State.raise_shMask (s : State) (page n : Nat) :
    (s.raise page n).shMask = s.shMask := by simp only [State.raise, State.setReg_shMask]
@[simp] theorem State.raise_pairHi (s : State) (page n : Nat) :
    (s.raise page n).pairHi = s.pairHi := by simp only [State.raise, State.setReg_pairHi]
@[simp] theorem State.raise_resp (s : State) (page n : Nat) :
    (s.raise page n).resp = s.resp := by simp only [State.raise, State.setReg_resp]
@[simp] theorem State.raise_cfg (s : State) (page n : Nat) :
    (s.raise page n).cfg = s.cfg := by simp only [State.raise, State.setReg_cfg]
@[simp] theorem State.raise_host (s : State) (page n : Nat) :
    (s.raise page n).host = s.host := by simp only [State.raise, State.setReg_host]
@[simp] theorem State.raise_cmd (s : State) (page n : Nat) :
    (s.raise page n).cmd = s.cmd := by simp only [State.raise, State.setReg_cmd]
@[simp] theorem State.raise_cad (s : State) (page n : Nat) :
    (s.raise page n).cad = s.cad := by simp only [State.raise, State.setReg_cad]
@[simp] theorem State.raise_insts (s : State) (page n : Nat) :
    (s.raise page n).insts = s.insts := by simp only [State.raise, State.setReg_insts]
@[simp] theorem State.raise_flash (s : State) (page n : Nat) :
    (s.raise page n).flash = s.flash := by simp only [State.raise, State.setReg_flash]
@[simp] theorem State.raise_buf (s : State) (page n : Nat) :
    (s.raise page n).buf = s.buf := by simp only [State.raise, State.setReg_buf]
@[simp] theorem State.raise_eng (s : State) (page n : Nat) :
    (s.raise page n).eng = s.eng := by simp only [State.raise, State.setReg_eng]
@[simp] theorem State.raise_dig (s : State) (page n : Nat) :
    (s.raise page n).dig = s.dig := by simp only [State.raise, State.setReg_dig]
@[simp] theorem State.raise_srch (s : State) (page n : Nat) :
    (s.raise page n).srch = s.srch := by simp only [State.raise, State.setReg_srch]
@[simp] theorem State.raise_cores (s : State) (page n : Nat) :
    (s.raise page n).cores = s.cores := by simp only [State.raise, State.setReg_cores]
@[simp] theorem State.raise_ctlStores (s : State) (page n : Nat) :
    (s.raise page n).ctlStores = s.ctlStores := by simp only [State.raise, State.setReg_ctlStores]
@[simp] theorem State.raise_scan (s : State) (page n : Nat) :
    (s.raise page n).scan = s.scan := by simp only [State.raise, State.setReg_scan]
@[simp] theorem State.raise_dram (s : State) (page n : Nat) :
    (s.raise page n).dram = s.dram := by simp only [State.raise, State.setReg_dram]
@[simp] theorem State.raise_srd (s : State) (page n : Nat) :
    (s.raise page n).srd = s.srd := by simp only [State.raise, State.setReg_srd]
@[simp] theorem State.raise_knot (s : State) (page n : Nat) :
    (s.raise page n).knot = s.knot := by simp only [State.raise, State.setReg_knot]
@[simp] theorem State.raise_therm (s : State) (page n : Nat) :
    (s.raise page n).therm = s.therm := by simp only [State.raise, State.setReg_therm]
@[simp] theorem State.raise_pwr (s : State) (page n : Nat) :
    (s.raise page n).pwr = s.pwr := by simp only [State.raise, State.setReg_pwr]
@[simp] theorem State.raise_otp (s : State) (page n : Nat) :
    (s.raise page n).otp = s.otp := by simp only [State.raise, State.setReg_otp]
@[simp] theorem State.raise_tel (s : State) (page n : Nat) :
    (s.raise page n).tel = s.tel := by simp only [State.raise, State.setReg_tel]
@[simp] theorem State.raise_jtag (s : State) (page n : Nat) :
    (s.raise page n).jtag = s.jtag := by simp only [State.raise, State.setReg_jtag]
@[simp] theorem State.raise_freeCtr (s : State) (page n : Nat) :
    (s.raise page n).freeCtr = s.freeCtr := by simp only [State.raise, State.setReg_freeCtr]
@[simp] theorem State.raise_pending (s : State) (page n : Nat) :
    (s.raise page n).pending = s.pending := by simp only [State.raise, State.setReg_pending]

/-! `putBytes` -/

@[simp] theorem State.putBytes_regs (s : State) (a : Nat) (l : List Byte) :
    (s.putBytes a l).regs = s.regs := rfl
@[simp] theorem State.putBytes_shVal (s : State) (a : Nat) (l : List Byte) :
    (s.putBytes a l).shVal = s.shVal := rfl
@[simp] theorem State.putBytes_shMask (s : State) (a : Nat) (l : List Byte) :
    (s.putBytes a l).shMask = s.shMask := rfl
@[simp] theorem State.putBytes_pairHi (s : State) (a : Nat) (l : List Byte) :
    (s.putBytes a l).pairHi = s.pairHi := rfl
@[simp] theorem State.putBytes_resp (s : State) (a : Nat) (l : List Byte) :
    (s.putBytes a l).resp = s.resp := rfl
@[simp] theorem State.putBytes_cfg (s : State) (a : Nat) (l : List Byte) :
    (s.putBytes a l).cfg = s.cfg := rfl
@[simp] theorem State.putBytes_host (s : State) (a : Nat) (l : List Byte) :
    (s.putBytes a l).host = s.host := rfl
@[simp] theorem State.putBytes_cmd (s : State) (a : Nat) (l : List Byte) :
    (s.putBytes a l).cmd = s.cmd := rfl
@[simp] theorem State.putBytes_cad (s : State) (a : Nat) (l : List Byte) :
    (s.putBytes a l).cad = s.cad := rfl
@[simp] theorem State.putBytes_insts (s : State) (a : Nat) (l : List Byte) :
    (s.putBytes a l).insts = s.insts := rfl
@[simp] theorem State.putBytes_flash (s : State) (a : Nat) (l : List Byte) :
    (s.putBytes a l).flash = s.flash := rfl
@[simp] theorem State.putBytes_buf (s : State) (a : Nat) (l : List Byte) :
    (s.putBytes a l).buf = s.buf := rfl
@[simp] theorem State.putBytes_eng (s : State) (a : Nat) (l : List Byte) :
    (s.putBytes a l).eng = s.eng := rfl
@[simp] theorem State.putBytes_dig (s : State) (a : Nat) (l : List Byte) :
    (s.putBytes a l).dig = s.dig := rfl
@[simp] theorem State.putBytes_srch (s : State) (a : Nat) (l : List Byte) :
    (s.putBytes a l).srch = s.srch := rfl
@[simp] theorem State.putBytes_cores (s : State) (a : Nat) (l : List Byte) :
    (s.putBytes a l).cores = s.cores := rfl
@[simp] theorem State.putBytes_ctlStores (s : State) (a : Nat) (l : List Byte) :
    (s.putBytes a l).ctlStores = s.ctlStores := rfl
@[simp] theorem State.putBytes_scan (s : State) (a : Nat) (l : List Byte) :
    (s.putBytes a l).scan = s.scan := rfl
@[simp] theorem State.putBytes_srd (s : State) (a : Nat) (l : List Byte) :
    (s.putBytes a l).srd = s.srd := rfl
@[simp] theorem State.putBytes_knot (s : State) (a : Nat) (l : List Byte) :
    (s.putBytes a l).knot = s.knot := rfl
@[simp] theorem State.putBytes_therm (s : State) (a : Nat) (l : List Byte) :
    (s.putBytes a l).therm = s.therm := rfl
@[simp] theorem State.putBytes_pwr (s : State) (a : Nat) (l : List Byte) :
    (s.putBytes a l).pwr = s.pwr := rfl
@[simp] theorem State.putBytes_otp (s : State) (a : Nat) (l : List Byte) :
    (s.putBytes a l).otp = s.otp := rfl
@[simp] theorem State.putBytes_tel (s : State) (a : Nat) (l : List Byte) :
    (s.putBytes a l).tel = s.tel := rfl
@[simp] theorem State.putBytes_jtag (s : State) (a : Nat) (l : List Byte) :
    (s.putBytes a l).jtag = s.jtag := rfl
@[simp] theorem State.putBytes_freeCtr (s : State) (a : Nat) (l : List Byte) :
    (s.putBytes a l).freeCtr = s.freeCtr := rfl
@[simp] theorem State.putBytes_pending (s : State) (a : Nat) (l : List Byte) :
    (s.putBytes a l).pending = s.pending := rfl

/-! `setChan` -/

@[simp] theorem State.setChan_regs (s : State) (c : Nat) (x : Chan) :
    (s.setChan c x).regs = s.regs := rfl
@[simp] theorem State.setChan_shVal (s : State) (c : Nat) (x : Chan) :
    (s.setChan c x).shVal = s.shVal := rfl
@[simp] theorem State.setChan_shMask (s : State) (c : Nat) (x : Chan) :
    (s.setChan c x).shMask = s.shMask := rfl
@[simp] theorem State.setChan_pairHi (s : State) (c : Nat) (x : Chan) :
    (s.setChan c x).pairHi = s.pairHi := rfl
@[simp] theorem State.setChan_resp (s : State) (c : Nat) (x : Chan) :
    (s.setChan c x).resp = s.resp := rfl
@[simp] theorem State.setChan_cfg (s : State) (c : Nat) (x : Chan) :
    (s.setChan c x).cfg = s.cfg := rfl
@[simp] theorem State.setChan_host (s : State) (c : Nat) (x : Chan) :
    (s.setChan c x).host = s.host := rfl
@[simp] theorem State.setChan_cmd (s : State) (c : Nat) (x : Chan) :
    (s.setChan c x).cmd = s.cmd := rfl
@[simp] theorem State.setChan_cad (s : State) (c : Nat) (x : Chan) :
    (s.setChan c x).cad = s.cad := rfl
@[simp] theorem State.setChan_insts (s : State) (c : Nat) (x : Chan) :
    (s.setChan c x).insts = s.insts := rfl
@[simp] theorem State.setChan_flash (s : State) (c : Nat) (x : Chan) :
    (s.setChan c x).flash = s.flash := rfl
@[simp] theorem State.setChan_buf (s : State) (c : Nat) (x : Chan) :
    (s.setChan c x).buf = s.buf := rfl
@[simp] theorem State.setChan_eng (s : State) (c : Nat) (x : Chan) :
    (s.setChan c x).eng = s.eng := rfl
@[simp] theorem State.setChan_dig (s : State) (c : Nat) (x : Chan) :
    (s.setChan c x).dig = s.dig := rfl
@[simp] theorem State.setChan_srch (s : State) (c : Nat) (x : Chan) :
    (s.setChan c x).srch = s.srch := rfl
@[simp] theorem State.setChan_cores (s : State) (c : Nat) (x : Chan) :
    (s.setChan c x).cores = s.cores := rfl
@[simp] theorem State.setChan_ctlStores (s : State) (c : Nat) (x : Chan) :
    (s.setChan c x).ctlStores = s.ctlStores := rfl
@[simp] theorem State.setChan_scan (s : State) (c : Nat) (x : Chan) :
    (s.setChan c x).scan = s.scan := rfl
@[simp] theorem State.setChan_srd (s : State) (c : Nat) (x : Chan) :
    (s.setChan c x).srd = s.srd := rfl
@[simp] theorem State.setChan_knot (s : State) (c : Nat) (x : Chan) :
    (s.setChan c x).knot = s.knot := rfl
@[simp] theorem State.setChan_therm (s : State) (c : Nat) (x : Chan) :
    (s.setChan c x).therm = s.therm := rfl
@[simp] theorem State.setChan_pwr (s : State) (c : Nat) (x : Chan) :
    (s.setChan c x).pwr = s.pwr := rfl
@[simp] theorem State.setChan_otp (s : State) (c : Nat) (x : Chan) :
    (s.setChan c x).otp = s.otp := rfl
@[simp] theorem State.setChan_tel (s : State) (c : Nat) (x : Chan) :
    (s.setChan c x).tel = s.tel := rfl
@[simp] theorem State.setChan_jtag (s : State) (c : Nat) (x : Chan) :
    (s.setChan c x).jtag = s.jtag := rfl
@[simp] theorem State.setChan_freeCtr (s : State) (c : Nat) (x : Chan) :
    (s.setChan c x).freeCtr = s.freeCtr := rfl
@[simp] theorem State.setChan_pending (s : State) (c : Nat) (x : Chan) :
    (s.setChan c x).pending = s.pending := rfl

/-! `setPoison` -/

@[simp] theorem State.setPoison_regs (s : State) (burst : Nat) (b : Bool) :
    (s.setPoison burst b).regs = s.regs := rfl
@[simp] theorem State.setPoison_shVal (s : State) (burst : Nat) (b : Bool) :
    (s.setPoison burst b).shVal = s.shVal := rfl
@[simp] theorem State.setPoison_shMask (s : State) (burst : Nat) (b : Bool) :
    (s.setPoison burst b).shMask = s.shMask := rfl
@[simp] theorem State.setPoison_pairHi (s : State) (burst : Nat) (b : Bool) :
    (s.setPoison burst b).pairHi = s.pairHi := rfl
@[simp] theorem State.setPoison_resp (s : State) (burst : Nat) (b : Bool) :
    (s.setPoison burst b).resp = s.resp := rfl
@[simp] theorem State.setPoison_cfg (s : State) (burst : Nat) (b : Bool) :
    (s.setPoison burst b).cfg = s.cfg := rfl
@[simp] theorem State.setPoison_host (s : State) (burst : Nat) (b : Bool) :
    (s.setPoison burst b).host = s.host := rfl
@[simp] theorem State.setPoison_cmd (s : State) (burst : Nat) (b : Bool) :
    (s.setPoison burst b).cmd = s.cmd := rfl
@[simp] theorem State.setPoison_cad (s : State) (burst : Nat) (b : Bool) :
    (s.setPoison burst b).cad = s.cad := rfl
@[simp] theorem State.setPoison_insts (s : State) (burst : Nat) (b : Bool) :
    (s.setPoison burst b).insts = s.insts := rfl
@[simp] theorem State.setPoison_flash (s : State) (burst : Nat) (b : Bool) :
    (s.setPoison burst b).flash = s.flash := rfl
@[simp] theorem State.setPoison_buf (s : State) (burst : Nat) (b : Bool) :
    (s.setPoison burst b).buf = s.buf := rfl
@[simp] theorem State.setPoison_eng (s : State) (burst : Nat) (b : Bool) :
    (s.setPoison burst b).eng = s.eng := rfl
@[simp] theorem State.setPoison_dig (s : State) (burst : Nat) (b : Bool) :
    (s.setPoison burst b).dig = s.dig := rfl
@[simp] theorem State.setPoison_srch (s : State) (burst : Nat) (b : Bool) :
    (s.setPoison burst b).srch = s.srch := rfl
@[simp] theorem State.setPoison_cores (s : State) (burst : Nat) (b : Bool) :
    (s.setPoison burst b).cores = s.cores := rfl
@[simp] theorem State.setPoison_ctlStores (s : State) (burst : Nat) (b : Bool) :
    (s.setPoison burst b).ctlStores = s.ctlStores := rfl
@[simp] theorem State.setPoison_scan (s : State) (burst : Nat) (b : Bool) :
    (s.setPoison burst b).scan = s.scan := rfl
@[simp] theorem State.setPoison_srd (s : State) (burst : Nat) (b : Bool) :
    (s.setPoison burst b).srd = s.srd := rfl
@[simp] theorem State.setPoison_knot (s : State) (burst : Nat) (b : Bool) :
    (s.setPoison burst b).knot = s.knot := rfl
@[simp] theorem State.setPoison_therm (s : State) (burst : Nat) (b : Bool) :
    (s.setPoison burst b).therm = s.therm := rfl
@[simp] theorem State.setPoison_pwr (s : State) (burst : Nat) (b : Bool) :
    (s.setPoison burst b).pwr = s.pwr := rfl
@[simp] theorem State.setPoison_otp (s : State) (burst : Nat) (b : Bool) :
    (s.setPoison burst b).otp = s.otp := rfl
@[simp] theorem State.setPoison_tel (s : State) (burst : Nat) (b : Bool) :
    (s.setPoison burst b).tel = s.tel := rfl
@[simp] theorem State.setPoison_jtag (s : State) (burst : Nat) (b : Bool) :
    (s.setPoison burst b).jtag = s.jtag := rfl
@[simp] theorem State.setPoison_freeCtr (s : State) (burst : Nat) (b : Bool) :
    (s.setPoison burst b).freeCtr = s.freeCtr := rfl
@[simp] theorem State.setPoison_pending (s : State) (burst : Nat) (b : Bool) :
    (s.setPoison burst b).pending = s.pending := rfl

/-! `sramSet` -/

@[simp] theorem State.sramSet_regs (s : State) (a : Nat) (b : Byte) :
    (s.sramSet a b).regs = s.regs := rfl
@[simp] theorem State.sramSet_shVal (s : State) (a : Nat) (b : Byte) :
    (s.sramSet a b).shVal = s.shVal := rfl
@[simp] theorem State.sramSet_shMask (s : State) (a : Nat) (b : Byte) :
    (s.sramSet a b).shMask = s.shMask := rfl
@[simp] theorem State.sramSet_pairHi (s : State) (a : Nat) (b : Byte) :
    (s.sramSet a b).pairHi = s.pairHi := rfl
@[simp] theorem State.sramSet_resp (s : State) (a : Nat) (b : Byte) :
    (s.sramSet a b).resp = s.resp := rfl
@[simp] theorem State.sramSet_cfg (s : State) (a : Nat) (b : Byte) :
    (s.sramSet a b).cfg = s.cfg := rfl
@[simp] theorem State.sramSet_host (s : State) (a : Nat) (b : Byte) :
    (s.sramSet a b).host = s.host := rfl
@[simp] theorem State.sramSet_cmd (s : State) (a : Nat) (b : Byte) :
    (s.sramSet a b).cmd = s.cmd := rfl
@[simp] theorem State.sramSet_cad (s : State) (a : Nat) (b : Byte) :
    (s.sramSet a b).cad = s.cad := rfl
@[simp] theorem State.sramSet_insts (s : State) (a : Nat) (b : Byte) :
    (s.sramSet a b).insts = s.insts := rfl
@[simp] theorem State.sramSet_flash (s : State) (a : Nat) (b : Byte) :
    (s.sramSet a b).flash = s.flash := rfl
@[simp] theorem State.sramSet_eng (s : State) (a : Nat) (b : Byte) :
    (s.sramSet a b).eng = s.eng := rfl
@[simp] theorem State.sramSet_dig (s : State) (a : Nat) (b : Byte) :
    (s.sramSet a b).dig = s.dig := rfl
@[simp] theorem State.sramSet_srch (s : State) (a : Nat) (b : Byte) :
    (s.sramSet a b).srch = s.srch := rfl
@[simp] theorem State.sramSet_cores (s : State) (a : Nat) (b : Byte) :
    (s.sramSet a b).cores = s.cores := rfl
@[simp] theorem State.sramSet_ctlStores (s : State) (a : Nat) (b : Byte) :
    (s.sramSet a b).ctlStores = s.ctlStores := rfl
@[simp] theorem State.sramSet_scan (s : State) (a : Nat) (b : Byte) :
    (s.sramSet a b).scan = s.scan := rfl
@[simp] theorem State.sramSet_dram (s : State) (a : Nat) (b : Byte) :
    (s.sramSet a b).dram = s.dram := rfl
@[simp] theorem State.sramSet_srd (s : State) (a : Nat) (b : Byte) :
    (s.sramSet a b).srd = s.srd := rfl
@[simp] theorem State.sramSet_knot (s : State) (a : Nat) (b : Byte) :
    (s.sramSet a b).knot = s.knot := rfl
@[simp] theorem State.sramSet_therm (s : State) (a : Nat) (b : Byte) :
    (s.sramSet a b).therm = s.therm := rfl
@[simp] theorem State.sramSet_pwr (s : State) (a : Nat) (b : Byte) :
    (s.sramSet a b).pwr = s.pwr := rfl
@[simp] theorem State.sramSet_otp (s : State) (a : Nat) (b : Byte) :
    (s.sramSet a b).otp = s.otp := rfl
@[simp] theorem State.sramSet_tel (s : State) (a : Nat) (b : Byte) :
    (s.sramSet a b).tel = s.tel := rfl
@[simp] theorem State.sramSet_jtag (s : State) (a : Nat) (b : Byte) :
    (s.sramSet a b).jtag = s.jtag := rfl
@[simp] theorem State.sramSet_freeCtr (s : State) (a : Nat) (b : Byte) :
    (s.sramSet a b).freeCtr = s.freeCtr := rfl
@[simp] theorem State.sramSet_pending (s : State) (a : Nat) (b : Byte) :
    (s.sramSet a b).pending = s.pending := rfl

/-! `setListHead` -/

@[simp] theorem State.setListHead_regs (s : State) (p h : Nat) :
    (s.setListHead p h).regs = s.regs := rfl
@[simp] theorem State.setListHead_shVal (s : State) (p h : Nat) :
    (s.setListHead p h).shVal = s.shVal := rfl
@[simp] theorem State.setListHead_shMask (s : State) (p h : Nat) :
    (s.setListHead p h).shMask = s.shMask := rfl
@[simp] theorem State.setListHead_pairHi (s : State) (p h : Nat) :
    (s.setListHead p h).pairHi = s.pairHi := rfl
@[simp] theorem State.setListHead_resp (s : State) (p h : Nat) :
    (s.setListHead p h).resp = s.resp := rfl
@[simp] theorem State.setListHead_cfg (s : State) (p h : Nat) :
    (s.setListHead p h).cfg = s.cfg := rfl
@[simp] theorem State.setListHead_host (s : State) (p h : Nat) :
    (s.setListHead p h).host = s.host := rfl
@[simp] theorem State.setListHead_cmd (s : State) (p h : Nat) :
    (s.setListHead p h).cmd = s.cmd := rfl
@[simp] theorem State.setListHead_cad (s : State) (p h : Nat) :
    (s.setListHead p h).cad = s.cad := rfl
@[simp] theorem State.setListHead_insts (s : State) (p h : Nat) :
    (s.setListHead p h).insts = s.insts := rfl
@[simp] theorem State.setListHead_flash (s : State) (p h : Nat) :
    (s.setListHead p h).flash = s.flash := rfl
@[simp] theorem State.setListHead_eng (s : State) (p h : Nat) :
    (s.setListHead p h).eng = s.eng := rfl
@[simp] theorem State.setListHead_dig (s : State) (p h : Nat) :
    (s.setListHead p h).dig = s.dig := rfl
@[simp] theorem State.setListHead_srch (s : State) (p h : Nat) :
    (s.setListHead p h).srch = s.srch := rfl
@[simp] theorem State.setListHead_cores (s : State) (p h : Nat) :
    (s.setListHead p h).cores = s.cores := rfl
@[simp] theorem State.setListHead_ctlStores (s : State) (p h : Nat) :
    (s.setListHead p h).ctlStores = s.ctlStores := rfl
@[simp] theorem State.setListHead_scan (s : State) (p h : Nat) :
    (s.setListHead p h).scan = s.scan := rfl
@[simp] theorem State.setListHead_dram (s : State) (p h : Nat) :
    (s.setListHead p h).dram = s.dram := rfl
@[simp] theorem State.setListHead_srd (s : State) (p h : Nat) :
    (s.setListHead p h).srd = s.srd := rfl
@[simp] theorem State.setListHead_knot (s : State) (p h : Nat) :
    (s.setListHead p h).knot = s.knot := rfl
@[simp] theorem State.setListHead_therm (s : State) (p h : Nat) :
    (s.setListHead p h).therm = s.therm := rfl
@[simp] theorem State.setListHead_pwr (s : State) (p h : Nat) :
    (s.setListHead p h).pwr = s.pwr := rfl
@[simp] theorem State.setListHead_otp (s : State) (p h : Nat) :
    (s.setListHead p h).otp = s.otp := rfl
@[simp] theorem State.setListHead_tel (s : State) (p h : Nat) :
    (s.setListHead p h).tel = s.tel := rfl
@[simp] theorem State.setListHead_jtag (s : State) (p h : Nat) :
    (s.setListHead p h).jtag = s.jtag := rfl
@[simp] theorem State.setListHead_freeCtr (s : State) (p h : Nat) :
    (s.setListHead p h).freeCtr = s.freeCtr := rfl
@[simp] theorem State.setListHead_pending (s : State) (p h : Nat) :
    (s.setListHead p h).pending = s.pending := rfl

/-! `setRec` -/

@[simp] theorem State.setRec_regs (s : State) (h : Nat) (r : BufRec) :
    (s.setRec h r).regs = s.regs := rfl
@[simp] theorem State.setRec_shVal (s : State) (h : Nat) (r : BufRec) :
    (s.setRec h r).shVal = s.shVal := rfl
@[simp] theorem State.setRec_shMask (s : State) (h : Nat) (r : BufRec) :
    (s.setRec h r).shMask = s.shMask := rfl
@[simp] theorem State.setRec_pairHi (s : State) (h : Nat) (r : BufRec) :
    (s.setRec h r).pairHi = s.pairHi := rfl
@[simp] theorem State.setRec_resp (s : State) (h : Nat) (r : BufRec) :
    (s.setRec h r).resp = s.resp := rfl
@[simp] theorem State.setRec_cfg (s : State) (h : Nat) (r : BufRec) :
    (s.setRec h r).cfg = s.cfg := rfl
@[simp] theorem State.setRec_host (s : State) (h : Nat) (r : BufRec) :
    (s.setRec h r).host = s.host := rfl
@[simp] theorem State.setRec_cmd (s : State) (h : Nat) (r : BufRec) :
    (s.setRec h r).cmd = s.cmd := rfl
@[simp] theorem State.setRec_cad (s : State) (h : Nat) (r : BufRec) :
    (s.setRec h r).cad = s.cad := rfl
@[simp] theorem State.setRec_insts (s : State) (h : Nat) (r : BufRec) :
    (s.setRec h r).insts = s.insts := rfl
@[simp] theorem State.setRec_flash (s : State) (h : Nat) (r : BufRec) :
    (s.setRec h r).flash = s.flash := rfl
@[simp] theorem State.setRec_eng (s : State) (h : Nat) (r : BufRec) :
    (s.setRec h r).eng = s.eng := rfl
@[simp] theorem State.setRec_dig (s : State) (h : Nat) (r : BufRec) :
    (s.setRec h r).dig = s.dig := rfl
@[simp] theorem State.setRec_srch (s : State) (h : Nat) (r : BufRec) :
    (s.setRec h r).srch = s.srch := rfl
@[simp] theorem State.setRec_cores (s : State) (h : Nat) (r : BufRec) :
    (s.setRec h r).cores = s.cores := rfl
@[simp] theorem State.setRec_ctlStores (s : State) (h : Nat) (r : BufRec) :
    (s.setRec h r).ctlStores = s.ctlStores := rfl
@[simp] theorem State.setRec_scan (s : State) (h : Nat) (r : BufRec) :
    (s.setRec h r).scan = s.scan := rfl
@[simp] theorem State.setRec_dram (s : State) (h : Nat) (r : BufRec) :
    (s.setRec h r).dram = s.dram := rfl
@[simp] theorem State.setRec_srd (s : State) (h : Nat) (r : BufRec) :
    (s.setRec h r).srd = s.srd := rfl
@[simp] theorem State.setRec_knot (s : State) (h : Nat) (r : BufRec) :
    (s.setRec h r).knot = s.knot := rfl
@[simp] theorem State.setRec_therm (s : State) (h : Nat) (r : BufRec) :
    (s.setRec h r).therm = s.therm := rfl
@[simp] theorem State.setRec_pwr (s : State) (h : Nat) (r : BufRec) :
    (s.setRec h r).pwr = s.pwr := rfl
@[simp] theorem State.setRec_otp (s : State) (h : Nat) (r : BufRec) :
    (s.setRec h r).otp = s.otp := rfl
@[simp] theorem State.setRec_tel (s : State) (h : Nat) (r : BufRec) :
    (s.setRec h r).tel = s.tel := rfl
@[simp] theorem State.setRec_jtag (s : State) (h : Nat) (r : BufRec) :
    (s.setRec h r).jtag = s.jtag := rfl
@[simp] theorem State.setRec_freeCtr (s : State) (h : Nat) (r : BufRec) :
    (s.setRec h r).freeCtr = s.freeCtr := rfl
@[simp] theorem State.setRec_pending (s : State) (h : Nat) (r : BufRec) :
    (s.setRec h r).pending = s.pending := rfl

/-! `result` -/

@[simp] theorem State.result_regs (s : State) (q : BufReq) (r : AllocRes) :
    (s.result q r).regs = s.regs := rfl
@[simp] theorem State.result_shVal (s : State) (q : BufReq) (r : AllocRes) :
    (s.result q r).shVal = s.shVal := rfl
@[simp] theorem State.result_shMask (s : State) (q : BufReq) (r : AllocRes) :
    (s.result q r).shMask = s.shMask := rfl
@[simp] theorem State.result_pairHi (s : State) (q : BufReq) (r : AllocRes) :
    (s.result q r).pairHi = s.pairHi := rfl
@[simp] theorem State.result_resp (s : State) (q : BufReq) (r : AllocRes) :
    (s.result q r).resp = s.resp := rfl
@[simp] theorem State.result_cfg (s : State) (q : BufReq) (r : AllocRes) :
    (s.result q r).cfg = s.cfg := rfl
@[simp] theorem State.result_host (s : State) (q : BufReq) (r : AllocRes) :
    (s.result q r).host = s.host := rfl
@[simp] theorem State.result_cmd (s : State) (q : BufReq) (r : AllocRes) :
    (s.result q r).cmd = s.cmd := rfl
@[simp] theorem State.result_cad (s : State) (q : BufReq) (r : AllocRes) :
    (s.result q r).cad = s.cad := rfl
@[simp] theorem State.result_insts (s : State) (q : BufReq) (r : AllocRes) :
    (s.result q r).insts = s.insts := rfl
@[simp] theorem State.result_flash (s : State) (q : BufReq) (r : AllocRes) :
    (s.result q r).flash = s.flash := rfl
@[simp] theorem State.result_eng (s : State) (q : BufReq) (r : AllocRes) :
    (s.result q r).eng = s.eng := rfl
@[simp] theorem State.result_dig (s : State) (q : BufReq) (r : AllocRes) :
    (s.result q r).dig = s.dig := rfl
@[simp] theorem State.result_srch (s : State) (q : BufReq) (r : AllocRes) :
    (s.result q r).srch = s.srch := rfl
@[simp] theorem State.result_cores (s : State) (q : BufReq) (r : AllocRes) :
    (s.result q r).cores = s.cores := rfl
@[simp] theorem State.result_ctlStores (s : State) (q : BufReq) (r : AllocRes) :
    (s.result q r).ctlStores = s.ctlStores := rfl
@[simp] theorem State.result_scan (s : State) (q : BufReq) (r : AllocRes) :
    (s.result q r).scan = s.scan := rfl
@[simp] theorem State.result_dram (s : State) (q : BufReq) (r : AllocRes) :
    (s.result q r).dram = s.dram := rfl
@[simp] theorem State.result_srd (s : State) (q : BufReq) (r : AllocRes) :
    (s.result q r).srd = s.srd := rfl
@[simp] theorem State.result_knot (s : State) (q : BufReq) (r : AllocRes) :
    (s.result q r).knot = s.knot := rfl
@[simp] theorem State.result_therm (s : State) (q : BufReq) (r : AllocRes) :
    (s.result q r).therm = s.therm := rfl
@[simp] theorem State.result_pwr (s : State) (q : BufReq) (r : AllocRes) :
    (s.result q r).pwr = s.pwr := rfl
@[simp] theorem State.result_otp (s : State) (q : BufReq) (r : AllocRes) :
    (s.result q r).otp = s.otp := rfl
@[simp] theorem State.result_tel (s : State) (q : BufReq) (r : AllocRes) :
    (s.result q r).tel = s.tel := rfl
@[simp] theorem State.result_jtag (s : State) (q : BufReq) (r : AllocRes) :
    (s.result q r).jtag = s.jtag := rfl
@[simp] theorem State.result_freeCtr (s : State) (q : BufReq) (r : AllocRes) :
    (s.result q r).freeCtr = s.freeCtr := rfl
@[simp] theorem State.result_pending (s : State) (q : BufReq) (r : AllocRes) :
    (s.result q r).pending = s.pending := rfl

/-! `setDie` -/

@[simp] theorem State.setDie_regs (s : State) (d : Nat) (x : Die) :
    (s.setDie d x).regs = s.regs := rfl
@[simp] theorem State.setDie_shVal (s : State) (d : Nat) (x : Die) :
    (s.setDie d x).shVal = s.shVal := rfl
@[simp] theorem State.setDie_shMask (s : State) (d : Nat) (x : Die) :
    (s.setDie d x).shMask = s.shMask := rfl
@[simp] theorem State.setDie_pairHi (s : State) (d : Nat) (x : Die) :
    (s.setDie d x).pairHi = s.pairHi := rfl
@[simp] theorem State.setDie_resp (s : State) (d : Nat) (x : Die) :
    (s.setDie d x).resp = s.resp := rfl
@[simp] theorem State.setDie_cfg (s : State) (d : Nat) (x : Die) :
    (s.setDie d x).cfg = s.cfg := rfl
@[simp] theorem State.setDie_host (s : State) (d : Nat) (x : Die) :
    (s.setDie d x).host = s.host := rfl
@[simp] theorem State.setDie_cmd (s : State) (d : Nat) (x : Die) :
    (s.setDie d x).cmd = s.cmd := rfl
@[simp] theorem State.setDie_cad (s : State) (d : Nat) (x : Die) :
    (s.setDie d x).cad = s.cad := rfl
@[simp] theorem State.setDie_insts (s : State) (d : Nat) (x : Die) :
    (s.setDie d x).insts = s.insts := rfl
@[simp] theorem State.setDie_buf (s : State) (d : Nat) (x : Die) :
    (s.setDie d x).buf = s.buf := rfl
@[simp] theorem State.setDie_eng (s : State) (d : Nat) (x : Die) :
    (s.setDie d x).eng = s.eng := rfl
@[simp] theorem State.setDie_dig (s : State) (d : Nat) (x : Die) :
    (s.setDie d x).dig = s.dig := rfl
@[simp] theorem State.setDie_srch (s : State) (d : Nat) (x : Die) :
    (s.setDie d x).srch = s.srch := rfl
@[simp] theorem State.setDie_cores (s : State) (d : Nat) (x : Die) :
    (s.setDie d x).cores = s.cores := rfl
@[simp] theorem State.setDie_ctlStores (s : State) (d : Nat) (x : Die) :
    (s.setDie d x).ctlStores = s.ctlStores := rfl
@[simp] theorem State.setDie_scan (s : State) (d : Nat) (x : Die) :
    (s.setDie d x).scan = s.scan := rfl
@[simp] theorem State.setDie_dram (s : State) (d : Nat) (x : Die) :
    (s.setDie d x).dram = s.dram := rfl
@[simp] theorem State.setDie_srd (s : State) (d : Nat) (x : Die) :
    (s.setDie d x).srd = s.srd := rfl
@[simp] theorem State.setDie_knot (s : State) (d : Nat) (x : Die) :
    (s.setDie d x).knot = s.knot := rfl
@[simp] theorem State.setDie_therm (s : State) (d : Nat) (x : Die) :
    (s.setDie d x).therm = s.therm := rfl
@[simp] theorem State.setDie_pwr (s : State) (d : Nat) (x : Die) :
    (s.setDie d x).pwr = s.pwr := rfl
@[simp] theorem State.setDie_otp (s : State) (d : Nat) (x : Die) :
    (s.setDie d x).otp = s.otp := rfl
@[simp] theorem State.setDie_tel (s : State) (d : Nat) (x : Die) :
    (s.setDie d x).tel = s.tel := rfl
@[simp] theorem State.setDie_jtag (s : State) (d : Nat) (x : Die) :
    (s.setDie d x).jtag = s.jtag := rfl
@[simp] theorem State.setDie_freeCtr (s : State) (d : Nat) (x : Die) :
    (s.setDie d x).freeCtr = s.freeCtr := rfl
@[simp] theorem State.setDie_pending (s : State) (d : Nat) (x : Die) :
    (s.setDie d x).pending = s.pending := rfl

/-! `setBlk` -/

@[simp] theorem State.setBlk_regs (s : State) (k : Nat) (x : Blk) :
    (s.setBlk k x).regs = s.regs := rfl
@[simp] theorem State.setBlk_shVal (s : State) (k : Nat) (x : Blk) :
    (s.setBlk k x).shVal = s.shVal := rfl
@[simp] theorem State.setBlk_shMask (s : State) (k : Nat) (x : Blk) :
    (s.setBlk k x).shMask = s.shMask := rfl
@[simp] theorem State.setBlk_pairHi (s : State) (k : Nat) (x : Blk) :
    (s.setBlk k x).pairHi = s.pairHi := rfl
@[simp] theorem State.setBlk_resp (s : State) (k : Nat) (x : Blk) :
    (s.setBlk k x).resp = s.resp := rfl
@[simp] theorem State.setBlk_cfg (s : State) (k : Nat) (x : Blk) :
    (s.setBlk k x).cfg = s.cfg := rfl
@[simp] theorem State.setBlk_host (s : State) (k : Nat) (x : Blk) :
    (s.setBlk k x).host = s.host := rfl
@[simp] theorem State.setBlk_cmd (s : State) (k : Nat) (x : Blk) :
    (s.setBlk k x).cmd = s.cmd := rfl
@[simp] theorem State.setBlk_cad (s : State) (k : Nat) (x : Blk) :
    (s.setBlk k x).cad = s.cad := rfl
@[simp] theorem State.setBlk_insts (s : State) (k : Nat) (x : Blk) :
    (s.setBlk k x).insts = s.insts := rfl
@[simp] theorem State.setBlk_buf (s : State) (k : Nat) (x : Blk) :
    (s.setBlk k x).buf = s.buf := rfl
@[simp] theorem State.setBlk_eng (s : State) (k : Nat) (x : Blk) :
    (s.setBlk k x).eng = s.eng := rfl
@[simp] theorem State.setBlk_dig (s : State) (k : Nat) (x : Blk) :
    (s.setBlk k x).dig = s.dig := rfl
@[simp] theorem State.setBlk_srch (s : State) (k : Nat) (x : Blk) :
    (s.setBlk k x).srch = s.srch := rfl
@[simp] theorem State.setBlk_cores (s : State) (k : Nat) (x : Blk) :
    (s.setBlk k x).cores = s.cores := rfl
@[simp] theorem State.setBlk_ctlStores (s : State) (k : Nat) (x : Blk) :
    (s.setBlk k x).ctlStores = s.ctlStores := rfl
@[simp] theorem State.setBlk_scan (s : State) (k : Nat) (x : Blk) :
    (s.setBlk k x).scan = s.scan := rfl
@[simp] theorem State.setBlk_dram (s : State) (k : Nat) (x : Blk) :
    (s.setBlk k x).dram = s.dram := rfl
@[simp] theorem State.setBlk_srd (s : State) (k : Nat) (x : Blk) :
    (s.setBlk k x).srd = s.srd := rfl
@[simp] theorem State.setBlk_knot (s : State) (k : Nat) (x : Blk) :
    (s.setBlk k x).knot = s.knot := rfl
@[simp] theorem State.setBlk_therm (s : State) (k : Nat) (x : Blk) :
    (s.setBlk k x).therm = s.therm := rfl
@[simp] theorem State.setBlk_pwr (s : State) (k : Nat) (x : Blk) :
    (s.setBlk k x).pwr = s.pwr := rfl
@[simp] theorem State.setBlk_otp (s : State) (k : Nat) (x : Blk) :
    (s.setBlk k x).otp = s.otp := rfl
@[simp] theorem State.setBlk_tel (s : State) (k : Nat) (x : Blk) :
    (s.setBlk k x).tel = s.tel := rfl
@[simp] theorem State.setBlk_jtag (s : State) (k : Nat) (x : Blk) :
    (s.setBlk k x).jtag = s.jtag := rfl
@[simp] theorem State.setBlk_freeCtr (s : State) (k : Nat) (x : Blk) :
    (s.setBlk k x).freeCtr = s.freeCtr := rfl
@[simp] theorem State.setBlk_pending (s : State) (k : Nat) (x : Blk) :
    (s.setBlk k x).pending = s.pending := rfl

/-! `setCacheRec` -/

@[simp] theorem State.setCacheRec_regs (s : State) (c : Nat) (r : CacheRec) :
    (s.setCacheRec c r).regs = s.regs := rfl
@[simp] theorem State.setCacheRec_shVal (s : State) (c : Nat) (r : CacheRec) :
    (s.setCacheRec c r).shVal = s.shVal := rfl
@[simp] theorem State.setCacheRec_shMask (s : State) (c : Nat) (r : CacheRec) :
    (s.setCacheRec c r).shMask = s.shMask := rfl
@[simp] theorem State.setCacheRec_pairHi (s : State) (c : Nat) (r : CacheRec) :
    (s.setCacheRec c r).pairHi = s.pairHi := rfl
@[simp] theorem State.setCacheRec_resp (s : State) (c : Nat) (r : CacheRec) :
    (s.setCacheRec c r).resp = s.resp := rfl
@[simp] theorem State.setCacheRec_cfg (s : State) (c : Nat) (r : CacheRec) :
    (s.setCacheRec c r).cfg = s.cfg := rfl
@[simp] theorem State.setCacheRec_host (s : State) (c : Nat) (r : CacheRec) :
    (s.setCacheRec c r).host = s.host := rfl
@[simp] theorem State.setCacheRec_cmd (s : State) (c : Nat) (r : CacheRec) :
    (s.setCacheRec c r).cmd = s.cmd := rfl
@[simp] theorem State.setCacheRec_cad (s : State) (c : Nat) (r : CacheRec) :
    (s.setCacheRec c r).cad = s.cad := rfl
@[simp] theorem State.setCacheRec_insts (s : State) (c : Nat) (r : CacheRec) :
    (s.setCacheRec c r).insts = s.insts := rfl
@[simp] theorem State.setCacheRec_buf (s : State) (c : Nat) (r : CacheRec) :
    (s.setCacheRec c r).buf = s.buf := rfl
@[simp] theorem State.setCacheRec_eng (s : State) (c : Nat) (r : CacheRec) :
    (s.setCacheRec c r).eng = s.eng := rfl
@[simp] theorem State.setCacheRec_dig (s : State) (c : Nat) (r : CacheRec) :
    (s.setCacheRec c r).dig = s.dig := rfl
@[simp] theorem State.setCacheRec_srch (s : State) (c : Nat) (r : CacheRec) :
    (s.setCacheRec c r).srch = s.srch := rfl
@[simp] theorem State.setCacheRec_cores (s : State) (c : Nat) (r : CacheRec) :
    (s.setCacheRec c r).cores = s.cores := rfl
@[simp] theorem State.setCacheRec_ctlStores (s : State) (c : Nat) (r : CacheRec) :
    (s.setCacheRec c r).ctlStores = s.ctlStores := rfl
@[simp] theorem State.setCacheRec_scan (s : State) (c : Nat) (r : CacheRec) :
    (s.setCacheRec c r).scan = s.scan := rfl
@[simp] theorem State.setCacheRec_dram (s : State) (c : Nat) (r : CacheRec) :
    (s.setCacheRec c r).dram = s.dram := rfl
@[simp] theorem State.setCacheRec_srd (s : State) (c : Nat) (r : CacheRec) :
    (s.setCacheRec c r).srd = s.srd := rfl
@[simp] theorem State.setCacheRec_knot (s : State) (c : Nat) (r : CacheRec) :
    (s.setCacheRec c r).knot = s.knot := rfl
@[simp] theorem State.setCacheRec_therm (s : State) (c : Nat) (r : CacheRec) :
    (s.setCacheRec c r).therm = s.therm := rfl
@[simp] theorem State.setCacheRec_pwr (s : State) (c : Nat) (r : CacheRec) :
    (s.setCacheRec c r).pwr = s.pwr := rfl
@[simp] theorem State.setCacheRec_otp (s : State) (c : Nat) (r : CacheRec) :
    (s.setCacheRec c r).otp = s.otp := rfl
@[simp] theorem State.setCacheRec_tel (s : State) (c : Nat) (r : CacheRec) :
    (s.setCacheRec c r).tel = s.tel := rfl
@[simp] theorem State.setCacheRec_jtag (s : State) (c : Nat) (r : CacheRec) :
    (s.setCacheRec c r).jtag = s.jtag := rfl
@[simp] theorem State.setCacheRec_freeCtr (s : State) (c : Nat) (r : CacheRec) :
    (s.setCacheRec c r).freeCtr = s.freeCtr := rfl
@[simp] theorem State.setCacheRec_pending (s : State) (c : Nat) (r : CacheRec) :
    (s.setCacheRec c r).pending = s.pending := rfl

/-! `setCtx` -/

@[simp] theorem State.setCtx_regs (s : State) (n : Nat) (c : DigCtx) :
    (s.setCtx n c).regs = s.regs := rfl
@[simp] theorem State.setCtx_shVal (s : State) (n : Nat) (c : DigCtx) :
    (s.setCtx n c).shVal = s.shVal := rfl
@[simp] theorem State.setCtx_shMask (s : State) (n : Nat) (c : DigCtx) :
    (s.setCtx n c).shMask = s.shMask := rfl
@[simp] theorem State.setCtx_pairHi (s : State) (n : Nat) (c : DigCtx) :
    (s.setCtx n c).pairHi = s.pairHi := rfl
@[simp] theorem State.setCtx_resp (s : State) (n : Nat) (c : DigCtx) :
    (s.setCtx n c).resp = s.resp := rfl
@[simp] theorem State.setCtx_cfg (s : State) (n : Nat) (c : DigCtx) :
    (s.setCtx n c).cfg = s.cfg := rfl
@[simp] theorem State.setCtx_host (s : State) (n : Nat) (c : DigCtx) :
    (s.setCtx n c).host = s.host := rfl
@[simp] theorem State.setCtx_cmd (s : State) (n : Nat) (c : DigCtx) :
    (s.setCtx n c).cmd = s.cmd := rfl
@[simp] theorem State.setCtx_cad (s : State) (n : Nat) (c : DigCtx) :
    (s.setCtx n c).cad = s.cad := rfl
@[simp] theorem State.setCtx_insts (s : State) (n : Nat) (c : DigCtx) :
    (s.setCtx n c).insts = s.insts := rfl
@[simp] theorem State.setCtx_flash (s : State) (n : Nat) (c : DigCtx) :
    (s.setCtx n c).flash = s.flash := rfl
@[simp] theorem State.setCtx_buf (s : State) (n : Nat) (c : DigCtx) :
    (s.setCtx n c).buf = s.buf := rfl
@[simp] theorem State.setCtx_eng (s : State) (n : Nat) (c : DigCtx) :
    (s.setCtx n c).eng = s.eng := rfl
@[simp] theorem State.setCtx_srch (s : State) (n : Nat) (c : DigCtx) :
    (s.setCtx n c).srch = s.srch := rfl
@[simp] theorem State.setCtx_cores (s : State) (n : Nat) (c : DigCtx) :
    (s.setCtx n c).cores = s.cores := rfl
@[simp] theorem State.setCtx_ctlStores (s : State) (n : Nat) (c : DigCtx) :
    (s.setCtx n c).ctlStores = s.ctlStores := rfl
@[simp] theorem State.setCtx_scan (s : State) (n : Nat) (c : DigCtx) :
    (s.setCtx n c).scan = s.scan := rfl
@[simp] theorem State.setCtx_dram (s : State) (n : Nat) (c : DigCtx) :
    (s.setCtx n c).dram = s.dram := rfl
@[simp] theorem State.setCtx_srd (s : State) (n : Nat) (c : DigCtx) :
    (s.setCtx n c).srd = s.srd := rfl
@[simp] theorem State.setCtx_knot (s : State) (n : Nat) (c : DigCtx) :
    (s.setCtx n c).knot = s.knot := rfl
@[simp] theorem State.setCtx_therm (s : State) (n : Nat) (c : DigCtx) :
    (s.setCtx n c).therm = s.therm := rfl
@[simp] theorem State.setCtx_pwr (s : State) (n : Nat) (c : DigCtx) :
    (s.setCtx n c).pwr = s.pwr := rfl
@[simp] theorem State.setCtx_otp (s : State) (n : Nat) (c : DigCtx) :
    (s.setCtx n c).otp = s.otp := rfl
@[simp] theorem State.setCtx_tel (s : State) (n : Nat) (c : DigCtx) :
    (s.setCtx n c).tel = s.tel := rfl
@[simp] theorem State.setCtx_jtag (s : State) (n : Nat) (c : DigCtx) :
    (s.setCtx n c).jtag = s.jtag := rfl
@[simp] theorem State.setCtx_freeCtr (s : State) (n : Nat) (c : DigCtx) :
    (s.setCtx n c).freeCtr = s.freeCtr := rfl
@[simp] theorem State.setCtx_pending (s : State) (n : Nat) (c : DigCtx) :
    (s.setCtx n c).pending = s.pending := rfl

/-! `delCtx` -/

@[simp] theorem State.delCtx_regs (s : State) (n : Nat) :
    (s.delCtx n).regs = s.regs := rfl
@[simp] theorem State.delCtx_shVal (s : State) (n : Nat) :
    (s.delCtx n).shVal = s.shVal := rfl
@[simp] theorem State.delCtx_shMask (s : State) (n : Nat) :
    (s.delCtx n).shMask = s.shMask := rfl
@[simp] theorem State.delCtx_pairHi (s : State) (n : Nat) :
    (s.delCtx n).pairHi = s.pairHi := rfl
@[simp] theorem State.delCtx_resp (s : State) (n : Nat) :
    (s.delCtx n).resp = s.resp := rfl
@[simp] theorem State.delCtx_cfg (s : State) (n : Nat) :
    (s.delCtx n).cfg = s.cfg := rfl
@[simp] theorem State.delCtx_host (s : State) (n : Nat) :
    (s.delCtx n).host = s.host := rfl
@[simp] theorem State.delCtx_cmd (s : State) (n : Nat) :
    (s.delCtx n).cmd = s.cmd := rfl
@[simp] theorem State.delCtx_cad (s : State) (n : Nat) :
    (s.delCtx n).cad = s.cad := rfl
@[simp] theorem State.delCtx_insts (s : State) (n : Nat) :
    (s.delCtx n).insts = s.insts := rfl
@[simp] theorem State.delCtx_flash (s : State) (n : Nat) :
    (s.delCtx n).flash = s.flash := rfl
@[simp] theorem State.delCtx_buf (s : State) (n : Nat) :
    (s.delCtx n).buf = s.buf := rfl
@[simp] theorem State.delCtx_eng (s : State) (n : Nat) :
    (s.delCtx n).eng = s.eng := rfl
@[simp] theorem State.delCtx_srch (s : State) (n : Nat) :
    (s.delCtx n).srch = s.srch := rfl
@[simp] theorem State.delCtx_cores (s : State) (n : Nat) :
    (s.delCtx n).cores = s.cores := rfl
@[simp] theorem State.delCtx_ctlStores (s : State) (n : Nat) :
    (s.delCtx n).ctlStores = s.ctlStores := rfl
@[simp] theorem State.delCtx_scan (s : State) (n : Nat) :
    (s.delCtx n).scan = s.scan := rfl
@[simp] theorem State.delCtx_dram (s : State) (n : Nat) :
    (s.delCtx n).dram = s.dram := rfl
@[simp] theorem State.delCtx_srd (s : State) (n : Nat) :
    (s.delCtx n).srd = s.srd := rfl
@[simp] theorem State.delCtx_knot (s : State) (n : Nat) :
    (s.delCtx n).knot = s.knot := rfl
@[simp] theorem State.delCtx_therm (s : State) (n : Nat) :
    (s.delCtx n).therm = s.therm := rfl
@[simp] theorem State.delCtx_pwr (s : State) (n : Nat) :
    (s.delCtx n).pwr = s.pwr := rfl
@[simp] theorem State.delCtx_otp (s : State) (n : Nat) :
    (s.delCtx n).otp = s.otp := rfl
@[simp] theorem State.delCtx_tel (s : State) (n : Nat) :
    (s.delCtx n).tel = s.tel := rfl
@[simp] theorem State.delCtx_jtag (s : State) (n : Nat) :
    (s.delCtx n).jtag = s.jtag := rfl
@[simp] theorem State.delCtx_freeCtr (s : State) (n : Nat) :
    (s.delCtx n).freeCtr = s.freeCtr := rfl
@[simp] theorem State.delCtx_pending (s : State) (n : Nat) :
    (s.delCtx n).pending = s.pending := rfl

/-! `setItem` -/

@[simp] theorem State.setItem_regs (s : State) (n : Nat) (it : Item) :
    (s.setItem n it).regs = s.regs := rfl
@[simp] theorem State.setItem_shVal (s : State) (n : Nat) (it : Item) :
    (s.setItem n it).shVal = s.shVal := rfl
@[simp] theorem State.setItem_shMask (s : State) (n : Nat) (it : Item) :
    (s.setItem n it).shMask = s.shMask := rfl
@[simp] theorem State.setItem_pairHi (s : State) (n : Nat) (it : Item) :
    (s.setItem n it).pairHi = s.pairHi := rfl
@[simp] theorem State.setItem_resp (s : State) (n : Nat) (it : Item) :
    (s.setItem n it).resp = s.resp := rfl
@[simp] theorem State.setItem_cfg (s : State) (n : Nat) (it : Item) :
    (s.setItem n it).cfg = s.cfg := rfl
@[simp] theorem State.setItem_host (s : State) (n : Nat) (it : Item) :
    (s.setItem n it).host = s.host := rfl
@[simp] theorem State.setItem_cad (s : State) (n : Nat) (it : Item) :
    (s.setItem n it).cad = s.cad := rfl
@[simp] theorem State.setItem_insts (s : State) (n : Nat) (it : Item) :
    (s.setItem n it).insts = s.insts := rfl
@[simp] theorem State.setItem_flash (s : State) (n : Nat) (it : Item) :
    (s.setItem n it).flash = s.flash := rfl
@[simp] theorem State.setItem_buf (s : State) (n : Nat) (it : Item) :
    (s.setItem n it).buf = s.buf := rfl
@[simp] theorem State.setItem_eng (s : State) (n : Nat) (it : Item) :
    (s.setItem n it).eng = s.eng := rfl
@[simp] theorem State.setItem_dig (s : State) (n : Nat) (it : Item) :
    (s.setItem n it).dig = s.dig := rfl
@[simp] theorem State.setItem_srch (s : State) (n : Nat) (it : Item) :
    (s.setItem n it).srch = s.srch := rfl
@[simp] theorem State.setItem_cores (s : State) (n : Nat) (it : Item) :
    (s.setItem n it).cores = s.cores := rfl
@[simp] theorem State.setItem_ctlStores (s : State) (n : Nat) (it : Item) :
    (s.setItem n it).ctlStores = s.ctlStores := rfl
@[simp] theorem State.setItem_scan (s : State) (n : Nat) (it : Item) :
    (s.setItem n it).scan = s.scan := rfl
@[simp] theorem State.setItem_dram (s : State) (n : Nat) (it : Item) :
    (s.setItem n it).dram = s.dram := rfl
@[simp] theorem State.setItem_srd (s : State) (n : Nat) (it : Item) :
    (s.setItem n it).srd = s.srd := rfl
@[simp] theorem State.setItem_knot (s : State) (n : Nat) (it : Item) :
    (s.setItem n it).knot = s.knot := rfl
@[simp] theorem State.setItem_therm (s : State) (n : Nat) (it : Item) :
    (s.setItem n it).therm = s.therm := rfl
@[simp] theorem State.setItem_pwr (s : State) (n : Nat) (it : Item) :
    (s.setItem n it).pwr = s.pwr := rfl
@[simp] theorem State.setItem_otp (s : State) (n : Nat) (it : Item) :
    (s.setItem n it).otp = s.otp := rfl
@[simp] theorem State.setItem_tel (s : State) (n : Nat) (it : Item) :
    (s.setItem n it).tel = s.tel := rfl
@[simp] theorem State.setItem_jtag (s : State) (n : Nat) (it : Item) :
    (s.setItem n it).jtag = s.jtag := rfl
@[simp] theorem State.setItem_freeCtr (s : State) (n : Nat) (it : Item) :
    (s.setItem n it).freeCtr = s.freeCtr := rfl
@[simp] theorem State.setItem_pending (s : State) (n : Nat) (it : Item) :
    (s.setItem n it).pending = s.pending := rfl

/-! `modItem` -/

@[simp] theorem State.modItem_regs (s : State) (n : Nat) (f : Item → Item) :
    (s.modItem n f).regs = s.regs := rfl
@[simp] theorem State.modItem_shVal (s : State) (n : Nat) (f : Item → Item) :
    (s.modItem n f).shVal = s.shVal := rfl
@[simp] theorem State.modItem_shMask (s : State) (n : Nat) (f : Item → Item) :
    (s.modItem n f).shMask = s.shMask := rfl
@[simp] theorem State.modItem_pairHi (s : State) (n : Nat) (f : Item → Item) :
    (s.modItem n f).pairHi = s.pairHi := rfl
@[simp] theorem State.modItem_resp (s : State) (n : Nat) (f : Item → Item) :
    (s.modItem n f).resp = s.resp := rfl
@[simp] theorem State.modItem_cfg (s : State) (n : Nat) (f : Item → Item) :
    (s.modItem n f).cfg = s.cfg := rfl
@[simp] theorem State.modItem_host (s : State) (n : Nat) (f : Item → Item) :
    (s.modItem n f).host = s.host := rfl
@[simp] theorem State.modItem_cad (s : State) (n : Nat) (f : Item → Item) :
    (s.modItem n f).cad = s.cad := rfl
@[simp] theorem State.modItem_insts (s : State) (n : Nat) (f : Item → Item) :
    (s.modItem n f).insts = s.insts := rfl
@[simp] theorem State.modItem_flash (s : State) (n : Nat) (f : Item → Item) :
    (s.modItem n f).flash = s.flash := rfl
@[simp] theorem State.modItem_buf (s : State) (n : Nat) (f : Item → Item) :
    (s.modItem n f).buf = s.buf := rfl
@[simp] theorem State.modItem_eng (s : State) (n : Nat) (f : Item → Item) :
    (s.modItem n f).eng = s.eng := rfl
@[simp] theorem State.modItem_dig (s : State) (n : Nat) (f : Item → Item) :
    (s.modItem n f).dig = s.dig := rfl
@[simp] theorem State.modItem_srch (s : State) (n : Nat) (f : Item → Item) :
    (s.modItem n f).srch = s.srch := rfl
@[simp] theorem State.modItem_cores (s : State) (n : Nat) (f : Item → Item) :
    (s.modItem n f).cores = s.cores := rfl
@[simp] theorem State.modItem_ctlStores (s : State) (n : Nat) (f : Item → Item) :
    (s.modItem n f).ctlStores = s.ctlStores := rfl
@[simp] theorem State.modItem_scan (s : State) (n : Nat) (f : Item → Item) :
    (s.modItem n f).scan = s.scan := rfl
@[simp] theorem State.modItem_dram (s : State) (n : Nat) (f : Item → Item) :
    (s.modItem n f).dram = s.dram := rfl
@[simp] theorem State.modItem_srd (s : State) (n : Nat) (f : Item → Item) :
    (s.modItem n f).srd = s.srd := rfl
@[simp] theorem State.modItem_knot (s : State) (n : Nat) (f : Item → Item) :
    (s.modItem n f).knot = s.knot := rfl
@[simp] theorem State.modItem_therm (s : State) (n : Nat) (f : Item → Item) :
    (s.modItem n f).therm = s.therm := rfl
@[simp] theorem State.modItem_pwr (s : State) (n : Nat) (f : Item → Item) :
    (s.modItem n f).pwr = s.pwr := rfl
@[simp] theorem State.modItem_otp (s : State) (n : Nat) (f : Item → Item) :
    (s.modItem n f).otp = s.otp := rfl
@[simp] theorem State.modItem_tel (s : State) (n : Nat) (f : Item → Item) :
    (s.modItem n f).tel = s.tel := rfl
@[simp] theorem State.modItem_jtag (s : State) (n : Nat) (f : Item → Item) :
    (s.modItem n f).jtag = s.jtag := rfl
@[simp] theorem State.modItem_freeCtr (s : State) (n : Nat) (f : Item → Item) :
    (s.modItem n f).freeCtr = s.freeCtr := rfl
@[simp] theorem State.modItem_pending (s : State) (n : Nat) (f : Item → Item) :
    (s.modItem n f).pending = s.pending := rfl

/-! `delItem` -/

@[simp] theorem State.delItem_regs (s : State) (n : Nat) :
    (s.delItem n).regs = s.regs := rfl
@[simp] theorem State.delItem_shVal (s : State) (n : Nat) :
    (s.delItem n).shVal = s.shVal := rfl
@[simp] theorem State.delItem_shMask (s : State) (n : Nat) :
    (s.delItem n).shMask = s.shMask := rfl
@[simp] theorem State.delItem_pairHi (s : State) (n : Nat) :
    (s.delItem n).pairHi = s.pairHi := rfl
@[simp] theorem State.delItem_resp (s : State) (n : Nat) :
    (s.delItem n).resp = s.resp := rfl
@[simp] theorem State.delItem_cfg (s : State) (n : Nat) :
    (s.delItem n).cfg = s.cfg := rfl
@[simp] theorem State.delItem_host (s : State) (n : Nat) :
    (s.delItem n).host = s.host := rfl
@[simp] theorem State.delItem_cad (s : State) (n : Nat) :
    (s.delItem n).cad = s.cad := rfl
@[simp] theorem State.delItem_insts (s : State) (n : Nat) :
    (s.delItem n).insts = s.insts := rfl
@[simp] theorem State.delItem_flash (s : State) (n : Nat) :
    (s.delItem n).flash = s.flash := rfl
@[simp] theorem State.delItem_buf (s : State) (n : Nat) :
    (s.delItem n).buf = s.buf := rfl
@[simp] theorem State.delItem_eng (s : State) (n : Nat) :
    (s.delItem n).eng = s.eng := rfl
@[simp] theorem State.delItem_dig (s : State) (n : Nat) :
    (s.delItem n).dig = s.dig := rfl
@[simp] theorem State.delItem_srch (s : State) (n : Nat) :
    (s.delItem n).srch = s.srch := rfl
@[simp] theorem State.delItem_cores (s : State) (n : Nat) :
    (s.delItem n).cores = s.cores := rfl
@[simp] theorem State.delItem_ctlStores (s : State) (n : Nat) :
    (s.delItem n).ctlStores = s.ctlStores := rfl
@[simp] theorem State.delItem_scan (s : State) (n : Nat) :
    (s.delItem n).scan = s.scan := rfl
@[simp] theorem State.delItem_dram (s : State) (n : Nat) :
    (s.delItem n).dram = s.dram := rfl
@[simp] theorem State.delItem_srd (s : State) (n : Nat) :
    (s.delItem n).srd = s.srd := rfl
@[simp] theorem State.delItem_knot (s : State) (n : Nat) :
    (s.delItem n).knot = s.knot := rfl
@[simp] theorem State.delItem_therm (s : State) (n : Nat) :
    (s.delItem n).therm = s.therm := rfl
@[simp] theorem State.delItem_pwr (s : State) (n : Nat) :
    (s.delItem n).pwr = s.pwr := rfl
@[simp] theorem State.delItem_otp (s : State) (n : Nat) :
    (s.delItem n).otp = s.otp := rfl
@[simp] theorem State.delItem_tel (s : State) (n : Nat) :
    (s.delItem n).tel = s.tel := rfl
@[simp] theorem State.delItem_jtag (s : State) (n : Nat) :
    (s.delItem n).jtag = s.jtag := rfl
@[simp] theorem State.delItem_freeCtr (s : State) (n : Nat) :
    (s.delItem n).freeCtr = s.freeCtr := rfl
@[simp] theorem State.delItem_pending (s : State) (n : Nat) :
    (s.delItem n).pending = s.pending := rfl

/-! `setInst` -/

@[simp] theorem State.setInst_regs (s : State) (i : Nat) (x : InstSt) :
    (s.setInst i x).regs = s.regs := rfl
@[simp] theorem State.setInst_shVal (s : State) (i : Nat) (x : InstSt) :
    (s.setInst i x).shVal = s.shVal := rfl
@[simp] theorem State.setInst_shMask (s : State) (i : Nat) (x : InstSt) :
    (s.setInst i x).shMask = s.shMask := rfl
@[simp] theorem State.setInst_pairHi (s : State) (i : Nat) (x : InstSt) :
    (s.setInst i x).pairHi = s.pairHi := rfl
@[simp] theorem State.setInst_resp (s : State) (i : Nat) (x : InstSt) :
    (s.setInst i x).resp = s.resp := rfl
@[simp] theorem State.setInst_cfg (s : State) (i : Nat) (x : InstSt) :
    (s.setInst i x).cfg = s.cfg := rfl
@[simp] theorem State.setInst_host (s : State) (i : Nat) (x : InstSt) :
    (s.setInst i x).host = s.host := rfl
@[simp] theorem State.setInst_cmd (s : State) (i : Nat) (x : InstSt) :
    (s.setInst i x).cmd = s.cmd := rfl
@[simp] theorem State.setInst_cad (s : State) (i : Nat) (x : InstSt) :
    (s.setInst i x).cad = s.cad := rfl
@[simp] theorem State.setInst_flash (s : State) (i : Nat) (x : InstSt) :
    (s.setInst i x).flash = s.flash := rfl
@[simp] theorem State.setInst_buf (s : State) (i : Nat) (x : InstSt) :
    (s.setInst i x).buf = s.buf := rfl
@[simp] theorem State.setInst_eng (s : State) (i : Nat) (x : InstSt) :
    (s.setInst i x).eng = s.eng := rfl
@[simp] theorem State.setInst_dig (s : State) (i : Nat) (x : InstSt) :
    (s.setInst i x).dig = s.dig := rfl
@[simp] theorem State.setInst_srch (s : State) (i : Nat) (x : InstSt) :
    (s.setInst i x).srch = s.srch := rfl
@[simp] theorem State.setInst_cores (s : State) (i : Nat) (x : InstSt) :
    (s.setInst i x).cores = s.cores := rfl
@[simp] theorem State.setInst_ctlStores (s : State) (i : Nat) (x : InstSt) :
    (s.setInst i x).ctlStores = s.ctlStores := rfl
@[simp] theorem State.setInst_scan (s : State) (i : Nat) (x : InstSt) :
    (s.setInst i x).scan = s.scan := rfl
@[simp] theorem State.setInst_dram (s : State) (i : Nat) (x : InstSt) :
    (s.setInst i x).dram = s.dram := rfl
@[simp] theorem State.setInst_srd (s : State) (i : Nat) (x : InstSt) :
    (s.setInst i x).srd = s.srd := rfl
@[simp] theorem State.setInst_knot (s : State) (i : Nat) (x : InstSt) :
    (s.setInst i x).knot = s.knot := rfl
@[simp] theorem State.setInst_therm (s : State) (i : Nat) (x : InstSt) :
    (s.setInst i x).therm = s.therm := rfl
@[simp] theorem State.setInst_pwr (s : State) (i : Nat) (x : InstSt) :
    (s.setInst i x).pwr = s.pwr := rfl
@[simp] theorem State.setInst_otp (s : State) (i : Nat) (x : InstSt) :
    (s.setInst i x).otp = s.otp := rfl
@[simp] theorem State.setInst_tel (s : State) (i : Nat) (x : InstSt) :
    (s.setInst i x).tel = s.tel := rfl
@[simp] theorem State.setInst_jtag (s : State) (i : Nat) (x : InstSt) :
    (s.setInst i x).jtag = s.jtag := rfl
@[simp] theorem State.setInst_freeCtr (s : State) (i : Nat) (x : InstSt) :
    (s.setInst i x).freeCtr = s.freeCtr := rfl
@[simp] theorem State.setInst_pending (s : State) (i : Nat) (x : InstSt) :
    (s.setInst i x).pending = s.pending := rfl

/-! `setConn` -/

@[simp] theorem State.setConn_regs (s : State) (c : Nat) (x : Conn) :
    (s.setConn c x).regs = s.regs := rfl
@[simp] theorem State.setConn_shVal (s : State) (c : Nat) (x : Conn) :
    (s.setConn c x).shVal = s.shVal := rfl
@[simp] theorem State.setConn_shMask (s : State) (c : Nat) (x : Conn) :
    (s.setConn c x).shMask = s.shMask := rfl
@[simp] theorem State.setConn_pairHi (s : State) (c : Nat) (x : Conn) :
    (s.setConn c x).pairHi = s.pairHi := rfl
@[simp] theorem State.setConn_resp (s : State) (c : Nat) (x : Conn) :
    (s.setConn c x).resp = s.resp := rfl
@[simp] theorem State.setConn_cfg (s : State) (c : Nat) (x : Conn) :
    (s.setConn c x).cfg = s.cfg := rfl
@[simp] theorem State.setConn_cmd (s : State) (c : Nat) (x : Conn) :
    (s.setConn c x).cmd = s.cmd := rfl
@[simp] theorem State.setConn_cad (s : State) (c : Nat) (x : Conn) :
    (s.setConn c x).cad = s.cad := rfl
@[simp] theorem State.setConn_insts (s : State) (c : Nat) (x : Conn) :
    (s.setConn c x).insts = s.insts := rfl
@[simp] theorem State.setConn_flash (s : State) (c : Nat) (x : Conn) :
    (s.setConn c x).flash = s.flash := rfl
@[simp] theorem State.setConn_buf (s : State) (c : Nat) (x : Conn) :
    (s.setConn c x).buf = s.buf := rfl
@[simp] theorem State.setConn_eng (s : State) (c : Nat) (x : Conn) :
    (s.setConn c x).eng = s.eng := rfl
@[simp] theorem State.setConn_dig (s : State) (c : Nat) (x : Conn) :
    (s.setConn c x).dig = s.dig := rfl
@[simp] theorem State.setConn_srch (s : State) (c : Nat) (x : Conn) :
    (s.setConn c x).srch = s.srch := rfl
@[simp] theorem State.setConn_cores (s : State) (c : Nat) (x : Conn) :
    (s.setConn c x).cores = s.cores := rfl
@[simp] theorem State.setConn_ctlStores (s : State) (c : Nat) (x : Conn) :
    (s.setConn c x).ctlStores = s.ctlStores := rfl
@[simp] theorem State.setConn_scan (s : State) (c : Nat) (x : Conn) :
    (s.setConn c x).scan = s.scan := rfl
@[simp] theorem State.setConn_dram (s : State) (c : Nat) (x : Conn) :
    (s.setConn c x).dram = s.dram := rfl
@[simp] theorem State.setConn_srd (s : State) (c : Nat) (x : Conn) :
    (s.setConn c x).srd = s.srd := rfl
@[simp] theorem State.setConn_knot (s : State) (c : Nat) (x : Conn) :
    (s.setConn c x).knot = s.knot := rfl
@[simp] theorem State.setConn_therm (s : State) (c : Nat) (x : Conn) :
    (s.setConn c x).therm = s.therm := rfl
@[simp] theorem State.setConn_pwr (s : State) (c : Nat) (x : Conn) :
    (s.setConn c x).pwr = s.pwr := rfl
@[simp] theorem State.setConn_otp (s : State) (c : Nat) (x : Conn) :
    (s.setConn c x).otp = s.otp := rfl
@[simp] theorem State.setConn_tel (s : State) (c : Nat) (x : Conn) :
    (s.setConn c x).tel = s.tel := rfl
@[simp] theorem State.setConn_jtag (s : State) (c : Nat) (x : Conn) :
    (s.setConn c x).jtag = s.jtag := rfl
@[simp] theorem State.setConn_freeCtr (s : State) (c : Nat) (x : Conn) :
    (s.setConn c x).freeCtr = s.freeCtr := rfl
@[simp] theorem State.setConn_pending (s : State) (c : Nat) (x : Conn) :
    (s.setConn c x).pending = s.pending := rfl

/-! `modConn` -/

@[simp] theorem State.modConn_regs (s : State) (c : Nat) (f : Conn → Conn) :
    (s.modConn c f).regs = s.regs := rfl
@[simp] theorem State.modConn_shVal (s : State) (c : Nat) (f : Conn → Conn) :
    (s.modConn c f).shVal = s.shVal := rfl
@[simp] theorem State.modConn_shMask (s : State) (c : Nat) (f : Conn → Conn) :
    (s.modConn c f).shMask = s.shMask := rfl
@[simp] theorem State.modConn_pairHi (s : State) (c : Nat) (f : Conn → Conn) :
    (s.modConn c f).pairHi = s.pairHi := rfl
@[simp] theorem State.modConn_resp (s : State) (c : Nat) (f : Conn → Conn) :
    (s.modConn c f).resp = s.resp := rfl
@[simp] theorem State.modConn_cfg (s : State) (c : Nat) (f : Conn → Conn) :
    (s.modConn c f).cfg = s.cfg := rfl
@[simp] theorem State.modConn_cmd (s : State) (c : Nat) (f : Conn → Conn) :
    (s.modConn c f).cmd = s.cmd := rfl
@[simp] theorem State.modConn_cad (s : State) (c : Nat) (f : Conn → Conn) :
    (s.modConn c f).cad = s.cad := rfl
@[simp] theorem State.modConn_insts (s : State) (c : Nat) (f : Conn → Conn) :
    (s.modConn c f).insts = s.insts := rfl
@[simp] theorem State.modConn_flash (s : State) (c : Nat) (f : Conn → Conn) :
    (s.modConn c f).flash = s.flash := rfl
@[simp] theorem State.modConn_buf (s : State) (c : Nat) (f : Conn → Conn) :
    (s.modConn c f).buf = s.buf := rfl
@[simp] theorem State.modConn_eng (s : State) (c : Nat) (f : Conn → Conn) :
    (s.modConn c f).eng = s.eng := rfl
@[simp] theorem State.modConn_dig (s : State) (c : Nat) (f : Conn → Conn) :
    (s.modConn c f).dig = s.dig := rfl
@[simp] theorem State.modConn_srch (s : State) (c : Nat) (f : Conn → Conn) :
    (s.modConn c f).srch = s.srch := rfl
@[simp] theorem State.modConn_cores (s : State) (c : Nat) (f : Conn → Conn) :
    (s.modConn c f).cores = s.cores := rfl
@[simp] theorem State.modConn_ctlStores (s : State) (c : Nat) (f : Conn → Conn) :
    (s.modConn c f).ctlStores = s.ctlStores := rfl
@[simp] theorem State.modConn_scan (s : State) (c : Nat) (f : Conn → Conn) :
    (s.modConn c f).scan = s.scan := rfl
@[simp] theorem State.modConn_dram (s : State) (c : Nat) (f : Conn → Conn) :
    (s.modConn c f).dram = s.dram := rfl
@[simp] theorem State.modConn_srd (s : State) (c : Nat) (f : Conn → Conn) :
    (s.modConn c f).srd = s.srd := rfl
@[simp] theorem State.modConn_knot (s : State) (c : Nat) (f : Conn → Conn) :
    (s.modConn c f).knot = s.knot := rfl
@[simp] theorem State.modConn_therm (s : State) (c : Nat) (f : Conn → Conn) :
    (s.modConn c f).therm = s.therm := rfl
@[simp] theorem State.modConn_pwr (s : State) (c : Nat) (f : Conn → Conn) :
    (s.modConn c f).pwr = s.pwr := rfl
@[simp] theorem State.modConn_otp (s : State) (c : Nat) (f : Conn → Conn) :
    (s.modConn c f).otp = s.otp := rfl
@[simp] theorem State.modConn_tel (s : State) (c : Nat) (f : Conn → Conn) :
    (s.modConn c f).tel = s.tel := rfl
@[simp] theorem State.modConn_jtag (s : State) (c : Nat) (f : Conn → Conn) :
    (s.modConn c f).jtag = s.jtag := rfl
@[simp] theorem State.modConn_freeCtr (s : State) (c : Nat) (f : Conn → Conn) :
    (s.modConn c f).freeCtr = s.freeCtr := rfl
@[simp] theorem State.modConn_pending (s : State) (c : Nat) (f : Conn → Conn) :
    (s.modConn c f).pending = s.pending := rfl

/-! `freeConn` -/

@[simp] theorem State.freeConn_regs (s : State) (c : Nat) :
    (s.freeConn c).regs = s.regs := rfl
@[simp] theorem State.freeConn_shVal (s : State) (c : Nat) :
    (s.freeConn c).shVal = s.shVal := rfl
@[simp] theorem State.freeConn_shMask (s : State) (c : Nat) :
    (s.freeConn c).shMask = s.shMask := rfl
@[simp] theorem State.freeConn_pairHi (s : State) (c : Nat) :
    (s.freeConn c).pairHi = s.pairHi := rfl
@[simp] theorem State.freeConn_resp (s : State) (c : Nat) :
    (s.freeConn c).resp = s.resp := rfl
@[simp] theorem State.freeConn_cfg (s : State) (c : Nat) :
    (s.freeConn c).cfg = s.cfg := rfl
@[simp] theorem State.freeConn_cmd (s : State) (c : Nat) :
    (s.freeConn c).cmd = s.cmd := rfl
@[simp] theorem State.freeConn_cad (s : State) (c : Nat) :
    (s.freeConn c).cad = s.cad := rfl
@[simp] theorem State.freeConn_insts (s : State) (c : Nat) :
    (s.freeConn c).insts = s.insts := rfl
@[simp] theorem State.freeConn_flash (s : State) (c : Nat) :
    (s.freeConn c).flash = s.flash := rfl
@[simp] theorem State.freeConn_buf (s : State) (c : Nat) :
    (s.freeConn c).buf = s.buf := rfl
@[simp] theorem State.freeConn_eng (s : State) (c : Nat) :
    (s.freeConn c).eng = s.eng := rfl
@[simp] theorem State.freeConn_dig (s : State) (c : Nat) :
    (s.freeConn c).dig = s.dig := rfl
@[simp] theorem State.freeConn_srch (s : State) (c : Nat) :
    (s.freeConn c).srch = s.srch := rfl
@[simp] theorem State.freeConn_cores (s : State) (c : Nat) :
    (s.freeConn c).cores = s.cores := rfl
@[simp] theorem State.freeConn_ctlStores (s : State) (c : Nat) :
    (s.freeConn c).ctlStores = s.ctlStores := rfl
@[simp] theorem State.freeConn_scan (s : State) (c : Nat) :
    (s.freeConn c).scan = s.scan := rfl
@[simp] theorem State.freeConn_dram (s : State) (c : Nat) :
    (s.freeConn c).dram = s.dram := rfl
@[simp] theorem State.freeConn_srd (s : State) (c : Nat) :
    (s.freeConn c).srd = s.srd := rfl
@[simp] theorem State.freeConn_knot (s : State) (c : Nat) :
    (s.freeConn c).knot = s.knot := rfl
@[simp] theorem State.freeConn_therm (s : State) (c : Nat) :
    (s.freeConn c).therm = s.therm := rfl
@[simp] theorem State.freeConn_pwr (s : State) (c : Nat) :
    (s.freeConn c).pwr = s.pwr := rfl
@[simp] theorem State.freeConn_otp (s : State) (c : Nat) :
    (s.freeConn c).otp = s.otp := rfl
@[simp] theorem State.freeConn_tel (s : State) (c : Nat) :
    (s.freeConn c).tel = s.tel := rfl
@[simp] theorem State.freeConn_jtag (s : State) (c : Nat) :
    (s.freeConn c).jtag = s.jtag := rfl
@[simp] theorem State.freeConn_freeCtr (s : State) (c : Nat) :
    (s.freeConn c).freeCtr = s.freeCtr := rfl
@[simp] theorem State.freeConn_pending (s : State) (c : Nat) :
    (s.freeConn c).pending = s.pending := rfl

/-! `setCore` -/

@[simp] theorem State.setCore_regs (s : State) (c : Nat) (x : Core) :
    (s.setCore c x).regs = s.regs := rfl
@[simp] theorem State.setCore_shVal (s : State) (c : Nat) (x : Core) :
    (s.setCore c x).shVal = s.shVal := rfl
@[simp] theorem State.setCore_shMask (s : State) (c : Nat) (x : Core) :
    (s.setCore c x).shMask = s.shMask := rfl
@[simp] theorem State.setCore_pairHi (s : State) (c : Nat) (x : Core) :
    (s.setCore c x).pairHi = s.pairHi := rfl
@[simp] theorem State.setCore_resp (s : State) (c : Nat) (x : Core) :
    (s.setCore c x).resp = s.resp := rfl
@[simp] theorem State.setCore_cfg (s : State) (c : Nat) (x : Core) :
    (s.setCore c x).cfg = s.cfg := rfl
@[simp] theorem State.setCore_host (s : State) (c : Nat) (x : Core) :
    (s.setCore c x).host = s.host := rfl
@[simp] theorem State.setCore_cmd (s : State) (c : Nat) (x : Core) :
    (s.setCore c x).cmd = s.cmd := rfl
@[simp] theorem State.setCore_cad (s : State) (c : Nat) (x : Core) :
    (s.setCore c x).cad = s.cad := rfl
@[simp] theorem State.setCore_insts (s : State) (c : Nat) (x : Core) :
    (s.setCore c x).insts = s.insts := rfl
@[simp] theorem State.setCore_flash (s : State) (c : Nat) (x : Core) :
    (s.setCore c x).flash = s.flash := rfl
@[simp] theorem State.setCore_buf (s : State) (c : Nat) (x : Core) :
    (s.setCore c x).buf = s.buf := rfl
@[simp] theorem State.setCore_eng (s : State) (c : Nat) (x : Core) :
    (s.setCore c x).eng = s.eng := rfl
@[simp] theorem State.setCore_dig (s : State) (c : Nat) (x : Core) :
    (s.setCore c x).dig = s.dig := rfl
@[simp] theorem State.setCore_srch (s : State) (c : Nat) (x : Core) :
    (s.setCore c x).srch = s.srch := rfl
@[simp] theorem State.setCore_ctlStores (s : State) (c : Nat) (x : Core) :
    (s.setCore c x).ctlStores = s.ctlStores := rfl
@[simp] theorem State.setCore_scan (s : State) (c : Nat) (x : Core) :
    (s.setCore c x).scan = s.scan := rfl
@[simp] theorem State.setCore_dram (s : State) (c : Nat) (x : Core) :
    (s.setCore c x).dram = s.dram := rfl
@[simp] theorem State.setCore_srd (s : State) (c : Nat) (x : Core) :
    (s.setCore c x).srd = s.srd := rfl
@[simp] theorem State.setCore_knot (s : State) (c : Nat) (x : Core) :
    (s.setCore c x).knot = s.knot := rfl
@[simp] theorem State.setCore_therm (s : State) (c : Nat) (x : Core) :
    (s.setCore c x).therm = s.therm := rfl
@[simp] theorem State.setCore_pwr (s : State) (c : Nat) (x : Core) :
    (s.setCore c x).pwr = s.pwr := rfl
@[simp] theorem State.setCore_otp (s : State) (c : Nat) (x : Core) :
    (s.setCore c x).otp = s.otp := rfl
@[simp] theorem State.setCore_tel (s : State) (c : Nat) (x : Core) :
    (s.setCore c x).tel = s.tel := rfl
@[simp] theorem State.setCore_jtag (s : State) (c : Nat) (x : Core) :
    (s.setCore c x).jtag = s.jtag := rfl
@[simp] theorem State.setCore_freeCtr (s : State) (c : Nat) (x : Core) :
    (s.setCore c x).freeCtr = s.freeCtr := rfl
@[simp] theorem State.setCore_pending (s : State) (c : Nat) (x : Core) :
    (s.setCore c x).pending = s.pending := rfl

/-! `setCluster` -/

@[simp] theorem State.setCluster_regs (s : State) (cc : Nat) (x : Cluster) :
    (s.setCluster cc x).regs = s.regs := rfl
@[simp] theorem State.setCluster_shVal (s : State) (cc : Nat) (x : Cluster) :
    (s.setCluster cc x).shVal = s.shVal := rfl
@[simp] theorem State.setCluster_shMask (s : State) (cc : Nat) (x : Cluster) :
    (s.setCluster cc x).shMask = s.shMask := rfl
@[simp] theorem State.setCluster_pairHi (s : State) (cc : Nat) (x : Cluster) :
    (s.setCluster cc x).pairHi = s.pairHi := rfl
@[simp] theorem State.setCluster_resp (s : State) (cc : Nat) (x : Cluster) :
    (s.setCluster cc x).resp = s.resp := rfl
@[simp] theorem State.setCluster_cfg (s : State) (cc : Nat) (x : Cluster) :
    (s.setCluster cc x).cfg = s.cfg := rfl
@[simp] theorem State.setCluster_host (s : State) (cc : Nat) (x : Cluster) :
    (s.setCluster cc x).host = s.host := rfl
@[simp] theorem State.setCluster_cmd (s : State) (cc : Nat) (x : Cluster) :
    (s.setCluster cc x).cmd = s.cmd := rfl
@[simp] theorem State.setCluster_cad (s : State) (cc : Nat) (x : Cluster) :
    (s.setCluster cc x).cad = s.cad := rfl
@[simp] theorem State.setCluster_insts (s : State) (cc : Nat) (x : Cluster) :
    (s.setCluster cc x).insts = s.insts := rfl
@[simp] theorem State.setCluster_flash (s : State) (cc : Nat) (x : Cluster) :
    (s.setCluster cc x).flash = s.flash := rfl
@[simp] theorem State.setCluster_buf (s : State) (cc : Nat) (x : Cluster) :
    (s.setCluster cc x).buf = s.buf := rfl
@[simp] theorem State.setCluster_eng (s : State) (cc : Nat) (x : Cluster) :
    (s.setCluster cc x).eng = s.eng := rfl
@[simp] theorem State.setCluster_dig (s : State) (cc : Nat) (x : Cluster) :
    (s.setCluster cc x).dig = s.dig := rfl
@[simp] theorem State.setCluster_srch (s : State) (cc : Nat) (x : Cluster) :
    (s.setCluster cc x).srch = s.srch := rfl
@[simp] theorem State.setCluster_cores (s : State) (cc : Nat) (x : Cluster) :
    (s.setCluster cc x).cores = s.cores := rfl
@[simp] theorem State.setCluster_ctlStores (s : State) (cc : Nat) (x : Cluster) :
    (s.setCluster cc x).ctlStores = s.ctlStores := rfl
@[simp] theorem State.setCluster_dram (s : State) (cc : Nat) (x : Cluster) :
    (s.setCluster cc x).dram = s.dram := rfl
@[simp] theorem State.setCluster_srd (s : State) (cc : Nat) (x : Cluster) :
    (s.setCluster cc x).srd = s.srd := rfl
@[simp] theorem State.setCluster_knot (s : State) (cc : Nat) (x : Cluster) :
    (s.setCluster cc x).knot = s.knot := rfl
@[simp] theorem State.setCluster_therm (s : State) (cc : Nat) (x : Cluster) :
    (s.setCluster cc x).therm = s.therm := rfl
@[simp] theorem State.setCluster_pwr (s : State) (cc : Nat) (x : Cluster) :
    (s.setCluster cc x).pwr = s.pwr := rfl
@[simp] theorem State.setCluster_otp (s : State) (cc : Nat) (x : Cluster) :
    (s.setCluster cc x).otp = s.otp := rfl
@[simp] theorem State.setCluster_tel (s : State) (cc : Nat) (x : Cluster) :
    (s.setCluster cc x).tel = s.tel := rfl
@[simp] theorem State.setCluster_jtag (s : State) (cc : Nat) (x : Cluster) :
    (s.setCluster cc x).jtag = s.jtag := rfl
@[simp] theorem State.setCluster_freeCtr (s : State) (cc : Nat) (x : Cluster) :
    (s.setCluster cc x).freeCtr = s.freeCtr := rfl
@[simp] theorem State.setCluster_pending (s : State) (cc : Nat) (x : Cluster) :
    (s.setCluster cc x).pending = s.pending := rfl

/-! `modScan` -/

@[simp] theorem State.modScan_regs (s : State) (n : Nat) (f : ScanSt → ScanSt) :
    (s.modScan n f).regs = s.regs := rfl
@[simp] theorem State.modScan_shVal (s : State) (n : Nat) (f : ScanSt → ScanSt) :
    (s.modScan n f).shVal = s.shVal := rfl
@[simp] theorem State.modScan_shMask (s : State) (n : Nat) (f : ScanSt → ScanSt) :
    (s.modScan n f).shMask = s.shMask := rfl
@[simp] theorem State.modScan_pairHi (s : State) (n : Nat) (f : ScanSt → ScanSt) :
    (s.modScan n f).pairHi = s.pairHi := rfl
@[simp] theorem State.modScan_resp (s : State) (n : Nat) (f : ScanSt → ScanSt) :
    (s.modScan n f).resp = s.resp := rfl
@[simp] theorem State.modScan_cfg (s : State) (n : Nat) (f : ScanSt → ScanSt) :
    (s.modScan n f).cfg = s.cfg := rfl
@[simp] theorem State.modScan_host (s : State) (n : Nat) (f : ScanSt → ScanSt) :
    (s.modScan n f).host = s.host := rfl
@[simp] theorem State.modScan_cmd (s : State) (n : Nat) (f : ScanSt → ScanSt) :
    (s.modScan n f).cmd = s.cmd := rfl
@[simp] theorem State.modScan_cad (s : State) (n : Nat) (f : ScanSt → ScanSt) :
    (s.modScan n f).cad = s.cad := rfl
@[simp] theorem State.modScan_insts (s : State) (n : Nat) (f : ScanSt → ScanSt) :
    (s.modScan n f).insts = s.insts := rfl
@[simp] theorem State.modScan_flash (s : State) (n : Nat) (f : ScanSt → ScanSt) :
    (s.modScan n f).flash = s.flash := rfl
@[simp] theorem State.modScan_buf (s : State) (n : Nat) (f : ScanSt → ScanSt) :
    (s.modScan n f).buf = s.buf := rfl
@[simp] theorem State.modScan_eng (s : State) (n : Nat) (f : ScanSt → ScanSt) :
    (s.modScan n f).eng = s.eng := rfl
@[simp] theorem State.modScan_dig (s : State) (n : Nat) (f : ScanSt → ScanSt) :
    (s.modScan n f).dig = s.dig := rfl
@[simp] theorem State.modScan_srch (s : State) (n : Nat) (f : ScanSt → ScanSt) :
    (s.modScan n f).srch = s.srch := rfl
@[simp] theorem State.modScan_cores (s : State) (n : Nat) (f : ScanSt → ScanSt) :
    (s.modScan n f).cores = s.cores := rfl
@[simp] theorem State.modScan_ctlStores (s : State) (n : Nat) (f : ScanSt → ScanSt) :
    (s.modScan n f).ctlStores = s.ctlStores := rfl
@[simp] theorem State.modScan_dram (s : State) (n : Nat) (f : ScanSt → ScanSt) :
    (s.modScan n f).dram = s.dram := rfl
@[simp] theorem State.modScan_srd (s : State) (n : Nat) (f : ScanSt → ScanSt) :
    (s.modScan n f).srd = s.srd := rfl
@[simp] theorem State.modScan_knot (s : State) (n : Nat) (f : ScanSt → ScanSt) :
    (s.modScan n f).knot = s.knot := rfl
@[simp] theorem State.modScan_therm (s : State) (n : Nat) (f : ScanSt → ScanSt) :
    (s.modScan n f).therm = s.therm := rfl
@[simp] theorem State.modScan_pwr (s : State) (n : Nat) (f : ScanSt → ScanSt) :
    (s.modScan n f).pwr = s.pwr := rfl
@[simp] theorem State.modScan_otp (s : State) (n : Nat) (f : ScanSt → ScanSt) :
    (s.modScan n f).otp = s.otp := rfl
@[simp] theorem State.modScan_tel (s : State) (n : Nat) (f : ScanSt → ScanSt) :
    (s.modScan n f).tel = s.tel := rfl
@[simp] theorem State.modScan_jtag (s : State) (n : Nat) (f : ScanSt → ScanSt) :
    (s.modScan n f).jtag = s.jtag := rfl
@[simp] theorem State.modScan_freeCtr (s : State) (n : Nat) (f : ScanSt → ScanSt) :
    (s.modScan n f).freeCtr = s.freeCtr := rfl
@[simp] theorem State.modScan_pending (s : State) (n : Nat) (f : ScanSt → ScanSt) :
    (s.modScan n f).pending = s.pending := rfl

/-! `setSrd` -/

@[simp] theorem State.setSrd_regs (s : State) (x : SrdSt) :
    (s.setSrd x).regs = s.regs := rfl
@[simp] theorem State.setSrd_shVal (s : State) (x : SrdSt) :
    (s.setSrd x).shVal = s.shVal := rfl
@[simp] theorem State.setSrd_shMask (s : State) (x : SrdSt) :
    (s.setSrd x).shMask = s.shMask := rfl
@[simp] theorem State.setSrd_pairHi (s : State) (x : SrdSt) :
    (s.setSrd x).pairHi = s.pairHi := rfl
@[simp] theorem State.setSrd_resp (s : State) (x : SrdSt) :
    (s.setSrd x).resp = s.resp := rfl
@[simp] theorem State.setSrd_cfg (s : State) (x : SrdSt) :
    (s.setSrd x).cfg = s.cfg := rfl
@[simp] theorem State.setSrd_host (s : State) (x : SrdSt) :
    (s.setSrd x).host = s.host := rfl
@[simp] theorem State.setSrd_cmd (s : State) (x : SrdSt) :
    (s.setSrd x).cmd = s.cmd := rfl
@[simp] theorem State.setSrd_cad (s : State) (x : SrdSt) :
    (s.setSrd x).cad = s.cad := rfl
@[simp] theorem State.setSrd_insts (s : State) (x : SrdSt) :
    (s.setSrd x).insts = s.insts := rfl
@[simp] theorem State.setSrd_flash (s : State) (x : SrdSt) :
    (s.setSrd x).flash = s.flash := rfl
@[simp] theorem State.setSrd_buf (s : State) (x : SrdSt) :
    (s.setSrd x).buf = s.buf := rfl
@[simp] theorem State.setSrd_eng (s : State) (x : SrdSt) :
    (s.setSrd x).eng = s.eng := rfl
@[simp] theorem State.setSrd_dig (s : State) (x : SrdSt) :
    (s.setSrd x).dig = s.dig := rfl
@[simp] theorem State.setSrd_srch (s : State) (x : SrdSt) :
    (s.setSrd x).srch = s.srch := rfl
@[simp] theorem State.setSrd_cores (s : State) (x : SrdSt) :
    (s.setSrd x).cores = s.cores := rfl
@[simp] theorem State.setSrd_ctlStores (s : State) (x : SrdSt) :
    (s.setSrd x).ctlStores = s.ctlStores := rfl
@[simp] theorem State.setSrd_scan (s : State) (x : SrdSt) :
    (s.setSrd x).scan = s.scan := rfl
@[simp] theorem State.setSrd_dram (s : State) (x : SrdSt) :
    (s.setSrd x).dram = s.dram := rfl
@[simp] theorem State.setSrd_knot (s : State) (x : SrdSt) :
    (s.setSrd x).knot = s.knot := rfl
@[simp] theorem State.setSrd_therm (s : State) (x : SrdSt) :
    (s.setSrd x).therm = s.therm := rfl
@[simp] theorem State.setSrd_pwr (s : State) (x : SrdSt) :
    (s.setSrd x).pwr = s.pwr := rfl
@[simp] theorem State.setSrd_otp (s : State) (x : SrdSt) :
    (s.setSrd x).otp = s.otp := rfl
@[simp] theorem State.setSrd_tel (s : State) (x : SrdSt) :
    (s.setSrd x).tel = s.tel := rfl
@[simp] theorem State.setSrd_jtag (s : State) (x : SrdSt) :
    (s.setSrd x).jtag = s.jtag := rfl
@[simp] theorem State.setSrd_freeCtr (s : State) (x : SrdSt) :
    (s.setSrd x).freeCtr = s.freeCtr := rfl
@[simp] theorem State.setSrd_pending (s : State) (x : SrdSt) :
    (s.setSrd x).pending = s.pending := rfl

/-! `modLink` -/

@[simp] theorem State.modLink_regs (s : State) (j : Nat) (f : LinkSt → LinkSt) :
    (s.modLink j f).regs = s.regs := rfl
@[simp] theorem State.modLink_shVal (s : State) (j : Nat) (f : LinkSt → LinkSt) :
    (s.modLink j f).shVal = s.shVal := rfl
@[simp] theorem State.modLink_shMask (s : State) (j : Nat) (f : LinkSt → LinkSt) :
    (s.modLink j f).shMask = s.shMask := rfl
@[simp] theorem State.modLink_pairHi (s : State) (j : Nat) (f : LinkSt → LinkSt) :
    (s.modLink j f).pairHi = s.pairHi := rfl
@[simp] theorem State.modLink_resp (s : State) (j : Nat) (f : LinkSt → LinkSt) :
    (s.modLink j f).resp = s.resp := rfl
@[simp] theorem State.modLink_cfg (s : State) (j : Nat) (f : LinkSt → LinkSt) :
    (s.modLink j f).cfg = s.cfg := rfl
@[simp] theorem State.modLink_host (s : State) (j : Nat) (f : LinkSt → LinkSt) :
    (s.modLink j f).host = s.host := rfl
@[simp] theorem State.modLink_cmd (s : State) (j : Nat) (f : LinkSt → LinkSt) :
    (s.modLink j f).cmd = s.cmd := rfl
@[simp] theorem State.modLink_cad (s : State) (j : Nat) (f : LinkSt → LinkSt) :
    (s.modLink j f).cad = s.cad := rfl
@[simp] theorem State.modLink_insts (s : State) (j : Nat) (f : LinkSt → LinkSt) :
    (s.modLink j f).insts = s.insts := rfl
@[simp] theorem State.modLink_flash (s : State) (j : Nat) (f : LinkSt → LinkSt) :
    (s.modLink j f).flash = s.flash := rfl
@[simp] theorem State.modLink_buf (s : State) (j : Nat) (f : LinkSt → LinkSt) :
    (s.modLink j f).buf = s.buf := rfl
@[simp] theorem State.modLink_eng (s : State) (j : Nat) (f : LinkSt → LinkSt) :
    (s.modLink j f).eng = s.eng := rfl
@[simp] theorem State.modLink_dig (s : State) (j : Nat) (f : LinkSt → LinkSt) :
    (s.modLink j f).dig = s.dig := rfl
@[simp] theorem State.modLink_srch (s : State) (j : Nat) (f : LinkSt → LinkSt) :
    (s.modLink j f).srch = s.srch := rfl
@[simp] theorem State.modLink_cores (s : State) (j : Nat) (f : LinkSt → LinkSt) :
    (s.modLink j f).cores = s.cores := rfl
@[simp] theorem State.modLink_ctlStores (s : State) (j : Nat) (f : LinkSt → LinkSt) :
    (s.modLink j f).ctlStores = s.ctlStores := rfl
@[simp] theorem State.modLink_scan (s : State) (j : Nat) (f : LinkSt → LinkSt) :
    (s.modLink j f).scan = s.scan := rfl
@[simp] theorem State.modLink_dram (s : State) (j : Nat) (f : LinkSt → LinkSt) :
    (s.modLink j f).dram = s.dram := rfl
@[simp] theorem State.modLink_srd (s : State) (j : Nat) (f : LinkSt → LinkSt) :
    (s.modLink j f).srd = s.srd := rfl
@[simp] theorem State.modLink_therm (s : State) (j : Nat) (f : LinkSt → LinkSt) :
    (s.modLink j f).therm = s.therm := rfl
@[simp] theorem State.modLink_pwr (s : State) (j : Nat) (f : LinkSt → LinkSt) :
    (s.modLink j f).pwr = s.pwr := rfl
@[simp] theorem State.modLink_otp (s : State) (j : Nat) (f : LinkSt → LinkSt) :
    (s.modLink j f).otp = s.otp := rfl
@[simp] theorem State.modLink_tel (s : State) (j : Nat) (f : LinkSt → LinkSt) :
    (s.modLink j f).tel = s.tel := rfl
@[simp] theorem State.modLink_jtag (s : State) (j : Nat) (f : LinkSt → LinkSt) :
    (s.modLink j f).jtag = s.jtag := rfl
@[simp] theorem State.modLink_freeCtr (s : State) (j : Nat) (f : LinkSt → LinkSt) :
    (s.modLink j f).freeCtr = s.freeCtr := rfl
@[simp] theorem State.modLink_pending (s : State) (j : Nat) (f : LinkSt → LinkSt) :
    (s.modLink j f).pending = s.pending := rfl

/-! `setUp` -/

@[simp] theorem State.setUp_regs (s : State) (up : Nat) :
    (s.setUp up).regs = s.regs := rfl
@[simp] theorem State.setUp_shVal (s : State) (up : Nat) :
    (s.setUp up).shVal = s.shVal := rfl
@[simp] theorem State.setUp_shMask (s : State) (up : Nat) :
    (s.setUp up).shMask = s.shMask := rfl
@[simp] theorem State.setUp_pairHi (s : State) (up : Nat) :
    (s.setUp up).pairHi = s.pairHi := rfl
@[simp] theorem State.setUp_resp (s : State) (up : Nat) :
    (s.setUp up).resp = s.resp := rfl
@[simp] theorem State.setUp_cfg (s : State) (up : Nat) :
    (s.setUp up).cfg = s.cfg := rfl
@[simp] theorem State.setUp_host (s : State) (up : Nat) :
    (s.setUp up).host = s.host := rfl
@[simp] theorem State.setUp_cmd (s : State) (up : Nat) :
    (s.setUp up).cmd = s.cmd := rfl
@[simp] theorem State.setUp_cad (s : State) (up : Nat) :
    (s.setUp up).cad = s.cad := rfl
@[simp] theorem State.setUp_insts (s : State) (up : Nat) :
    (s.setUp up).insts = s.insts := rfl
@[simp] theorem State.setUp_flash (s : State) (up : Nat) :
    (s.setUp up).flash = s.flash := rfl
@[simp] theorem State.setUp_buf (s : State) (up : Nat) :
    (s.setUp up).buf = s.buf := rfl
@[simp] theorem State.setUp_eng (s : State) (up : Nat) :
    (s.setUp up).eng = s.eng := rfl
@[simp] theorem State.setUp_dig (s : State) (up : Nat) :
    (s.setUp up).dig = s.dig := rfl
@[simp] theorem State.setUp_srch (s : State) (up : Nat) :
    (s.setUp up).srch = s.srch := rfl
@[simp] theorem State.setUp_cores (s : State) (up : Nat) :
    (s.setUp up).cores = s.cores := rfl
@[simp] theorem State.setUp_ctlStores (s : State) (up : Nat) :
    (s.setUp up).ctlStores = s.ctlStores := rfl
@[simp] theorem State.setUp_scan (s : State) (up : Nat) :
    (s.setUp up).scan = s.scan := rfl
@[simp] theorem State.setUp_dram (s : State) (up : Nat) :
    (s.setUp up).dram = s.dram := rfl
@[simp] theorem State.setUp_srd (s : State) (up : Nat) :
    (s.setUp up).srd = s.srd := rfl
@[simp] theorem State.setUp_knot (s : State) (up : Nat) :
    (s.setUp up).knot = s.knot := rfl
@[simp] theorem State.setUp_pwr (s : State) (up : Nat) :
    (s.setUp up).pwr = s.pwr := rfl
@[simp] theorem State.setUp_otp (s : State) (up : Nat) :
    (s.setUp up).otp = s.otp := rfl
@[simp] theorem State.setUp_tel (s : State) (up : Nat) :
    (s.setUp up).tel = s.tel := rfl
@[simp] theorem State.setUp_jtag (s : State) (up : Nat) :
    (s.setUp up).jtag = s.jtag := rfl
@[simp] theorem State.setUp_freeCtr (s : State) (up : Nat) :
    (s.setUp up).freeCtr = s.freeCtr := rfl
@[simp] theorem State.setUp_pending (s : State) (up : Nat) :
    (s.setUp up).pending = s.pending := rfl

/-! `descEnd` -/

@[simp] theorem State.descEnd_regs (s : State) (grp i status len : Nat) :
    (s.descEnd grp i status len).regs = s.regs := rfl
@[simp] theorem State.descEnd_shVal (s : State) (grp i status len : Nat) :
    (s.descEnd grp i status len).shVal = s.shVal := rfl
@[simp] theorem State.descEnd_shMask (s : State) (grp i status len : Nat) :
    (s.descEnd grp i status len).shMask = s.shMask := rfl
@[simp] theorem State.descEnd_pairHi (s : State) (grp i status len : Nat) :
    (s.descEnd grp i status len).pairHi = s.pairHi := rfl
@[simp] theorem State.descEnd_resp (s : State) (grp i status len : Nat) :
    (s.descEnd grp i status len).resp = s.resp := rfl
@[simp] theorem State.descEnd_cfg (s : State) (grp i status len : Nat) :
    (s.descEnd grp i status len).cfg = s.cfg := rfl
@[simp] theorem State.descEnd_host (s : State) (grp i status len : Nat) :
    (s.descEnd grp i status len).host = s.host := rfl
@[simp] theorem State.descEnd_cmd (s : State) (grp i status len : Nat) :
    (s.descEnd grp i status len).cmd = s.cmd := rfl
@[simp] theorem State.descEnd_cad (s : State) (grp i status len : Nat) :
    (s.descEnd grp i status len).cad = s.cad := rfl
@[simp] theorem State.descEnd_insts (s : State) (grp i status len : Nat) :
    (s.descEnd grp i status len).insts = s.insts := rfl
@[simp] theorem State.descEnd_flash (s : State) (grp i status len : Nat) :
    (s.descEnd grp i status len).flash = s.flash := rfl
@[simp] theorem State.descEnd_buf (s : State) (grp i status len : Nat) :
    (s.descEnd grp i status len).buf = s.buf := rfl
@[simp] theorem State.descEnd_dig (s : State) (grp i status len : Nat) :
    (s.descEnd grp i status len).dig = s.dig := rfl
@[simp] theorem State.descEnd_srch (s : State) (grp i status len : Nat) :
    (s.descEnd grp i status len).srch = s.srch := rfl
@[simp] theorem State.descEnd_cores (s : State) (grp i status len : Nat) :
    (s.descEnd grp i status len).cores = s.cores := rfl
@[simp] theorem State.descEnd_ctlStores (s : State) (grp i status len : Nat) :
    (s.descEnd grp i status len).ctlStores = s.ctlStores := rfl
@[simp] theorem State.descEnd_scan (s : State) (grp i status len : Nat) :
    (s.descEnd grp i status len).scan = s.scan := rfl
@[simp] theorem State.descEnd_dram (s : State) (grp i status len : Nat) :
    (s.descEnd grp i status len).dram = s.dram := rfl
@[simp] theorem State.descEnd_srd (s : State) (grp i status len : Nat) :
    (s.descEnd grp i status len).srd = s.srd := rfl
@[simp] theorem State.descEnd_knot (s : State) (grp i status len : Nat) :
    (s.descEnd grp i status len).knot = s.knot := rfl
@[simp] theorem State.descEnd_therm (s : State) (grp i status len : Nat) :
    (s.descEnd grp i status len).therm = s.therm := rfl
@[simp] theorem State.descEnd_pwr (s : State) (grp i status len : Nat) :
    (s.descEnd grp i status len).pwr = s.pwr := rfl
@[simp] theorem State.descEnd_otp (s : State) (grp i status len : Nat) :
    (s.descEnd grp i status len).otp = s.otp := rfl
@[simp] theorem State.descEnd_tel (s : State) (grp i status len : Nat) :
    (s.descEnd grp i status len).tel = s.tel := rfl
@[simp] theorem State.descEnd_jtag (s : State) (grp i status len : Nat) :
    (s.descEnd grp i status len).jtag = s.jtag := rfl
@[simp] theorem State.descEnd_freeCtr (s : State) (grp i status len : Nat) :
    (s.descEnd grp i status len).freeCtr = s.freeCtr := rfl
@[simp] theorem State.descEnd_pending (s : State) (grp i status len : Nat) :
    (s.descEnd grp i status len).pending = s.pending := rfl

/-! `ringTake` -/

@[simp] theorem State.ringTake_regs (s : State) (grp : Nat) :
    (s.ringTake grp).regs = s.regs := rfl
@[simp] theorem State.ringTake_shVal (s : State) (grp : Nat) :
    (s.ringTake grp).shVal = s.shVal := rfl
@[simp] theorem State.ringTake_shMask (s : State) (grp : Nat) :
    (s.ringTake grp).shMask = s.shMask := rfl
@[simp] theorem State.ringTake_pairHi (s : State) (grp : Nat) :
    (s.ringTake grp).pairHi = s.pairHi := rfl
@[simp] theorem State.ringTake_resp (s : State) (grp : Nat) :
    (s.ringTake grp).resp = s.resp := rfl
@[simp] theorem State.ringTake_cfg (s : State) (grp : Nat) :
    (s.ringTake grp).cfg = s.cfg := rfl
@[simp] theorem State.ringTake_host (s : State) (grp : Nat) :
    (s.ringTake grp).host = s.host := rfl
@[simp] theorem State.ringTake_cmd (s : State) (grp : Nat) :
    (s.ringTake grp).cmd = s.cmd := rfl
@[simp] theorem State.ringTake_cad (s : State) (grp : Nat) :
    (s.ringTake grp).cad = s.cad := rfl
@[simp] theorem State.ringTake_insts (s : State) (grp : Nat) :
    (s.ringTake grp).insts = s.insts := rfl
@[simp] theorem State.ringTake_flash (s : State) (grp : Nat) :
    (s.ringTake grp).flash = s.flash := rfl
@[simp] theorem State.ringTake_buf (s : State) (grp : Nat) :
    (s.ringTake grp).buf = s.buf := rfl
@[simp] theorem State.ringTake_dig (s : State) (grp : Nat) :
    (s.ringTake grp).dig = s.dig := rfl
@[simp] theorem State.ringTake_srch (s : State) (grp : Nat) :
    (s.ringTake grp).srch = s.srch := rfl
@[simp] theorem State.ringTake_cores (s : State) (grp : Nat) :
    (s.ringTake grp).cores = s.cores := rfl
@[simp] theorem State.ringTake_ctlStores (s : State) (grp : Nat) :
    (s.ringTake grp).ctlStores = s.ctlStores := rfl
@[simp] theorem State.ringTake_scan (s : State) (grp : Nat) :
    (s.ringTake grp).scan = s.scan := rfl
@[simp] theorem State.ringTake_dram (s : State) (grp : Nat) :
    (s.ringTake grp).dram = s.dram := rfl
@[simp] theorem State.ringTake_srd (s : State) (grp : Nat) :
    (s.ringTake grp).srd = s.srd := rfl
@[simp] theorem State.ringTake_knot (s : State) (grp : Nat) :
    (s.ringTake grp).knot = s.knot := rfl
@[simp] theorem State.ringTake_therm (s : State) (grp : Nat) :
    (s.ringTake grp).therm = s.therm := rfl
@[simp] theorem State.ringTake_pwr (s : State) (grp : Nat) :
    (s.ringTake grp).pwr = s.pwr := rfl
@[simp] theorem State.ringTake_otp (s : State) (grp : Nat) :
    (s.ringTake grp).otp = s.otp := rfl
@[simp] theorem State.ringTake_tel (s : State) (grp : Nat) :
    (s.ringTake grp).tel = s.tel := rfl
@[simp] theorem State.ringTake_jtag (s : State) (grp : Nat) :
    (s.ringTake grp).jtag = s.jtag := rfl
@[simp] theorem State.ringTake_freeCtr (s : State) (grp : Nat) :
    (s.ringTake grp).freeCtr = s.freeCtr := rfl
@[simp] theorem State.ringTake_pending (s : State) (grp : Nat) :
    (s.ringTake grp).pending = s.pending := rfl

/-! `answer` -/

@[simp] theorem State.answer_regs (s : State) (req : Nat) (r : BusResp) :
    (s.answer req r).regs = s.regs := rfl
@[simp] theorem State.answer_shVal (s : State) (req : Nat) (r : BusResp) :
    (s.answer req r).shVal = s.shVal := rfl
@[simp] theorem State.answer_shMask (s : State) (req : Nat) (r : BusResp) :
    (s.answer req r).shMask = s.shMask := rfl
@[simp] theorem State.answer_pairHi (s : State) (req : Nat) (r : BusResp) :
    (s.answer req r).pairHi = s.pairHi := rfl
@[simp] theorem State.answer_cfg (s : State) (req : Nat) (r : BusResp) :
    (s.answer req r).cfg = s.cfg := rfl
@[simp] theorem State.answer_host (s : State) (req : Nat) (r : BusResp) :
    (s.answer req r).host = s.host := rfl
@[simp] theorem State.answer_cmd (s : State) (req : Nat) (r : BusResp) :
    (s.answer req r).cmd = s.cmd := rfl
@[simp] theorem State.answer_cad (s : State) (req : Nat) (r : BusResp) :
    (s.answer req r).cad = s.cad := rfl
@[simp] theorem State.answer_insts (s : State) (req : Nat) (r : BusResp) :
    (s.answer req r).insts = s.insts := rfl
@[simp] theorem State.answer_flash (s : State) (req : Nat) (r : BusResp) :
    (s.answer req r).flash = s.flash := rfl
@[simp] theorem State.answer_buf (s : State) (req : Nat) (r : BusResp) :
    (s.answer req r).buf = s.buf := rfl
@[simp] theorem State.answer_eng (s : State) (req : Nat) (r : BusResp) :
    (s.answer req r).eng = s.eng := rfl
@[simp] theorem State.answer_dig (s : State) (req : Nat) (r : BusResp) :
    (s.answer req r).dig = s.dig := rfl
@[simp] theorem State.answer_srch (s : State) (req : Nat) (r : BusResp) :
    (s.answer req r).srch = s.srch := rfl
@[simp] theorem State.answer_cores (s : State) (req : Nat) (r : BusResp) :
    (s.answer req r).cores = s.cores := rfl
@[simp] theorem State.answer_ctlStores (s : State) (req : Nat) (r : BusResp) :
    (s.answer req r).ctlStores = s.ctlStores := rfl
@[simp] theorem State.answer_scan (s : State) (req : Nat) (r : BusResp) :
    (s.answer req r).scan = s.scan := rfl
@[simp] theorem State.answer_dram (s : State) (req : Nat) (r : BusResp) :
    (s.answer req r).dram = s.dram := rfl
@[simp] theorem State.answer_srd (s : State) (req : Nat) (r : BusResp) :
    (s.answer req r).srd = s.srd := rfl
@[simp] theorem State.answer_knot (s : State) (req : Nat) (r : BusResp) :
    (s.answer req r).knot = s.knot := rfl
@[simp] theorem State.answer_therm (s : State) (req : Nat) (r : BusResp) :
    (s.answer req r).therm = s.therm := rfl
@[simp] theorem State.answer_pwr (s : State) (req : Nat) (r : BusResp) :
    (s.answer req r).pwr = s.pwr := rfl
@[simp] theorem State.answer_otp (s : State) (req : Nat) (r : BusResp) :
    (s.answer req r).otp = s.otp := rfl
@[simp] theorem State.answer_tel (s : State) (req : Nat) (r : BusResp) :
    (s.answer req r).tel = s.tel := rfl
@[simp] theorem State.answer_jtag (s : State) (req : Nat) (r : BusResp) :
    (s.answer req r).jtag = s.jtag := rfl
@[simp] theorem State.answer_freeCtr (s : State) (req : Nat) (r : BusResp) :
    (s.answer req r).freeCtr = s.freeCtr := rfl
@[simp] theorem State.answer_pending (s : State) (req : Nat) (r : BusResp) :
    (s.answer req r).pending = s.pending := rfl

/-! `mapItems` -/

@[simp] theorem State.mapItems_regs (s : State) (f : Nat → Item → Item) :
    (s.mapItems f).regs = s.regs := rfl
@[simp] theorem State.mapItems_shVal (s : State) (f : Nat → Item → Item) :
    (s.mapItems f).shVal = s.shVal := rfl
@[simp] theorem State.mapItems_shMask (s : State) (f : Nat → Item → Item) :
    (s.mapItems f).shMask = s.shMask := rfl
@[simp] theorem State.mapItems_pairHi (s : State) (f : Nat → Item → Item) :
    (s.mapItems f).pairHi = s.pairHi := rfl
@[simp] theorem State.mapItems_resp (s : State) (f : Nat → Item → Item) :
    (s.mapItems f).resp = s.resp := rfl
@[simp] theorem State.mapItems_cfg (s : State) (f : Nat → Item → Item) :
    (s.mapItems f).cfg = s.cfg := rfl
@[simp] theorem State.mapItems_host (s : State) (f : Nat → Item → Item) :
    (s.mapItems f).host = s.host := rfl
@[simp] theorem State.mapItems_cad (s : State) (f : Nat → Item → Item) :
    (s.mapItems f).cad = s.cad := rfl
@[simp] theorem State.mapItems_insts (s : State) (f : Nat → Item → Item) :
    (s.mapItems f).insts = s.insts := rfl
@[simp] theorem State.mapItems_flash (s : State) (f : Nat → Item → Item) :
    (s.mapItems f).flash = s.flash := rfl
@[simp] theorem State.mapItems_buf (s : State) (f : Nat → Item → Item) :
    (s.mapItems f).buf = s.buf := rfl
@[simp] theorem State.mapItems_eng (s : State) (f : Nat → Item → Item) :
    (s.mapItems f).eng = s.eng := rfl
@[simp] theorem State.mapItems_dig (s : State) (f : Nat → Item → Item) :
    (s.mapItems f).dig = s.dig := rfl
@[simp] theorem State.mapItems_srch (s : State) (f : Nat → Item → Item) :
    (s.mapItems f).srch = s.srch := rfl
@[simp] theorem State.mapItems_cores (s : State) (f : Nat → Item → Item) :
    (s.mapItems f).cores = s.cores := rfl
@[simp] theorem State.mapItems_ctlStores (s : State) (f : Nat → Item → Item) :
    (s.mapItems f).ctlStores = s.ctlStores := rfl
@[simp] theorem State.mapItems_scan (s : State) (f : Nat → Item → Item) :
    (s.mapItems f).scan = s.scan := rfl
@[simp] theorem State.mapItems_dram (s : State) (f : Nat → Item → Item) :
    (s.mapItems f).dram = s.dram := rfl
@[simp] theorem State.mapItems_srd (s : State) (f : Nat → Item → Item) :
    (s.mapItems f).srd = s.srd := rfl
@[simp] theorem State.mapItems_knot (s : State) (f : Nat → Item → Item) :
    (s.mapItems f).knot = s.knot := rfl
@[simp] theorem State.mapItems_therm (s : State) (f : Nat → Item → Item) :
    (s.mapItems f).therm = s.therm := rfl
@[simp] theorem State.mapItems_pwr (s : State) (f : Nat → Item → Item) :
    (s.mapItems f).pwr = s.pwr := rfl
@[simp] theorem State.mapItems_otp (s : State) (f : Nat → Item → Item) :
    (s.mapItems f).otp = s.otp := rfl
@[simp] theorem State.mapItems_tel (s : State) (f : Nat → Item → Item) :
    (s.mapItems f).tel = s.tel := rfl
@[simp] theorem State.mapItems_jtag (s : State) (f : Nat → Item → Item) :
    (s.mapItems f).jtag = s.jtag := rfl
@[simp] theorem State.mapItems_freeCtr (s : State) (f : Nat → Item → Item) :
    (s.mapItems f).freeCtr = s.freeCtr := rfl
@[simp] theorem State.mapItems_pending (s : State) (f : Nat → Item → Item) :
    (s.mapItems f).pending = s.pending := rfl

/-! `undeliver` -/

@[simp] theorem State.undeliver_regs (s : State) (p : PduIn) :
    (s.undeliver p).regs = s.regs := rfl
@[simp] theorem State.undeliver_shVal (s : State) (p : PduIn) :
    (s.undeliver p).shVal = s.shVal := rfl
@[simp] theorem State.undeliver_shMask (s : State) (p : PduIn) :
    (s.undeliver p).shMask = s.shMask := rfl
@[simp] theorem State.undeliver_pairHi (s : State) (p : PduIn) :
    (s.undeliver p).pairHi = s.pairHi := rfl
@[simp] theorem State.undeliver_resp (s : State) (p : PduIn) :
    (s.undeliver p).resp = s.resp := rfl
@[simp] theorem State.undeliver_cfg (s : State) (p : PduIn) :
    (s.undeliver p).cfg = s.cfg := rfl
@[simp] theorem State.undeliver_cmd (s : State) (p : PduIn) :
    (s.undeliver p).cmd = s.cmd := rfl
@[simp] theorem State.undeliver_cad (s : State) (p : PduIn) :
    (s.undeliver p).cad = s.cad := rfl
@[simp] theorem State.undeliver_insts (s : State) (p : PduIn) :
    (s.undeliver p).insts = s.insts := rfl
@[simp] theorem State.undeliver_flash (s : State) (p : PduIn) :
    (s.undeliver p).flash = s.flash := rfl
@[simp] theorem State.undeliver_buf (s : State) (p : PduIn) :
    (s.undeliver p).buf = s.buf := rfl
@[simp] theorem State.undeliver_eng (s : State) (p : PduIn) :
    (s.undeliver p).eng = s.eng := rfl
@[simp] theorem State.undeliver_dig (s : State) (p : PduIn) :
    (s.undeliver p).dig = s.dig := rfl
@[simp] theorem State.undeliver_srch (s : State) (p : PduIn) :
    (s.undeliver p).srch = s.srch := rfl
@[simp] theorem State.undeliver_cores (s : State) (p : PduIn) :
    (s.undeliver p).cores = s.cores := rfl
@[simp] theorem State.undeliver_ctlStores (s : State) (p : PduIn) :
    (s.undeliver p).ctlStores = s.ctlStores := rfl
@[simp] theorem State.undeliver_scan (s : State) (p : PduIn) :
    (s.undeliver p).scan = s.scan := rfl
@[simp] theorem State.undeliver_dram (s : State) (p : PduIn) :
    (s.undeliver p).dram = s.dram := rfl
@[simp] theorem State.undeliver_srd (s : State) (p : PduIn) :
    (s.undeliver p).srd = s.srd := rfl
@[simp] theorem State.undeliver_knot (s : State) (p : PduIn) :
    (s.undeliver p).knot = s.knot := rfl
@[simp] theorem State.undeliver_therm (s : State) (p : PduIn) :
    (s.undeliver p).therm = s.therm := rfl
@[simp] theorem State.undeliver_pwr (s : State) (p : PduIn) :
    (s.undeliver p).pwr = s.pwr := rfl
@[simp] theorem State.undeliver_otp (s : State) (p : PduIn) :
    (s.undeliver p).otp = s.otp := rfl
@[simp] theorem State.undeliver_tel (s : State) (p : PduIn) :
    (s.undeliver p).tel = s.tel := rfl
@[simp] theorem State.undeliver_jtag (s : State) (p : PduIn) :
    (s.undeliver p).jtag = s.jtag := rfl
@[simp] theorem State.undeliver_freeCtr (s : State) (p : PduIn) :
    (s.undeliver p).freeCtr = s.freeCtr := rfl
@[simp] theorem State.undeliver_pending (s : State) (p : PduIn) :
    (s.undeliver p).pending = s.pending := rfl

/-! `updDone` -/

@[simp] theorem State.updDone_regs (s : State) (n : Nat) :
    (s.updDone n).regs = s.regs := rfl
@[simp] theorem State.updDone_shVal (s : State) (n : Nat) :
    (s.updDone n).shVal = s.shVal := rfl
@[simp] theorem State.updDone_shMask (s : State) (n : Nat) :
    (s.updDone n).shMask = s.shMask := rfl
@[simp] theorem State.updDone_pairHi (s : State) (n : Nat) :
    (s.updDone n).pairHi = s.pairHi := rfl
@[simp] theorem State.updDone_resp (s : State) (n : Nat) :
    (s.updDone n).resp = s.resp := rfl
@[simp] theorem State.updDone_cfg (s : State) (n : Nat) :
    (s.updDone n).cfg = s.cfg := rfl
@[simp] theorem State.updDone_host (s : State) (n : Nat) :
    (s.updDone n).host = s.host := rfl
@[simp] theorem State.updDone_cmd (s : State) (n : Nat) :
    (s.updDone n).cmd = s.cmd := rfl
@[simp] theorem State.updDone_cad (s : State) (n : Nat) :
    (s.updDone n).cad = s.cad := rfl
@[simp] theorem State.updDone_insts (s : State) (n : Nat) :
    (s.updDone n).insts = s.insts := rfl
@[simp] theorem State.updDone_flash (s : State) (n : Nat) :
    (s.updDone n).flash = s.flash := rfl
@[simp] theorem State.updDone_buf (s : State) (n : Nat) :
    (s.updDone n).buf = s.buf := rfl
@[simp] theorem State.updDone_eng (s : State) (n : Nat) :
    (s.updDone n).eng = s.eng := rfl
@[simp] theorem State.updDone_dig (s : State) (n : Nat) :
    (s.updDone n).dig = s.dig := rfl
@[simp] theorem State.updDone_cores (s : State) (n : Nat) :
    (s.updDone n).cores = s.cores := rfl
@[simp] theorem State.updDone_ctlStores (s : State) (n : Nat) :
    (s.updDone n).ctlStores = s.ctlStores := rfl
@[simp] theorem State.updDone_scan (s : State) (n : Nat) :
    (s.updDone n).scan = s.scan := rfl
@[simp] theorem State.updDone_dram (s : State) (n : Nat) :
    (s.updDone n).dram = s.dram := rfl
@[simp] theorem State.updDone_srd (s : State) (n : Nat) :
    (s.updDone n).srd = s.srd := rfl
@[simp] theorem State.updDone_knot (s : State) (n : Nat) :
    (s.updDone n).knot = s.knot := rfl
@[simp] theorem State.updDone_therm (s : State) (n : Nat) :
    (s.updDone n).therm = s.therm := rfl
@[simp] theorem State.updDone_pwr (s : State) (n : Nat) :
    (s.updDone n).pwr = s.pwr := rfl
@[simp] theorem State.updDone_otp (s : State) (n : Nat) :
    (s.updDone n).otp = s.otp := rfl
@[simp] theorem State.updDone_tel (s : State) (n : Nat) :
    (s.updDone n).tel = s.tel := rfl
@[simp] theorem State.updDone_jtag (s : State) (n : Nat) :
    (s.updDone n).jtag = s.jtag := rfl
@[simp] theorem State.updDone_freeCtr (s : State) (n : Nat) :
    (s.updDone n).freeCtr = s.freeCtr := rfl
@[simp] theorem State.updDone_pending (s : State) (n : Nat) :
    (s.updDone n).pending = s.pending := rfl

/-! `dropReq` -/

@[simp] theorem State.dropReq_regs (s : State) (n : Nat) :
    (s.dropReq n).regs = s.regs := rfl
@[simp] theorem State.dropReq_shVal (s : State) (n : Nat) :
    (s.dropReq n).shVal = s.shVal := rfl
@[simp] theorem State.dropReq_shMask (s : State) (n : Nat) :
    (s.dropReq n).shMask = s.shMask := rfl
@[simp] theorem State.dropReq_pairHi (s : State) (n : Nat) :
    (s.dropReq n).pairHi = s.pairHi := rfl
@[simp] theorem State.dropReq_resp (s : State) (n : Nat) :
    (s.dropReq n).resp = s.resp := rfl
@[simp] theorem State.dropReq_cfg (s : State) (n : Nat) :
    (s.dropReq n).cfg = s.cfg := rfl
@[simp] theorem State.dropReq_host (s : State) (n : Nat) :
    (s.dropReq n).host = s.host := rfl
@[simp] theorem State.dropReq_cmd (s : State) (n : Nat) :
    (s.dropReq n).cmd = s.cmd := rfl
@[simp] theorem State.dropReq_cad (s : State) (n : Nat) :
    (s.dropReq n).cad = s.cad := rfl
@[simp] theorem State.dropReq_insts (s : State) (n : Nat) :
    (s.dropReq n).insts = s.insts := rfl
@[simp] theorem State.dropReq_flash (s : State) (n : Nat) :
    (s.dropReq n).flash = s.flash := rfl
@[simp] theorem State.dropReq_buf (s : State) (n : Nat) :
    (s.dropReq n).buf = s.buf := rfl
@[simp] theorem State.dropReq_eng (s : State) (n : Nat) :
    (s.dropReq n).eng = s.eng := rfl
@[simp] theorem State.dropReq_dig (s : State) (n : Nat) :
    (s.dropReq n).dig = s.dig := rfl
@[simp] theorem State.dropReq_srch (s : State) (n : Nat) :
    (s.dropReq n).srch = s.srch := rfl
@[simp] theorem State.dropReq_cores (s : State) (n : Nat) :
    (s.dropReq n).cores = s.cores := rfl
@[simp] theorem State.dropReq_ctlStores (s : State) (n : Nat) :
    (s.dropReq n).ctlStores = s.ctlStores := rfl
@[simp] theorem State.dropReq_scan (s : State) (n : Nat) :
    (s.dropReq n).scan = s.scan := rfl
@[simp] theorem State.dropReq_dram (s : State) (n : Nat) :
    (s.dropReq n).dram = s.dram := rfl
@[simp] theorem State.dropReq_srd (s : State) (n : Nat) :
    (s.dropReq n).srd = s.srd := rfl
@[simp] theorem State.dropReq_therm (s : State) (n : Nat) :
    (s.dropReq n).therm = s.therm := rfl
@[simp] theorem State.dropReq_pwr (s : State) (n : Nat) :
    (s.dropReq n).pwr = s.pwr := rfl
@[simp] theorem State.dropReq_otp (s : State) (n : Nat) :
    (s.dropReq n).otp = s.otp := rfl
@[simp] theorem State.dropReq_tel (s : State) (n : Nat) :
    (s.dropReq n).tel = s.tel := rfl
@[simp] theorem State.dropReq_jtag (s : State) (n : Nat) :
    (s.dropReq n).jtag = s.jtag := rfl
@[simp] theorem State.dropReq_freeCtr (s : State) (n : Nat) :
    (s.dropReq n).freeCtr = s.freeCtr := rfl
@[simp] theorem State.dropReq_pending (s : State) (n : Nat) :
    (s.dropReq n).pending = s.pending := rfl

/-! `armWd` -/

@[simp] theorem State.armWd_shVal (s : State) (ms : Nat) :
    (s.armWd ms).shVal = s.shVal := by simp only [State.armWd, State.setReg_shVal]
@[simp] theorem State.armWd_shMask (s : State) (ms : Nat) :
    (s.armWd ms).shMask = s.shMask := by simp only [State.armWd, State.setReg_shMask]
@[simp] theorem State.armWd_pairHi (s : State) (ms : Nat) :
    (s.armWd ms).pairHi = s.pairHi := by simp only [State.armWd, State.setReg_pairHi]
@[simp] theorem State.armWd_resp (s : State) (ms : Nat) :
    (s.armWd ms).resp = s.resp := by simp only [State.armWd, State.setReg_resp]
@[simp] theorem State.armWd_cfg (s : State) (ms : Nat) :
    (s.armWd ms).cfg = s.cfg := by simp only [State.armWd, State.setReg_cfg]
@[simp] theorem State.armWd_host (s : State) (ms : Nat) :
    (s.armWd ms).host = s.host := by simp only [State.armWd, State.setReg_host]
@[simp] theorem State.armWd_cmd (s : State) (ms : Nat) :
    (s.armWd ms).cmd = s.cmd := by simp only [State.armWd, State.setReg_cmd]
@[simp] theorem State.armWd_cad (s : State) (ms : Nat) :
    (s.armWd ms).cad = s.cad := by simp only [State.armWd, State.setReg_cad]
@[simp] theorem State.armWd_insts (s : State) (ms : Nat) :
    (s.armWd ms).insts = s.insts := by simp only [State.armWd, State.setReg_insts]
@[simp] theorem State.armWd_flash (s : State) (ms : Nat) :
    (s.armWd ms).flash = s.flash := by simp only [State.armWd, State.setReg_flash]
@[simp] theorem State.armWd_buf (s : State) (ms : Nat) :
    (s.armWd ms).buf = s.buf := by simp only [State.armWd, State.setReg_buf]
@[simp] theorem State.armWd_eng (s : State) (ms : Nat) :
    (s.armWd ms).eng = s.eng := by simp only [State.armWd, State.setReg_eng]
@[simp] theorem State.armWd_dig (s : State) (ms : Nat) :
    (s.armWd ms).dig = s.dig := by simp only [State.armWd, State.setReg_dig]
@[simp] theorem State.armWd_srch (s : State) (ms : Nat) :
    (s.armWd ms).srch = s.srch := by simp only [State.armWd, State.setReg_srch]
@[simp] theorem State.armWd_cores (s : State) (ms : Nat) :
    (s.armWd ms).cores = s.cores := by simp only [State.armWd, State.setReg_cores]
@[simp] theorem State.armWd_ctlStores (s : State) (ms : Nat) :
    (s.armWd ms).ctlStores = s.ctlStores := by simp only [State.armWd, State.setReg_ctlStores]
@[simp] theorem State.armWd_scan (s : State) (ms : Nat) :
    (s.armWd ms).scan = s.scan := by simp only [State.armWd, State.setReg_scan]
@[simp] theorem State.armWd_dram (s : State) (ms : Nat) :
    (s.armWd ms).dram = s.dram := by simp only [State.armWd, State.setReg_dram]
@[simp] theorem State.armWd_srd (s : State) (ms : Nat) :
    (s.armWd ms).srd = s.srd := by simp only [State.armWd, State.setReg_srd]
@[simp] theorem State.armWd_knot (s : State) (ms : Nat) :
    (s.armWd ms).knot = s.knot := by simp only [State.armWd, State.setReg_knot]
@[simp] theorem State.armWd_therm (s : State) (ms : Nat) :
    (s.armWd ms).therm = s.therm := by simp only [State.armWd, State.setReg_therm]
@[simp] theorem State.armWd_pwr (s : State) (ms : Nat) :
    (s.armWd ms).pwr = s.pwr := by simp only [State.armWd, State.setReg_pwr]
@[simp] theorem State.armWd_tel (s : State) (ms : Nat) :
    (s.armWd ms).tel = s.tel := by simp only [State.armWd, State.setReg_tel]
@[simp] theorem State.armWd_jtag (s : State) (ms : Nat) :
    (s.armWd ms).jtag = s.jtag := by simp only [State.armWd, State.setReg_jtag]
@[simp] theorem State.armWd_freeCtr (s : State) (ms : Nat) :
    (s.armWd ms).freeCtr = s.freeCtr := by simp only [State.armWd, State.setReg_freeCtr]
@[simp] theorem State.armWd_pending (s : State) (ms : Nat) :
    (s.armWd ms).pending = s.pending := by simp only [State.armWd, State.setReg_pending]

/-! `disarmWd` -/

@[simp] theorem State.disarmWd_shVal (s : State) :
    (s.disarmWd).shVal = s.shVal := by simp only [State.disarmWd, State.setReg_shVal]
@[simp] theorem State.disarmWd_shMask (s : State) :
    (s.disarmWd).shMask = s.shMask := by simp only [State.disarmWd, State.setReg_shMask]
@[simp] theorem State.disarmWd_pairHi (s : State) :
    (s.disarmWd).pairHi = s.pairHi := by simp only [State.disarmWd, State.setReg_pairHi]
@[simp] theorem State.disarmWd_resp (s : State) :
    (s.disarmWd).resp = s.resp := by simp only [State.disarmWd, State.setReg_resp]
@[simp] theorem State.disarmWd_cfg (s : State) :
    (s.disarmWd).cfg = s.cfg := by simp only [State.disarmWd, State.setReg_cfg]
@[simp] theorem State.disarmWd_host (s : State) :
    (s.disarmWd).host = s.host := by simp only [State.disarmWd, State.setReg_host]
@[simp] theorem State.disarmWd_cmd (s : State) :
    (s.disarmWd).cmd = s.cmd := by simp only [State.disarmWd, State.setReg_cmd]
@[simp] theorem State.disarmWd_cad (s : State) :
    (s.disarmWd).cad = s.cad := by simp only [State.disarmWd, State.setReg_cad]
@[simp] theorem State.disarmWd_insts (s : State) :
    (s.disarmWd).insts = s.insts := by simp only [State.disarmWd, State.setReg_insts]
@[simp] theorem State.disarmWd_flash (s : State) :
    (s.disarmWd).flash = s.flash := by simp only [State.disarmWd, State.setReg_flash]
@[simp] theorem State.disarmWd_buf (s : State) :
    (s.disarmWd).buf = s.buf := by simp only [State.disarmWd, State.setReg_buf]
@[simp] theorem State.disarmWd_eng (s : State) :
    (s.disarmWd).eng = s.eng := by simp only [State.disarmWd, State.setReg_eng]
@[simp] theorem State.disarmWd_dig (s : State) :
    (s.disarmWd).dig = s.dig := by simp only [State.disarmWd, State.setReg_dig]
@[simp] theorem State.disarmWd_srch (s : State) :
    (s.disarmWd).srch = s.srch := by simp only [State.disarmWd, State.setReg_srch]
@[simp] theorem State.disarmWd_cores (s : State) :
    (s.disarmWd).cores = s.cores := by simp only [State.disarmWd, State.setReg_cores]
@[simp] theorem State.disarmWd_ctlStores (s : State) :
    (s.disarmWd).ctlStores = s.ctlStores := by simp only [State.disarmWd, State.setReg_ctlStores]
@[simp] theorem State.disarmWd_scan (s : State) :
    (s.disarmWd).scan = s.scan := by simp only [State.disarmWd, State.setReg_scan]
@[simp] theorem State.disarmWd_dram (s : State) :
    (s.disarmWd).dram = s.dram := by simp only [State.disarmWd, State.setReg_dram]
@[simp] theorem State.disarmWd_srd (s : State) :
    (s.disarmWd).srd = s.srd := by simp only [State.disarmWd, State.setReg_srd]
@[simp] theorem State.disarmWd_knot (s : State) :
    (s.disarmWd).knot = s.knot := by simp only [State.disarmWd, State.setReg_knot]
@[simp] theorem State.disarmWd_therm (s : State) :
    (s.disarmWd).therm = s.therm := by simp only [State.disarmWd, State.setReg_therm]
@[simp] theorem State.disarmWd_pwr (s : State) :
    (s.disarmWd).pwr = s.pwr := by simp only [State.disarmWd, State.setReg_pwr]
@[simp] theorem State.disarmWd_tel (s : State) :
    (s.disarmWd).tel = s.tel := by simp only [State.disarmWd, State.setReg_tel]
@[simp] theorem State.disarmWd_jtag (s : State) :
    (s.disarmWd).jtag = s.jtag := by simp only [State.disarmWd, State.setReg_jtag]
@[simp] theorem State.disarmWd_freeCtr (s : State) :
    (s.disarmWd).freeCtr = s.freeCtr := by simp only [State.disarmWd, State.setReg_freeCtr]
@[simp] theorem State.disarmWd_pending (s : State) :
    (s.disarmWd).pending = s.pending := by simp only [State.disarmWd, State.setReg_pending]

/-! ### Reading back -/

section
variable (s : State)

@[simp] theorem State.core_setCore (c : Nat) (x : Core) : (s.setCore c x).core c = x := by
  simp [State.core, State.setCore, SMap.getD_setD]
theorem State.core_setCore_other (c d : Nat) (x : Core) (h : d ≠ c) : (s.setCore c x).core d = s.core d := by
  simp [State.core, State.setCore, SMap.getD_setD, h]
@[simp] theorem State.inst_setInst (i : Nat) (x : InstSt) : (s.setInst i x).inst i = x := by
  simp [State.inst, State.setInst, SMap.getD_setD]
theorem State.inst_setInst_other (i j : Nat) (x : InstSt) (h : j ≠ i) : (s.setInst i x).inst j = s.inst j := by
  simp [State.inst, State.setInst, SMap.getD_setD, h]
@[simp] theorem State.item_setItem (n : Nat) (x : Item) : (s.setItem n x).item n = some x := by
  simp [State.item, State.setItem, SMap.find_put]
theorem State.item_setItem_other (n m : Nat) (x : Item) (h : m ≠ n) : (s.setItem n x).item m = s.item m := by
  simp [State.item, State.setItem, SMap.find_put, h]
theorem State.item_modItem (n m : Nat) (f : Item → Item) :
    (s.modItem n f).item m = if m = n then (s.item n).map f else s.item m := by
  by_cases h : m = n <;> simp [State.item, State.modItem, SMap.find_modify, h]
theorem State.item_delItem (n m : Nat) : (s.delItem n).item m = if m = n then none else s.item m := by
  simp [State.item, State.delItem, SMap.find_del]
@[simp] theorem State.conn_setConn (c : Nat) (x : Conn) : (s.setConn c x).conn c = some x := by
  simp [State.conn, State.setConn, SMap.find_put]
theorem State.conn_modConn (c d : Nat) (f : Conn → Conn) :
    (s.modConn c f).conn d = if d = c then (s.conn c).map f else s.conn d := by
  by_cases h : d = c <;> simp [State.conn, State.modConn, SMap.find_modify, h]
theorem State.conn_freeConn (c d : Nat) : (s.freeConn c).conn d = if d = c then none else s.conn d := by
  simp [State.conn, State.freeConn, SMap.find_del]
@[simp] theorem State.die_setDie (d : Nat) (x : Die) : (s.setDie d x).die d = x := by
  simp [State.die, State.setDie, SMap.getD_setD]
@[simp] theorem State.blk_setBlk (k : Nat) (x : Blk) : (s.setBlk k x).blk k = x := by
  simp [State.blk, State.setBlk, SMap.getD_setD]
@[simp] theorem State.cacheRec_setCacheRec (c : Nat) (x : CacheRec) : (s.setCacheRec c x).cacheRec c = some x := by
  simp [State.cacheRec, State.setCacheRec, SMap.find_put]
@[simp] theorem State.chan_setChan (c : Nat) (x : Chan) : (s.setChan c x).chan c = x := by
  simp [State.chan, State.setChan, SMap.getD_setD]
@[simp] theorem State.poisoned_setPoison (b : Nat) (v : Bool) : (s.setPoison b v).poisoned b = v := by
  simp [State.poisoned, State.setPoison, SMap.getD_setD]
@[simp] theorem State.cluster_setCluster (c : Nat) (x : Cluster) : (s.setCluster c x).cluster c = x := by
  simp [State.cluster, State.setCluster, SMap.getD_setD]
@[simp] theorem State.link_modLink (j : Nat) (f : LinkSt → LinkSt) : (s.modLink j f).link j = f (s.link j) := by
  simp [State.link, State.modLink, SMap.updD, SMap.getD_setD]
@[simp] theorem State.srd_setSrd (x : SrdSt) : (s.setSrd x).srd = x := rfl

end

end Sys2Proof.Machine
end

