-- ==== Sys2Proof/Laws/Nollek.lean ====
section
/-! SUPPORT. What executing one Nollek instruction does, once for all of them: fetch, profile, guard, effect, completion. -/

namespace Sys2Proof.Machine

/-! ### Registers -/

theorem Core.rg_wg (x : Core) (d r : GReg) (v : W32) : (x.wg d v).rg r = if r = d ∧ r ≠ 0 then v else x.rg r := by
  unfold Core.wg Core.rg
  by_cases hd : d = 0
  · subst hd
    by_cases hr : r = 0 <;> simp [hr]
  · by_cases hr : r = 0
    · simp [hr]
    · by_cases e : r = d
      · simp [hd, e, SMap.getD_setD]
      · have : r.val ≠ d.val := fun h => e (Fin.ext h)
        simp [hd, hr, e, this, SMap.getD_setD]

/-- Writing a general register changes the general registers only. -/
theorem Core.wg_eq (x : Core) (d : GReg) (v : W32) : x.wg d v = { x with g := (x.wg d v).g } := by
  unfold Core.wg; split <;> rfl

/-- Writing a predicate changes the predicates only. -/
theorem Core.wp_eq (x : Core) (d : PReg) (b : Bool) : x.wp d b = { x with p := (x.wp d b).p } := by
  unfold Core.wp; split <;> rfl

theorem Core.rp_wp (x : Core) (d r : PReg) (b : Bool) : (x.wp d b).rp r = if r = d ∧ r ≠ 0 then b else x.rp r := by
  unfold Core.wp Core.rp
  by_cases hd : d = 0
  · by_cases hr : r = 0 <;> simp [hd, hr]
  · by_cases hr : r = 0
    · simp [hr]
    · have e : (r = d) ↔ (r.val = d.val) := Fin.ext_iff
      have h8 := r.isLt
      simp only [hd, hr, if_false, e]
      cases b <;> simp only [Bool.false_eq_true, if_false, if_true, BitVec.getLsbD_and, BitVec.getLsbD_or, BitVec.getLsbD_not,
        BitVec.getLsbD_shiftLeft, BitVec.getLsbD_one] <;> by_cases h : r.val = d.val
      all_goals simp_all
      all_goals omega

/-! ### Completing in sequence (R311, R316, R319) -/

/-- A core with the control part of another: PC, loop counts, repetitions. -/
def Core.flowOf (y z : Core) : Core := { y with pc := z.pc, lc := z.lc, rcnt := z.rcnt, repeating := z.repeating }

theorem loopEnd_fst (x : Core) (pc : W32) (n : Nat) : (loopEnd x pc n).1 = { x with lc := (loopEnd x pc n).1.lc } := by
  induction n generalizing x with
  | zero => rfl
  | succ n ih =>
    simp only [loopEnd]
    split
    · split
      · rfl
      · rw [ih]; rfl
    · exact ih x

theorem loopEnd_congr (x y : Core) (pc : W32) (n : Nat) (hs : y.ls = x.ls) (he : y.le = x.le) (hc : y.lc = x.lc) :
    (loopEnd y pc n).1.lc = (loopEnd x pc n).1.lc ∧ (loopEnd y pc n).2 = (loopEnd x pc n).2 := by
  induction n generalizing x y with
  | zero => exact ⟨hc, rfl⟩
  | succ n ih =>
    have c1 : ∀ k, y.lcOf k = x.lcOf k := fun k => by simp [Core.lcOf, hc]
    have c2 : ∀ k, y.leOf k = x.leOf k := fun k => by simp [Core.leOf, he]
    have c3 : ∀ (u v : Core) k, u.ls = v.ls → u.lsOf k = v.lsOf k := fun u v k h => by simp [Core.lsOf, h]
    simp only [loopEnd, c1, c2]
    split
    · have e : (y.setLc n (x.lcOf n - 1)).lcOf n = (x.setLc n (x.lcOf n - 1)).lcOf n := by
        simp [Core.lcOf, Core.setLc, hc]
      rw [e]
      split
      · exact ⟨by simp [Core.setLc, hc], c3 _ _ _ hs⟩
      · exact ih _ _ hs he (by simp [Core.setLc, hc])
    · exact ih x y hs he hc

/-- Ending in sequence depends on the control part and the loop registers alone, and changes the control part alone. -/
theorem Core.finish_seq (x y z : Core) (hs : y.ls = x.ls) (he : y.le = x.le) (hc : y.lc = x.lc) (hr : y.rcnt = x.rcnt)
    (hp : y.pc = x.pc) (hg : y.repeating = x.repeating) (h : x.finishInstr .seq = .ok z) :
    y.finishInstr .seq = .ok (y.flowOf z) ∧ z = x.flowOf z := by
  have key : ∀ (u v w : Core) (pc : W32), v.ls = u.ls → v.le = u.le → v.lc = u.lc → u.completeAt pc = .ok w →
      v.completeAt pc = .ok { v with pc := w.pc, lc := w.lc } ∧ w = { u with pc := w.pc, lc := w.lc } := by
    intro u v w pc h1 h2 h3 h
    simp only [Core.completeAt] at h ⊢
    obtain ⟨e1, e2⟩ := loopEnd_congr u v pc 4 h1 h2 h3
    rw [e2]
    split at h
    · rename_i ha
      simp only [ha, if_true]
      cases h
      refine ⟨?_, ?_⟩
      · rw [loopEnd_fst v, e1]
      · rw [loopEnd_fst u]
    · cases h
  simp only [Core.finishInstr, hg, hr, hp] at h ⊢
  split at h
  · rename_i hrep
    simp only [hrep, if_true]
    split at h
    · rename_i h0
      rw [if_pos h0]
      obtain ⟨k1, k2⟩ := key { x with rcnt := x.rcnt - 1, repeating := false } { y with pc := x.pc, rcnt := x.rcnt - 1, repeating := false }
        z x.pc hs he hc h
      refine ⟨?_, ?_⟩
      · refine Eq.trans k1 ?_
        have a1 : z.rcnt = x.rcnt - 1 := by rw [k2]
        have a2 : z.repeating = false := by rw [k2]
        simp [Core.flowOf, a1, a2]
      · have a1 : z.rcnt = x.rcnt - 1 := by rw [k2]
        have a2 : z.repeating = false := by rw [k2]
        rw [k2]; simp [Core.flowOf]
    · rename_i h0
      cases h
      rw [if_neg h0]
      constructor
      · simp only [Core.flowOf, hc, hrep]
      · rfl
  · rename_i hrep
    simp only [hrep]
    obtain ⟨k1, k2⟩ := key x y z x.pc hs he hc h
    refine ⟨?_, ?_⟩
    · simp only [Bool.false_eq_true, if_false, k1]
      have a1 : z.rcnt = x.rcnt := by rw [k2]
      have a2 : z.repeating = x.repeating := by rw [k2]
      simp [Core.flowOf, a1, a2, hr, hg]
    · have a1 : z.rcnt = x.rcnt := by rw [k2]
      have a2 : z.repeating = x.repeating := by rw [k2]
      rw [k2]; simp [Core.flowOf]

/-! ### One instruction -/

/-- An instruction that is fetched, of the core's profile and guarded by true. -/
theorem State.runInstr_eq {s : State} {c : Nat} {g : Guard} {p : Prof} {body : State → Core → NRes} {x : Core} {w : W32}
    (hr : s.coreReady c = true) (hf : s.fetchWord c (s.core c) (s.core c).pc = .ok (w, x)) (hp : p.has c = true)
    (hg : x.guard g = true) :
    s.runInstr c g p body = match body s x with
      | .done t y f n k a => s.completeInstr c x t y f n k a
      | .wait t => t
      | .fault t y f => t.coreFault c y f := by
  simp only [State.runInstr, hr, hf, hp, hg]; rfl

/-- An instruction whose guard is false does nothing but complete. -/
theorem State.runInstr_guard {s : State} {c : Nat} {g : Guard} {p : Prof} {body : State → Core → NRes} {x : Core} {w : W32}
    (hr : s.coreReady c = true) (hf : s.fetchWord c (s.core c) (s.core c).pc = .ok (w, x)) (hp : p.has c = true)
    (hg : x.guard g = false) : s.runInstr c g p body = s.completeInstr c x s x .seq 1 0 id := by
  simp only [State.runInstr, hr, hf, hp, hg]; rfl

/-- An instruction whose core is not ready does nothing. -/
theorem State.runInstr_idle {s : State} {c : Nat} {g : Guard} {p : Prof} {body : State → Core → NRes}
    (hr : s.coreReady c = false) : s.runInstr c g p body = s := by
  simp only [State.runInstr, hr]; rfl

theorem State.completeInstr_ok {s0 s : State} {c : Nat} {x0 x z : Core} {f : Flow} {cost : Nat} {after : State → State}
    (h : x.finishInstr f = .ok z) :
    s0.completeInstr c x0 s x f cost 0 after = after (s.setCore c (z.charge (isCtl c) cost)) := by
  simp only [State.completeInstr, h]
  congr 2
  have e : ∀ (o : Option Job), o.map (fun j => { j with clock := j.clock + 0 }) = o := by intro o; cases o <;> rfl
  simp only [e, BitVec.add_zero]

/-- An instruction that completes in sequence, its effect on the core leaving the control part and the loop registers alone: the
core written is the effect's with the control part the end in sequence gives. -/
theorem State.runInstr_seq {s u : State} {c k : Nat} {g : Guard} {p : Prof} {body : State → Core → NRes} {x y z : Core} {w : W32}
    {after : State → State}
    (hr : s.coreReady c = true) (hf : s.fetchWord c (s.core c) (s.core c).pc = .ok (w, x)) (hp : p.has c = true)
    (hg : x.guard g = true) (hz : x.finishInstr .seq = .ok z) (hb : body s x = .done u y .seq k 0 after) (hs : y.ls = x.ls)
    (he : y.le = x.le) (hc : y.lc = x.lc) (hn : y.rcnt = x.rcnt) (hpc : y.pc = x.pc) (hrep : y.repeating = x.repeating) :
    s.runInstr c g p body = after (u.setCore c ((y.flowOf z).charge (isCtl c) k)) := by
  rw [State.runInstr_eq hr hf hp hg, hb]
  exact State.completeInstr_ok (Core.finish_seq x y z hs he hc hn hpc hrep hz).1

end Sys2Proof.Machine
end

