-- ==== Sys2Proof/WellFormed.lean ====
section
/-! DEFINITION. Which operands a command may carry: the widths of the fields it stands for and the numbers of the units it names. -/

namespace Sys2Proof

/-- A number that fits a field of `w` bits. -/
def fits (w v : Nat) : Bool := decide (v < 2 ^ w)

/-- A register-space requester (R33): control cores and firmware units, 0x18, and 0x19 for JTAG. -/
def reqOk (r : Nat) : Bool := decide (r ≤ 0x19)
/-- A page of the register space (R24). -/
def pageOk (p : Nat) : Bool := decide (p < 4096)
/-- A core: stream core 0 to 191, control core n at 256 + n (R18, R297). -/
def coreOk (c : Nat) : Bool := decide (c < 192) || (decide (256 ≤ c) && decide (c < 280))
/-- A connection ID (R56). -/
def connOk (c : Nat) : Bool := fits 16 c
/-- A host port, or 16 for the management port (R44, R549). -/
def portOk (p : Nat) : Bool := decide (p ≤ 16)
/-- A sub-interface (R44). -/
def subOk (s : Nat) : Bool := decide (s < 4)
/-- An opcode (R80). -/
def byteOk (b : Nat) : Bool := fits 8 b
/-- A knot link, and with it the peer on it (R422). -/
def linkOk (l : Nat) : Bool := decide (l < 8)
/-- An instance (R148). -/
def instOk (i : Nat) : Bool := decide (i < 1024)
/-- A die: 16 slots on each channel (R3). -/
def dieOk (d : Nat) : Bool := decide (d < 2048)
/-- A stream cluster (R347). -/
def clusterOk (c : Nat) : Bool := decide (c < 16)
/-- A digest key slot (R257). -/
def keySlotOk (k : Nat) : Bool := decide (k < 64)
/-- An engine group: 0 compression, 1 decompression, 2 digest (R252). -/
def grpOk (g : Nat) : Bool := decide (g < 3)
/-- An access width in bytes (R9). -/
def widthOk (w : Nat) : Bool := w = 1 || w = 2 || w = 4 || w = 8

/-- A PDU's fields fit the header of R50, its addresses theirs (R48). -/
def PduIn.wf (p : PduIn) : Bool :=
  portOk p.port && subOk p.subif && decide (p.entry < 8) && instOk p.inst && fits 48 p.srcMac && fits 128 p.srcIp && fits 16 p.srcUdp && fits 128 p.dstIp &&
    byteOk p.version && byteOk p.type && fits 16 p.flags && connOk p.dstConn && connOk p.srcConn && fits 32 p.tag &&
    fits 16 p.payload.length

/-- A `CMD`'s fields fit the descriptor of R53 and the body of R80; it has no parameters where its body is cut short. -/
def CmdIn.wf (c : CmdIn) : Bool :=
  c.pdu.wf && fits 32 c.outLen && fits 32 c.inLen && fits 32 c.bufKey && fits 32 c.xflags && fits 64 c.bufOffset && decide (c.bodyCut ≤ 16) &&
    fits 80 c.reserved && byteOk c.cflags && fits 32 c.count && fits 64 c.lba && fits 16 c.params.length &&
    (decide (c.bodyCut = 0) || c.params.isEmpty)

/-- A frame's addresses fit their fields (R45, R47, R48). -/
def FrameIn.wf (f : FrameIn) : Bool :=
  portOk f.port && subOk f.subif && fits 48 f.dstMac && fits 48 f.srcMac && (match f.vlan with
    | none => true
    | some v => fits 12 v) && fits 128 f.srcIp && fits 128 f.dstIp && fits 16 f.srcUdp && fits 16 f.dstUdp && fits 16 f.data.length

/-- A place in flash: its group, slot and block exist (R174). -/
def Place.wf (p : Place) : Bool := decide (p.group < 4) && decide (p.slot < 16) && fits 14 p.block

/-- An operation on the allocator carries a unit of the agent table and its requester ID, or an instance's (R215, R216). -/
def BufReq.wf (q : BufReq) : Bool :=
  decide (1024 ≤ q.unit) && decide (q.unit ≤ 1074) && decide (q.r < 2048)

/-- A decode names a die (R3). -/
def DecodeIn.wf (d : DecodeIn) : Bool := dieOk d.die

/-- A demand names a resource of R125. -/
def Demand.wf (d : Demand) : Bool := decide (d.res < 2268) && decide (d.first ≤ d.last)

/-- A part names a link and an instance (R429). -/
def PartIn.wf (p : PartIn) : Bool := linkOk p.peer && byteOk p.op && instOk p.inst && byteOk p.cflags

/-- The end of a part names a link (R429). -/
def PartEnd.wf (r : PartEnd) : Bool := linkOk r.peer && fits 16 r.status

/-- A mirror record: an instance and a grain's blocks (R438). -/
def MirrorIn.wf (r : MirrorIn) : Bool := instOk r.inst && fits 4 r.mask && fits 4 r.made

/-- A command's operands fit the fields and name units the device has. -/
def Instr.wf : Instr → Bool
  | .registerWrite req' _ width' _ _ => reqOk req' && widthOk width'
  | .errClr page' req' => pageOk page' && reqOk req'
  | .irqForce page' req' _ => pageOk page' && reqOk req'
  | .begin req' => reqOk req'
  | .commit req' => reqOk req'
  | .rollback req' => reqOk req'
  | .blockApply page' => pageOk page'
  | .holdDeadline => true
  | .txnTimeout => true
  | .fuseSlotProgrammed _ => true
  | .frameReceive f' _ => f'.wf
  | .classification _ _ => true
  | .hello p' => p'.wf
  | .close p' => p'.wf
  | .keepalive p' => p'.wf
  | .ack p' => p'.wf
  | .nak p' => p'.wf
  | .dataOut p' => p'.wf
  | .abort p' => p'.wf
  | .sendXferRdy _ => true
  | .dataInSend _ _ => true
  | .frameTransmit port' sub' => portOk port' && subOk sub'
  | .retransmitTimeout conn' => connOk conn'
  | .keepaliveSend conn' => connOk conn'
  | .keepaliveTimeout conn' => connOk conn'
  | .delayedAck conn' => connOk conn'
  | .helloRcvdTimeout conn' => connOk conn'
  | .dataTimeout _ => true
  | .sendCloseNormal conn' => connOk conn'
  | .linkChange port' sub' _ => portOk port' && subOk sub'
  | .read c' => c'.wf
  | .write c' => c'.wf
  | .writeZeroes c' => c'.wf
  | .deallocate c' => c'.wf
  | .flush c' => c'.wf
  | .scan c' => c'.wf
  | .loadProgram c' => c'.wf
  | .unloadProgram c' => c'.wf
  | .search c' => c'.wf
  | .tableUpdate c' => c'.wf
  | .digest c' => c'.wf
  | .compareDigest c' => c'.wf
  | .sealRecord c' => c'.wf
  | .verifySeal c' => c'.wf
  | .getSealCheckpoint c' => c'.wf
  | .identify c' => c'.wf
  | .getLog c' => c'.wf
  | .setFeature c' => c'.wf
  | .getFeature c' => c'.wf
  | .createInstance c' => c'.wf
  | .deleteInstance c' => c'.wf
  | .resetInstance c' => c'.wf
  | .setQuota c' => c'.wf
  | .migrationLogStop c' => c'.wf
  | .migrationLogStart c' => c'.wf
  | .migrationLogRead c' => c'.wf
  | .migrationLogReadClear c' => c'.wf
  | .fwDownload c' => c'.wf
  | .fwActivate c' => c'.wf
  | .regRead c' => c'.wf
  | .regWrite c' => c'.wf
  | .deviceReset c' => c'.wf
  | .admissionDecision plans' _ _ => (plans'.all fun l => l.all Demand.wf)
  | .bestEffortStart _ => true
  | .calendarSlotAdvance _ => true
  | .commandComplete _ => true
  | .abortComplete _ => true
  | .deadlineWatchdog _ _ => true
  | .flushComplete _ => true
  | .instanceResetComplete inst' => instOk inst'
  | .instanceDeleteComplete inst' => instOk inst'
  | .deviceResetEffect => true
  | .activationGraceExpiry => true
  | .dieDispatch die' => dieOk die'
  | .senseComplete die' => dieOk die'
  | .codewordDecode d' => d'.wf
  | .suspendComplete die' => dieOk die'
  | .programComplete die' => dieOk die'
  | .programFailure die' place' => dieOk die' && place'.wf
  | .eraseComplete die' => dieOk die'
  | .eraseFailure die' => dieOk die'
  | .dieTimeout die' => dieOk die'
  | .channelTrainingDone ch' _ _ _ => decide (ch' < 128)
  | .mapUpdate _ _ _ _ => true
  | .mapSegmentRebuild _ => true
  | .mapCheckpoint _ => true
  | .cacheDrain place' => place'.wf
  | .garbageCollection g' place' => decide (g' < 4) && place'.wf
  | .wearLevelling g' place' => decide (g' < 4) && place'.wf
  | .scrub die' _ => dieOk die'
  | .calibration die' _ _ => dieOk die'
  | .refresh _ place' => place'.wf
  | .dieRebuild _ => true
  | .backgroundReread _ => true
  | .alloc q' _ _ _ _ => q'.wf
  | .cell q' _ => q'.wf
  | .hitch q' _ _ => q'.wf
  | .free q' _ => q'.wf
  | .freeListRebuild p' => decide (p' < 5)
  | .engineDispatch grp' => grpOk grp'
  | .frameCompressed _ _ _ => true
  | .frameDecoded _ _ _ => true
  | .fwqTail grp' req' _ => grpOk grp' && reqOk req'
  | .fwqDescriptorStart grp' => grpOk grp'
  | .fwqDescriptorDone grp' _ => grpOk grp'
  | .load slot' req' => keySlotOk slot' && reqOk req'
  | .erase slot' req' => keySlotOk slot' && reqOk req'
  | .lock slot' req' => keySlotOk slot' && reqOk req'
  | .digestBlockEnd _ _ _ => true
  | .searchResult b' _ _ => decide (b' < 4)
  | .updateRecordSlot _ _ => true
  | .regionSweep b' => decide (b' < 4)
  | .entryParityCheck b' _ _ => decide (b' < 4)
  | .fwSearch bank' _ => decide (bank' < 4)
  | .fwWrite bank' _ => decide (bank' < 4)
  | .fwInvalidate bank' _ => decide (bank' < 4)
  | .add core' _ _ _ _ => coreOk core'
  | .sub core' _ _ _ _ => coreOk core'
  | .adds core' _ _ _ _ => coreOk core'
  | .subs core' _ _ _ _ => coreOk core'
  | .and core' _ _ _ _ => coreOk core'
  | .or core' _ _ _ _ => coreOk core'
  | .xor core' _ _ _ _ => coreOk core'
  | .andn core' _ _ _ _ => coreOk core'
  | .shl core' _ _ _ _ => coreOk core'
  | .shr core' _ _ _ _ => coreOk core'
  | .sar core' _ _ _ _ => coreOk core'
  | .rot core' _ _ _ _ => coreOk core'
  | .min core' _ _ _ _ => coreOk core'
  | .max core' _ _ _ _ => coreOk core'
  | .minu core' _ _ _ _ => coreOk core'
  | .maxu core' _ _ _ _ => coreOk core'
  | .neg core' _ _ _ => coreOk core'
  | .negs core' _ _ _ => coreOk core'
  | .abs core' _ _ _ => coreOk core'
  | .clz core' _ _ _ => coreOk core'
  | .popc core' _ _ _ => coreOk core'
  | .bswap core' _ _ _ => coreOk core'
  | .sextb core' _ _ _ => coreOk core'
  | .sexth core' _ _ _ => coreOk core'
  | .zexth core' _ _ _ => coreOk core'
  | .mul core' _ _ _ _ => coreOk core'
  | .mulh core' _ _ _ _ => coreOk core'
  | .mulhu core' _ _ _ _ => coreOk core'
  | .mac core' _ _ _ _ => coreOk core'
  | .div core' _ _ _ _ => coreOk core'
  | .divu core' _ _ _ _ => coreOk core'
  | .rem core' _ _ _ _ => coreOk core'
  | .remu core' _ _ _ _ => coreOk core'
  | .addi core' _ _ _ _ => coreOk core'
  | .andi core' _ _ _ _ => coreOk core'
  | .ori core' _ _ _ _ => coreOk core'
  | .xori core' _ _ _ _ => coreOk core'
  | .shli core' _ _ _ _ => coreOk core'
  | .shri core' _ _ _ _ => coreOk core'
  | .sari core' _ _ _ _ => coreOk core'
  | .roti core' _ _ _ _ => coreOk core'
  | .cmp core' _ _ _ _ _ => coreOk core'
  | .cmpi core' _ _ _ _ _ => coreOk core'
  | .pand core' _ _ _ _ => coreOk core'
  | .por core' _ _ _ _ => coreOk core'
  | .pxor core' _ _ _ _ => coreOk core'
  | .pandn core' _ _ _ _ => coreOk core'
  | .pnot core' _ _ _ => coreOk core'
  | .psetg core' _ _ _ => coreOk core'
  | .pget core' _ _ => coreOk core'
  | .pput core' _ _ => coreOk core'
  | .movl core' _ _ _ => coreOk core'
  | .movh core' _ _ _ => coreOk core'
  | .lb core' _ _ _ _ => coreOk core'
  | .lbu core' _ _ _ _ => coreOk core'
  | .lh core' _ _ _ _ => coreOk core'
  | .lhu core' _ _ _ _ => coreOk core'
  | .lw core' _ _ _ _ => coreOk core'
  | .ldx core' _ _ _ _ _ _ => coreOk core'
  | .sb core' _ _ _ _ => coreOk core'
  | .sh core' _ _ _ _ => coreOk core'
  | .sw core' _ _ _ _ => coreOk core'
  | .stx core' _ _ _ _ _ _ => coreOk core'
  | .br core' _ _ => coreOk core'
  | .call core' _ _ => coreOk core'
  | .jr core' _ _ => coreOk core'
  | .callr core' _ _ => coreOk core'
  | .ret core' _ => coreOk core'
  | .loop core' _ _ _ _ => coreOk core'
  | .loopi core' _ _ _ _ => coreOk core'
  | .repi core' _ _ => coreOk core'
  | .rep core' _ _ => coreOk core'
  | .lclr core' _ _ => coreOk core'
  | .push core' _ _ => coreOk core'
  | .pop core' _ _ => coreOk core'
  | .lsave core' _ => coreOk core'
  | .lrest core' _ => coreOk core'
  | .nop core' _ => coreOk core'
  | .halt core' _ => coreOk core'
  | .trap core' _ => coreOk core'
  | .eret core' _ => coreOk core'
  | .wfi core' _ => coreOk core'
  | .wfiWake core' _ => coreOk core'
  | .fence core' _ => coreOk core'
  | .tlbinv core' _ _ => coreOk core'
  | .csrr core' _ _ _ => coreOk core'
  | .csrw core' _ _ _ => coreOk core'
  | .cas core' _ _ _ _ => coreOk core'
  | .rnext core' _ _ => coreOk core'
  | .rput core' _ _ _ => coreOk core'
  | .fldx core' _ _ _ => coreOk core'
  | .tapr core' _ _ => coreOk core'
  | .custom core' _ _ _ _ _ => coreOk core'
  | .interruptTaken core' => coreOk core'
  | .timerInterrupt core' _ => coreOk core'
  | .budgetExhausted core' _ => coreOk core'
  | .runStart _ cluster' => clusterOk cluster'
  | .jobStart _ => true
  | .closingJobStart core' => coreOk core'
  | .ringStall _ => true
  | .collectorGrant => true
  | .dramRead port' _ ecc' _ _ => decide (port' ≤ 10) && decide (ecc' ≤ 2)
  | .dramWrite port' _ _ ecc' _ => decide (port' ≤ 10) && decide (ecc' ≤ 2)
  | .refreshTick ch' rank' => decide (ch' < 8) && decide (rank' < 2)
  | .selfRefreshEntry ch' rank' => decide (ch' < 8) && decide (rank' < 2)
  | .srDrainComplete ch' rank' => decide (ch' < 8) && decide (rank' < 2)
  | .alert ch' => decide (ch' < 8)
  | .alertRecoveryEnd ch' _ _ => decide (ch' < 8)
  | .driftTracking ch' rank' _ => decide (ch' < 8) && decide (rank' < 2)
  | .dramScrub _ ecc' _ => decide (ecc' ≤ 2)
  | .dramTraining _ => true
  | .srdPowerOn => true
  | .tamperSample _ _ _ _ => true
  | .ppsEdge _ _ _ _ => true
  | .referenceLoss _ => true
  | .ppsTimeout _ => true
  | .mbInPost req' _ => reqOk req'
  | .mbOutPop => true
  | .srdSeal _ => true
  | .srdVerify => true
  | .srdGet => true
  | .hourCheckpoint _ => true
  | .lockExpiry _ _ => true
  | .mailboxReset => true
  | .lockSet => true
  | .lockClear => true
  | .replayEnd => true
  | .statusPost _ => true
  | .statusMessage => true
  | .status _ => true
  | .ident => true
  | .nonce => true
  | .nonceLapse => true
  | .timeSet _ _ _ => true
  | .leapSet _ _ _ => true
  | .leapApply _ => true
  | .verifyEnter _ _ => true
  | .verifyExit _ _ => true
  | .fwLoad _ _ _ _ => true
  | .keygen _ => true
  | .provision _ _ _ => true
  | .knotSignalDetect link' => linkOk link'
  | .laneLock link' _ => linkOk link'
  | .laneLockTimeout link' => linkOk link'
  | .knotIdent link' _ _ _ _ _ => linkOk link'
  | .flitReceive link' _ _ _ _ => linkOk link'
  | .idleFlit link' => linkOk link'
  | .retrain link' => linkOk link'
  | .evict device' => linkOk device'
  | .asnRequest peer' _ op' inst' _ _ => linkOk peer' && byteOk op' && instOk inst'
  | .asnGrant _ _ _ => true
  | .asnGrantTimeout _ => true
  | .asnCancel inst' _ => instOk inst'
  | .partReceive p' => p'.wf
  | .partResult r' => r'.wf
  | .writeCompleteReport inst' _ => instOk inst'
  | .supersededRecordExpiry => true
  | .mirrorRecord peer' _ r' _ => linkOk peer' && r'.wf
  | .mirrorHeld _ _ => true
  | .mirrorRelease _ _ => true
  | .peerTimeout link' => linkOk link'
  | .thermalSample _ => true
  | .riseComplete => true
  | .analogueTrip => true
  | .pwrGoodRise _ _ _ => true
  | .powerUpStage => true
  | .pwrGoodFall => true
  | .pfail => true
  | .freeze => true
  | .dumpStart => true
  | .dumpDone => true
  | .pfailRestart => true
  | .sysResetN _ => true
  | .domReq req' _ _ => reqOk req'
  | .domainOff _ => true
  | .domainOn _ => true
  | .clockCheck _ => true
  | .aonClkLoss => true
  | .coreReset req' _ => reqOk req'
  | .coreHold req' _ => reqOk req'
  | .aonPor => true
  | .fuseLoad => true
  | .bootStage req' _ => reqOk req'
  | .startWatchdogExpiry => true
  | .scrapErase => true
  | .asyncEventSend conn' _ => connOk conn'
  | .snap => true
  | .backgroundWindow _ _ => true
  | .tapReset => true
  | .tapInstruction _ => true
  | .regacc _ _ _ => true
  | .upLinkFailure link' => linkOk link'
  | .aonClkReturn => true
  | .selfRefreshExit ch' rank' => decide (ch' < 8) && decide (rank' < 2)
  | .vddAonLoss => true
  | .vddSrdLoss => true
  | .illegalInstruction core' _ => coreOk core'
  | .unknownOpcode op' c' => byteOk op' && c'.wf

end Sys2Proof
end

