-- ==== Sys2Proof/Tests/Slice0.lean ====
section
/-! SUPPORT. Tests: an ill-formed operand for each check of WellFormed; states that meet the hypotheses of each statement (theorems
`wit_…`: the hypotheses, in the statement's order and words); single steps with values from the spec (theorems `test_…`). -/

open Sys2Proof Sys2Proof.Machine Sys2Proof.Claims

namespace Sys2Proof.Tests

/-! ### Well-formedness: each check refuses -/

theorem test_wf_units :
    (Instr.begin 0x1A).wf = false ∧ (Instr.begin 0x19).wf = true ∧ (Instr.blockApply 4096).wf = false ∧ (Instr.nop 192 ⟨0, false⟩).wf = false ∧
    (Instr.nop 191 ⟨0, false⟩).wf = true ∧ (Instr.nop 280 ⟨0, false⟩).wf = false ∧ (Instr.delayedAck 65536).wf = false ∧
    (Instr.linkChange 17 0 true).wf = false ∧ (Instr.linkChange 0 4 true).wf = false ∧ (Instr.unknownOpcode 256 {}).wf = false ∧
    (Instr.retrain 8).wf = false ∧ (Instr.asnCancel 1024 0).wf = false ∧ (Instr.dieTimeout 2048).wf = false ∧
    (Instr.runStart 0 16).wf = false ∧ (Instr.load 64 0).wf = false ∧ (Instr.engineDispatch 3).wf = false ∧
    (Instr.registerWrite 0 0 3 0 false).wf = false ∧ (Instr.registerWrite 0 0 4 0 true).wf = true := by decide

theorem test_wf_pdu :
    (PduIn.wf {}) = true ∧ PduIn.wf { port := 17 } = false ∧ PduIn.wf { subif := 4 } = false ∧ PduIn.wf { entry := 8 } = false ∧
    PduIn.wf { inst := 1024 } = false ∧ PduIn.wf { srcMac := 2 ^ 48 } = false ∧ PduIn.wf { srcIp := 2 ^ 128 } = false ∧
    PduIn.wf { srcUdp := 65536 } = false ∧ PduIn.wf { dstIp := 2 ^ 128 } = false ∧ PduIn.wf { version := 256 } = false ∧ PduIn.wf { type := 256 } = false ∧
    PduIn.wf { flags := 65536 } = false ∧ PduIn.wf { dstConn := 65536 } = false ∧ PduIn.wf { srcConn := 65536 } = false ∧
    PduIn.wf { tag := 2 ^ 32 } = false := by decide

theorem test_wf_payload (l : List Byte) (h : l.length = 65536) : PduIn.wf { payload := l } = false := by
  simp [PduIn.wf, fits, h]

theorem test_wf_cmd :
    (CmdIn.wf {}) = true ∧ CmdIn.wf { pdu := { port := 17 } } = false ∧ CmdIn.wf { outLen := 2 ^ 32 } = false ∧
    CmdIn.wf { inLen := 2 ^ 32 } = false ∧ CmdIn.wf { bufKey := 2 ^ 32 } = false ∧ CmdIn.wf { xflags := 2 ^ 32 } = false ∧
    CmdIn.wf { bufOffset := 2 ^ 64 } = false ∧ CmdIn.wf { bodyCut := 17 } = false ∧ CmdIn.wf { reserved := 2 ^ 80 } = false ∧
    CmdIn.wf { cflags := 256 } = false ∧ CmdIn.wf { count := 2 ^ 32 } = false ∧ CmdIn.wf { lba := 2 ^ 64 } = false ∧
    CmdIn.wf { bodyCut := 1, params := [0] } = false := by decide

theorem test_wf_params (l : List Byte) (h : l.length = 65536) : CmdIn.wf { params := l } = false := by
  simp [CmdIn.wf, fits, h]

theorem test_wf_frame :
    (FrameIn.wf {}) = true ∧ FrameIn.wf { port := 17 } = false ∧ FrameIn.wf { subif := 4 } = false ∧ FrameIn.wf { dstMac := 2 ^ 48 } = false ∧
    FrameIn.wf { srcMac := 2 ^ 48 } = false ∧ FrameIn.wf { vlan := some 4096 } = false ∧ FrameIn.wf { srcIp := 2 ^ 128 } = false ∧
    FrameIn.wf { dstIp := 2 ^ 128 } = false ∧ FrameIn.wf { srcUdp := 65536 } = false ∧ FrameIn.wf { dstUdp := 65536 } = false := by decide

theorem test_wf_data (l : List Byte) (h : l.length = 65536) : FrameIn.wf { data := l } = false := by
  simp [FrameIn.wf, fits, h]

theorem test_wf_knot :
    PartIn.wf { peer := 8 } = false ∧ PartIn.wf { op := 256 } = false ∧ PartIn.wf { inst := 1024 } = false ∧
    PartIn.wf { cflags := 256 } = false ∧ PartEnd.wf { peer := 8 } = false ∧ PartEnd.wf { status := 65536 } = false ∧
    MirrorIn.wf ⟨1024, 0, 0, 0, 0, []⟩ = false ∧ MirrorIn.wf ⟨0, 0, 16, 0, 0, []⟩ = false ∧ MirrorIn.wf ⟨0, 0, 0, 16, 0, []⟩ = false := by decide

theorem test_wf_flash :
    Place.wf {} = true ∧ Place.wf { group := 4 } = false ∧ Place.wf { slot := 16 } = false ∧ Place.wf { block := 2 ^ 14 } = false ∧
    DecodeIn.wf { die := 2048 } = false ∧ Demand.wf { res := 2268 } = false ∧ Demand.wf { first := 1 } = false ∧ Demand.wf {} = true ∧
    BufReq.wf { unit := 1023 } = false ∧ BufReq.wf { unit := 1075 } = false ∧ BufReq.wf { r := 2048 } = false ∧ BufReq.wf {} = true ∧
    (Instr.channelTrainingDone 128 false 0 []).wf = false ∧ (Instr.garbageCollection 4 {}).wf = false ∧
    (Instr.cacheDrain { group := 4 }).wf = false ∧ (Instr.admissionDecision [[{ res := 2268 }]] false 0).wf = false ∧
    (Instr.freeListRebuild 5).wf = false ∧ (Instr.free { unit := 0 } 0).wf = false := by decide

theorem test_wf_banks :
    (Instr.searchResult 4 false false).wf = false ∧ (Instr.regionSweep 4).wf = false ∧ (Instr.entryParityCheck 4 0 0).wf = false ∧
    (Instr.fwSearch 4 false).wf = false ∧ (Instr.fwWrite 4 0).wf = false ∧ (Instr.fwInvalidate 4 0).wf = false ∧
    (Instr.dramRead 11 0 0 .plain 0).wf = false ∧ (Instr.dramRead 0 0 3 .plain 0).wf = false ∧ (Instr.dramWrite 0 0 [] 3 0).wf = false ∧
    (Instr.refreshTick 8 0).wf = false ∧ (Instr.refreshTick 0 2).wf = false ∧ (Instr.alert 8).wf = false ∧
    (Instr.dramScrub 0 3 .plain).wf = false ∧ (Instr.selfRefreshExit 0 2).wf = false := by decide

/-! ### SHA-2 (FIPS 180-4) -/

/-- Primes below `n`, for `n` up to 441. -/
def primesBelow (n : Nat) : List Nat :=
  (List.range n).filter fun p => decide (2 ≤ p) && (List.range 21).all fun d => decide (d < 2) || d == p || decide (p % d ≠ 0)

/-- A word holds the first 64 bits of the fractional part of the root of degree `d` of `p`. -/
def rootWord (d p k : Nat) : Bool :=
  (List.range 20).any fun n =>
    decide ((n * 2 ^ 64 + k) ^ d ≤ p * 2 ^ (64 * d)) && decide (p * 2 ^ (64 * d) < (n * 2 ^ 64 + k + 1) ^ d)

/-- The constants are the roots of the first primes that FIPS 180-4 names. -/
theorem test_round_words :
    (primesBelow 410).length = 80 ∧ ((primesBelow 410).zip roundWords).all (fun e => rootWord 3 e.1 e.2) = true ∧
    ((primesBelow 54).zip (rootWords ++ nextRootWords)).all (fun e => rootWord 2 e.1 e.2) = true := by decide

/-- FIPS 180-4's example: the digest of "abc". -/
theorem test_sha_abc : (sha256 [0x61, 0x62, 0x63]).take 4 = [0xBA, 0x78, 0x16, 0xBF] := by decide
/-! ### Nollek -/

/-- What holds of 0 to 3 holds below 4. -/
theorem below4 (p : Nat → Prop) (h0 : p 0) (h1 : p 1) (h2 : p 2) (h3 : p 3) : ∀ m, m < 4 → p m
  | 0, _ => h0
  | 1, _ => h1
  | 2, _ => h2
  | 3, _ => h3
  | n + 4, h => absurd h (by omega)

/-- Guard p0, not inverted. -/
def always : Guard := ⟨0, false⟩
/-- A control core in DRAM, with a stack. -/
def ctlCore : Core :=
  { g := [(2, 7), (3, 5), (5, 0x2000), (31, 0x2000)], pc := 0x1000, running := true, slo := 0x1800, shi := 0x3000, evec := 0x400 }
/-- CC0 as a given core, in 1 GiB of DRAM. -/
def ctlWith (x : Core) : State := { cores := [(256, x)], regs := [(rkey 0x068 0x044, 1)] }
/-- CC0 at work. -/
def ctlState : State := ctlWith ctlCore

/-- A program image with generous limits. -/
def image : List Byte := zeros 30 ++ [64, 0] ++ zeros 8 ++ [0, 16, 0, 0] ++ zeros 4 ++ [0, 16, 0, 0] ++ [0, 16, 0, 0] ++ zeros 8
/-- A job on a grain with one record. -/
def job : Job := { item := 5, r := 1, recs := [{ off := 64, len := 100 }] }
/-- A stream core in its job. -/
def strCore : Core := { g := [(2, 0x10000), (3, 8), (31, 0x30000)], running := true, job := some job }
/-- Core 0 as a given core, in a scan of item 5. -/
def strWith (x : Core) (it : Item) (z : ScanSt) : State :=
  { cores := [(0, x)], cmd := { items := [(5, it)], next := 6 }, scan := { progs := [(1, { image := image })], scans := [(5, z)] } }
/-- The scan's item. -/
def scanItem : Item := { op := 0x08, state := .running, promised := true, count := 4, inLen := 65536, params := zeros 4 ++ [0, 15, 66, 64] }
/-- The scan. -/
def scanSt : ScanSt := { prog := 1 }
/-- Core 0 at work. -/
def strState : State := strWith strCore scanItem scanSt

/-- A control core and a stream core run. -/
theorem wit_NollekArithmetic : Runs ctlState 256 always ctlCore ∧ EndsAligned ctlCore ∧ Runs strState 0 always strCore ∧ EndsAligned strCore :=
  ⟨⟨by decide, ⟨_, rfl⟩, by decide⟩, ⟨_, rfl⟩, ⟨by decide, ⟨_, rfl⟩, by decide⟩, ⟨_, rfl⟩⟩

theorem wit_NollekLogicAndShifts : Runs ctlState 256 always ctlCore ∧ EndsAligned ctlCore ∧ Runs strState 0 always strCore ∧ EndsAligned strCore :=
  wit_NollekArithmetic

theorem wit_NollekBitsAndMoves : Runs ctlState 256 always ctlCore ∧ EndsAligned ctlCore ∧ Runs strState 0 always strCore ∧ EndsAligned strCore :=
  wit_NollekArithmetic

theorem wit_NollekPredicates : Runs ctlState 256 always ctlCore ∧ EndsAligned ctlCore ∧ Runs strState 0 always strCore ∧ EndsAligned strCore :=
  wit_NollekArithmetic

theorem wit_NollekDivision : Runs ctlState 256 always ctlCore ∧ EndsAligned ctlCore ∧ ctlCore.rg 3 ≠ 0 ∧ ctlCore.rg 4 = 0 ∧ ctlCore.dzt = false :=
  ⟨⟨by decide, ⟨_, rfl⟩, by decide⟩, ⟨_, rfl⟩, by decide⟩

/-- A core that traps on a division by 0. -/
def trapping : Core := { ctlCore with dzt := true }

theorem wit_DivideByZeroTraps : (Runs (ctlWith trapping) 256 always trapping ∧ trapping.rg 4 = 0 ∧ trapping.dzt = true) ∧
    Runs (strWith { strCore with dzt := true } scanItem scanSt) 0 always { strCore with dzt := true } ∧ strCore.rg 4 = 0 ∧ strCore.job = some job :=
  ⟨⟨⟨by decide, ⟨_, rfl⟩, by decide⟩, by decide⟩, ⟨by decide, ⟨_, rfl⟩, by decide⟩, by decide, rfl⟩

/-- Loop level 2 ends at the PC with a count. -/
def looping (n : W32) : Core := { ctlCore with ls := [(2, 0x0F00)], le := [(2, 0x1000)], lc := if n = 0 then [] else [(2, n)] }

theorem wit_NollekSequence :
    (ctlCore.repeating = false ∧ ¬ AtEnd ctlCore ctlCore.pc ∧ ctlCore.pc.toNat % 4 = 0) ∧
    ((looping 2).lcOf 2 ≠ 0 ∧ (looping 2).lcOf 2 ≠ 1 ∧ (looping 2).leOf 2 = (looping 2).pc ∧ ((looping 2).lsOf 2).toNat % 4 = 0 ∧
      ∀ m, 2 < m → m < 4 → ¬ ((looping 2).lcOf m ≠ 0 ∧ (looping 2).leOf m = (looping 2).pc)) ∧
    ((looping 1).lcOf 2 = 1 ∧ (looping 1).leOf 2 = (looping 1).pc ∧
      ∀ m, m ≠ 2 → m < 4 → ¬ ((looping 1).lcOf m ≠ 0 ∧ (looping 1).leOf m = (looping 1).pc)) ∧
    (({ ctlCore with repeating := true, rcnt := 3 } : Core).rcnt ≠ 1 ∧ ({ ctlCore with repeating := true, rcnt := 1 } : Core).rcnt = 1) ∧
    (ctlState.coreReady 256 = true ∧ (∃ w, ctlState.fetchWord 256 ctlCore ctlCore.pc = .ok (w, ctlCore)) ∧ ctlCore.rp 0 = true) := by
  refine ⟨⟨rfl, ?_, by decide⟩, ⟨by decide, by decide, by decide, by decide, ?_⟩, ⟨by decide, by decide, ?_⟩, by decide, by decide, ⟨_, rfl⟩, by decide⟩
  · rintro ⟨m, hm, h⟩
    exact below4 (fun m => ¬ (ctlCore.lcOf m ≠ 0 ∧ ctlCore.leOf m = ctlCore.pc)) (by decide) (by decide) (by decide) (by decide) m hm h
  · intro m h hm
    exact below4 (fun m => 2 < m → ¬ ((looping 2).lcOf m ≠ 0 ∧ (looping 2).leOf m = (looping 2).pc)) (by decide) (by decide) (by decide) (by decide) m hm h
  · intro m h hm
    exact below4 (fun m => m ≠ 2 → ¬ ((looping 1).lcOf m ≠ 0 ∧ (looping 1).leOf m = (looping 1).pc)) (by decide) (by decide) (by decide) (by decide) m hm h

/-- A loop level above the one being started is active. -/
def nested : Core := { ctlCore with ls := [(3, 0x0F00)], le := [(3, 0x1100)], lc := [(3, 2)] }

theorem wit_NollekFlow :
    (ctlCore.pc + 4 * (3 : BitVec 22).signExtend 32).toNat % 4 = 0 ∧ (ctlCore.rg 31).toNat % 4 = 0 ∧
    (∀ m, m < 4 → ctlCore.lcOf m ≠ 0 → m ≤ 0) ∧ ctlCore.rg 2 ≠ 0 ∧ ctlCore.rg 4 = 0 ∧
    EndsAligned (ctlCore.setLoop 0 (ctlCore.pc + 4) (ctlCore.pc + 4 + 4 * (2 : BitVec 12).zeroExtend 32) (ctlCore.rg 2)) ∧
    (Runs (ctlWith nested) 256 always nested ∧ nested.lcOf 3 ≠ 0 ∧ ¬ 3 ≤ 0) ∧
    (∃ w y, ctlState.fetchWord 256 ctlCore (ctlCore.pc + 4) = .ok (w, y) ∧ w.toNat / 2 ^ 22 % 64 < 0x20) ∧
    (∃ e, ctlCore.completeAt (ctlCore.pc + 4) = .ok e) ∧ EndsAligned (ctlCore.setLc 0 0) := by
  refine ⟨by decide, by decide, ?_, by decide, by decide, ⟨_, rfl⟩, ⟨⟨by decide, ⟨_, rfl⟩, by decide⟩, by decide⟩, ⟨_, _, rfl, by decide⟩, ⟨_, rfl⟩, ⟨_, rfl⟩⟩
  exact below4 _ (by decide) (by decide) (by decide) (by decide)

theorem wit_NollekLoads :
    (∃ u y b0, ctlState.loadOne 256 ctlCore (ctlCore.rg 5) 1 = .ok (u, y, [b0])) ∧
    (∃ u y b0 b1, ctlState.loadOne 256 ctlCore (ctlCore.rg 5) 2 = .ok (u, y, [b0, b1])) ∧
    (∃ u y b0 b1 b2 b3, ctlState.loadOne 256 ctlCore (ctlCore.rg 5) 4 = .ok (u, y, [b0, b1, b2, b3])) ∧ (ctlCore.rg 5).toNat % 4 = 0 :=
  ⟨⟨_, _, _, rfl⟩, ⟨_, _, _, _, rfl⟩, ⟨_, _, _, _, _, _, rfl⟩, by decide⟩

theorem wit_NollekStores :
    (∃ u y after, ctlState.storeOne 256 ctlCore (ctlCore.rg 5) [7] = .ok (u, y, after)) ∧
    (∃ u y after, ctlState.storeOne 256 ctlCore (ctlCore.rg 5) [7, 0] = .ok (u, y, after)) ∧
    (∃ u y after, ctlState.storeOne 256 ctlCore (ctlCore.rg 5) [7, 0, 0, 0] = .ok (u, y, after)) ∧
    ((0x10000 : Nat) ≤ (0x10000 : W32).toNat ∧ (0x2FFFF : W32).toNat + 1 ≤ 0x30000 ∧
      ¬ (0x10000 ≤ (0x2FFFF : W32).toNat ∧ (0x2FFFF : W32).toNat + ([1, 2] : List Byte).length ≤ 0x30000)) ∧
    (strCore.job = some job ∧ job.closing = false ∧ 0x40000000 ≤ (0x40003FFC : W32).toNat ∧ (0x40003FFC : W32).toNat + 4 ≤ 0x40004000) ∧
    (ctlCore.rg 31).toNat % 4 = 0 ∧ ctlCore.slo.toNat + 48 ≤ (ctlCore.rg 31).toNat ∧ (ctlCore.rg 31).toNat + 48 ≤ ctlCore.shi.toNat ∧
    (∃ u y after, ctlState.storeWords 256 ctlCore (ctlCore.rg 31 - 4) [ctlCore.pc + 4] = .ok (u, y, after)) ∧
    (∃ u y w, ctlState.loadWords 256 ctlCore (ctlCore.rg 31) 1 = .ok (u, y, [w])) ∧
    (∃ u y l, ctlState.loadWords 256 ctlCore (ctlCore.rg 31) 12 = .ok (u, y, l)) ∧ EndsAligned { ctlCore with lc := [] } :=
  ⟨⟨_, _, _, rfl⟩, ⟨_, _, _, rfl⟩, ⟨_, _, _, rfl⟩, by decide, ⟨rfl, rfl, by simp, by simp⟩, by decide, by decide, by decide, ⟨_, _, _, rfl⟩, ⟨_, _, _, rfl⟩,
    ⟨_, _, _, rfl⟩, ⟨_, rfl⟩⟩

/-- A core in USER mode. -/
def userCore : Core := { ctlCore with pstat := 0 }
/-- A core with its timer due and interrupts on. -/
def timed : Core := { ctlCore with pstat := 0x15, tcmp := 0 }
/-- A core that waits with its timer due. -/
def waiting : Core := { timed with waiting := true }
/-- A core with interrupts on, in a block with an IRQ line high. -/
def lined : State := { ctlWith { ctlCore with pstat := 0x13 } with
  regs := [(rkey 0x000 0x010, 1), (rkey 0x000 0x014, 1), (rkey 0x008 0x080, 1), (rkey 0x008 0x0C0, 1), (rkey 0x068 0x044, 1)] }

theorem lined_ext : lined.extLine 0 = true :=
  List.any_eq_true.2 ⟨0, by simp, by
    rw [Bool.and_eq_true]
    exact ⟨by decide, List.find?_isSome.2 ⟨0, by simp, by decide⟩⟩⟩

theorem wit_NollekControl :
    (Runs ctlState 256 always ctlCore ∧ isCtl 256 = true ∧ ctlCore.pstat.getLsbD 4 = true ∧ (ctlCore.pstat.getLsbD 1 || ctlCore.pstat.getLsbD 2) = false) ∧
    (Runs (ctlWith timed) 256 always timed ∧ timed.pstat.getLsbD 2 = true ∧ timed.tcmp.toNat ≤ timed.cycle.toNat) ∧
    (Runs (ctlWith userCore) 256 always userCore ∧ userCore.pstat.getLsbD 4 = false) ∧
    (((ctlWith timed).core 256).running = true ∧ timed.pstat.getLsbD 0 = true ∧ timed.pstat.getLsbD 1 = false ∧ timed.tcmp.toNat ≤ (later timed 3).cycle.toNat) ∧
    (waiting.waiting = true ∧ EndsAligned (later waiting 3)) ∧
    (ctlCore.waiting = false ∧ noMajor ((0x01400000 : W32).toNat / 2 ^ 22 % 64) = true) ∧
    ((lined.core 256).pstat.getLsbD 1 && lined.extLine 0) = true :=
  ⟨⟨⟨by decide, ⟨_, rfl⟩, by decide⟩, by decide⟩, ⟨⟨by decide, ⟨_, rfl⟩, by decide⟩, by decide⟩, ⟨⟨by decide, ⟨_, rfl⟩, by decide⟩, by decide⟩,
    by decide, ⟨rfl, ⟨_, rfl⟩⟩, ⟨rfl, by simp [noMajor]⟩, by
      rw [Bool.and_eq_true]; exact ⟨by decide, lined_ext⟩⟩

theorem wit_NollekCsr :
    (∃ v, csrOf ctlCore true 0 0x105 = some v) ∧ csrOf ctlCore true 0 0x107 = none ∧ csrPairs true 0x107 = false ∧
    (userCore.pstat.getLsbD 4 = false ∧ csrOf userCore true 0 0x100 ≠ none ∧ csrOf userCore true 0 0x10F ≠ none) ∧
    (∃ v, csrOf strCore false 0 0x01B = some v) ∧ EndsAligned { ctlCore with ls := SMap.setD 0 ctlCore.ls 3 (ctlCore.rg 5) } ∧
    EndsAligned { ctlCore with le := SMap.setD 0 ctlCore.le 3 (ctlCore.rg 5) } :=
  ⟨⟨_, rfl⟩, by decide, by decide, by decide, ⟨_, rfl⟩, ⟨_, rfl⟩, ⟨_, rfl⟩⟩

theorem wit_NollekSync : (ctlCore.rg 5).toNat % 4 = 0 ∧ (∃ pa y l, ctlState.translate ctlCore (ctlCore.rg 5) .store = .ok (pa, y) ∧
    pa < 0x80000000000 ∧ ctlState.ctlRead pa 4 = some l) := ⟨by decide, _, _, _, rfl, by decide, rfl⟩

theorem wit_NollekStream :
    (strCore.job = some job ∧ strState.item job.item = some scanItem ∧ strState.scanOf job.item = some scanSt ∧
      scanSt.delivered < recLimit (strState.scanImage scanSt) scanItem) ∧
    ((strCore.rg 3).toNat % 65536 = 8 ∧ 0x10000 ≤ (strCore.rg 2).toNat ∧ (strCore.rg 2).toNat + 8 ≤ 0x30000 ∧
      job.outB + ((if scanItem.framed then 8 else 0) + 8) ≤ outLimit (strState.jobImage job) job ∧ (strState.cluster 0).fifo.length < 64) ∧
    ({ job with recs := [] } : Job).recs = [] ∧ ({ job with cur := job.recs.head? } : Job).cur = some { off := 64, len := 100 } ∧ job.cur = none :=
  ⟨⟨rfl, rfl, rfl, by decide⟩, by decide, rfl, rfl, rfl⟩

/-- The scan as it takes its clusters and cores. -/
def scanRun : State := { strWith {} scanItem { scanSt with clusters := [0], ready := [(2, zeros 4)] } with
  cad := { bookings := [{ item := 5, res := 2183, slot := 0, amt := 1 }] }, regs := [(rkey 0x1B0 0x008, 1)] }

theorem wit_ScanRun :
    (scanRun.item 5 = some scanItem ∧ scanItem.state = .running ∧ scanItem.finished = false ∧ (scanRun.cluster 0).run = 0 ∧
      scanRun.fld (scPage 0) 0x040 0 0 = 0 ∧ scanRun.enabled (scPage 0) = true ∧ scanItem.port < 32 ∧ scanItem.promised = true ∧
      (∃ b ∈ scanRun.cad.bookings, b.item = 5 ∧ b.res = 2183 + 0)) ∧
    ((∃ z, scanRun.scanOf 5 = some z ∧ z.stopped = false ∧ z.closingBegun = false ∧ z.ready = (2, zeros 4) :: [] ∧ scanRun.idleCore z = some 0)) ∧
    (((strWith {} scanItem { scanSt with closingLeft := [0] }).scan.scans.find? fun e => e.2.closingLeft.contains 0) =
      some (5, { scanSt with closingLeft := [0] }) ∧ scanRun.clusterBooked (0 / 12) 0 = true ∧ strState.clusterBooked (0 / 12) 9 = false) ∧
    (let it : Item := { scanItem with ring := true, out := [1], sent := 65536, deadlineUs := 5 };
      it.deadline ≤ (strWith {} it scanSt).now + 20 ∧ it.out ≠ [] ∧ it.sent - it.released ≥ it.inLen) ∧
    (isCtl 0 = false ∧ (strState.core 0).job = some job ∧ clockLimit (strState.jobImage job) job ≤ job.clock + 100000) ∧
    (let s : State := { strState with scan := { clusters := [(1, { fifo := [{ item := 5, bytes := [1, 2] }] })] } };
      (s.cluster ((s.fld 0x1B0 0x0C0 3 0 + 1 + 0) % 16)).fifo = { item := 5, bytes := [1, 2] } :: [] ∧ s.item 5 = some scanItem ∧
        scanItem.sent + scanItem.out.length + (recOut scanItem.framed { item := 5, bytes := [1, 2] }).length ≤ scanItem.inLen) :=
  ⟨⟨rfl, by decide⟩, ⟨_, rfl, rfl, rfl, rfl, by decide⟩, ⟨rfl, by decide, by decide⟩, by decide, ⟨rfl, rfl, by decide⟩, by decide, rfl, by decide⟩

/-- A cluster whose slot 0 holds one micro-operation (an addition) with its results in gD and pD. -/
def customState : State := { strState with scan := { strState.scan with
  clusters := [(0, { run := 6, decode := [(0, BitVec.ofNat 64 (2 ^ 63 + 2 ^ 20 + 12))], ucode := [(0, BitVec.ofNat 64 (2 ^ 56 + 15 * 2 ^ 52 + 1 * 2 ^ 44))] })] } }

theorem wit_NollekCustom :
    (customState.core 0).job = some job ∧ (SMap.getD 0 (strState.cluster 0).decode 0).toNat.testBit 63 = false ∧
    (SMap.getD 0 (customState.cluster 0).decode 0).toNat.testBit 63 = true ∧ (3 : GReg).val < 8 ∧
    (∃ k, uopsGo (customState.cluster 0).ucode 1 0 { t := [(0, 0x10000), (1, 8)], f := false, x := strCore, dz := false } = (k, none)) :=
  ⟨rfl, by decide, by decide, by decide, ⟨_, rfl⟩⟩

/-! ### Registers, transactions, bus -/

/-- PD03 is switched off (DOM_STAT 2). -/
def offState : State := { regs := [(rkey 0x003 0x048, 0x80)] }

/-- A transaction of requester 0x18 in a given state (1 OPEN, 2 PROGRAMMING, 3 APPLYING). -/
def inTxn (st : Nat) (sh : SMap W32) (c : CfgSt) : State :=
  { regs := [(rkey 0x001 0x044, BitVec.ofNat 32 (0x00011800 + st))], shVal := sh, shMask := sh, cfg := c }

theorem wit_RegisterWrite :
    (Reaches {} reqMgmt 0x010 .cad 0x010 ∧ hasHeader .cad = true) ∧ ({} : State).fld 0x010 0x01C 31 31 = 0 ∧
    (Reaches {} 0 0x000 .top 0x000 ∧ ((2 : Nat) ≠ 4 ∨ 0xFFE % 4 ≠ 0)) ∧
    (pageBlk 0x051 = none ∧ pageBlk 0xFFF = none ∧ goodReq 0x19 = true) ∧
    ((inTxn 1 [] {}).mayTx reqMgmt 0x010 0x008 = true ∧ enableFixed .pwr = true) ∧
    (({} : State).mayTx reqMgmt 0x010 0x008 = false ∧ enableFixed .cad = false) :=
  ⟨⟨⟨by decide, rfl, by decide⟩, by decide⟩, by decide, ⟨⟨by decide, rfl, by decide⟩, by decide⟩, by decide, by decide, by decide⟩

theorem wit_RegisterCommands :
    (goodReq 0x19 = true ∧ ({} : State).pageOn (grpBase 2) = true ∧ ({} : State).tailOk 0 1 = true ∧ ({} : State).tailOk 2 0 = true) ∧
    (({} : State).domStat 3 = 0 ∧ ({} : State).domStat 12 = 0 ∧ offState.domStat 3 = 2) ∧
    ((0x800000 : W32).getLsbD 23 = true ∧ (0x2 : W32).getLsbD 1 = true ∧ ({ regs := [(rkey 0x005 0x044, 0)] } : State).coreHeld 1 = false ∧
      (0x2 : W32).getLsbD 1 = ({} : State).coreHeld 1) ∧
    (({} : State).fld 0x002 0x080 7 4 ≠ 7 ∧
      (let s : State := { jtag := { ir := 0x20 } }; s.jtag.ir = 0x20 ∧ s.lc ≠ 2 ∧ s.lc ≠ 4)) := by decide

theorem wit_Transactions :
    ({} : State).txnState = 0 ∧ (inTxn 1 [] {}).txnState ≠ 0 ∧
    ((inTxn 1 [] {}).txnState = 1 ∧ (inTxn 1 [] {}).txnOwner = reqMgmt ∧ (inTxn 1 [] {}).dirtyPages = [] ∧ (inTxn 1 [] {}).fuseGroups = []) ∧
    ((inTxn 1 [(rkey 0x010 0x040, 1)] {}).txnOwner = reqMgmt ∧ SMap.find ({} : CfgSt).reqs (headerPage 0x010) = none) := by decide

theorem wit_TransactionEnds :
    ((inTxn 3 [] { await := [0x010] }).txnState = 3 ∧ [0x010] ≠ []) ∧ (inTxn 1 [] {}).txnState = 1 ∧
    ((inTxn 2 [] { prog := [0, 4] }).txnState = 2 ∧ (inTxn 2 [] { prog := [0, 4] }).slotsUsed 0 < 5 ∧
      (let s : State := { inTxn 2 [] { prog := [0] } with otp := { fuses := [(0, 1), (1, 1), (2, 1), (3, 1)] } }; s.slotsUsed 0 = 4)) ∧
    (let s := inTxn 1 [(rkey 0x060 0x044, 1)] { reqs := [(0x060, 1)], comVal := [(rkey 0x060 0x044, 1)], comMask := [(rkey 0x060 0x044, 1)] };
      SMap.find s.cfg.reqs 0x060 = some 1 ∧ pageBlk 0x060 = some (.dc, 0x060) ∧ headerPage (rkey 0x060 0x044 / 1024) = 0x060 ∧
      s.txnState ≠ 3 ∧ rkey 0x060 0x044 ≠ rkey 0x060 0x024) := by decide

theorem wit_UnreachablePages :
    pageBlk 0x051 = none ∧ (pageBlk 0x081 ≠ none ∧ ({ regs := [(rkey 0x003 0x048, 0xAAAAAAA8), (rkey 0x003 0x04C, 0xAAAAAAAA)] } : State).pageOn 0x080 = false) ∧
    pageDomain 0x003 = 0 := by decide

theorem wit_BeginOpensTransaction : goodReq 0 = true ∧ ({} : State).fld 0x001 0x044 1 0 = 0 := by decide

/-! ### Transport and commands -/

/-- Port 0 enabled as a host port, with one local address entry at address 0. -/
def hostRegs : SMap W32 :=
  [(rkey 0x010 0x008, 1), (rkey 0x030 0x008, 1), (rkey 0x030 0x090, 0x80000000), (rkey 0x050 0x040, 1)]
/-- An open connection of instance 0 on port 0 at version 1.3. -/
def conn13 : Conn := { state := .established, version := 0x13, maxCmds := 8, keepaliveMs := 10 }
/-- An active instance that port 0 may reach. -/
def inst0 : InstSt := { state := .active, capacity := 4096, portMask := 1, connQuota := 4, cmdQuota := 8 }
/-- Connection 5 and instance 0. -/
def hostWith (x : Conn) (c : CmdSt) : State := { regs := hostRegs, host := { conns := [(5, x)] }, insts := [(0, inst0)], cmd := c }
/-- A Pasesar frame to port 0. -/
def frame0 : FrameIn := { dstMac := ({ regs := hostRegs } : State).portMac 0 0, dstUdp := ({ regs := hostRegs } : State).fld 0x030 0x044 15 0 }

/-- Port 0 with a link, a frame at the head of its queue, and (for `up` 0) no link. -/
def sending (up : Nat) : State :=
  { regs := hostRegs ++ [(rkey 0x030 0x054, BitVec.ofNat 32 up)],
    host := { egress := [(egKey 0 0, [{ item := 2, type := tResp }])] }, cmd := { items := [(1, {})] } }

theorem wit_FramesAndLinks :
    (let s : State := { regs := hostRegs }
     frame0.port = 0 ∧ s.enabled (0x030 + 0) = true ∧ frame0.dstMac = s.portMac 0 frame0.subif ∧ s.noSub 0 frame0.subif = false ∧
       s.hpClass 0 ≠ 0 ∧ s.pasesar frame0 = some 0 ∧ (SMap.getD [] s.host.clsq 0).length < 512 ∧
       frame0.fcsOk = true ∧ frame0.len ≤ 9216 ∧ 64 ≤ frame0.len ∧ frame0.extraTags = false ∧ s.vlanBad frame0 0 = false ∧ frame0.ipOk = true ∧
       frame0.fragment = false ∧ frame0.sumOk = true ∧ s.pasesar { frame0 with fcsOk := false } = some 0) ∧
    (let d : Datagram := { data := zeros 32 }
     let s : State := { host := { clsq := [(3, [d])] } }
     let u : State := { regs := [(rkey 0x1A0 0x008, 1)], host := { clsq := [(3, [d])] } }
     u.clsNext = some 3 ∧ u.bankOn 0 = true ∧ u.slotLeft 0 .classification = true ∧
       { u with srch := { used := [(0, { ops := 936 })] } }.slotLeft 0 .classification = false ∧
     s.clsNext = some 3 ∧ SMap.getD [] s.host.clsq 3 = [d] ∧ s.bankOn 0 = false ∧ headBad d = false ∧ s.lenBad (pduOf 3 0 d) = false) ∧
    SMap.find ({ regs := hostRegs, cfg := { reqs := [(0x030, 1)] } } : State).cfg.reqs (0x030 + 0) = some 1 ∧
    ((sending 1).enabled (0x030 + 0) = true ∧ SMap.find (sending 1).cfg.reqs (0x030 + 0) = none ∧
      SMap.getD [] (sending 1).host.egress (egKey 0 0) = [{ item := 2, type := tResp }] ∧ (sending 1).hasLink 0 0 = true ∧
      (sending 0).hasLink 0 0 = false ∧ (sending 1).item (2 - 1) = some {}) := by
  decide

/-- A `HELLO` of versions 1.0 to 1.3 with room for 1,024 bytes. -/
def hello : PduIn := { version := 0x13, payload := [0x10, 0x13, 0, 0, 0, 0, 0, 0, 4, 0, 0, 0, 0, 0, 0, 0], srcConn := 9 }
/-- The block without a connection. -/
def fresh : State := { regs := hostRegs, insts := [(0, inst0)] }

theorem fresh_conn : fresh.freeConnId = some 0 := by
  rw [State.freeConnId, show 65536 = 65535 + 1 from rfl, List.range_succ_eq_map]; rfl

theorem wit_hello :
    fresh.lenBad { hello with type := 0x01 } = false ∧ hello.version = be hello.payload 1 1 ∧
    (fresh.host.conns.find? fun e => decide (e.2.helloIp = hello.srcIp) && decide (e.2.helloUdp = hello.srcUdp) && decide (e.2.peerConn = hello.srcConn)) = none ∧
    fresh.pickVersion (be hello.payload 0 1) (be hello.payload 1 1) = some 0x13 ∧ fresh.roomFor { hello with type := 0x01 } = true := by
  refine ⟨by decide, by decide, by decide, by decide, ?_⟩
  rw [State.roomFor, fresh_conn]; decide

/-- A PDU on connection 5. -/
def pdu (psn : W32) (flags : Nat) (payload : List Byte) : PduIn :=
  { version := 0x13, dstConn := 5, psn := psn, flags := flags, payload := payload, tag := 7 }
/-- A command with 4,096 bytes of write data, in its data phase. -/
def staged : Item := { conn := 5, tag := 7, op := 0x02, count := 1, outLen := 4096, granted := 4096, grants := [(0, 4096)], state := .dataPhase }
/-- A state with the staged write. -/
def stagedState : State := hostWith conn13 { items := [(1, staged)], next := 2 }
/-- A PDU sent and kept. -/
def kept : TxPdu := { psn := 1, type := tResp, item := 2 }
/-- A connection with a kept PDU. -/
def keeping : Conn := { conn13 with unacked := [kept], nextPsn := 2 }

theorem wit_PdusArrive :
    (Heard stagedState { pdu 0 0 [] with type := tKeepalive } conn13 ∧ nbit (pdu 0 0 []).flags 15 = false) ∧
    (Heard (hostWith keeping {}) { pdu 0 0x8000 [] with type := tAck, ackPsn := 1 } keeping ∧ nbit (pdu 0 0x8000 []).flags 15 = true ∧ keeping.waiting = [] ∧
      keeping.closeRcvd = false ∧ (pdu 0 0x8000 []).payload = [] ∧ kept ∈ keeping.unacked ∧ covered { pdu 0 0x8000 [] with ackPsn := 1 }.ackPsn 0 kept.psn = true ∧ kept.type = tResp ∧ kept.item ≠ 0) ∧
    (Heard (hostWith keeping {}) { pdu 0 0 [0, 0, 0, 1] with type := tNak } keeping ∧
      (keeping.unacked.find? fun q => decide (q.psn.toNat = be (pdu 0 0 [0, 0, 0, 1]).payload 0 4)) = some kept) ∧
    (InOrder stagedState { pdu 1 0 (zeros 16) with type := 0x14 } conn13 ∧ stagedState.findTag 5 7 = some 1 ∧ stagedState.item 1 = some staged ∧
      staged.state = .dataPhase ∧ staged.aborted = false ∧ be (zeros 16) 0 4 + ((zeros 16).drop 8).length ≤ staged.outLen ∧ (zeros 16).drop 8 ≠ [] ∧
      inGrants staged.grants (be (zeros 16) 0 4) ((zeros 16).drop 8).length = true ∧
      addRange (be (zeros 16) 0 4) ((zeros 16).drop 8).length staged.got ≠ [(0, staged.outLen)]) ∧
    (InOrder stagedState { pdu 1 0 [0, 1, 0, 0] with type := tClose } conn13 ∧ conn13.closeAcked = false) ∧
    (InOrder stagedState { pdu 1 0 [0, 0, 0, 8] with type := 0x17 } conn13 ∧ CanSend stagedState 5 conn13 ∧ stagedState.findTag 5 8 = none ∧
      stagedState.findReported 5 8 = none) ∧
    (InOrder stagedState { pdu 1 0 [0, 0, 0, 7] with type := 0x17 } conn13 ∧ stagedState.findTag 5 7 = some 1 ∧ staged.state ≠ .deciding ∧
      notAbortable staged.op = false) := by
  repeat' apply And.intro
  all_goals first | rfl | decide

/-- An `IDENTIFY` on connection 5, and one whose IN_LEN is wrong. -/
def identifyCmd (len : Nat) : CmdIn := { pdu := pdu 1 0 [], inLen := len }
/-- A connection at version 1.0. -/
def conn10 : Conn := { conn13 with version := 0x10 }

theorem wit_CommandsReceived :
    (let s := hostWith conn13 {}
     let c := identifyCmd 4096
     cmdOf (.identify c) = some (0x20, c) ∧ InOrder s (cmdPduOf 0x20 c) conn13 ∧ conn13.state ≠ .closing ∧ s.findTag 5 7 = none ∧
       s.check 5 conn13 0x20 c = none ∧ 0x12 ≤ conn13.version) ∧
    (let s := hostWith conn10 {}
     let c : CmdIn := { pdu := { pdu 1 0 [] with version := 0x10 }, inLen := 4096 }
     InOrder s (cmdPduOf 0x20 c) conn10 ∧ s.check 5 conn10 0x20 c = none ∧ conn10.version < 0x12 ∧ s.cmd.stopped = false ∧
       s.cmd.resetting = false ∧ (s.inst conn10.inst).state = .active ∧ s.acceptedCount < 131072 ∧ s.cmd.next ∉ s.cmd.decideQ ∧
       s.isKnot conn10.inst = false ∧ ∀ r ∈ s.knot.asnReqs, r.item ≠ s.cmd.next) ∧
    (let s := hostWith conn13 {}
     let c := identifyCmd 4095
     s.check 5 conn13 0x20 c = some stLengthMismatch ∧ CanSend s 5 conn13) ∧
    (let s := hostWith conn13 {}
     (opInVersion 0x60 conn13.version && s.opInStage 0x60) = false ∧ InOrder s (cmdPduOf 0x60 (identifyCmd 0)) conn13 ∧ CanSend s 5 conn13) := by
  repeat' apply And.intro
  all_goals first | rfl | decide

/-- A connection whose kept PDU has been sent once, and one that has been sent as often as R55 allows. -/
def late (tries : Nat) : Conn := { conn13 with unacked := [{ kept with tries := tries }], nextPsn := 2, rtoCur := 200, rtoUs := 200 }
/-- A connection state at a time. -/
def atTime (x : Conn) (us : Nat) : State := { hostWith x {} with cad := { nowUs := us } }

theorem wit_TransportTimers :
    ((atTime (late 8) 200).conn 5 = some (late 8) ∧ (late 8).rtoFrom + (late 8).rtoCur ≤ (atTime (late 8) 200).now ∧ 8 < 1 + (late 8).retryMax) ∧
    ((late 9).rtoFrom + (late 9).rtoCur ≤ (atTime (late 9) 200).now ∧ 1 + (late 9).retryMax ≤ 9) ∧
    (conn13.txUs + 1000 * conn13.keepaliveMs ≤ (atTime conn13 10000).now ∧ conn13.unacked = [] ∧ conn13.waiting = [] ∧ conn13.closeSent = false ∧
      (let x : Conn := { conn13 with subif := 3 }; (atTime x 10000).noSub x.port x.subif = true)) ∧
    (conn13.rxUs + 3000 * conn13.keepaliveMs ≤ (atTime conn13 30000).now) ∧
    (let x : Conn := { conn13 with ackDue := true }; x.ackDue = true ∧ x.ackFrom + x.ackDelayUs ≤ (atTime x 10).now) ∧
    (let x : Conn := { conn13 with state := .helloRcvd }; x.state = .helloRcvd ∧ x.openUs + 1000000 ≤ (atTime x 1000000).now) ∧
    (let x : Conn := { conn13 with closeRcvd := true }
     x.closeRcvd = true ∧ x.closeSent = false ∧ (atTime x 0).heldByConn 5 = 0 ∧ CanSend (atTime x 0) 5 x) := by
  repeat' apply And.intro
  all_goals first | rfl | decide

/-- A read of one block with 16 bytes of output. -/
def reader : Item := { conn := 5, tag := 7, op := 0x01, count := 1, inLen := 4096, out := zeros 16, outDone := true, state := .running }

theorem wit_DataTransfer :
    (let it : Item := { staged with granted := 0, grants := [] }
     let s := hostWith conn13 { items := [(1, it)] }
     s.item 1 = some it ∧ s.conn it.conn = some conn13 ∧ it.aborted = false ∧ it.lost = false ∧ conn13.closeSent = false ∧ it.port < 32 ∧
       it.state = .dataPhase ∧ it.grants.length < 2 ∧ it.granted < it.outLen ∧ SMap.getD false s.buf.stalled 1 = false ∧ CanSend s it.conn conn13 ∧
       SMap.getD false ({ s with buf := { stalled := [(1, true)] } } : State).buf.stalled 1 = true) ∧
    (let s := hostWith conn13 { items := [(1, reader)] }
     s.item 1 = some reader ∧ reader.op ≠ 0x43 ∧ CanSend s 5 conn13 ∧ 0 < 16 ∧ 16 ≤ reader.dataRoom conn13.maxPayload ∧
       (16 = reader.out.length → reader.outDone = true)) ∧
    (stagedState.item 1 = some staged ∧ 0 < staged.granted ∧ (∀ p ∈ conn13.waiting, p.type ≠ tXferRdy) ∧
      staged.stagedUs + conn13.dataTimeoutUs ≤ ({ stagedState with cad := { nowUs := 2000 } } : State).now) := by
  repeat' apply And.intro
  all_goals first | rfl | decide

/-- A command that waits for its decision, on a block whose Cadence is on. -/
def asked (op out : Nat) : Item := { conn := 5, tag := 7, op := op, count := 1, outLen := out }
/-- Its state; instance 0 has a share. -/
def askState (it : Item) (r : Bool) : State :=
  { hostWith { conn13 with port := 16 } { items := [(1, it)], next := 2, decideQ := [1], resetting := r } with
    regs := (rkey 0x010 0x008, 1) :: (rkey 0x011 0, 50) :: (hostRegs.drop 1) }

theorem wit_AdmissionDecides :
    (let s := askState (asked 0x20 0) true
     s.cmd.decideQ = [1] ∧ s.cfg.hold = false ∧ s.cmd.stopped = false ∧ s.item 1 = some (asked 0x20 0) ∧ (asked 0x20 0).aborters = 0 ∧
       CanTell s (asked 0x20 0) { conn13 with port := 16 } ∧ s.decide' 1 (asked 0x20 0) [] false = .refuse stDeviceReset) ∧
    ((askState (asked 0x20 0) false).decide' 1 (asked 0x20 0) [[]] true = .busy 6 2) ∧
    (∃ d c bs, (askState (asked 0x20 0) false).decide' 1 (asked 0x20 0) [[]] false = .grant d c bs []) ∧
    (∃ d c bs, (askState (asked 0x48 4096) false).decide' 1 (asked 0x48 4096) [[]] false = .grant d c bs []) ∧
    (asked 0x20 0).finished = false ∧ ((askState (asked 0x20 0) false).inst 0).ctxBad = false ∧ (askState (asked 0x20 0) false).isKnot 0 = false := by
  refine ⟨?_, rfl, ⟨_, _, _, rfl⟩, ⟨_, _, _, rfl⟩, rfl, rfl, by decide⟩
  repeat' apply And.intro
  all_goals first | rfl | decide

/-- A best-effort command of connection 5 whose turn has come. -/
def turnState (it : Item) : State := hostWith conn13 { items := [(1, it)], next := 2, bestQ := [1] }
/-- A queued command. -/
def queued (op count lba : Nat) (params : List Byte) : Item :=
  { conn := 5, tag := 7, op := op, count := count, lba := lba, params := params, inLen := 4096, state := .queued }

/-- A queued command's turn has come where it is ready. -/
theorem turn_came (op count lba : Nat) (params : List Byte)
    (h : (turnState (queued op count lba params)).bestReady (queued op count lba params) = true) :
    TurnCame (turnState (queued op count lba params)) 1 (queued op count lba params) :=
  ⟨rfl, rfl, rfl, show (0 : Nat) < 32 by decide, List.mem_singleton.2 rfl, show (turnState (queued 0 0 0 [])).enabled 0x010 = true by decide, rfl, h,
    rfl, show (turnState (queued 0 0 0 [])).isKnot 0 = false by decide⟩

/-- A read of two blocks that nothing holds. -/
def zeroRead : Item :=
  { queued 0x01 2 3 [] with grains := [{ grain := 0, mask := 8, taken := true }, { grain := 1, mask := 1, taken := true }] }

theorem wit_WorkStarts :
    (TurnCame (turnState (queued 0x20 0 0 [])) 1 (queued 0x20 0 0 []) ∧ TurnCame (turnState (queued 0x21 1 0 [])) 1 (queued 0x21 1 0 []) ∧
      TurnCame (turnState (queued 0x22 1 3 [])) 1 (queued 0x22 1 3 []) ∧ TurnCame (turnState (queued 0x22 2 1 [])) 1 (queued 0x22 2 1 []) ∧
      TurnCame (turnState (queued 0x23 1 0 [])) 1 (queued 0x23 1 0 []) ∧ TurnCame (turnState (queued 0x0C 1 0 [])) 1 (queued 0x0C 1 0 []) ∧
      TurnCame (turnState (queued 0x4A 48 0 [])) 1 (queued 0x4A 48 0 []) ∧ TurnCame (turnState (queued 0x18 0 0 [])) 1 (queued 0x18 0 0 [])) ∧
    (TurnCame (turnState (queued 0x4B 1 0 [0, 1, 0, 0x14, 0, 0, 0, 1])) 1 (queued 0x4B 1 0 [0, 1, 0, 0x14, 0, 0, 0, 1]) ∧
      be (queued 0x4B 1 0 [0, 1, 0, 0x14, 0, 0, 0, 1]).params 0 4 = 4096 * 0x010 + 0x014 ∧
      Reaches (turnState (queued 0x4B 1 0 [])) reqMgmt 0x010 .cad 0x010 ∧ hasHeader .cad = true) ∧
    (let it : Item := { queued 0x02 1 0 [] with outLen := 4096 }
     TurnCame { turnState it with regs := hostRegs ++ [(rkey 0x060 0x048, 0x2C800000), (rkey 0x100 0x0C4, 0x10000), (rkey 0x110 0x008, 1)] } 1 it ∧ isWriting it.op = true ∧ 0 < it.count) ∧
    (TurnCame (turnState zeroRead) 1 zeroRead ∧ zeroRead.op = 0x01 ∧ (zeroRead.grains.map fun g => (g.grain, g.mask)) = grainsOf zeroRead.lba zeroRead.count ∧
      ∀ g ∈ zeroRead.grains, g.st = .lookup ∧ g.taken = true ∧ g.lost = 0 ∧ g.frames = [] ∧ g.overlay = [] ∧ g.entry = 0 ∧ g.reading = false) := by
  refine ⟨⟨turn_came _ _ _ _ (by decide), turn_came _ _ _ _ (by decide), turn_came _ _ _ _ (by decide), turn_came _ _ _ _ (by decide), turn_came _ _ _ _ (by decide), turn_came _ _ _ _ (by decide),
    turn_came _ _ _ _ (by decide), turn_came _ _ _ _ (by decide)⟩, ⟨turn_came _ _ _ _ (by decide), by decide, ⟨by decide, rfl, by decide⟩, rfl⟩, ?_, ?_⟩
  · exact ⟨⟨rfl, rfl, rfl, by decide, by decide, by decide, rfl, by decide, rfl, by decide⟩, rfl, by decide⟩
  · exact ⟨⟨rfl, rfl, rfl, by decide, by decide, by decide, rfl, rfl, rfl, by decide⟩, rfl, by decide, by decide⟩

/-- A finished command of connection 5. -/
def ended : Item := { conn := 5, tag := 7, op := 0x20, state := .running, finished := true }

theorem wit_CommandsEnd :
    (let s := hostWith conn13 { items := [(1, ended)], next := 2 }
     s.item 1 = some ended ∧ CanTell s ended conn13 ∧ s.mayComplete ended = true ∧ ended.op ∉ [0x0A, 0x21, 0x40, 0x43, 0x4C] ∧
       s.srd.waitCmd = [] ∧ ∀ e ∈ s.cmd.items, e.2.state ≠ .deciding) ∧
    (let it : Item := { ended with op := 0x05, finished := false, covers := [9], coverRecs := [4] }
     let s := hostWith conn13 { items := [(1, it)], next := 2 }
     CanTell s it conn13 ∧ it.state = .running ∧ it.aborted = false ∧ it.finished = false ∧ it.parts = 0 ∧
       (∀ m ∈ it.covers, ∀ o, s.item m = some o → o.outstanding = false) ∧ ∀ k ∈ it.coverRecs, s.cacheRec k = none) ∧
    (let it : Item := { ended with op := 0x05, finished := false, cflags := 1, coverAsns := [3] }
     let s : State := { hostWith conn13 { items := [(1, it)], next := 2 } with flash := { recs := [(0, { asn := 4 })] } }
     CanTell s it conn13 ∧ it.cflags % 2 = 1 ∧ ∀ r ∈ s.flash.recs, r.2.inst = it.inst → r.2.asn ∉ it.coverAsns) ∧
    (let it : Item := { ended with finished := false, aborted := true, aborters := 1 }
     let s := hostWith conn13 { items := [(1, it)], next := 2 }
     CanTell s it conn13 ∧ it.outstanding = true ∧ it.aborters ≤ 1 ∧ s.idleItem 1 it = true) ∧
    (let it : Item := { reader with promised := true, clockOn := true, deadlineUs := 4 }
     let s := hostWith conn13 { items := [(1, it)], next := 2 }
     CanTell s it conn13 ∧ it.promised = true ∧ it.clockOn = true ∧ it.outstanding = true ∧ it.aborted = false ∧ it.parts = 0 ∧
       it.deadline ≤ s.now + 4) := by
  repeat' apply And.intro
  all_goals first | rfl | decide

theorem wit_CalendarAdvances :
    (let s : State := { cad := { nowUs := 10, bookings := [{ slot := 12 }, { slot := 11 }] } }
     s.nextWatch (s.now + 2) = none ∧ (∃ b ∈ s.cad.bookings, b.coarse = false ∧ s.now + 2 ≤ b.slot) ∧ ∃ b ∈ s.cad.bookings, b.coarse = false ∧ ¬ s.now + 2 ≤ b.slot) := by decide

/-- The parameters of R147: port 0, 1 connection, 1 command, no segments, 4 KiB of buffers at least and most. -/
def instParams : List Byte := [0, 1, 10, 0, 0, 0, 0, 0, 0, 0, 0, 1, 0, 0, 0, 1, 0, 0, 0, 4, 0, 0, 0, 4] ++ zeros 8
/-- A block that may create instances: life-cycle state FIELD, capacity in its first flash group, buffers in its pools. -/
def shipped (it : Item) : State :=
  { turnState it with regs := (rkey 0x002 0x040, 2) :: hostRegs ++ [(rkey 0x100 0x058, 65536)] }
/-- A command of instance 0 about another instance. -/
def about (op count lba : Nat) (cflags : Nat) (params : List Byte) : Item := { queued op count lba params with cflags := cflags }
/-- Instance 3 in a state, with what a reset or deletion waits for. -/
def inst3 (it : Item) (st : InstState) (q : List Nat) : State :=
  { shipped it with insts := [(0, inst0), (3, { state := st, capacity := 16, bufMin := 4, bufMax := 4, migMode := 2, resetQ := q })] }

theorem wit_InstanceLifeCycle :
    (let it := about 0x40 3 1024 0 instParams
     let s := shipped it
     TurnCame s 1 it ∧ s.lc = 2 ∧ s.fld 0x002 0x040 31 31 = 0 ∧ (s.inst 3).state = .free ∧ (∀ r < 11, s.rowBad it.params r = false) ∧
       pMin it.params ≤ pMax it.params ∧ 0 < it.lba ∧ s.freeSegs (pBank it.params) (pSegs it.params) = some 0 ∧ s.capUsed 3 + it.lba ≤ s.deviceCap ∧
       s.isKnot 3 = false ∧ s.minSum 3 + 4 * pMin it.params ≤ s.minLimit) ∧
    (let it := about 0x44 3 128 0 instParams
     let s := inst3 it .active []
     TurnCame s 1 it ∧ (s.inst 3).state = .active ∧ s.rowBad it.params 7 = false ∧ (s.inst 3).bufMin ≤ (s.inst 3).bufMax ∧
       s.minSum 3 + 4 * (s.inst 3).bufMin ≤ s.minLimit ∧ s.fwTxnFree = true ∧
       ({ s with regs := (rkey 0x001 0x044, 1) :: s.regs } : State).fwTxnFree = false) ∧
    (TurnCame (inst3 (about 0x43 3 0 0 []) .active []) 1 (about 0x43 3 0 0 []) ∧
      (let it := about 0x43 3 0 1 ([1, 0, 0, 0, 0, 0, 16, 0] ++ zeros 8)
       TurnCame (inst3 it .active []) 1 it ∧ migStartOk it.params = true) ∧
      TurnCame (inst3 (about 0x43 3 0 2 []) .active []) 1 (about 0x43 3 0 2 []) ∧
      ((inst3 (about 0x43 3 0 2 []) .active []).inst 3).migMode ≠ 0) ∧
    (TurnCame (inst3 (about 0x42 3 0 0 []) .active []) 1 (about 0x42 3 0 0 []) ∧
      ((inst3 (about 0x42 3 0 0 []) .active []).inst 3).resetQ = []) ∧
    TurnCame (turnState (queued 0x4C 0 0 [])) 1 (queued 0x4C 0 0 []) ∧
    (let it : Item := { about 0x42 3 0 0 [] with state := .running }
     let s := inst3 it .resetting [1]
     (s.inst 3).resetQ = [1] ∧ s.item 1 = some it ∧ s.outstandingOf 3 = 0 ∧ s.instHitches 3 = 0 ∧ s.wipePending 3 = [] ∧
       (s.inst 3).state = .resetting) ∧
    (let it : Item := { about 0x41 3 0 0 [] with state := .running }
     let s := inst3 it .deleting [1]
     (s.inst 3).resetQ = [1] ∧ s.outstandingOf 3 = 0 ∧ (s.inst 3).state = .deleting ∧
       s.sweeping (s.inst 3).bank (s.inst 3).segStart (s.inst 3).segs = false ∧ s.clsSweeping 3 = false ∧
       (s.inst 3).txn = 0 ∧ s.fwTxnFree = true ∧
       (let u : State := { s with insts := s.insts.map fun e => (e.1, { e.2 with txn := 1 }) }
        (u.inst 3).txn ≠ 0 ∧ u.txnOver (u.inst 3).txn = true)) := by
  refine ⟨?_, ?_, ⟨?_, ?_, ?_, ?_⟩, ?_, turn_came _ _ _ _ (by decide), ?_, ?_⟩
  all_goals repeat' apply And.intro
  all_goals first | rfl | decide

theorem wit_FirmwareActivation :
    (TurnCame (turnState (queued 0x48 16 0 [])) 1 (queued 0x48 16 0 []) ∧ TurnCame (turnState (queued 0x49 0 0 [])) 1 (queued 0x49 0 0 [])) ∧
    (let it : Item := { queued 0x49 0 0 [] with state := .running }
     let s : State := { cmd := { items := [(1, it)], next := 2, activating := 2 } }
     s.cmd.activating = 1 + 1 ∧ s.item 1 = some it ∧ it.finished = false ∧ 1 ∉ it.covers ∧ s.otp.wdArmed = false ∧ s.otp.dir.active < 2 ∧
       it.cflags / 2 % 2 = 0) ∧
    (let s : State := { otp := { wdArmed := true } }; s.otp.wdArmed = true ∧ s.stageNow ≠ 7) ∧
    (let s : State := { regs := [(rkey 0x002 0x040, 4)] }; s.lc = 4 ∧ s.otp.testEn = false ∧ s.otp.scrapDone = false) := by
  refine ⟨⟨turn_came _ _ _ _ (by decide), turn_came _ _ _ _ (by decide)⟩, ?_, ?_, ?_⟩
  all_goals repeat' apply And.intro
  all_goals first | rfl | decide

/-! ### Buffers and DRAM -/

/-- The buffer unit with its allocator on. -/
def bufState (recs : SMap BufRec) : State := { regs := [(rkey 0x010 0x008, 1), (rkey 0x020 0x008, 1)], buf := { recs := recs } }
/-- Buffer 9 of pool 2, held by requester 7 alone, then by two. -/
def oneHolder : State :=
  { bufState [(mkHandle 2 9, { slots := [8, 0, 0, 0], charge := 8 })] with
    regs := [(rkey 0x010 0x008, 1), (rkey 0x020 0x008, 1), (rkey 0x020 0x068, 4095)] }
/-- A chain of one cell, number 5, of requester 7. -/
def oneCell : State := bufState [(5, { slots := [8, 0, 0, 0], charge := 8, head := true, headIdx := 5, chained := true, cells := 1 })]

/-- An operation of a host port's unit for requester `r`. -/
def breq (r : Nat) : BufReq := { unit := 1024, r := r }
/-- Pool 2 with one buffer free, which was freed in the cycle under way. -/
def oneFreed : State :=
  { bufState [] with
    regs := [(rkey 0x010 0x008, 1), (rkey 0x020 0x008, 1), (rkey 0x020 0x068, 1)], buf := { cyc := [mkHandle 2 0], cycPort := 9 } }

theorem wit_BufferChains :
    (Fresh (bufState []) (breq 1074) ∧ (breq 1074).bad = false ∧ MayTake (bufState []) 2 (breq 1074).r ∧
      HeadSound (bufState []) 2 (mkHandle 2 0) (mkHandle 2 1) ∧ MayTake (bufState []) 0 (breq 0).r ∧ HeadSound (bufState []) 0 0 1) ∧
    (Fresh (bufState []) { breq 7 with bad := true } ∧ MayTake (bufState []) 2 7) ∧
    (oneFreed.buf.cyc = [mkHandle 2 0] ∧ oneFreed.buf.cycPort ≤ portOf (breq 7).unit ∧ hPool (mkHandle 2 0) = 2 ∧ goodId (breq 7).r = true ∧
      oneFreed.rebuilding 2 = false ∧ oneFreed.poolFree 2 = 1) ∧
    (goodId 7 = true ∧ goodId 8 = true ∧ oneHolder.validHandle (mkHandle 2 9) = true ∧ (oneHolder.brec (mkHandle 2 9)).chained = false ∧
      (oneHolder.brec (mkHandle 2 9)).slotOf 7 = some 0 ∧ (oneHolder.brec (mkHandle 2 9)).slotOf 8 = none ∧
      (oneHolder.brec (mkHandle 2 9)).emptySlot = some 1 ∧ ((oneHolder.brec (mkHandle 2 9)).setSlot 0 0 0).occupied = false ∧
      (oneHolder.brec (mkHandle 2 9)).head = false ∧ oneHolder.rebuilding 2 = false ∧ oneHolder.poolFree 2 < oneHolder.poolCount 2) ∧
    (Fresh oneCell (breq 7) ∧ MayTake oneCell 0 7 ∧ HeadSound oneCell 0 0 1 ∧ (0 : Nat) ≠ 5 ∧ oneCell.validHandle 5 = true ∧ hPool 5 = 0 ∧
      oneCell.tailCell 5 = true ∧ 5 = mkHandle 0 (oneCell.brec 5).headIdx ∧ ((oneCell.brec 5).slotOf 7).isSome = true ∧
      (oneCell.brec 5).cells < 65536) ∧
    ({ regs := [(rkey 0x020 0x0B0, 4)] } : State).rebuilding 2 = true ∧
    (goodId 1075 = false ∧ ({} : State).validHandle (mkHandle 5 0) = false ∧ ({} : State).validHandle (mkHandle 2 4095) = true ∧
      (({} : State).brec (mkHandle 2 4095)).occupied = false) := by
  repeat' apply And.intro
  all_goals first | rfl | decide

/-- 64 GiB in both sets of channels, every channel up. -/
def dramState (ch : SMap Chan) (p : SMap Bool) : State :=
  { regs := ((List.range 8).flatMap fun c => [(rkey (0x060 + c) 0x008, 1), (rkey (0x060 + c) 0x048, 0x20000000)]) ++ [(rkey 0x068 0x040, 0xC0000000), (rkey 0x068 0x044, 64)],
    dram := { chans := ch, poison := p } }
/-- A queued write of a whole burst. -/
def wreq : DReq := { burst := 3, whole := true }

theorem wit_DramAccess :
    (let s := dramState [] []
     let c := (s.dramLoc 192).1
     s.dram.hit = [] ∧ s.dcState c = 2 ∧ zeros 64 ≠ [] ∧ 192 % 64 + (zeros 64).length ≤ 64 ∧ s.inDram 192 64 = true ∧
       ((s.chan c).rq = [] ∧ (s.chan c).wq = []) ∧ s.issues c = true ∧ ((s.chan c).rank (s.rankOf c (s.dramLoc 192).2)).phase = .active ∧
       s.poisoned 3 = false ∧ (dramState [] [(3, true)]).poisoned 3 = true) ∧
    (∀ whole : Bool,
      let c := ((dramState [] []).dramLoc 192).1
      let w := { wreq with whole := whole }
      let s := dramState [(c, { wq := [w] })] []
      s.dcState c = 2 ∧ s.inDram (192 / 64 * 64) 64 = true ∧ (s.chan c).wq.find? (fun q => q.burst == 192 / 64) = some w ∧ w.whole = whole ∧
        s.poisoned 3 = false ∧ (∀ q ∈ (s.chan c).rq, q.burst = 192 / 64 → q.taken = false) ∧
        ((s.chan c).rank (s.rankOf c (s.dramLoc 192).2)).phase = .active) ∧
    (({} : State).inDram (192 / 64 * 64) 64 = false ∧ ({} : State).inDram 192 64 = false) := by
  refine ⟨?_, fun whole => ?_, by decide, by decide⟩
  · repeat' apply And.intro
    all_goals first | rfl | decide
  · cases whole <;> repeat' apply And.intro
    all_goals first | rfl | decide

/-- A 16 GiB DIMM that trains. -/
def dimm : DimmIn := { present := true, supported := true, cap := 16 }

/-- Channel 7 with one of its ranks in a phase. -/
def phased (p : RankPhase) : State := dramState [(7, { ranks := [(1, { phase := p })] })] []

theorem wit_DramChannel :
    ((dimm :: List.replicate 7 dimm).length = 8 ∧ qualifies (dimm :: List.replicate 7 dimm) = true ∧ 8 * dimm.cap < 1024) ∧
    (let s := dramState [] []
     s.dcState 7 = 2 ∧ 1 = min 8 (((s.chan 7).rank 1).debt + 1) ∧ ((s.chan 7).rank 1).phase = .active ∧ (s.chan 7).alert = false ∧
       s.rankQuiet 7 1 = true ∧ (dramState [(7, { ranks := [(1, { reqUs := 1 })] })] []).rankQuiet 7 1 = false ∧
       8 = min 8 ((((dramState [(7, { ranks := [(1, { debt := 8 })] })] []).chan 7).rank 1).debt + 1) ∧
       ({ s with regs := (rkey 0x067 0x040, 0x80000000) :: s.regs } : State).fld 0x067 0x040 31 31 = 1) ∧
    ((((phased .drain).chan 7).rank 1).phase = .drain ∧ (((phased .exiting).chan 7).rank 1).phase = .exiting ∧
      (((phased .selfRefresh).chan 7).rank 1).phase = .selfRefresh) ∧
    (let a := (dramState [(7, { alert := true, replays := 1 })] []).chan 7
     let b := (dramState [(7, { alert := true, replays := 2 })] []).chan 7
     a.alert = true ∧ a.replays < 2 ∧ b.alert = true ∧ 2 ≤ b.replays) ∧
    (let s := { dramState [] [] with regs := (rkey 0x1F0 0x008, 1) :: (dramState [] []).regs }
     let c := (s.dramLoc 192).1
     0 < [1].length ∧ s.mayPeriodic = true ∧ s.issues c = true ∧ s.mayBg .dramScrub = true ∧ s.inDram (192 / 64 * 64) 64 = true ∧ s.poisoned 3 = false ∧
       ∀ q ∈ (s.chan c).wq, q.burst = 192 / 64 → q.whole = false) := by
  repeat' apply And.intro
  all_goals first | rfl | decide

/-! ### Engines, digests, search -/

/-- Compression engine 0 and decompression engine 0 on. -/
def engRegs : SMap W32 := [(rkey 0x010 0x008, 1), (rkey 0x068 0x044, 1), (rkey 0x110 0x008, 1), (rkey 0x130 0x008, 1)]
/-- A write with one grain that waits for its frame. -/
def framing : Item :=
  { op := 0x02, count := 4, outLen := 16384, promised := true, state := .running, grains := [{ grain := 0, st := .frame }] }
/-- Its state. -/
def framingState : State := { regs := engRegs, cmd := { items := [(1, framing)], next := 2 } }
/-- A stored frame of 16 bytes. -/
def frame16 : List Byte := storedFrame 0 (List.replicate 16 7)
set_option maxRecDepth 20000 in
theorem frame16_decodes : decodeFrame frame16 = .ok (List.replicate 16 7) := by rfl

/-- A read whose one grain is on a decompression engine. -/
def decoding : Item := { op := 0x01, count := 1, inLen := 4096, state := .running, grains := [{ grain := 3, mask := 1, entry := flashEntry 0 0 0 0 0 0 1, st := .frame }] }
/-- The firmware ring of group 0 with one descriptor in it. -/
def ringState (desc : SMap Byte) : State :=
  { regs := [(rkey 0x010 0x008, 1), (rkey 0x068 0x044, 1), (rkey 0x110 0x008, 1), (rkey 0x110 0x0C8, 0x80000004), (rkey 0x110 0x0CC, 1)],
    dram := { bytes := desc } }
/-- A `COMPRESS` descriptor of 4,096 B at address 0, with room for 4,128 B of frame; a level above 4 spoils it. -/
def compress (level : Byte) : SMap Byte := (if level = 0 then [(0, 1)] else [(0, 1), (1, level)]) ++ [(5, 0x10), (24, 0x20), (25, 0x10)]

/-- Installed DRAM can be read. -/
theorem dram_readable (d : SMap Byte) : ∀ n a, a + n ≤ 2 ^ 20 → ∃ l, (ringState d).physRead a n = some l
  | 0, _, _ => ⟨[], rfl⟩
  | n + 1, a, h => by
    obtain ⟨l, hl⟩ := dram_readable d n (a + 1) (by omega)
    have hp : place18 a = .dram a := by simp only [place18, sramBase]; split <;> first | rfl | omega
    have hb : (ringState d).physByte a = some ((ringState d).dramByte a) := by
      have : (ringState d).inDram a 1 = true := decide_eq_true (show a + 1 ≤ (ringState d).dramSize from
        Nat.le_trans (by omega) (show 2 ^ 20 ≤ (ringState d).dramSize by show 2 ^ 20 ≤ 2 ^ 30 * (ringState []).fld 0x068 0x044 9 0; decide))
      simp only [State.physByte, hp, this, if_true]
    exact ⟨_, by rw [State.physRead, hb, hl]⟩

set_option maxRecDepth 20000 in
theorem wit_EngineFrames :
    (framingState.idleEngine 0 = some 0 ∧ (∃ w, w ∈ framingState.framesWaiting 0 ∧ (w.prio = 1 ∨ framingState.unbookedOk 0 (framingState.unbookedRun 0) = true))) ∧
    (let w : FrameWork := { who := some (.item 1), grain := 0, data := [1, 2] }
     let s : State := { framingState with eng := { ceRun := [(0, w)] } }
     SMap.find s.eng.ceRun 0 = some w ∧ w.desc = none ∧ w.poison = false ∧ w.who = some (.item 1) ∧ s.item 1 = some framing ∧ w.makes [] = true ∧
       ({ w with level := 1, deflate := true, data := [7] } : FrameWork).makes [0x63, 0x07, 0x00] = false ∧
       framing.grains.find? (fun x => x.grain == w.grain) = some { grain := 0, st := .frame } ∧ ∀ x ∈ framing.grains, x.st ≠ .failed) ∧
    (let w : FrameWork := { who := some (.item 1), grain := 3, data := frame16 }
     decoding.op = 0x01 ∧ decoding.finished = false ∧ w.who = some (.item 1) ∧ ∃ g bytes, decoding.grains = [g] ∧ g.grain = w.grain ∧ g.entry ≠ 0 ∧ GrainDecodes w g none bytes) ∧
    (let s := ringState (compress 0)
     s.idleEngine 0 = some 0 ∧ s.ringReady 0 = true ∧ s.unbookedOk 0 (s.unbookedRun 0) = true ∧ s.framesWaiting 0 = [] ∧
       (∃ d, DescAt s 0 0 d ∧ le d 0 1 = 1 ∧ le d 1 1 / 16 ≤ 2 ∧ le d 1 1 % 16 ≤ 4 ∧ le d 2 1 ≤ 1 ∧ le d 4 4 = 4096 ∧ 32 + le d 4 4 ≤ le d 24 4 ∧
         le d 8 8 = 0) ∧ ∃ src, s.physRead 0 4096 = some src) ∧
    (let s := ringState (compress 5)
     s.idleEngine 0 = some 0 ∧ s.ringReady 0 = true ∧ (∃ d, DescAt s 0 0 d ∧ 4 < le d 1 1 % 16)) ∧
    (let s : State := { ringState [] with eng := { fwqEnded := [(0, (0x22, 0))] } }
     SMap.find s.eng.fwqEnded (4096 * 0 + 0) = some (0x22, 0) ∧ s.ringHead 0 = 0 ∧ 1 < s.ringSize 0 ∧ s.ringSize 0 ≤ 4096 ∧ 0 < s.ringSize 0 ∧
       SMap.getD false s.eng.fwqBack (4096 * 0 + (0 + 1) % s.ringSize 0) = false) := by
  refine ⟨⟨by decide, ⟨_, .head _, .inr (by decide)⟩⟩, by decide, ⟨rfl, rfl, rfl, _, _, rfl, rfl, by decide, _, frame16_decodes, rfl⟩,
    ⟨by decide, by decide, by decide, by decide, ⟨_, ⟨rfl, rfl⟩, by decide⟩, dram_readable _ _ _ (by decide)⟩,
    ⟨by decide, by decide, _, ⟨rfl, rfl⟩, by decide⟩, by decide⟩

/-- A SHA-256 message of 64 bytes on engine 3, and one that has been absorbed. -/
def digCtx : DigCtx := { alg := 1, state := algInit 1, item := 2, engine := 4, ready := zeros 128, total := 64 }

set_option maxRecDepth 20000 in
theorem wit_DigestsAndKeys :
    (let s : State := { regs := [(rkey 0x003 0x048, 0x200000)] }; s.pageOn 0x198 = false) ∧
    (({} : State).pageOn 0x198 = true ∧ ({} : State).enabled 0x198 = false) ∧
    (let s : State := { regs := [(rkey 0x198 0x008, 1), (rkey 0x198 0x044, 0x120), (rkey 0x198 (ksOff 63), 0x80000000)] }
     s.pageOn 0x198 = true ∧ s.enabled 0x198 = true ∧ s.ksUsers 63 = 0 ∧ s.ksLocked 63 = false ∧ s.ksHold 63 = true ∧ s.fld 0x198 0x044 9 8 ≠ 0 ∧ s.fld 0x198 0x044 7 0 ≠ 0) ∧
    (let s : State := { regs := [(rkey 0x198 (ksOff 63), 0x20000000)] }; s.ksLoaded 63 = true ∧ s.ksLocked 63 = false) ∧
    (let s : State := { dig := { ctxs := [(9, digCtx)] } }
     (s.dig.ctxs.find? fun x => decide (x.2.engine = 3 + 1)) = some (9, digCtx) ∧ s.dig.ctxs = [(9, digCtx)] ∧ digCtx.absorb.done = false ∧ digCtx.hasBlock = true ∧
       (digCtx.absorb.final = true → digCtx.absorb.hasBlock = true)) ∧
    (let c : DigCtx := { digCtx with ready := zeros 64, final := true }; c.hasBlock = true ∧ c.absorb.done = true ∧ 0 < c.item) := by decide

/-- A table update of one record: write entry 5 of the instance's segment. -/
def update : Item :=
  { op := 0x0C, count := 1, outLen := 64, state := .running, wdata := [(3, 5), (4, 1)] }
/-- Bank 0 of the search unit on, with an update queued. -/
def srchState (p : List (Nat × Nat × SrchResult)) (sw : List (Nat × Nat)) : State :=
  { regs := [(rkey 0x010 0x008, 1), (rkey 0x1A0 0x008, 1)], cmd := { items := [(1, update)], next := 2 },
    insts := [(0, { inst0 with segs := 1 })],
    srch := { pipe := p, sweeps := sw, updQ := [1], clsSweeps := [(7, 3, 1)] } }

theorem wit_SearchUnit :
    (let s := srchState [(1, 7, {}), (0, 2, {})] []
     (takeFirst (fun (e : Nat × Nat × SrchResult) => decide (e.1 = 0)) s.srch.pipe).1 = some (0, 1 + 1, {}) ∧ s.item 1 = some update ∧
       update.finished = false) ∧
    ((takeFirst (fun (e : Nat × Nat × SrchResult) => decide (e.1 = 0)) (srchState [(0, 0, {})] []).srch.pipe).1 = some (0, 0, {}) ∧
      ({} : SrchResult).nMatch < 2 ^ 32) ∧
    (let s := srchState [] []
     s.item 1 = some update ∧ update.op = 0x0C ∧ nbit update.cflags 0 = false ∧ s.srchBank update = 0 ∧
       (s.srch.updQ.find? fun m => match s.item m with | some y => decide (s.srchBank y = 0) | none => false) = some 1 ∧
       s.bankOn 0 = true ∧ s.lowerSlots update = false ∧ s.slotLeft 0 .unbooked = true ∧ s.slotLeft 0 .update = true ∧
       { s with cad := { nowUs := 16 } }.fld 0x1A4 0x0A0 4 0 ≤ 16 ∧ (∃ e, updRecord update update.givenTo = (5, 1, e, true)) ∧
       5 < 4096 * (s.inst update.inst).segs) ∧
    ((srchState [] []).bankOn 0 = true ∧ { srchState [] [] with regs := (rkey 0x1F0 0x008, 1) :: (srchState [] []).regs }.mayPeriodic = true ∧
       { srchState [] [] with srch := { used := [(0, { ops := 936 })] } }.slotLeft 0 .unbooked = false ∧ (srchState [] []).srch.clsSweeps = [(7, 3, 1)]) ∧
    (let s := { srchState [] [(65536 + 9, 2)] with regs := [(rkey 0x010 0x008, 1), (rkey 0x1A1 0x008, 1)] }
     s.bankOn 1 = true ∧ s.slotLeft 1 .unbooked = true ∧ (takeFirst (fun (e : Nat × Nat) => decide (e.1 / 65536 = 1)) s.srch.sweeps).1 = some (65536 + 9, 2)) ∧
    (({ regs := [(rkey 0x003 0x048, 0x800000)] } : State).pageOn 0x1A4 = false) ∧
    (let s := { srchState [] [] with regs := [(rkey 0x010 0x008, 1), (rkey 0x1A0 0x008, 1), (rkey 0x1A4 0x008, 1)] }
     s.srch.fwOp = 0 ∧ s.pageOn 0x1A4 = true ∧ s.enabled 0x1A4 = true ∧ s.bankOn (4 % 4) = true ∧ s.slotLeft (4 % 4) .unbooked = true) := by
  repeat' apply And.intro
  all_goals first | rfl | decide | exact ⟨_, rfl⟩

/-- A firmware search latched for bank 0, whose window has 936 operations: the cap less the reserved update slots. -/
def fwWaiting : State := { srchState [] [] with
  regs := [(rkey 0x010 0x008, 1), (rkey 0x1A0 0x008, 1), (rkey 0x1A4 0x008, 1)], srch := { fwOp := 1, used := [(0, { ops := 936 })] } }

/-- R277, R294: it waits in that window and takes its slot in the next. -/
theorem test_search_window : fwWaiting.fwSlot.srch.fwSearched = false ∧ (fwWaiting.advance 1).srch.fwSearched = true ∧
    (fwWaiting.advance 1).srch.used = [(0, { ops := 1 })] := by decide

/-! ### Flash -/

/-- Registers of channel `1 + i`, whose die of slot 0 is good, programs one page at a time and may suspend 4 times. -/
def chanRegs (i : Nat) : SMap W32 :=
  [(rkey (0x081 + i) 0x008, 1), (rkey (0x081 + i) 0x04C, 0x04040000), (rkey (0x081 + i) 0x050, 2), (rkey (0x081 + i) 0x054, 0x100),
    (rkey (0x081 + i) 0x080, 0x81000000)]
/-- Channels 1 to 3, group 0 and the background scheduler are enabled. -/
def flashRegs : SMap W32 := chanRegs 0 ++ chanRegs 1 ++ chanRegs 2 ++ [(rkey 0x100 0x008, 1), (rkey 0x1F0 0x008, 1)]
/-- A state of the flash back end. -/
def flashWith (f : FlashSt) : State := { regs := flashRegs, flash := f, cad := { nowUs := 1000000000 } }
/-- Die 16 in a state. -/
def dieWith (x : Die) : State := flashWith { dies := [(16, x)], skeins := [(4, { left := [1, 2] })] }
/-- An operation of a kind for grain 3 of item 1. -/
def opOf (k : DieOpKind) : DieOp := { kind := k, who := some (.item 1), grain := 3, skein := 4 }
/-- The work of reading grain 3 from die 16, its codeword in a stage. -/
def readWork (c : Cw) : GrainWork := { grain := 3, mask := 1, entry := flashEntry 16 0 0 0 0 0 1, st := .sense, cws := [(0, c)] }
/-- A read of grain 3 from die 16. -/
def sensing (c : Cw) : Item := { op := 0x01, count := 1, state := .running, grains := [readWork c] }

theorem wit_DieOperations :
    (let s := dieWith { queue := [opOf .sense] }
     DieWorks s 16 ∧ (s.die 16).op = none ∧ (s.die 16).susp = none ∧
       bestOp (fun y => s.mayStart y && s.shareKept 16 y) (s.die 16).queue = some (opOf .sense)) ∧
    (let s := dieWith { op := some (opOf .program), queue := [opOf .sense] }
     DieWorks s 16 ∧ (s.die 16).op = some (opOf .program) ∧ (opOf .program).kind ≠ .sense ∧ (∃ q ∈ (s.die 16).queue, q.kind = .sense) ∧
       s.canSuspend 16 = true ∧ SMap.find s.flash.skeins (opOf .program).skein = some { left := [1, 2] }) ∧
    (let s : State := { dieWith { op := some (opOf .sense) } with cmd := { items := [(1, sensing { reads := [(16, {})] })] } }
     (s.die 16).op = some (opOf .sense) ∧ (s.die 16).susp = none ∧ (opOf .sense).kind = .sense ∧ (opOf .sense).who = some (.item 1) ∧
       s.gw (.item 1) 3 = some (readWork { reads := [(16, {})] })) ∧
    (let s := dieWith { op := some (opOf .erase), suspending := true, queue := [opOf .sense] }
     (s.die 16).suspending = true ∧ (s.die 16).op = some (opOf .erase) ∧ (∃ q ∈ (s.die 16).queue, q.kind = .sense) ∧
       (∀ q ∈ (s.die 16).queue, q.now = false) ∧ s.dieGood 16 = true ∧
       (s.die 16).resumeUs + 2 * s.fld (fcPage (dieCh 16)) 0x048 31 16 ≤ s.now) ∧
    (let s : State := { regs := [(rkey 0x081 0x008, 1), (rkey 0x081 0x080, 0x80000000)] }
     s.fld (fcPage 1) 0x008 0 0 = 1 ∧ s.fld (fcPage 1) (0x080 + 4 * 0) 31 31 = 1 ∧ s.dieState (16 * 1 + 0) = 0 ∧
       ([({ blocks := 100 } : DieIn)].getD 0 { answers := false }).answers = true) := by
  repeat' apply And.intro
  all_goals first | rfl | decide

/-- Grain 3 of item 1 is being decoded, with `tried` entries of the ladder behind it; the other members of its skein cannot give it. -/
def cwState (tried : Nat) : State :=
  { dieWith {} with cmd := { items := [(1, sensing { reads := [(16, { left := 0, tried := tried })] })] } }

theorem wit_ProgramsAndDecodes :
    (let s := dieWith { op := some (opOf .program) }
     let m : Move := { keys := [3], olds := [0] }
     let sk : Skein := { left := [1], moves := [m] }
     let t := flashWith { dies := [(16, { op := some (opOf .program) })], skeins := [(4, sk)] }
     let u := flashWith { dies := [(16, { op := some (opOf .program) })], skeins := [(4, { sk with failed := [2] })] }
     (s.die 16).op = some (opOf .program) ∧ SMap.find s.flash.skeins (opOf .program).skein = some { left := [1, 2] } ∧
       [1, 2].erase (dieCh 16) ≠ [] ∧ SMap.find t.flash.skeins (opOf .program).skein = some sk ∧ sk.left.erase (dieCh 16) = [] ∧
       t.segIsLost 3 = false ∧ SMap.find u.flash.skeins (opOf .program).skein = some { sk with failed := [2] } ∧
       (t.die 16).op = some (opOf .program) ∧ (u.die 16).op = some (opOf .program)) ∧
    (let d : DecodeIn := { item := 1, grain := 3, die := 16 }
     let c : Cw := { reads := [(16, { left := 0 })] }
     ∃ it, (cwState 0).item d.item = some it ∧ it.grains = [readWork c] ∧ d.grain = (readWork c).grain ∧ (readWork c).st = .sense ∧
       SMap.find (readWork c).cws d.cw = some c ∧ SMap.find c.reads d.die = some { left := 0 }) ∧
    (let e := flashEntry 16 0 0 0 0 0 1
     let next (s : State) (i : Nat) := policy (1000 * s.now) (s.retryNs 1 i) (s.rebuildNs e) (s.tEnd (.item 1) 0) (s.canRebuild e)
     next (cwState 0) 0 = .retry ∧ next (cwState 2) 2 = .fail ∧
       ∃ it, (cwState 2).item 1 = some it ∧ it.op = 0x01 ∧ it.finished = false) ∧
    (let c : Cw := { reads := [(32, { left := 0 })], rebuilding := true }
     let x : BgWork := { kind := .rebuild, keys := [3], gw := readWork c }
     let s := flashWith { bg := [(7, x)], map := [(3, flashEntry 16 0 0 0 0 0 1)] }
     SMap.find s.flash.bg 7 = some x ∧ x.gw.cws = [(0, c)] ∧ s.stillThere x.gw.entry 3 = true) := by
  refine ⟨by decide, ⟨_, rfl, rfl, by decide⟩, ⟨by decide, by decide, _, rfl, by decide⟩, by decide⟩

/-- A write's grain 2 of instance 0 whose frame is made. -/
def committing : Item :=
  { op := 0x02, count := 1, lba := 8, outLen := 4096, state := .running, asn := 5, grains := [{ grain := 2, mask := 1, st := .done, data := zeros 64 }] }

set_option maxRecDepth 20000 in
theorem wit_FlashMap :
    (flashWith { segLost := [(1, true)] }).segIsLost 2 = false ∧
    (let s : State := { regs := [(rkey 0x1D0 0x050, 0x40)], cmd := { items := [(1, committing)] } }
     s.segIsLost 2 = false ∧ s.item 1 = some committing ∧
       (∃ g, (committing.grains.find? fun x => decide (mapKey x.inst x.grain = 2)) = some g ∧ g.st = .done ∧
         s.lockedMask g.inst g.grain = 0 ∧ 0 < g.mask ∧ g.mask < 16 ∧ g.data ≠ [] ∧ s.mirrored g.inst = false ∧
         s.laterBlocks g.inst g.grain committing.asn = 0) ∧
       isWriting committing.op = true ∧ committing.finished = false ∧ s.replayed = true ∧ committing.beaten = [] ∧
       s.newerBlocks 2 committing.asn = 0) ∧
    (({} : State).mayBg .ckpt = false ∧ (flashWith {}).mayBg .ckpt = true ∧ SMap.getD false (flashWith {}).flash.segLost 0 = false) := by
  refine ⟨by decide, ⟨by decide, rfl, ⟨_, rfl, by decide⟩, by decide⟩, by decide⟩

/-- A cached grain with a full frame. -/
def cached : CacheRec := { grain := 0, mask := 15, made := 15, frame := frame16 }
/-- Dies of channels 1 to 3, slot 0. -/
def threeDies : SMap Die := [(16, { blocks := 100 }), (32, { blocks := 100 }), (48, { blocks := 100 })]
/-- The map has grain 0 in the cache, grain 1 on die 16, grains 2 and 3 on the dead die 64, of which grain 3 lies in a skein with die 16; one block of
die 16 is closed, and one is worn. -/
def bgFlash : FlashSt :=
  { dies := threeDies
    map := [(0, cacheEntry 0 1), (1, flashEntry 16 20 0 0 0 0 1), (2, flashEntry 64 0 0 0 0 0 1), (3, flashEntry 64 3 0 0 0 0 1)]
    recs := [(0, cached)], frames := [(frameKey (flashEntry 16 20 0 0 0 0 1), frame16)]
    skeins := [(0, { slot := 0, block := 3, members := [1, 4], data := [4], pchans := [1] })], nextSkein := 1
    blks := [(blkKey 16 20, { st := .closed }), (blkKey 16 21, { st := .free, erases := 100000 })] }
/-- Its state, with what is queued for the background. -/
def bgState (q : List Nat) : State :=
  { flashWith { bgFlash with refreshQ := q, rebuildQ := q, rereadQ := q } with
    regs := flashRegs.take 15 ++ [(rkey 0x100 0x008, 1), (rkey 0x100 0x060, 200), (rkey 0x1F0 0x008, 1)] }
/-- Block 21 of the dies of slot 0. -/
def freeBlock : Place := { block := 21 }

theorem xtsGo_length (f : List Byte → List Byte) (n t : Nat) (d : List Byte) : (xtsGo f n t d).length ≤ 16 * n := by
  induction n generalizing t d with
  | zero => simp [xtsGo]
  | succ n ih =>
    have h := ih (xtsNext t) (d.drop 16)
    simp only [xtsGo, xorBytes, List.length_append, List.length_zipWith, numBytes, List.length_map, List.length_range]
    omega

theorem unit_chans : ∀ q ∈ [[], [1]], (bgState q).enabled (grpPage freeBlock.group) = true ∧ unitChans (bgState q) freeBlock = [1, 2, 3] ∧
    dataChans (bgState q) freeBlock = [2, 3] ∧ ∀ c ∈ [1, 2, 3], (bgState q).unitLen c = 256 := by decide +kernel

/-- What short frames need of a place. -/
theorem can_place (q : List Nat) (hq : q ∈ [[], [1]]) (frame : List Byte) (h : frame.length ≤ 4096) :
    CanPlace (bgState q) freeBlock frame := by
  obtain ⟨e, u, d, l⟩ := unit_chans q hq
  refine ⟨e, by simp [d], ?_⟩
  rw [u]
  intro c hc
  rw [l c hc, cdiv]
  omega

theorem canRebuild_congr (s : State) (x e : W64) (h : frameKey x = frameKey e) : s.canRebuild x = s.canRebuild e := by
  have hd : eDie x = eDie e := by simp only [frameKey, nsetBits, nbits, eDie] at *; omega
  have hb : eBlock x = eBlock e := by simp only [frameKey, nsetBits, nbits, eBlock] at *; omega
  have hp : ePage x = ePage e := by simp only [frameKey, nsetBits, nbits, ePage] at *; omega
  simp [State.canRebuild, State.badMembers, State.others, State.memberThere, State.parityOf, State.skeinOf, hd, hb, hp]

/-- What garbage collection, wear levelling, scrub and calibration ask of the scheduler and of the blocks. -/
theorem wit_mediaTurns :
    let s := bgState []
    s.mayMedia 0 .collect = true ∧ s.mayMedia 0 .level = true ∧ s.mayMedia 0 .scrub = true ∧ s.mayMedia 0 .calibrate = true ∧
    s.mostErased { freeBlock with group := 0 } = true ∧ s.calDue 0 (s.blk (blkKey 16 20)) = true ∧
    (bgState [2]).mayMedia 0 .collect = false ∧ (bgState [2]).closedBlks 0 ≠ [] := by decide +kernel

theorem wit_BackgroundWork :
    (let s := bgState []
     s.pwr.pf = false ∧ freeBlock.group = s.drainGroup ∧ s.flash.units = [] ∧
       (s.flash.map.filter fun e => decide (eKind e.2 = 2)) = [(0, cacheEntry 0 1)] ∧ s.segIsLost 0 = false ∧
       nbit (s.inst (keyInst 0)).iflags 1 = false ∧ s.chain 0 = ([(0, cached)], 0) ∧ cached.mask = 15 ∧ cached.made = 15 ∧
       cached.poison = false ∧ cached.programming = false ∧ cached.frame ≠ []) ∧
    CanPlace (bgState []) freeBlock ((bgState []).cipher true (keyInst 0) (keyGrain 0) cached.frame) ∧
    (let s := bgState []
     let a : Nat × Blk := (blkKey 16 21, { st := .free, erases := 100000 })
     let b : Nat × Blk := (blkKey 16 20, { st := .closed })
     s.closedBlks 0 ≠ [] ∧ (∀ e ∈ s.flash.blks, e.2.st ≠ .pendingErase) ∧ a ∈ s.flash.blks ∧ b ∈ s.flash.blks ∧
       dieGroup (a.1 / 2 ^ 14) = 0 ∧ dieGroup (b.1 / 2 ^ 14) = 0 ∧ s.dieGood (a.1 / 2 ^ 14) = true ∧ s.dieGood (b.1 / 2 ^ 14) = true ∧
       a.2.st ≠ .retired ∧ b.2.st ≠ .retired ∧ b.2.erases + s.fld (grpPage 0) 0x050 31 16 < a.2.erases ∧
       (s.blk (blkKey 16 20)).st = .closed) := by
  refine ⟨by decide +kernel, can_place _ (.head _) _ ?_, by decide +kernel⟩
  exact Nat.le_trans (xtsGo_length _ _ _ _) (by decide)

theorem wit_repairs :
    (∀ q k, (bgState q).segIsLost k = false) ∧
    (let s := bgState [1]
     s.flash.readbackQ = [] ∧ 1 ∈ s.flash.refreshQ ∧ eKind (s.mapAt 1) = 1 ∧ s.moving (s.mapAt 1) = false ∧
       s.baseOf 1 = some (flashEntry 16 20 0 0 0 0 1) ∧ s.enabled (grpPage (dieGroup 16)) = true ∧ 1 ∈ s.flash.rereadQ ∧ s.dieGood 16 = true) ∧
    CanPlace (bgState [1]) freeBlock (mediaFrame (bgState [1]) 1) ∧
    (let s := bgState [2, 3]
     s.baseOf 2 = some (flashEntry 64 0 0 0 0 0 1) ∧ s.baseOf 3 = some (flashEntry 64 3 0 0 0 0 1) ∧ 2 ∈ s.flash.rebuildQ ∧
       3 ∈ s.flash.rebuildQ ∧ s.dieGood 64 = false ∧ eKind (s.mapAt 2) = 1) ∧
    (∀ x, frameKey x = frameKey (flashEntry 64 3 0 0 0 0 1) → (bgState [2, 3]).canRebuild x = true) ∧
    (∀ x, frameKey x = frameKey (flashEntry 64 0 0 0 0 0 1) → (bgState [2, 3]).canRebuild x = false) := by
  refine ⟨fun _ _ => rfl, by decide +kernel, can_place _ (.tail _ (.head _)) _ (by decide +kernel), by decide +kernel, fun x h => ?_, fun x h => ?_⟩
  · rw [canRebuild_congr _ _ _ h]; decide +kernel
  · rw [canRebuild_congr _ _ _ h]; decide +kernel

/-! ### Sealed record domain -/

/-- The SRD with its time running. -/
def srdOn (inbox : List (List Byte × Nat)) : SrdSt := { tstate := tsHoldover, inbox := inbox, sealKeys := [(0, 5)], srdId := 77 }
/-- A block with that SRD. -/
def srdState (inbox : List (List Byte × Nat)) : State := { srd := srdOn inbox }
/-- A seal message, without and with a lock of one block for a day. -/
def sealMsg0 : List Byte := [1] ++ zeros 63
def sealMsg1 : List Byte := [1, 1] ++ zeros 17 ++ [1] ++ zeros 3 ++ [1] ++ zeros 40
/-- A seal command that waits for firmware. -/
def sealing : Item := { op := 0x18, state := .queued }

theorem first_lock : (srdOn [(sealMsg1, 0)]).freeLock = some 0 := by
  rw [SrdSt.freeLock, show 4096 = 4095 + 1 from rfl, List.range_succ_eq_map]; rfl

theorem wit_SealRequests :
    ((srdState []).srd.powered = true ∧ (srdState []).srd.inbox.length < 16 ∧ 16 ≤ (srdState (List.replicate 16 (sealMsg0, 0))).srd.inbox.length) ∧
    (let s : State := { srdState [] with cmd := { items := [(1, sealing)] }, cad := { nowUs := 800 } }
     s.item 1 = some sealing ∧ isSeal sealing.op = true ∧ s.now ≤ sealing.startUs + 800 ∧ s.cmd.activating = 0) ∧
    (be sealMsg0 0 1 = 1 ∧ sealRefusal { srdState [(sealMsg0, 0)] with cad := { nowUs := 3501 } } ((srdOn [(sealMsg0, 0)]).tick 3) sealMsg0 0 ≠ 0 ∧
      0 < (srdState [(sealMsg0, 0)]).outFree) ∧
    (sealRefusal { srdState [(sealMsg0, 0)] with cad := { nowUs := 3500 } } ((srdOn [(sealMsg0, 0)]).tick 3) sealMsg0 0 = 0 ∧ be sealMsg0 1 1 % 2 = 0) ∧
    (sealRefusal (srdState [(sealMsg1, 0)]) (srdOn [(sealMsg1, 0)]) sealMsg1 0 = 0 ∧ srdOn [(sealMsg1, 0)] = (srdOn [(sealMsg1, 0)]).tick 0 ∧
      be sealMsg1 1 1 % 2 = 1 ∧ 1 < (srdState [(sealMsg1, 0)]).outFree) ∧
    (be ([2] ++ zeros 63) 0 1 = 2 ∧ srdMalformed ([2] ++ zeros 63) = false ∧ be ([3, 2] ++ zeros 62) 0 1 = 3 ∧ srdMalformed ([3, 2] ++ zeros 62) = false ∧
      (∃ d, (srdOn []).getData (be ([3, 2] ++ zeros 62) 1 1 % 4) 0 0 = some d) ∧ (srdOn []).getData (be ([3] ++ zeros 63) 1 1 % 4) 0 0 = none) := by
  refine ⟨by decide, ⟨rfl, by decide⟩, by decide, by decide, ⟨?_, rfl, by decide⟩, by decide, by decide, by decide, by decide, ⟨_, rfl⟩, by decide⟩
  have h : srdMalformed sealMsg1 = false := by decide
  simp only [sealRefusal, h, first_lock]; decide

theorem wit_SealTokenVerifies :
    (zeros 32).length = 32 ∧ (srdOn []).srdId < 2 ^ 64 ∧ (srdOn []).sealBreak < 2 ^ 32 ∧
    ({ srdOn [] with sealBreak := 3 } : SrdSt).srdId = (srdOn []).srdId ∧ (srdOn []).sealBreak ≤ ({ srdOn [] with sealBreak := 3 } : SrdSt).sealBreak ∧
    ({ srdOn [] with sealBreak := 3 } : SrdSt).sealKeyAt (srdOn []).sealBreak = (srdOn []).sealKeyAt (srdOn []).sealBreak ∧
    (srdOn []).sealKeyAt (srdOn []).sealBreak ≠ 0 := by decide

/-- A lock of the SRD that ends at the TAI second 1. -/
def lock1 : LockEnt := { inst := 0, lba := 8, count := 4, expiry := 1 }

theorem wit_SealMessages :
    (let s : State := { srd := { outbox := [{ type := 0x81, req := 6 }], waitCmd := [(6, (1, 0))] }, cmd := { items := [(1, sealing)] } }
     s.srd.outbox = [{ type := 0x81, req := 6 }] ∧ ({ type := 0x81, req := 6 } : OutMsg).type < 0x90 ∧ (∀ e ∈ s.srd.waitCmd, s.now ≤ e.2.2 + 4000) ∧
       SMap.find s.srd.waitCmd 6 = some (1, 0) ∧ s.item 1 = some sealing ∧ sealing.finished = false) ∧
    (∀ t ∈ [0x90, 0x91, 0x92, 0x93], ({ srd := { outbox := [{ type := t }] } } : State).srd.outbox = [{ type := t }]) ∧
    (let s : State := { srd := { srdOn [] with locks := [(4095, lock1)], time := 10 ^ 9 } }
     SMap.find s.srd.locks 4095 = some lock1 ∧ s.srd.powered = true ∧ s.srd.tstate ≠ tsUnset ∧ lock1.expiry * 10 ^ 9 < (s.srd.tick 1).time ∧
       (s.srd.tick 0).time ≤ lock1.expiry * 10 ^ 9 ∧ s.srd.time ≤ lock1.expiry * 10 ^ 9) := by
  refine ⟨by decide, fun _ _ => rfl, by decide⟩

theorem wit_SealedTime :
    (let s : State := { srd := { srdOn [] with loopHigh := [(0, 1)], jumpRun := 999, jumpLevel := true } }
     s.srd.powered = true ∧ SMap.getD 0 s.srd.loopHigh 0 = 1 ∧ SMap.getD false s.srd.loopCounted 0 = false ∧ 999 ≤ s.srd.jumpRun ∧
       s.srd.jumpLevel = !false) ∧
    (let x : SrdSt := { srdOn [] with pendTime := some (1700000000, 37), maxIssued := 1700000037000000000 }
     x.pendTime = some (1700000000, 37) ∧ (x.maxIssued : Int) ≤ (1700000000 + 37) * 10 ^ 9) ∧
    ((srdOn []).tstate = tsHoldover ∧ 9 ≤ ({ srdOn [] with goodPps := 9 } : SrdSt).goodPps ∧ (999 : Int).natAbs < 1000 ∧ (10 : Int) ^ 6 < 1000001) ∧
    (({ srdOn [] with tstate := tsDisciplined } : SrdSt).tstate = tsDisciplined) ∧
    (let x : SrdSt := { srdOn [] with time := 3600 * 10 ^ 9 }; x.lastHour < (x.tick 1).hour ∧ x.tstate ≠ tsUnset) ∧
    (let x : SrdSt := { srdOn [] with time := 10 ^ 9, pendLeap := some (0, 1) }
     x.pendLeap = some (0, 1) ∧ ((0 : Nat) : Int) ≤ (x.tick 1).utc ∧ (x.tick 1).leap ≤ 1) ∧
    ((({ chains := [(3, { head := zeros 32 })] } : SrdSt).chains.filter fun e => e.2.head ≠ []) ≠ []) := by decide

theorem wit_ConsoleCommands :
    (({} : State).srd.nonce = none ∧ ({} : State).srd.powered = true) ∧ Authorised { srd := { nonce := some (zeros 32) } } ∧
    (let x : SrdSt := { nonce := some (zeros 32), tenMhz := true, ppsPresent := true }
     x.tenMhz = true ∧ x.ppsPresent = true ∧ (x.maxIssued : Int) ≤ (0 + 37) * 10 ^ 9 ∧ x.leap ≤ 37 ∧ x.jumper = false ∧ x.sealBreak + 254 < 256) ∧
    (let x : SrdSt := { nonce := some (zeros 32), verify := true, jumper := true }; x.verify = true ∧ x.jumper = true) ∧
    (let x : SrdSt := { nonce := some (zeros 32), lcSeen := 1 }; x.lcSeen = 1 ∧ x.provisioned = false) :=
  ⟨⟨rfl, rfl⟩, ⟨rfl, _, rfl⟩, by decide, by decide, by decide⟩

/-! ### Knot -/

/-- Link 1 in a state; PEER class, a buddy, room for its mirror; instance 3 is placed on devices 0 and 1. -/
def knotRegs (st : W32) : SMap W32 :=
  [(rkey 0x040 0x0C4, 0x00640001), (rkey 0x040 0x0C8, 1), (rkey 0x041 0x008, 1), (rkey 0x041 0x040, st), (rkey 0x050 0x044, 0xC), (rkey knPlacePage 0 + 3, 0x3)]
/-- A state of the knot. -/
def knotWith (st : W32) (k : KnotSt) : State := { regs := knotRegs st, knot := k }
/-- The same with the home on device 2 and no buddy. -/
def noBuddy (k : KnotSt) (items : SMap Item) : State :=
  { regs := [(rkey 0x040 0x0C4, 0x00640000), (rkey 0x040 0x0CC, 0x200), (rkey 0x041 0x040, 3)], knot := k,
    host := { conns := [(5, conn13)] }, cmd := { items := items }, cad := { nowUs := 100 } }

theorem wit_KnotLinks :
    ((knotWith 0 {}).linkState 1 = 0 ∧ (knotWith 0 {}).klClass 1 = 3 ∧ 1 ≠ (knotWith 0 {}).selfId ∧ (knotWith 0 {}).enabled (klPage 1) = true) ∧
    (let s : State := { regs := [(rkey 0x050 0x044, 0xC)] }; s.linkState 1 = 0 ∧ s.klClass 1 = 3 ∧ 1 ≠ s.selfId ∧ s.enabled (klPage 1) = false) ∧
    ((knotWith 1 {}).linkState 1 = 1 ∧ ((knotWith 1 {}).link 1).half = false ∧ ((knotWith 1 { links := [(1, { half := true })] }).link 1).half = true) ∧
    ((knotWith 2 {}).linkState 1 = 2 ∧ (knotWith 2 {}).identOk 1 0x10 1 0 true = true ∧ (knotWith 2 {}).identOk 1 0x10 2 0 true = false) ∧
    ((knotWith 3 {}).linkUp 1 = true ∧ ((knotWith 3 {}).link 1).rxSeq = 0) ∧ ((knotWith 0 {}).linkUp 1 = false ∧ (knotWith 0 {}).hasBuddy = true ∧
      1 = (knotWith 0 {}).buddy) ∧
    ((noBuddy {} []).linkUp 1 = true ∧ losesPeer (noBuddy {} []) 1 (.peerTimeout 1) ∧ losesPeer (noBuddy {} []) 1 (.retrain 1) ∧ Untied (noBuddy {} []) 1) ∧
    (let s := noBuddy { fwd := [(1, 1)] } [(1, reader)]
     s.knot.fwd = [(1, 1)] ∧ s.knot.parts = [] ∧ s.home ≠ 1 ∧ s.hasBuddy = false ∧ s.item 1 = some reader ∧ reader.aborted = false ∧
       reader.outstanding = true ∧ CanTell s reader conn13) := by
  refine ⟨by decide, by decide, by decide, by decide, by decide, by decide, ⟨by decide, .inr (.inr ⟨rfl, by decide⟩), .inl rfl,
    ⟨nofun, nofun, by decide, by decide⟩⟩, ?_⟩
  repeat' apply And.intro
  all_goals first | rfl | decide

/-- A write that waits for its ASN, with its promise. -/
def asking : Item := { conn := 5, tag := 7, op := 0x02, inst := 3, count := 1, outLen := 4096 }
/-- Its state on a connection. -/
def askingState (x : Conn) : State :=
  { knotWith 3 { asnReqs := [{ item := 1 }] } with host := { conns := [(5, x)] }, cmd := { items := [(1, asking)], next := 2 } }
/-- A write with one forwarded part, and a read whose one grain is elsewhere. -/
def farWrite : Item := { op := 0x02, count := 1, state := .running, parts := 1 }
def farRead : Item := { op := 0x01, count := 1, lba := 5, state := .running, parts := 1, grains := [{ grain := 1, mask := 2 }] }

theorem wit_KnotCommands :
    ((knotWith 3 {}).home = (knotWith 3 {}).selfId ∧ (knotWith 3 {}).linkUp 1 = true ∧ (knotWith 3 {}).isKnot 3 = true ∧
      (knotWith 3 { granted := [(3, 9, 4, 4)] }).knotHazard 3 7 1 = true ∧ (knotWith 3 { granted := [(3, 9, 4, 4)] }).knotHazard 3 8 1 = false) ∧
    (let s := askingState conn13
     ∃ r, (s.knot.asnReqs.find? fun r => decide (r.item = 1)) = some r ∧ r.cancelled = false ∧ s.item 1 = some asking ∧ asking.aborters = 0 ∧
       CanSend s 5 conn13 ∧ s.hasPromise asking = true ∧ 0 < asking.outLen ∧ isReading asking.op = false) ∧
    (CanSend (askingState conn10) 5 conn10 ∧ (askingState conn10).hasPromise asking = false) ∧
    (let p : PartIn := { peer := 1, op := 0x01, inst := 3, lba := 0, count := 4 }
     let q : PartIn := { p with lba := 32, count := 4 }
     (knotWith 3 {}).linkUp p.peer = true ∧ p.abort = false ∧ ((knotWith 3 {}).partOwn p ≠ (knotWith 3 {}).partOwn q ∨ (knotWith 3 {}).partOwn p = true) ∧
       (knotWith 3 {}).partOwn { p with inst := 4 } = false ∧ ({ knotWith 3 {} with cmd := { resetting := true } } : State).cmd.resetting = true) ∧
    (let s (it : Item) : State := { knot := { fwd := [(1, 1)] }, cmd := { items := [(1, it)] } }
     (1, 1) ∈ (s farWrite).knot.fwd ∧ (s farWrite).item 1 = some farWrite ∧ farWrite.aborted = false ∧ farWrite.finished = false ∧
       farWrite.outstanding = true ∧ farWrite.grains = [] ∧ farWrite.parts = 1 ∧ farWrite.firstFail = 0 ∧
       ({ farWrite with op := 0x05 } : Item).op = 0x05 ∧ stPeerLost ≠ 0 ∧ stPeerLost ≠ stRetentionLocked ∧
       grainsOf 5 1 = [(1, 2)] ∧ farRead.grains = [{ grain := 1, mask := 2 }]) ∧
    (1 = (knotWith 3 {}).buddy ∧ (knotWith 3 {}).hasBuddy = true ∧ (zeros 64).length ≤ (knotWith 3 {}).mirrorRoom ∧
      (knotWith 3 {}).newerBlocks (mapKey 3 1) 0 = 0 ∧ (knotWith 3 {}).cacheRec 4 = none ∧ (knotWith 3 {}).linkUp (knotWith 3 {}).buddy = true) := by
  refine ⟨by decide, ⟨_, rfl, rfl, rfl, rfl, ?_, by decide⟩, ⟨?_, by decide⟩, by decide, ?_, by decide⟩
  all_goals repeat' apply And.intro
  all_goals first | rfl | decide

/-! ### Power, resets, temperature, telemetry -/

/-- The device in a power-fail phase, with a dump begun. -/
def failing (phase : W32) (p : PwrSt) : State :=
  { regs := [(rkey 0x003 0x054, phase)], pwr := { p with pf := true }, otp := { dump := some {} } }

theorem wit_PowerFail :
    (({ pwr := { pwrGood := true } } : State).pwr.pf = false) ∧ ((failing 1 {}).pwr.pf = true ∧ (failing 1 {}).pwr.frozen = false) ∧
    (let s := failing 2 { frozen := true }; s.pwr.frozen = true ∧ s.phase = 2 ∧ s.otp.dump = some {}) ∧
    ((failing 3 {}).phase = 3 ∧ (failing 3 {}).pwr.dumpBad = false ∧ (failing 3 {}).pwr.mainWait = false) ∧
    (let s := failing 4 { pwrGood := true, sysResetN := true }; s.phase = 4 ∧ s.pwr.pwrGood = true ∧ s.pwr.sysResetN = true) := by decide

theorem fc_rows : ∀ i, i < 16 → ∀ r ∈ blkRows .fc, r.covers (0x080 + 4 * i) = true → r.first = false := by decide +kernel
theorem fc_page : ∀ c, c < 128 → pageBlk (0x080 + c) = some (.fc, 0x080) := by decide +kernel
theorem fc_reset : ∀ i, i < 16 →
    nbits (BitVec.ofNat 32 (((blkRows .fc).filter fun r => r.covers (0x080 + 4 * i)).foldl (fun a r => a + r.reset * 2 ^ r.lo) 0)).toNat 25 24 = 0 := by
  decide +kernel

/-- The reset value of a word, by its page and offset. -/
theorem regReset_rows (k p o : Nat) (hp : k / 1024 = p) (ho : k % 1024 * 4 = o) (h : ¬knPlacePage * 1024 ≤ k) :
    regReset k = BitVec.ofNat 32 ((pageRows p o).foldl (fun a r => a + r.reset * 2 ^ r.lo) 0) := by
  subst hp ho
  unfold regReset
  split
  · contradiction
  · rfl

set_option maxRecDepth 20000 in
/-- A die whose word is not listed is absent. -/
theorem unlisted_die (s : State) (c i : Nat) (hc : c < 128) (hi : i < 16) (h : SMap.find s.regs (rkey (0x080 + c) (0x080 + 4 * i)) = none) :
    s.dieState (16 * c + i) = 0 := by
  have e1 : dieCh (16 * c + i) = c := by simp only [dieCh]; omega
  have e2 : dieSlot (16 * c + i) = i := by simp only [dieSlot]; omega
  have f : pageRows (0x080 + c) (0x080 + 4 * i) = (blkRows .fc).filter fun r => r.covers (0x080 + 4 * i) := by
    simp only [pageRows, fc_page c hc]
    have n : (0x080 + 4 * i < 0x40) = False := by simp; omega
    simp only [n, decide_false, Bool.and_false, Bool.false_eq_true, if_false, List.nil_append]
    refine List.filter_congr fun r hr => ?_
    cases hcov : r.covers (0x080 + 4 * i) with
    | false => simp
    | true =>
      have := fc_rows i hi r hr hcov
      have n1 : ¬(0x080 + c = 0x00F) := by omega
      have n2 : ¬(0x080 + c = 0x022) := by omega
      have n3 : ¬(0x080 + c = 0x024) := by omega
      have n4 : ¬(0x080 + c = 0x026) := by omega
      simp [this, n1, n2, n3, n4]
  have k1 : (rkey (0x080 + c) (0x080 + 4 * i)) / 1024 = 0x080 + c := by simp only [rkey]; omega
  have k2 : (rkey (0x080 + c) (0x080 + 4 * i)) % 1024 * 4 = 0x080 + 4 * i := by simp only [rkey]; omega
  have k3 : ¬ knPlacePage * 1024 ≤ rkey (0x080 + c) (0x080 + 4 * i) := by simp only [rkey, knPlacePage]; omega
  have w : s.reg (fcPage c) (0x080 + 4 * i) = regReset (rkey (0x080 + c) (0x080 + 4 * i)) := by
    simp only [State.reg, State.regAt, SMap.getD, fcPage, h, Option.getD_none]
  have z := fc_reset i hi
  rw [← f] at z
  rw [← regReset_rows _ _ _ k1 k2 k3, ← w] at z
  simp only [State.dieState, State.fld, e1, e2, fget]
  exact z

/-- The good dies where die 16's word alone is listed. -/
theorem one_good (s : State) (hl : ∀ c i, c < 128 → i < 16 → 16 * c + i ≠ 16 → SMap.find s.regs (rkey (0x080 + c) (0x080 + 4 * i)) = none)
    (hg : s.dieGood 16 = true) : s.allGood = [16] := by
  have good : ∀ e, e < 2048 → s.dieGood e = decide (e = 16) := by
    intro e he
    by_cases h : e = 16
    · subst h; simpa using hg
    · have := unlisted_die s (e / 16) (e % 16) (by omega) (by omega) (hl _ _ (by omega) (by omega) (by omega))
      rw [show 16 * (e / 16) + e % 16 = e by omega] at this
      simp [State.dieGood, this, h]
  have : s.allGood = (List.range 4).flatMap fun g => ((List.range 512).map (· + 512 * g)).filter fun e => decide (e = 16) := by
    refine List.flatMap_congr fun g hg => List.filter_congr fun e he => good e ?_
    simp only [List.mem_range, List.mem_map] at hg he
    omega
  rw [this]; decide +kernel

/-- One good die, and no buddy. -/
def dumping : State :=
  { failing 2 { frozen := true } with regs := (rkey 0x003 0x054, 2) :: chanRegs 0, flash := { dies := [(16, { reserve := [5, 6] })] } }

theorem wit_dumpStart :
    dumping.pwr.frozen = true ∧ dumping.phase = 2 ∧ dumping.otp.dump = some {} ∧ dumping.hasBuddy = false ∧ dumping.allGood = [16] ∧
      0 ∉ dumping.allGood := by
  have a : dumping.allGood = [16] := by
    refine one_good dumping (fun c i hc hi h => ?_) (by decide)
    simp only [dumping, chanRegs, SMap.find, rkey]
    repeat rw [if_neg (by omega)]
  rw [a]
  decide

theorem wit_PowerUpAndResets :
    (let p : PwrSt := { supplyAon := true, sysResetN := true }; p.supplyAon = true ∧ p.sysResetN = true ∧ p.pf = false) ∧
    (let p : PwrSt := { sysResetN := false, pwrGood := true }; p.sysResetN = false ∧ p.pwrGood = true ∧ p.pf = false) ∧
    (let p : PwrSt := { sysResetN := true, pwrGood := true, pfailN := true }; p.pfailN = true ∧ p.pf = false) ∧
    (∀ e ∈ stageDoms, ({ pwr := { seq := e.1 } } : State).pwr.seq = e.1) ∧
    (let s : State := { pwr := { seq := 11 }, regs := [(rkey 0x002 0x048, 0x80000000), (rkey 0x004 0x040, 0x80000000)] }
     s.pwr.seq = 11 ∧ s.fld 0x002 0x048 31 31 = 1 ∧ s.fld pgClk 0x040 31 31 = 1) ∧
    (let p : PwrSt := { pwrGood := true }; p.aonLost = false ∧ p.pf = false ∧ p.seq = 0 ∧ (-500 : Int).natAbs ≤ 500 ∧ 500 < (501 : Int).natAbs) ∧
    (let s : State := { cmd := { resetting := true, items := [(1, { state := .reported })] } }
     s.cmd.resetting = true ∧ ∀ e ∈ s.cmd.items, e.2.outstanding = false) := by decide

/-- A sample with every sensor at a temperature in sixteenths of a degree. -/
def hot (t : Int) : ThermIn := { temps := List.replicate 64 (some t) }
/-- The device as it samples, long after the last descent; it throttles at 95 °C. -/
def sampled : State := { regs := [(rkey 0x006 0x040, 0x00005F00), (rkey 0x010 0x058, 0x0007D000)] }

set_option maxRecDepth 20000 in
theorem sampled_hot : (sampled.thermSample (hot 1600)).2 = degC 100 ∧ (sampled.thermSample (hot 1792)).2 = degC 112 := by decide

theorem wit_ThermalAndDomains :
    (sampled.step' < 15 ∧ sampled.sinceDescent = 2000 ∧ degC (sampled.fld pgTherm 0x040 15 8 : Nat) ≤ (sampled.thermSample (hot 1600)).2 ∧
      (sampled.thermSample (hot 1600)).2 < degC 112) ∧
    (sampled.therm.latched = false ∧ sampled.pwr.pf = false ∧ degC 112 ≤ (sampled.thermSample (hot 1792)).2) ∧
    (let s (held : W32) : State := { regs := [(rkey 0x006 0x058, 5 + held)], therm := { rising := true } }
     (s 0).therm.rising = true ∧ (s 0).step' ≠ 0 ∧ (s 0).stepHeld = false ∧ (s 0x20).stepHeld = true ∧
       ({} : State).therm.rising = false) ∧
    (let s (req : W32) : State := { regs := [(rkey 0x003 0x040, req), (rkey 0x003 0x050, 0x1000)] }
     nbit ((s 0).fld pgPwr 0x050 23 0) 12 = true ∧ (s 0).domIdle 12 = true ∧ (s 0).domClean 12 = true ∧
       nbit (({} : State).fld pgPwr 0x050 23 0) 12 = false) ∧
    (({ regs := [(rkey 0x003 0x048, 0x30)] } : State).domStat 2 = 3 ∧ ({ regs := [(rkey 0x003 0x040, 0x20)] } : State).domReq 2 ≠ 0 ∧
      ({ pwr := { pf := true } } : State).pwr.pf = true ∧ ({ regs := [(rkey 0x003 0x048, 0)] } : State).domStat 2 ≠ 3) := by
  rw [sampled_hot.1, sampled_hot.2]; decide

/-- A connection on which an event of code 3 waits. -/
def telling : Conn := { conn13 with evPending := [(3, [1])] }

theorem wit_TelemetryAndTest :
    (CanSend (hostWith telling {}) 5 telling ∧ telling.state = .established ∧ (telling.evPending.find? fun e => decide (e.1 = 3)) = some (3, [1]) ∧
      SMap.getD 0 (hostWith telling {}).tel.asyncLast (64 * 5 + 3) = 0) ∧
    (let s : State := { hostWith telling {} with tel := { asyncLast := [(323, 1)] } }
     0 < SMap.getD 0 s.tel.asyncLast (64 * 5 + 3) ∧ s.now + 1 < SMap.getD 0 s.tel.asyncLast (64 * 5 + 3) + 1000) ∧
    (({ regs := [(rkey 0x1E0 0x008, 1)] } : State).enabled 0x1E0 = true ∧ ({} : State).enabled 0x1E0 = false ∧ ({} : State).enabled 0x1F0 = false) ∧
    (let s : State := { regs := [(rkey 0x010 0x008, 1), (rkey 0x1F0 0x008, 1), (rkey 0x1F0 0x040, 10)] }
     s.enabled 0x1F0 = true ∧ FellShort s [(2199, 0)] ∧ ¬FellShort s []) ∧
    (0x12 ∉ [0x00, 0x01, 0x02, 0x08, 0x09, 0x10, 0x11, 0x20, 0x3F] ∧ ({} : State).otp.testEn = false ∧ ({ otp := { testEn := true } } : State).otp.testEn = true) := by
  refine ⟨⟨⟨rfl, by decide, rfl, rfl⟩, rfl, rfl, by decide⟩, by decide, by decide, ⟨by decide, .inr ⟨(2199, 0), by decide⟩, ?_⟩, by decide⟩
  rintro (h | ⟨e, h, -⟩)
  · exact absurd h (by decide)
  · simp at h

/-! ### The whole machine -/

theorem wit_StepRunsFront :
    ({ pending := [.snap, .tapReset] } : State).pending = .snap :: [.tapReset] ∧ ({} : State).pending = [] := ⟨rfl, rfl⟩

theorem wit_StepKeepsMemoryForm : Memory.wf State.reset = true ∧ ∃ t, step { State.reset with pending := [.snap] } = .next t := ⟨rfl, _, rfl⟩

theorem wit_SealedStoreStands : (∃ t, exec .tapReset State.reset = .next t) ∧ storeRow .tapReset = false := ⟨⟨_, rfl⟩, rfl⟩

/-! ### Single steps, with results from the spec -/

/-- The state a command leaves. -/
def after (i : Instr) (s : State) : State := match exec i s with
  | .next t => t
  | .fault _ => s
  | .refused _ => s

/-- Example under R21: data memory byte 0x0400 of core 3 in SC07. -/
theorem test_window : place18 0xE0007310400 = .dmem 87 0x400 := by decide

/-- Example under R212: buffer 200 of pool 3. -/
theorem test_handle : mkHandle 3 200 = 0x300000C8 ∧ ({} : State).bufOff (mkHandle 3 200) = 0x8C80000 := by decide

/-- Example under R376: an address with all eight channels. -/
theorem test_dram_channel : (dramState [] []).dramLoc 0x1234567F40 = (1, 0x2468ACF40) := by decide

/-- Example under R512: a margin of 82 us. -/
theorem test_margin : marginBin 82 = 7 ∧ marginBin 0 = 0 ∧ marginBin (2 ^ 40) = 31 := by decide

/-- R33: the first transaction after reset is 1. -/
theorem test_begin : (after (.begin 0x18) State.reset).txnId = 1 ∧ (after (.begin 0x18) State.reset).txnState = 1 := by decide

/-- R24: page 0x051 is not assigned. -/
theorem test_unassigned : SMap.getD {} (after (.registerWrite 0 0x51000 4 1 false) State.reset).resp 0 = { ok := false, code := 7, value := 0 } := by decide

/-- R9: a register access is 32 bits wide. -/
theorem test_width : (SMap.getD {} (after (.registerWrite 0 0x10014 2 1 false) State.reset).resp 0).code = 1 := by decide

/-- R305: NEG of 0x80000000; the result stands and V is set. -/
theorem test_neg : ((after (.neg 256 always 1 2) (ctlWith { ctlCore with g := [(2, 0x80000000)] })).core 256).rg 1 = 0x80000000 ∧
    ((after (.neg 256 always 1 2) (ctlWith { ctlCore with g := [(2, 0x80000000)] })).core 256).v = true := by decide

/-- R305: NEGS saturates. -/
theorem test_negs : ((after (.negs 256 always 1 2) (ctlWith { ctlCore with g := [(2, 0x80000000)] })).core 256).rg 1 = 0x7FFFFFFF := by decide

/-- R305: division by 0. -/
theorem test_div_zero : ((after (.div 256 always 1 2 4) ctlState).core 256).rg 1 = 0x7FFFFFFF ∧
    ((after (.div 256 always 1 2 4) ctlState).core 256).dz = true := by decide

/-- R305: REMU by 0 gives the dividend. -/
theorem test_remu_zero : ((after (.remu 256 always 1 2 4) ctlState).core 256).rg 1 = 7 := by decide

/-- R307: a shift by 32 or more, of which bits above 7 do not count. -/
theorem test_shift : ((after (.shl 256 always 1 2 3) (ctlWith { ctlCore with g := [(2, 7), (3, 32)] })).core 256).rg 1 = 0 ∧
    ((after (.shl 256 always 1 2 3) (ctlWith { ctlCore with g := [(2, 7), (3, 0x101)] })).core 256).rg 1 = 14 := by decide

/-- R307: ROT goes right. -/
theorem test_rot : ((after (.rot 256 always 1 2 3) (ctlWith { ctlCore with g := [(2, 1), (3, 33)] })).core 256).rg 1 = 0x80000000 := by decide

/-- R299: g0 reads as 0 and discards writes. -/
theorem test_g0 : ((after (.add 256 always 0 2 3) ctlState).core 256).rg 0 = 0 := by decide

set_option maxRecDepth 20000 in
/-- Example under R484: slots 0 and 1 of PORT_AUTH good, slot 2 failed. -/
theorem test_fuse_slots :
    (let s : State := { otp := { fuses := [(20, slotWith 4 1), (21, slotWith 4 2), (22, 1)] } }
     s.activeSlot 4 = some 1 ∧ s.slotsUsed 4 = 3) := by decide

/-- R126: the calendar moves. -/
theorem test_calendar : (after (.calendarSlotAdvance 7) State.reset).now = 7 := by decide

/-- The block idles on an empty queue. -/
theorem test_idle : step State.reset = .next State.reset := rfl

/-- A queue runs first in, first out. -/
theorem test_queue : (match step { State.reset with pending := [.aonClkLoss, .tapReset] } with
    | .next t => decide (t.pending = [.tapReset]) && t.pwr.aonLost
    | .fault _ => false
    | .refused _ => false) = true := by decide

end Sys2Proof.Tests
end

section
/-! Proofs of the family of register pages: accesses that reach no page (R24, R28), and the opening of a transaction (R33). -/

namespace Sys2Proof.Machine
open Sys2Proof Sys2Proof.Claims

/-! ### Answers and saturating counters: what reading after writing gives -/

/-- A requester's last response is the one just remembered. -/
theorem State.answer_getD_same (s : State) (req : Nat) (r : BusResp) : SMap.getD {} (s.answer req r).resp req = r := by
  simp [State.answer, SMap.getD_setD]

@[simp] theorem State.answer_pageOn (s : State) (req page : Nat) (r : BusResp) : (s.answer req r).pageOn page = s.pageOn page := rfl

theorem State.count_regAt_other (s : State) (page off k : Nat) (h : k ≠ rkey page off) : (s.count page off).regAt k = s.regAt k := by
  simp [State.count, State.countN, State.setReg, regAt_setRegAt, h]

theorem regsBut_count (s : State) (page off : Nat) : RegsBut s (s.count page off) [rkey page off] := fun k hk =>
  s.count_regAt_other page off k (by simpa using hk)

/-- A saturating sum fits the counter's width. -/
theorem satAdd_lt (n a b : Nat) : satAdd n a b < 2 ^ n :=
  (Nat.min_le_right _ _).trans_lt (Nat.sub_lt (Nat.two_pow_pos n) Nat.one_pos)

theorem State.count_reg_toNat (s : State) (page off : Nat) :
    ((s.count page off).reg page off).toNat = satAdd 32 (s.reg page off).toNat 1 := by
  simp only [State.count, State.countN, reg_setReg_same, BitVec.toNat_ofNat, Nat.mod_eq_of_lt (satAdd_lt 32 _ _)]

/-! ### Which pages an access reaches (R24, R28) -/

theorem State.pageOn_of_pd00 (s : State) {page : Nat} (h : pageDomain page = 0) : s.pageOn page = true := by
  simp [State.pageOn, h]

/-- `PWR.ERR_CNT` is none of the words of `DOM_STAT`. -/
@[simp] theorem State.count_errCnt_domStat (s : State) (d : Nat) : (s.count 0x003 0x020).domStat d = s.domStat d := by
  have hkey : rkey 0x003 (0x048 + 4 * (d / 16)) ≠ rkey 0x003 0x020 := by simp only [rkey]; omega
  simp only [State.domStat, State.fld, State.reg, State.count_regAt_other _ _ _ _ hkey]

@[simp] theorem State.count_errCnt_pageOn (s : State) (page : Nat) : (s.count 0x003 0x020).pageOn page = s.pageOn page := by
  simp only [State.pageOn, State.count_errCnt_domStat]

theorem State.busCheck_of_unassigned (s : State) (req off width : Nat) {page : Nat} (h : pageBlk page = none) :
    s.busCheck req page off width = .error (s, busErr 7) := by
  simp [State.busCheck, h]

theorem State.busCheck_of_pageOff (s : State) (req off width : Nat) {page : Nat} (hb : pageBlk page ≠ none)
    (hoff : s.pageOn page = false) : s.busCheck req page off width = .error (s.count 0x003 0x020, busErr 7) := by
  obtain ⟨b, hb⟩ := Option.ne_none_iff_exists'.1 hb
  simp [State.busCheck, hb, hoff]

/-- A page that nobody can reach finds no parity error (R30). -/
theorem State.parityHit_of_unreachable (s : State) (page off : Nat) (h : pageBlk page = none ∨ s.pageOn page = false) :
    s.parityHit page off = s := by
  rcases h with h | h <;> simp [State.parityHit, h]

/-! ### What the three commands of the family are -/

theorem exec_registerWrite (req off width : Nat) (v : W32) (par : Bool) (s : State) :
    exec (.registerWrite req off width v par) s = execRegisterWrite req off width v par s := rfl

theorem exec_regacc (write : Bool) (off : Nat) (v : W32) (s : State) : exec (.regacc write off v) s = .next (s.regacc write off v) := rfl

theorem exec_begin_of_goodReq (s : State) {req : Nat} (hg : goodReq req = true) : exec (.begin req) s = .next (s.txnBegin req) :=
  congrArg Host.Outcome.next (if_pos hg)

/-! ### An access that the common checks refuse leaves the state they answer, with the response remembered -/

section
variable {s u : State} {req page off width : Nat} {r : BusResp}

theorem State.regLoad_of_busCheck_error (ho : off < 4096) (h : s.busCheck req page off width = .error (u, r)) :
    s.regLoad req (4096 * page + off) width = (u.answer req r, r) := by
  have hpage : (4096 * page + off) / 4096 = page := by omega
  have hoff : (4096 * page + off) % 4096 = off := by omega
  simp only [State.regLoad, State.busRead, hpage, hoff, h]

theorem State.regStore_of_busCheck_error (v : W32) (ho : off < 4096) (h : s.busCheck req page off width = .error (u, r)) :
    s.regStore req (4096 * page + off) width v = (u.answer req r, r) := by
  have hpage : (4096 * page + off) / 4096 = page := by omega
  have hoff : (4096 * page + off) % 4096 = off := by omega
  simp only [State.regStore, State.busWrite, hpage, hoff, h]

/-- The register write, whether or not the surroundings report a parity error. -/
theorem exec_registerWrite_of_busCheck_error (v : W32) (par : Bool) (hg : goodReq req = true) (hp : page < 4096) (ho : off < 4096)
    (h : s.busCheck req page off width = .error (u, r)) (hu : pageBlk page = none ∨ u.pageOn page = false) :
    exec (.registerWrite req (4096 * page + off) width v par) s = .next (u.answer req r) := by
  have hpage : (4096 * page + off) / 4096 = page := by omega
  have hin : 4096 * page + off < 2 ^ 24 := by omega
  have hpar : (u.answer req r).parityHit page ((4096 * page + off) % 4096) = u.answer req r :=
    State.parityHit_of_unreachable _ _ _ (by simpa using hu)
  simp only [exec_registerWrite, execRegisterWrite, State.regStore_of_busCheck_error v ho h, hg, hin, hpage, hpar, and_self,
    if_true, ite_self]

/-- A read through `REGACC` outside the life cycles that close it (R493, R532). -/
theorem exec_regacc_read_of_busCheck_error (v : W32) (hir : s.jtag.ir = 0x20) (h2 : s.lc ≠ 2) (h4 : s.lc ≠ 4) (hp : page < 4096)
    (ho : off < 4096) (ha : off % 4 = 0) (hr : r.ok = false) (h : s.busCheck reqJtag page off 4 = .error (u, r)) :
    exec (.regacc false (4096 * page + off) v) s =
      .next { u.answer reqJtag r with jtag := { u.jtag with done := true, err := true, data := 0 } } := by
  have hword : (4096 * page + off) % 2 ^ 24 / 4 * 4 = 4096 * page + off := by omega
  simp only [exec_regacc, State.regacc, hir, h2, h4, hword, State.regLoad_of_busCheck_error ho h, hr, State.answer_jtag,
    ne_eq, not_true_eq_false, or_self, or_true, Bool.not_false, Bool.false_eq_true, if_true, if_false]

end

/-! ### Accesses to unreachable pages -/

/-- Settles O21: both accesses pass through the common checks, which answer an error before anything is read or written. -/
theorem unreachablePages : Obligations.UnreachablePages := by
  intro s page off hp ho
  refine ⟨fun req width v par hg => ⟨fun hnone => ?_, fun hblk hoff => ?_⟩,
    fun v hir h2 h4 ha => ⟨fun hnone => ?_, fun hblk hoff => ?_⟩, s.pageOn_of_pd00⟩
  · exact ⟨_, exec_registerWrite_of_busCheck_error v par hg hp ho (s.busCheck_of_unassigned req off width hnone) (.inl hnone),
      State.answer_touch, congrArg BusResp.ok (State.answer_getD_same ..)⟩
  · exact ⟨_, exec_registerWrite_of_busCheck_error v par hg hp ho (s.busCheck_of_pageOff req off width hblk hoff)
        (.inr (by simpa using hoff)),
      State.answer_touch.on rfl (State.count_touch.on rfl .refl), regsBut_count s _ _,
      congrArg BusResp.ok (State.answer_getD_same ..), s.count_reg_toNat _ _⟩
  · exact ⟨_, exec_regacc_read_of_busCheck_error v hir h2 h4 hp ho ha rfl (s.busCheck_of_unassigned reqJtag off 4 hnone),
      (State.answer_touch.on rfl .refl).upd_jtag rfl, rfl⟩
  · exact ⟨_, exec_regacc_read_of_busCheck_error v hir h2 h4 hp ho ha rfl (s.busCheck_of_pageOff reqJtag off 4 hblk hoff),
      (State.answer_touch.on rfl (State.count_touch.on rfl .refl)).upd_jtag rfl, regsBut_count s _ _, rfl, s.count_reg_toNat _ _⟩

/-! ### The opening of a transaction (R33) -/

/-- The ID of the transaction that the next `BEGIN` opens: the last one plus 1, skipping 0. -/
def State.nextTxnId (s : State) : Nat := if s.txnId = 0xFFFF then 1 else s.txnId + 1

theorem State.txnId_lt (s : State) : s.txnId < 2 ^ 16 := Nat.mod_lt _ (Nat.two_pow_pos 16)

theorem State.nextTxnId_lt (s : State) : s.nextTxnId < 2 ^ 16 := by
  have := s.txnId_lt
  unfold State.nextTxnId
  split <;> omega

/-- A `BEGIN` in IDLE writes the whole of `TXN_STAT`: ID, OWNER, RESULT 0, STATE 1. -/
theorem State.txnBegin_of_idle (s : State) (req : Nat) (h : s.txnState = 0) :
    s.txnBegin req = s.setReg 0x001 0x044 (BitVec.ofNat 32 (2 ^ 16 * s.nextTxnId + req * 2 ^ 8 + 1)) := by
  have hlast : s.txnId ≥ 0xFFFF ↔ s.txnId = 0xFFFF := by have := s.txnId_lt; omega
  simp [State.txnBegin, State.nextTxnId, h, hlast]

/-- The fields of a word that carries an ID, an OWNER, RESULT 0 and STATE 1. -/
theorem nbits_openTxn {id req : Nat} (hid : id < 2 ^ 16) (hreq : req < 2 ^ 8) :
    nbits (2 ^ 16 * id + req * 2 ^ 8 + 1) 31 16 = id ∧ nbits (2 ^ 16 * id + req * 2 ^ 8 + 1) 15 8 = req ∧
    nbits (2 ^ 16 * id + req * 2 ^ 8 + 1) 7 4 = 0 ∧ nbits (2 ^ 16 * id + req * 2 ^ 8 + 1) 1 0 = 1 := by
  simp only [nbits]
  omega

/-- A field of `TXN_STAT` after a `BEGIN` in IDLE. -/
theorem State.fld_txnBegin_of_idle (s : State) (req hi lo : Nat) (h : s.txnState = 0) (hhi : hi < 32) (hlo : lo ≤ hi) :
    (s.txnBegin req).fld 0x001 0x044 hi lo = nbits (2 ^ 16 * s.nextTxnId + req * 2 ^ 8 + 1) hi lo := by
  rw [s.txnBegin_of_idle req h, fld_setReg, fget_ofNat _ _ _ hhi hlo]

/-- Settles O22: the four fields are read back from the word that `BEGIN` writes. -/
theorem beginOpensTransaction : Obligations.BeginOpensTransaction := by
  intro s req hg hidle
  have hreq : req ≤ 0x19 := of_decide_eq_true hg
  obtain ⟨hid, howner, hresult, hstate⟩ := nbits_openTxn s.nextTxnId_lt (show req < 2 ^ 8 by omega)
  have field {hi lo : Nat} := s.fld_txnBegin_of_idle req hi lo hidle
  exact ⟨_, exec_begin_of_goodReq s hg, (field (by decide) (by decide)).trans hid, (field (by decide) (by decide)).trans howner,
    (field (by decide) (by decide)).trans hresult, (field (by decide) (by decide)).trans hstate⟩

end Sys2Proof.Machine
end

section
/-! Proofs of the family of the Nollek instruction set: the division by 0 that traps (R306), and what a fault leaves of the core it
stops (R327, R330, R355). -/

namespace Sys2Proof.Machine
open Sys2Proof Sys2Proof.Claims

/-! ### Operations that write no core -/

theorem Touch.core_eq {f : Foot} {s t : State} (h : Touch f s t) (hf : f.cores = false) (c : Nat) : t.core c = s.core c := by
  rw [State.core, h.cores hf, State.core]

/-! ### A scan that stops: what becomes of its cores (R155, R368) -/

/-- A core whose job is squashed. -/
def Core.squashed (x : Core) : Core := { x.wiped with job := none, running := false }

/-- Squashing a list of cores: those in it are squashed, the others stand. Squashing twice is squashing once. -/
theorem State.core_foldl_squashed (l : List Nat) (d : Nat) (s : State) :
    (l.foldl (fun t c => (t.setCore c (t.core c).squashed).count (scPage (c / 12)) 0x060) s).core d =
      if d ∈ l then (s.core d).squashed else s.core d := by
  induction l generalizing s with
  | nil => rfl
  | cons c l ih =>
    have hcount (t : State) : (t.count (scPage (c / 12)) 0x060).core d = t.core d := State.count_touch.core_eq rfl d
    rw [List.foldl_cons, ih, hcount]
    by_cases hd : d = c
    · subst hd
      by_cases hl : d ∈ l
      · simp only [hl, State.core_setCore, List.mem_cons, or_true, if_true]; rfl
      · simp only [hl, State.core_setCore, List.mem_cons, true_or, if_true, if_false]
    · simp only [State.core_setCore_other _ _ _ _ hd, List.mem_cons, hd, false_or]

theorem State.core_squashScan (s : State) (n d : Nat) :
    (s.squashScan n).core d = if d ∈ s.jobsOf n then (s.core d).squashed else s.core d :=
  State.core_foldl_squashed (s.jobsOf n) d s

/-- A core after a scan stopped early: as it stood, or squashed. -/
theorem State.core_scanStop (s : State) (n status flags d : Nat) :
    (s.scanStop n status flags).core d = s.core d ∨ (s.scanStop n status flags).core d = (s.core d).squashed := by
  unfold State.scanStop
  split
  · split
    · exact .inl rfl
    · extract_lets fifo x resume t u
      have hend : ((u.finish n status (scanResult x resume)).freeClusters n).core d = u.core d :=
        (State.freeClusters_touch.core_eq rfl d).trans (State.finish_touch.core_eq rfl d)
      have hsquash : u.core d = if d ∈ State.jobsOf _ n then (s.core d).squashed else s.core d :=
        (State.modItem_touch.core_eq rfl d).trans (State.core_squashScan ..)
      rw [hend, hsquash]
      split
      · exact .inr rfl
      · exact .inl rfl
  · exact .inl rfl

/-! ### The core a fault stops (R327, R355) or that takes the exception (R330) -/

/-- A stream core stopped by a fault, which it records (R327). -/
def Core.faulted (x : Core) (f : NFault) : Core :=
  { x with faultCode := f.code, faultPc := x.pc, faultAddr := f.addr, job := none, running := false }

/-- The faulting core of a job; the scan that stops may squash it besides. -/
theorem State.core_jobFault {s : State} {c : Nat} {f : NFault} {j : Job} (hj : (s.core c).job = some j) :
    (s.jobFault c f).core c = (s.core c).faulted f ∨ (s.jobFault c f).core c = ((s.core c).faulted f).squashed := by
  unfold State.jobFault
  split
  · next hnone => exact absurd (hj.symm.trans hnone) (Option.some_ne_none j)
  · extract_lets k s1 pg s2 s3 s4 s5
    have hrecord : s5.core c = k.faulted f :=
      calc s5.core c = s4.core c := State.modScan_touch.core_eq rfl c
        _ = s3.core c := (State.syncCluster_touch.on rfl State.count_touch).core_eq rfl c
        _ = s2.core c :=
          (Touch.ite (State.raise_touch.on rfl State.count_touch) (State.raise_touch.on rfl State.count_touch)).core_eq rfl c
        _ = s1.core c := State.setFld_touch.core_eq rfl c
        _ = k.faulted f := s.core_setCore c _
    rw [← hrecord]
    exact s5.core_scanStop ..

theorem State.core_coreFault_of_stream {s : State} {c : Nat} {x : Core} {f : NFault} {j : Job} (hc : isCtl c = false)
    (hj : x.job = some j) :
    (s.coreFault c x f).core c = x.faulted f ∨ (s.coreFault c x f).core c = (x.faulted f).squashed := by
  have hfault : s.coreFault c x f = (s.setCore c x).jobFault c f := if_neg (by simp [hc])
  have hcore := s.core_setCore c x
  have h := State.core_jobFault (f := f) ((congrArg Core.job hcore).trans hj)
  rwa [hcore, ← hfault] at h

/-- A control core takes the exception at its PC, unless TRAP raised it. -/
theorem State.core_coreFault_of_ctl (s : State) {c : Nat} (x : Core) {f : NFault} (hc : isCtl c = true) (hf : f.code ≠ fTrap) :
    ∃ a, (s.coreFault c x f).core c = x.except false f.code x.pc a := by
  simp only [State.coreFault, hc, hf, if_true, if_false]
  exact ⟨_, State.core_setCore ..⟩

/-! ### The division by 0 with DZT at 1 (R306) -/

/-- The four divisions are `aluDivide` with their function. -/
theorem exec_divide (s : State) (c : Nat) (g : Guard) (d a b : GReg) :
    ∀ i ∈ [Instr.div c g d a b, .divu c g d a b, .rem c g d a b, .remu c g d a b],
      ∃ f, exec i s = .next (s.aluDivide c g d a b f) := by
  simp only [List.forall_mem_cons, List.not_mem_nil, false_imp_iff, implies_true, and_true]
  exact ⟨⟨aluDiv, rfl⟩, ⟨aluDivu, rfl⟩, ⟨aluRem, rfl⟩, ⟨aluRemu, rfl⟩⟩

/-- A trapping division sets DZ and raises DIV0, whatever its function gives for 0. -/
theorem State.aluDivide_of_trap {s : State} {c : Nat} {g : Guard} {x : Core} (d a : GReg) {b : GReg} (f : W32 → W32 → Alu)
    (hruns : Runs s c g x) (hb : x.rg b = 0) (ht : x.dzt = true) :
    s.aluDivide c g d a b f = s.coreFault c { x with dz := true } { code := fDiv0 } := by
  obtain ⟨hready, ⟨w, hfetch⟩, hguard⟩ := hruns
  rw [State.aluDivide, State.runInstr_eq hready hfetch rfl hguard, if_pos ⟨hb, ht⟩]

/-- Settles O16: the trapping division is a fault of the core with DZ set; a control core takes the exception, a stream core records
it and stops, and a squash by the ending scan keeps all that is recorded. -/
theorem divideByZeroTraps : Obligations.DivideByZeroTraps := by
  intro s c g d a b x hruns hb ht i hi
  obtain ⟨f, hexec⟩ := exec_divide s c g d a b i hi
  rw [State.aluDivide_of_trap d a f hruns hb ht] at hexec
  refine ⟨fun hc => ⟨_, hexec, ?_⟩, fun j hc hj => ⟨_, hexec, ?_⟩⟩
  · obtain ⟨addr, hcore⟩ :=
      s.core_coreFault_of_ctl { x with dz := true } (f := { code := fDiv0 }) hc (by decide)
    rw [hcore]
    exact ⟨rfl, rfl, rfl, rfl, rfl⟩
  · rcases State.core_coreFault_of_stream (s := s) (x := { x with dz := true }) (f := { code := fDiv0 }) hc hj with hcore | hcore
    all_goals
      rw [hcore]
      exact ⟨rfl, rfl, rfl, rfl, rfl⟩

end Sys2Proof.Machine
end
